-- ==== Sys2Proof/Word.lean ====
section
/-!
DEFINITION. The word types of the model: 32-bit register words (R8), bytes of memory (R97), and the sparse table that
holds memories and arrays of units in one canonical form.
-/
namespace Sys2Proof

/-- A 32-bit word of a register window or of a mallet register (R258). -/
abbrev Word := BitVec 32

/-- One byte of device memory or of a mallet memory. -/
abbrev Byte := BitVec 8

/-- A sparse table: entries with strictly rising keys; a key without an entry holds the table's default value. -/
abbrev Tbl (α : Type) := List (Nat × α)

end Sys2Proof
end

