-- ==== Sys2Proof/Syntax.lean ====
section
/-!
DEFINITION. The commands of the block: one constructor for each row of the opcode table, with what the row acts on and, where
the outside world decides something in it (a sample, a reply, what a check code finds), that as an operand.
-/
namespace Sys2Proof
/-- Who reads or writes a register (R54): the host, the keeper, or a mallet. -/
inductive Reader where
  | host | keeper | mallet (m : Fin 36)
deriving DecidableEq, Repr

/-- The number under which a reader's shadows are held. -/
def Reader.id : Reader → Nat
  | .host => 0
  | .keeper => 1
  | .mallet m => 2 + m.val

/-- The window of a register access (R31). -/
inductive Bar where
  | bar0 | bar4
deriving DecidableEq, Repr

/-- What the check code of a memory read finds after its one retry (R98): nothing, a clean retry, a correctable retry, or an
uncorrectable retry, at a byte offset from the start of the access. -/
inductive Ecc where
  | clean | transient (o : BitVec 32) | corrected (o : BitVec 32) | uncorrectable (o : BitVec 32)
deriving DecidableEq, Repr

/-- What a position input showed since it was last latched (R65–R67): the levels of A, B and the index (bits 0, 1, 2) at each MCLK sample,
oldest first; the bits of the SSI frame clocked, first one first; and whether a drive's position estimate was lost (R80). -/
structure Sample where
  pins : List (BitVec 3)
  frame : List Bool
  lost : Bool
deriving DecidableEq, Repr

/-- A fetch of a DMA descriptor (R118): its 64 bytes where it lies in host memory, empty while the completion is still to come, and the check
code of the read where it lies in device memory. -/
structure Fetched where
  host : List (BitVec 8)
  ecc : Ecc
deriving DecidableEq, Repr

/-- A geared unit: a station's gear unit or a motion axis (R77, R79). -/
inductive Geared where
  | station (n : Fin 8) | axis (a : Fin 24)
deriving DecidableEq, Repr

/-- A PCIe completion for a device read (R121): successful, unsupported request or completer abort, or poisoned. -/
inductive Completion where
  | ok | abort | poisoned
deriving DecidableEq, Repr

/-- What a table-memory read finds (R151): nothing, a clean retry, a corrected word that the rewrite mends or not, an uncorrectable
word that covers nozzles from one on (curve or hiding map), or an uncorrectable threshold or weight word. -/
inductive TmemErr where
  | none | transient | corrected (kind : BitVec 2) (stays : Bool) | nozzles (kind : BitVec 2) (first count : BitVec 16)
  | table (kind : BitVec 2)
deriving DecidableEq, Repr

/-- One head's entry of a TELEMETRY message (R190): its port, T and S in 1/8 °C, and its actuations since the last one. -/
structure HeadReport where
  port : BitVec 5
  t : BitVec 16
  s : BitVec 16
  acts : BitVec 32
deriving DecidableEq, Repr

/-- What the check code of a mallet memory word finds after its one retry (R263); a corrected word is rewritten, and `stays` tells that it
still fails then. -/
inductive MemEcc where
  | clean | transient | corrected (stays : Bool) | uncorrectable
deriving DecidableEq, Repr

/-- The mallet that executes an instruction, and what the fetch of its word finds (R263). -/
structure Fetch where
  m : Fin 36
  ecc : MemEcc
deriving DecidableEq, Repr

/-- What an axis's inputs hold at a firing of its timer (R306, R308): the main and the alternate input. -/
structure AxisSample where
  axis : Fin 24
  main : Sample
  alt : Sample
deriving DecidableEq, Repr

/-- What a three-phase channel's inputs showed since its last period boundary, oldest first (R338–R344): the modulator bits of MTRc_IU and
MTRc_IV, on MCLK samples the hall inputs (bit 0 HA, 1 HB, 2 HC) and the encoder input (bit 0 A, 1 B, 2 index), and what the flux observer
estimates at the boundary, an angle and a speed in 1/16 rpm. -/
structure PwmSample where
  iu : List Bool
  iv : List Bool
  hall : List (BitVec 3)
  enc : List (BitVec 3)
  angle : BitVec 16
  speed : BitVec 32
deriving DecidableEq, Repr

/-- A pulse of a drop gate (R193): DG_IN0 or DG_IN1, the tick at which it begins, and its width in ticks. -/
structure DropPulse where
  gate : Bool
  at_ : BitVec 64
  width : BitVec 16
deriving DecidableEq, Repr

/-- How an inkjet arm step ends (R181): its condition is looked at, its time limit passes, or the enabled heads' memories have been read,
64 bytes each in the order of their entries (R184). -/
inductive InkStep where
  | check | late | heads (mem : List (List (BitVec 8)))
deriving DecidableEq, Repr

/-- How an EP arm step ends (R225): its condition is looked at, or its time limit passes. -/
inductive EpStep where
  | check | late
deriving DecidableEq, Repr

/-- The bits that an OTP word's reads flip (R408): at the normal and the tightened reference, and at both on the retry. -/
structure OtpRead where
  normal : BitVec 32
  tight : BitVec 32
  normal2 : BitVec 32
  tight2 : BitVec 32
deriving DecidableEq, Repr

/-- A firmware image (R412, R417, R421): its version, its security version, and whether its signature verifies. -/
structure Fw where
  version : BitVec 32
  sec : BitVec 32
  ok : Bool
deriving DecidableEq, Repr

/-- What a read of a life-store record in two copies finds (R426): both good, a clean retry, copy A or B failed, or both. -/
inductive Copies where
  | good | transient | aFails | bFails | bothFail
deriving DecidableEq, Repr

/-- What a margin review plans (R428): the VCORE setpoint in mV, a guard band in ps for each replica, and the offset of the OTP's
tightened reference. -/
structure Review where
  vcore : BitVec 16
  guards : List (BitVec 16)
  otpRef : BitVec 8
deriving DecidableEq, Repr

/-- What start-up finds outside the state (R404, R408, R412, R451): the OTP words whose reads flip bits, the band registers that
OTP group 1 spells, root first, the device memory fitted, the data rates that each memory device's mode registers offer (R477: bit i the i-th
of the six, from the highest), whether the flash's SFDP table declares 8D-8D-8D (R484), the link widths and rates of the host's port (R30: bit
0 the narrowest and slowest), the straps of VIO_A, and the on-chip part of the margin review. -/
structure Boot where
  flips : List (BitVec 9 × OtpRead)
  bands : List (BitVec 32)
  memSize : BitVec 3
  memRates : List (BitVec 6)
  octal : Bool
  widths : BitVec 4
  speeds : BitVec 5
  vioaInt : Bool
  vioaHigh : Bool
  review : Review
deriving DecidableEq, Repr

/-- The commands of the block, one constructor for each row of the opcode table; each names the rule that gives the row its meaning. -/
inductive Instr where
  /-- REGISTER_WRITE (R8): A host or register-window write to a register that has no row of its own stores the written fields under
  their access codes. -/
  | registerWrite (who : Reader) (bar : Bar) (off : BitVec 26) (len : BitVec 13) (v met : BitVec 32)
  /-- FLAM_READ (R390): A read of a block's FLAM collision counter returns it and clears it; an increment in the same cycle is kept
  for the next read. -/
  | flamRead (who : Reader) (off : BitVec 26) (len : BitVec 13)
  /-- COUNT_READ (R390): A read of a saturating RC count returns it and clears it; an increment in the same cycle is kept for the
  next read. -/
  | countRead (who : Reader) (bar : Bar) (off : BitVec 26) (len : BitVec 13)
  /-- ARM_REQUEST (R27): A request to arm a station checks kind, domains, resources, observer and role, and starts the arm steps of
  its kind or is refused. -/
  | armRequest (mask kinds : BitVec 8)
  /-- INK_ARM_STEP (R181): An inkjet arm step completes or passes its time limit, so the next step starts, the station arms, or the
  arm is refused. -/
  | inkArmStep (n : Fin 8) (r : InkStep)
  /-- EP_ARM_STEP (R225): An EP arm step succeeds or passes its time limit, so the next step starts, the station arms, or the steps
  are undone and the arm is refused. -/
  | epArmStep (n : Fin 4) (r : EpStep)
  /-- INK_DISARM (R182): Disarming an inkjet station stops staging, lets committed lines fire and updates pending change sets and
  open ledger entries. -/
  | inkDisarm (n : Fin 8)
  /-- CAP (R182): 20 µs after the last committed line of a disarmed inkjet station, the device sends CAP to each hub and the lanes
  go to electrical idle. -/
  | cap (n : Fin 8)
  /-- EP_DISARM (R226): Disarming an EP station, or G3 taking the web below its minimum print speed, stops staging and then starts
  the ramp-down sequence. -/
  | epDisarm (n : Fin 4)
  /-- EP_DISARM_DONE (R226): EP disarm completes when every HV channel's monitor lies within TOL × 16 of zero. -/
  | epDisarmDone (n : Fin 4)
  /-- ADPLL_ENABLE (R35): Setting CLK_ADPLL_CTL.EN selects the lowest valid band that contains the target and starts acquisition, or
  sets NOBAND and raises EV_PLL_LOST. -/
  | adpllEnable
  /-- PLL_LOCK (R36): The phase error stays within ±50 ps for 1,024 reference cycles, so LOCKED is set, the dividers are released
  and press time starts or resumes counting. -/
  | pllLock
  /-- PLL_LOCK_LOST (R36): The phase error lies outside ±400 ps for 8 reference cycles, so loss of lock is declared and holdover is
  entered. -/
  | pllLockLost
  /-- REF_LOST (R38): No reference edge arrives for 4 reference periods, so the ADPLL enters holdover and raises EV_PLL_HOLDOVER. -/
  | refLost
  /-- REF_RETURN (R40): The reference has been present for 1 ms, so the ADPLL leaves holdover and pulls back to lock in small steps.
  -/
  | refReturn
  /-- HOLDOVER_TIMEOUT (R41): After 100 ms of holdover without lock, the device raises EV_PLL_LOST. -/
  | holdoverTimeout
  /-- FCLK_LOST (R42): The keeper detects a missing FCLK, drives every keepalive low and the R398 outputs to their states, raises G4
  and saves the ledger to the life store. -/
  | fclkLost
  /-- TCOMP_UPDATE (R44): Every 100 ms the keeper reads the sensor beside XIN and writes FCOMP from XTAB, or freezes it when the
  sensor is broken. -/
  | tcompUpdate
  /-- CAL_COMP_STEP (R45): The accumulated calendar error reaches one count, so the keeper adds a count to the calendar fraction or
  withholds one. -/
  | calCompStep
  /-- PIXF_WRITE (R50): A write to CLK_MDLLn_FREQ is applied at once or held pending for the next BD edge, subject to the range and
  step limits. -/
  | pixfWrite (n : Fin 4) (v : BitVec 24)
  /-- MDLL_ENABLE (R52): Setting CLK_MDLLn_CTL.EN selects the MDLL's band and starts the pixel synthesiser. -/
  | mdllEnable (n : Fin 4)
  /-- MDLL_UNLOCK (R53): An MDLL of an armed station loses lock, so the beams blank from the next scan and EV_MDLL_UNLOCK is raised.
  -/
  | mdllUnlock (n : Fin 4)
  /-- MDLL_UNLOCK_TIMEOUT (R53): The MDLL has not relocked by the end of the second frame after the loss, so EV_MDLL_UNLOCK is
  raised again at G3. -/
  | mdllUnlockTimeout (n : Fin 4)
  /-- TIME_LO_READ (R54): A read of TIME_LO returns the low word of press time and latches the high word into the reader's shadow.
  -/
  | timeLoRead (who : Reader)
  /-- SNARE_ARM (R58): Writing SNn_CTL.ARM, or an EMIT to the snare's port, arms the snare from the next tick. -/
  | snareArm (n : Fin 32)
  /-- SNARE_DISARM (R58): Writing SNn_CTL.DISARM, or an EMIT to the snare's port, disarms the snare. -/
  | snareDisarm (n : Fin 32)
  /-- SNARE_CAPTURE (R56): A qualified input edge on an armed snare latches press time and the extrapolated web position, with
  one-shot disarm, miss counting or overrun. -/
  | snareCapture (n : Fin 32) (samples : List Bool) (count : BitVec 64)
  /-- SNARE_READ (R60): A read of SNn_TIME_LO returns the capture, latches the other words into the reader's shadow and marks the
  capture as read. -/
  | snareRead (who : Reader) (n : Fin 32)
  /-- SOURCE_ENABLE (R67): Enabling a web source checks its type and SSI frame timing and refuses a bad configuration with CFG_ERR.
  -/
  | sourceEnable (n : Fin 4) (v : BitVec 32)
  /-- OBSERVER_PERIOD (R68): At each observer period, the hardware latches the in-use source's count and checks every enabled
  source, with one retry, fallback tracking, absorption and overspeed checks. -/
  | observerPeriod (s0 s1 s2 s3 : Sample)
  /-- OBSERVER_PUBLISH (R70): An EMIT to the PUBLISH port makes the WEB block take position, velocity, acceleration and time
  together, handling a return or a late ratio change. -/
  | observerPublish (p : BitVec 64) (v a : BitVec 32) (t : BitVec 64)
  /-- WEB_REVERSE (R73): The source in use reports backward motion while a station is armed, so both web positions hold and reverse
  travel is tracked against its limit. -/
  | webReverse (count : BitVec 64)
  /-- OBS_STALE (R74): No publish arrives for 8 observer periods, so STALE and COASTING are set and EV_OBS_STALE is raised. -/
  | obsStale
  /-- COAST_EXPIRED (R83): Web coasting lasts COAST_MS without a qualified source taken into use, so COAST_EXP is set and
  EV_WEB_COAST_EXPIRED is raised. -/
  | coastExpired
  /-- WEB_SWITCH (R84): Writing WEB_CTL.SWITCH takes the MAIN source into use at the next observer period when it is qualified. -/
  | webSwitch
  /-- RATIO_SCHEDULE (R78): Writing 1 to RPEND of a station or axis schedules RNEXT at RAT_AT, or refuses a step above 1 %, or marks
  the change late. -/
  | ratioSchedule (g : Geared)
  /-- RATIO_CANCEL (R78): Writing 1 to RCANCEL drops the pending ratio change. -/
  | ratioCancel (g : Geared)
  /-- GEAR_APPLIED (R77): The extrapolated web position reaches RAT_AT, so the new ratio takes effect with the line bias kept
  continuous. -/
  | gearApplied (g : Geared)
  /-- FRAME_BOUNDARY (R110): A station reaches a frame boundary, so it places the next frame and applies the work held for
  boundaries: held corrections, overspeed k, thermal slow-down and head-temperature holds. -/
  | frameBoundary (n : Fin 8)
  /-- BAR2_WRITE (R96): A host write through BAR2 writes device memory, or is dropped above U or into the PEEK window. -/
  | bar2Write (a : BitVec 36) (bs : List (BitVec 8))
  /-- BAR2_READ (R96): A host read through BAR2 returns device memory with ECC retry, or zero above U, or the line store through an
  enabled PEEK window. -/
  | bar2Read (a : BitVec 36) (n : BitVec 12) (ecc : Ecc)
  /-- PAGE_COPY_DONE (R99): A page copy completes, so the page's addresses are redirected, waiting accesses complete and the next
  queued retirement starts. -/
  | pageCopyDone
  /-- FQ_TAIL_WRITE (R108): A write to FQn_TAIL queues descriptors up to the new tail, or is refused with OVERFLOW. -/
  | fqTailWrite (n : Fin 8) (tail : BitVec 16)
  /-- DESC_FETCH (R107): The feed engine fetches and checks the next frame descriptor, or waits for a change set that names its job.
  -/
  | descFetch (n : Fin 8) (ecc : Ecc)
  /-- FEED_REQUEST (R112): A feed engine whose station's lead is below its target issues a line-slot request, served in priority
  order. -/
  | feedRequest (n : Fin 8)
  /-- LINE_SLOT_FILLED (R114): The last burst of a line-slot request lands in the line store, and the slot is filled or VOID. -/
  | lineSlotFilled (n : Fin 8) (ecc : Ecc)
  /-- DMA_START (R119): Writing DMA_CHc_CTL.START starts the channel at DMA_CHc_HEAD, or sets START_IGN when the channel is busy. -/
  | dmaStart (c : Fin 16) (first : Fetched)
  /-- DMA_DRAIN_DONE (R123): The mallet store buffers named in a descriptor's DRAIN_MASK have emptied, so the descriptor begins its
  reads. -/
  | dmaDrainDone (c : Fin 16)
  /-- DMA_DESC_DONE (R119): A DMA descriptor finishes or fails, writes back CRC, status and residue, and the channel goes on or ends
  the chain. -/
  | dmaDescDone (c : Fin 16) (data : List (BitVec 8)) (ecc : Ecc) (nextDesc : Fetched)
  /-- DMA_ABORT (R122): Writing DMA_CHc_CTL.ABORT ends a busy channel after its current burst. -/
  | dmaAbort (c : Fin 16) (moved : BitVec 32) (data : List (BitVec 8)) (last : Bool)
  /-- PCIE_COMPLETION (R121): A completion arrives for a device read of host memory, and a failed one is reissued once or ends the
  descriptor. -/
  | pcieCompletion (c : Fin 16) (r : Completion) (data : List (BitVec 8)) (nextDesc : Fetched)
  /-- PCIE_CPL_TIMEOUT (R121): A device read of host memory times out, so it is reissued once or ends the descriptor. -/
  | pcieCplTimeout (c : Fin 16) (data : List (BitVec 8)) (nextDesc : Fetched)
  /-- SCREEN_LINE (R129): A screen engine takes one line through decode, curves, hiding and threshold, writes it to the line store
  and swaps banks at boundaries. -/
  | screenLine (n : Fin 8) (err : TmemErr)
  /-- LEAD_WRITE (R140): A write to SCRn_LEAD sets the lead floor and target, or is ignored with LEAD_CFG_REJ. -/
  | leadWrite (n : Fin 8) (floor target : BitVec 9)
  /-- LEADNOW_READ (R141): A read of SCRn_LEADNOW returns MIN and resets it to the present lead. -/
  | leadnowRead (n : Fin 8)
  /-- TABLE_LOAD (R146): SCRn_TCMD LOAD checks the bank state and starts reading a table image into the inactive bank. -/
  | tableLoad (n : Fin 8) (kind : BitVec 2)
  /-- TABLE_LOAD_DONE (R147): A screen-table LOAD ends, so the bank becomes READY or returns to IDLE with an error code. -/
  | tableLoadDone (n : Fin 8) (kind : BitVec 2) (ecc : Ecc)
  /-- TABLE_COPY (R146): SCRn_TCMD COPY starts copying the active hiding bank into the inactive bank. -/
  | tableCopy (n : Fin 8) (kind : BitVec 2)
  /-- TABLE_COPY_DONE (R146): A hiding-bank COPY ends and the bank enters EDIT. -/
  | tableCopyDone (n : Fin 8)
  /-- TABLE_MARK (R146): SCRn_TCMD MARK makes an edited bank READY. -/
  | tableMark (n : Fin 8) (kind : BitVec 2)
  /-- TABLE_CLEAR (R146): SCRn_TCMD CLEAR withdraws the inactive bank to IDLE. -/
  | tableClear (n : Fin 8) (kind : BitVec 2)
  /-- TABLE_SWAP (R146): SCRn_TCMD SWAP sets PEND so the kind swaps at its next boundary. -/
  | tableSwap (n : Fin 8) (kind : BitVec 2)
  /-- HIDING_EDIT (R148): A write to SCRn_HEDIT sets one nozzle's MISSING and NOHELP bits in an inactive hiding bank that is in
  EDIT. -/
  | hidingEdit (n : Fin 8) (nozzle : BitVec 16) (missing nohelp : Bool)
  /-- TB (R163): On every press-time tick that is a multiple of 600, the device sends TB on each lane that is up and checks the hub
  STATUS that was due. -/
  | tb
  /-- SPARE_DELAY_MEASURE (R163): When a spare is free, the device makes 64 ECHO exchanges on it to measure a lane's spare-path
  delay, or marks NOSPARE. -/
  | spareDelayMeasure (sp : Fin 2) (answered : Bool)
  /-- ECHO (R163): An ECHO reply from a hub gives a round trip for the delay measurement. -/
  | echo (l : Fin 18) (trip turn : BitVec 16)
  /-- ACK (R173): An ACK from a hub acknowledges a message or segment. -/
  | ack (l : Fin 16) (seq : BitVec 16) (seg : BitVec 8)
  /-- NACK (R173): A NACK from a hub causes one resend, or fails the lane when the resend is refused. -/
  | nack (l : Fin 16) (seq : BitVec 16) (seg cause : BitVec 8)
  /-- ACK_TIMEOUT (R173): No acknowledgement arrives 540 ticks after a message left, so it is resent once or the lane is declared
  failed. -/
  | ackTimeout (l : Fin 16)
  /-- SPARE_ULOCK (R177): The spare's upstream locks, so held acknowledgement timeouts resume and the first STATUS acknowledges what
  the hub holds. -/
  | spareUlock (sp : Fin 2)
  /-- STATUS (R172): A hub STATUS updates acknowledgements, LAST_FIRED, faults and spare health, and may close frames or fail the
  lane. -/
  | status (l : Fin 18) (ok : Bool) (ackSeq flags : BitVec 16) (lastFired : BitVec 32) (fault : BitVec 16) (drvFlt : BitVec 24)
  /-- TELEMETRY (R189): A hub TELEMETRY updates head temperatures and counts, recomputes amplitude scales and checks the temperature
  limits. -/
  | telemetry (l : Fin 16) (ok : Bool) (heads : List HeadReport)
  /-- MISSED (R169): A hub MISSED report is acknowledged and, for a committed line, counts it as missed and marks the frame
  DEGRADED. -/
  | missed (l : Fin 16) (intact : Bool) (seq lseq : BitVec 16) (reason : BitVec 8) (lpos : BitVec 32)
  /-- HUB_SILENT_TIMEOUT (R170): 20 µs after a frame's last fire time without LAST_FIRED from every hub, the entry is written with
  the lines not reported counted as HUB_SILENT. -/
  | hubSilentTimeout (n : Fin 8)
  /-- SIDEBAND_GO (R175): Writing INK_SB_CMD.GO sends SB_REQ for one I²C transaction, or is ignored while busy. -/
  | sidebandGo
  /-- SB_RSP (R175): A hub SB_RSP completes a sideband transaction, or triggers its one retry. -/
  | sbRsp (l : Fin 16) (intact : Bool) (seq : BitVec 16) (result : BitVec 3) (data : List (BitVec 8))
  /-- SIDEBAND_TIMEOUT (R175): No SB_RSP arrives within 500 µs, so the transaction is retried once or fails. -/
  | sidebandTimeout
  /-- WAVE_LOAD (R186): INK_Sn_WCMD LOAD checks a waveform image and, while armed, sends it to both hubs in WAVE messages. -/
  | waveLoad (n : Fin 8) (ecc : Ecc)
  /-- WAVE_LOAD_DONE (R186): Both hubs have acknowledged every WAVE message, so the waveform bank becomes READY. -/
  | waveLoadDone (n : Fin 8)
  /-- WAVE_LOAD_TIMEOUT (R186): 2 ms after the first WAVE message without every acknowledgement, the LOAD fails with ERR = 11. -/
  | waveLoadTimeout (n : Fin 8)
  /-- WAVE_CLEAR (R186): INK_Sn_WCMD CLEAR withdraws the inactive waveform bank. -/
  | waveClear (n : Fin 8)
  /-- WAVE_SWAP (R187): INK_Sn_WCMD SWAP sets PEND for a waveform swap at the next splice. -/
  | waveSwap (n : Fin 8)
  /-- DD_TEST_START (R193): Once the previous windows have closed and a slot or gap is available, drop detection starts a test burst
  on the next nozzle. -/
  | ddTestStart
  /-- DD_TEST_DONE (R194): A test's windows close, so the nozzle is classified and retested, hidden or reported. -/
  | ddTestDone (pulses : List DropPulse)
  /-- INK_DD_RESULT_READ (R195): A read of INK_DD_RESULT removes and returns the oldest drop-test result. -/
  | inkDdResultRead
  /-- BD_LIGHT_START (R205): LEAD pixel periods before a predicted BD edge, the station lights BDBEAM. -/
  | bdLightStart (n : Fin 4)
  /-- BD_LIGHT_TIMEOUT (R205): No BD edge arrives within 2 × LEAD pixel periods, so BD lighting ends. -/
  | bdLightTimeout (n : Fin 4)
  /-- BD_EDGE (R206): A qualified BD edge commits or squashes the staged scan, applies pending pixel-clock steps and updates polygon
  phase lock. -/
  | bdEdge (n : Fin 4) (at_ : BitVec 64) (count : BitVec 64) (relock : Bool)
  /-- BD_MISSING (R208): No BD edge arrives within 1.5 facet periods, so the scan is squashed and the next edge decides whether the
  loss is transient or lasting. -/
  | bdMissing (n : Fin 4)
  /-- APC_POLL (R218): Every 1 ms the device sends READ_STATUS and one READ_DRIVE on the beam-port sideband, with SET_TARGET for
  changed targets. -/
  | apcPoll (n : Fin 4)
  /-- APC_REPLY (R218): A modulator reply frame is checked and repeated once on error, and drive and faults are evaluated. -/
  | apcReply (n : Fin 4) (frame : BitVec 32)
  /-- HV_RAMP_STEP (R219): Every 10 µs an enabled HV channel moves its output toward SET by at most RAMP counts. -/
  | hvRampStep (c : Fin 16)
  /-- HV_MONITOR_SAMPLE (R220): Every 20 µs an HV channel samples its monitor and fault input, updating AT_SET and detecting arcs.
  -/
  | hvMonitorSample (c : Fin 16) (raw : BitVec 12) (fltLow : Bool)
  /-- HV_ARC_HOLD_END (R220): 1 ms after an arc, the HV output re-ramps at RAMP. -/
  | hvArcHoldEnd (c : Fin 16)
  /-- HV_ARC_WINDOW_END (R220): 100 ms after an arc without a second arc, the fault is transient and EV_HV_ARC is raised. -/
  | hvArcWindowEnd (c : Fin 16)
  /-- HV_RAMP_TIMEOUT (R220): A channel has not reached AT_SET within its ramp time plus 20 ms, so EV_HV_RAMP_FAIL is raised. -/
  | hvRampTimeout (c : Fin 16)
  /-- ZC_EDGE (R221): A rising ZC_IN edge advances each fuser zone's burst accumulator and switches FUS_SSR within 500 µs. -/
  | zcEdge
  /-- ZC_LOST (R224): No ZC_IN rising edge for 40 ms while a zone is enabled, so every zone turns off and EV_FUSER_ZC_LOST is
  raised. -/
  | zcLost
  /-- FUSER_CUT (R223): The FUS_OTS input stays at or below CUT for 1 ms, so the zone's output latches low, KA_FUSER goes static and
  EV_FUSER_CUT is raised. -/
  | fuserCut (z : Fin 2)
  /-- FUSER_CUT_CLEAR (R223): Writing 1 to CUT with EN = 0 clears it only after the input has stayed above the threshold for 10 s.
  -/
  | fuserCutClear (z : Fin 2) (above : Bool)
  /-- CONFIRM_CHECK (R234): In tick max(F − CLEAD, staging tick), a staged line is checked against the measured web position and
  committed or squashed. -/
  | confirmCheck (n : Fin 8) (lpos : BitVec 32) (count : BitVec 64)
  /-- HELD_SQUASH (R293): A confirmed line still held behind an older effect at its fire time minus 1,800 ticks is squashed with
  code HELD, with every younger effect. -/
  | heldSquash (n : Fin 8) (lpos : BitVec 32)
  /-- CS_QUEUE (R239): CHG_CS_CMD with OP = 1 reads and checks a change-set record and queues it with the next splice epoch, or
  refuses it. -/
  | csQueue (ecc : Ecc)
  /-- CS_CANCEL (R241): CHG_CS_CMD with OP = 2 cancels the named pending change set and every later one, or is refused. -/
  | csCancel
  /-- ROLE_ASSIGN (R267): MLT_ASSIGN with OP = 1 assigns a role to a mallet, increments its epoch and starts it at ENTRY, or
  refuses. -/
  | roleAssign (role mallet : BitVec 6)
  /-- ROLE_RELEASE (R267): MLT_ASSIGN with OP = 2 releases a role and halts its mallet to idle, unless the role is bound to an armed
  station. -/
  | roleRelease (role : BitVec 6)
  /-- HOST_HALT (R276): Writing MLT_Mm_CTL.HALT halts the mallet with reason HOST. -/
  | hostHalt (m : Fin 36)
  /-- HOST_SEND (R270): Writing MLT_HOST_TXCMD.GO sends MLT_HOST_TX0–3 as role 62. -/
  | hostSend
  /-- HOST_RX_POP (R272): Writing MLT_HOST_RXSTAT.POP removes the entry shown from the host receive queue. -/
  | hostRxPop
  /-- CARILLON_DELIVER (R271): A sent message reaches the carillon and is placed in the destination queue, or is bounced to the
  sender. -/
  | carillonDeliver (from_ : BitVec 6)
  /-- WDOG (R275): A mallet executes no wait for MLT_Mm_WDOG ticks, so it takes the WDOG exception, or halts when EXL is set. -/
  | wdog (m : Fin 36)
  /-- TAKEOVER_START (R268): The image copied into the spare passes its CRC check, so the spare starts at TAKE and EV_MLT_TAKEOVER
  is raised. -/
  | takeoverStart (m : Fin 36)
  /-- WAIT_RESUME (R264): The condition or limit of a waiting WAITT, WAITP or WAITE holds, so the mallet resumes two ticks later
  with C and kd set. -/
  | waitResume (m : Fin 36)
  /-- STORE_BUFFER_LEAVE (R301): An STX store leaves the mallet's store buffer for MSM or its register, ending any DRAIN or stall
  waiting for it. -/
  | storeBufferLeave (m : Fin 36) (i : BitVec 2)
  /-- TIMED_PIN_ACTION (R290): A TIMED pin action reaches its tick and changes the ball. -/
  | timedPinAction
  /-- ADD (R285): k[kd] := k[ka] + k[kb], setting Z N C V. -/
  | add (x : Fetch) (kd ka kb : BitVec 4)
  /-- ADD_C (R285): k[kd] := k[ka] + k[kb] + C. -/
  | addC (x : Fetch) (kd ka kb : BitVec 4)
  /-- SUB (R285): k[kd] := k[ka] − k[kb]. -/
  | sub (x : Fetch) (kd ka kb : BitVec 4)
  /-- SUB_C (R285): k[kd] := k[ka] − k[kb] − (1 − C). -/
  | subC (x : Fetch) (kd ka kb : BitVec 4)
  /-- AND (R285): Register bitwise AND. -/
  | and (x : Fetch) (kd ka kb : BitVec 4)
  /-- OR (R285): Register bitwise OR. -/
  | or (x : Fetch) (kd ka kb : BitVec 4)
  /-- XOR (R285): Register bitwise XOR. -/
  | xor (x : Fetch) (kd ka kb : BitVec 4)
  /-- MOV (R285): k[kd] := k[ka]. -/
  | mov (x : Fetch) (kd ka : BitVec 4)
  /-- SHL (R285): Shift left by a register amount. -/
  | shl (x : Fetch) (kd ka kb : BitVec 4)
  /-- SHR (R285): Logical shift right by a register amount. -/
  | shr (x : Fetch) (kd ka kb : BitVec 4)
  /-- SAR (R285): Arithmetic shift right by a register amount. -/
  | sar (x : Fetch) (kd ka kb : BitVec 4)
  /-- CMP (R285): Compares two registers and sets the flags. -/
  | cmp (x : Fetch) (ka kb : BitVec 4)
  /-- MUL (R285): Low 32 bits of the product, in 2 cycles. -/
  | mul (x : Fetch) (kd ka kb : BitVec 4)
  /-- MUL_W (R285): Signed 64-bit product into a register pair. -/
  | mulW (x : Fetch) (kd ka kb : BitVec 4)
  /-- MUL_WU (R285): Unsigned 64-bit product into a register pair. -/
  | mulWu (x : Fetch) (kd ka kb : BitVec 4)
  /-- ADD_IMM (R286): k[kd] := k[ka] + sx(imm18). -/
  | addImm (x : Fetch) (kd ka : BitVec 4) (imm : BitVec 18)
  /-- AND_IMM (R286): AND with a zero-extended immediate. -/
  | andImm (x : Fetch) (kd ka : BitVec 4) (imm : BitVec 18)
  /-- OR_IMM (R286): OR with a zero-extended immediate. -/
  | orImm (x : Fetch) (kd ka : BitVec 4) (imm : BitVec 18)
  /-- XOR_IMM (R286): XOR with a zero-extended immediate. -/
  | xorImm (x : Fetch) (kd ka : BitVec 4) (imm : BitVec 18)
  /-- SHIFT_IMM (R286): SHL, SHR or SAR by an immediate amount. -/
  | shiftImm (x : Fetch) (kd ka : BitVec 4) (op : BitVec 2) (n : BitVec 5)
  /-- CMP_IMM (R286): Compares a register with a signed immediate. -/
  | cmpImm (x : Fetch) (ka : BitVec 4) (imm : BitVec 18)
  /-- MOVI (R286): Loads a sign-extended immediate. -/
  | movi (x : Fetch) (kd : BitVec 4) (imm : BitVec 18)
  /-- MOVHI (R286): Loads an immediate into bits [31:14], keeping the low 14 bits. -/
  | movhi (x : Fetch) (kd ka : BitVec 4) (imm : BitVec 18)
  /-- LD (R286): 32-bit load from data memory. -/
  | ld (x : Fetch) (kd ka : BitVec 4) (imm : BitVec 18) (e : MemEcc)
  /-- LD_H (R286): 16-bit zero-extended load from data memory. -/
  | ldH (x : Fetch) (kd ka : BitVec 4) (imm : BitVec 18) (e : MemEcc)
  /-- LD_B (R286): 8-bit zero-extended load from data memory. -/
  | ldB (x : Fetch) (kd ka : BitVec 4) (imm : BitVec 18) (e : MemEcc)
  /-- ST (R286): 32-bit store to data memory. -/
  | st (x : Fetch) (kd ka : BitVec 4) (imm : BitVec 18)
  /-- ST_H (R286): 16-bit store to data memory. -/
  | stH (x : Fetch) (kd ka : BitVec 4) (imm : BitVec 18)
  /-- ST_B (R286): 8-bit store to data memory. -/
  | stB (x : Fetch) (kd ka : BitVec 4) (imm : BitVec 18)
  /-- LDX (R262): Loads a word from MSM or the register window, subject to privilege. -/
  | ldx (x : Fetch) (kd ka : BitVec 4) (imm : BitVec 18) (e : MemEcc)
  /-- STX (R301): Stores a word to MSM or the register window through the store buffer. -/
  | stx (x : Fetch) (kd ka : BitVec 4) (imm : BitVec 18)
  /-- BR (R287): Conditional branch to pc + off22. -/
  | br (x : Fetch) (cond : BitVec 4) (off : BitVec 22)
  /-- CALL (R286): Writes the return index to k15 and branches. -/
  | call (x : Fetch) (off : BitVec 22)
  /-- RET (R286): Jumps to k15. -/
  | ret (x : Fetch)
  /-- RETE (R274): Returns to EPC and clears EXL. -/
  | rete (x : Fetch)
  /-- WAITT (R289): Waits until press time reaches a 64-bit target. -/
  | waitt (x : Fetch) (ka : BitVec 4)
  /-- WAITP (R289): Waits until the bound station's line position reaches a target, with an optional time limit. -/
  | waitp (x : Fetch) (ka kb : BitVec 4) (lim : Bool)
  /-- WAITE (R289): Waits for a masked pending event, a queue message, the loop timer or a limit. -/
  | waite (x : Fetch) (kd ka kb : BitVec 4) (lim queue timer : Bool) (e : MemEcc)
  /-- EMIT (R290): Acts on a port's target in the next tick, or acts as STAGE inside an open region. -/
  | emit (x : Fetch) (port : BitVec 8) (ka kw : BitVec 4) (timed : Bool)
  /-- SIGNAL (R290): Raises a mallet-raisable event with a cause field. -/
  | signal (x : Fetch) (ka : BitVec 4) (event : BitVec 8)
  /-- SPEC (R291): Opens a speculation region and takes the base checkpoint. -/
  | spec (x : Fetch) (handler : BitVec 14)
  /-- STAGE (R292): Places one effect in the open region with its checkpoint, sending a line's LINE or REVISE, or sets C when it
  places none. -/
  | stage (x : Fetch) (port : BitVec 8) (ka kw : BitVec 4) (timed : Bool)
  /-- COMMIT (R294): Confirms every program-confirmed effect staged so far, optionally closing the region. -/
  | commit (x : Fetch) (close : Bool)
  /-- SQUASH (R296): Squashes the region from its oldest effect, restores the checkpoint and resumes at SQH. -/
  | squash (x : Fetch)
  /-- SEND (R299): Sends four registers as one carillon message, or stages it inside a region. -/
  | send (x : Fetch) (ka : BitVec 4)
  /-- RECV (R299): Takes the oldest bounce record or inbound message into four registers. -/
  | recv (x : Fetch) (kd : BitVec 4)
  /-- MFS (R300): Reads a special register. -/
  | mfs (x : Fetch) (kd : BitVec 4) (sr : BitVec 5)
  /-- MTS (R300): Writes a special register. -/
  | mts (x : Fetch) (ka : BitVec 4) (sr : BitVec 5)
  /-- CNT (R300): Reads an event counter into a register pair. -/
  | cnt (x : Fetch) (kd : BitVec 4) (i : BitVec 6)
  /-- FENCE (R301): Orders store-buffer stores. -/
  | fence (x : Fetch)
  /-- DRAIN (R301): Stalls until the store buffer is empty. -/
  | drain (x : Fetch)
  /-- HALT (R301): Drains the store buffer and halts with reason HALT. -/
  | halt (x : Fetch)
  /-- MAC (R302): Adds a signed product to ACC with saturation. -/
  | mac (x : Fetch) (ka kb : BitVec 4)
  /-- MAC_Z (R302): Sets ACC to a signed product. -/
  | macZ (x : Fetch) (ka kb : BitVec 4)
  /-- MSU (R302): Subtracts a signed product from ACC with saturation. -/
  | msu (x : Fetch) (ka kb : BitVec 4)
  /-- SATQ (R303): Shifts and clamps ACC into a Q31 or Q15 register. -/
  | satq (x : Fetch) (kd : BitVec 4) (sh : BitVec 5) (q15 clr : Bool)
  /-- LIM (R302): Clamps a register to a pair of limits. -/
  | lim (x : Fetch) (kd ka kb : BitVec 4)
  /-- TLU (R304): Interpolated table lookup in data memory. -/
  | tlu (x : Fetch) (kd ka kb : BitVec 4) (n : BitVec 4) (e : MemEcc)
  /-- INTG (R302): Clamped integration step. -/
  | intg (x : Fetch) (kd ka kb : BitVec 4)
  /-- DIFF (R302): Saturated difference that also stores the previous value. -/
  | diff (x : Fetch) (kd ka kb : BitVec 4)
  /-- LOOP_TIMER_ENABLE (R307): A write that changes AXS_LTt_CTL.EN from 0 to 1 enables the timer, or refuses it with REFUSED. -/
  | loopTimerEnable (t : Fin 16) (role : BitVec 6)
  /-- LOOP_TIMER_FIRE (R306): An enabled loop timer fires, latching its axes' feedback, evaluating their models and signalling its
  role's TIMER condition. -/
  | loopTimerFire (t : Fin 16) (samples : List AxisSample)
  /-- AXIS_ENABLE (R308): Enabling an axis checks its feedback, SSI timing and home snare, and refuses a bad configuration with
  CFG_ERR. -/
  | axisEnable (a : Fin 24)
  /-- AXIS_SWITCH (R311): Writing AXS_An_CTL.SWITCH takes the main input back into use when it has been valid for 256 firings. -/
  | axisSwitch (a : Fin 24)
  /-- AXIS_COAST_EXPIRED (R311): An axis coasts for COAST_MS without a fallback, so COAST_EXP is set and EV_AXS_COAST_EXPIRED is
  raised. -/
  | axisCoastExpired (a : Fin 24)
  /-- AXS_TABLE_LOAD (R314): AXS_TCMD LOAD starts loading a friction or microstep table image. -/
  | axsTableLoad (unit : BitVec 5) (kind : BitVec 4)
  /-- AXS_TABLE_LOAD_DONE (R314): An axis table LOAD ends, so the bank becomes READY or returns to IDLE with an error. -/
  | axsTableLoadDone (unit : BitVec 5) (kind : BitVec 4) (ecc : Ecc)
  /-- AXS_TABLE_CLEAR (R314): AXS_TCMD CLEAR withdraws an inactive axis table bank. -/
  | axsTableClear (unit : BitVec 5) (kind : BitVec 4)
  /-- AXS_TABLE_SWAP (R314): AXS_TCMD SWAP sets PEND for a swap at the next index pulse or zero-velocity firing. -/
  | axsTableSwap (unit : BitVec 5) (kind : BitVec 4)
  /-- PGEN_UPDATE (R316): Every 600 ticks each profile generator updates its axis setpoint, following gear or group paths. -/
  | pgenUpdate (io : BitVec 64) (changes : List (Fin 24 × BitVec 8))
  /-- STOP (R315): Decelerates the axis along its profile to zero and holds. -/
  | stop (a : Fin 24)
  /-- MOVE_ABS (R317): Moves the axis to AXS_An_TGT under the profile limits. -/
  | moveAbs (a : Fin 24)
  /-- MOVE_REL (R315): Moves the axis by a signed count from its present target or setpoint. -/
  | moveRel (a : Fin 24) (arg : BitVec 32)
  /-- VEL (R315): Runs the axis at a velocity limited to ±VMAX. -/
  | vel (a : Fin 24) (arg : BitVec 32)
  /-- GEAR (R320): Engages gear mode, free or phase, and matches the axis to the web. -/
  | gear (a : Fin 24) (arg : BitVec 32)
  /-- QSTOP (R315): Decelerates the axis at EDEC with jerk unlimited and holds. -/
  | qstop (a : Fin 24)
  /-- HOME (R325): Starts a home search at the operand velocity with snare capture. -/
  | home (a : Fin 24) (arg : BitVec 32)
  /-- DISABLE (R315): Freezes the axis setpoint and clears EN. -/
  | disable (a : Fin 24)
  /-- GROUP_MOVE (R322): On a group's leader, moves every member along a straight line to its target. -/
  | groupMove (a : Fin 24)
  /-- LIMIT_ACTIVE (R324): An accepted limit input becomes active, so the axis stops at EDEC, leaves gear and raises EV_AXS_LIMIT.
  -/
  | limitActive (a : Fin 24) (neg : Bool)
  /-- HOME_HOLDOFF_END (R325): With the axis at rest and the hold-off ended, homing completes or is declared unstable. -/
  | homeHoldoffEnd (a : Fin 24)
  /-- STEPPER_CHOP_PERIOD (R328): Each chopper period regulates both phase currents and checks for overcurrent, load angle and
  stall. -/
  | stepperChopPeriod (k : Fin 12) (ia ib : List Bool)
  /-- STEPPER_HOLD_TIMEOUT (R327): The setpoint velocity has been zero for HOLD_MS, so the current drops to IHOLD. -/
  | stepperHoldTimeout (k : Fin 12)
  /-- TRACE_ARM (R332): Writing TRu_CTL.ARM clears the trace memory and starts recording. -/
  | traceArm (u : Fin 4)
  /-- TRACE_FORCE (R332): Writing TRu_CTL.FORCE triggers the trace unit. -/
  | traceForce (u : Fin 4)
  /-- TRACE_SAMPLE (R331): A trace unit samples its channels on its clock, checks its trigger and completes with DONE. -/
  | traceSample (u : Fin 4)
  /-- TRACE_READ (R333): A read of TRu_RDDATA returns one sample and increments INDEX. -/
  | traceRead (u : Fin 4)
  /-- MOTOR_ENABLE (R347): Enabling a three-phase channel checks its configuration, starts its PWM counter and catch-spin, or
  refuses with CFG_ERR. -/
  | motorEnable (c : Fin 12)
  /-- PWM_PERIOD (R338): At each PWM period boundary the channel loads compares, samples currents, runs its loops and checks
  sensing, overcurrent and commutation. -/
  | pwmPeriod (c : Fin 12) (m : PwmSample)
  /-- GATE_FAULT (R338): MTRc_FLT_N low on 2 MCLK samples turns all gates low and raises EV_MOT_GATE_FAULT. -/
  | gateFault (c : Fin 12) (samples : List Bool)
  /-- CATCH_WINDOW_END (R348): A 2 ms catch-spin measuring window ends and the channel starts, synchronises, waits, brakes or
  refuses. -/
  | catchWindowEnd (c : Fin 12) (z : List (BitVec 3))
  /-- BRAKE_CYCLE_END (R348): An 8 ms short-circuit braking cycle ends and a measuring window follows. -/
  | brakeCycleEnd (c : Fin 12)
  /-- SLS_START_TIMEOUT (R343): A sensorless start has not taken the observer angle within 2 s, so EN clears and EV_MOT_SLS_FAIL is
  raised. -/
  | slsStartTimeout (c : Fin 12)
  /-- LOCKED_ROTOR (R349): With IQ at or above LOCK_I, no commutation event arrives for LOCK_MS, so the gates go low and
  EV_MOT_LOCKED is raised. -/
  | lockedRotor (c : Fin 12)
  /-- BUS_VOLTAGE_SAMPLE (R350): On each sinc3 output, VBUS is evaluated to switch the brake chopper and to detect an overvoltage
  above VHARD. -/
  | busVoltageSample (b : Fin 4) (bits : List (Bool × Bool))
  /-- BRAKE_CHECK_END (R351): A chopper check window ends without current, so a retry window opens or the chopper is declared
  faulty. -/
  | brakeCheckEnd (b : Fin 4)
  /-- BRK_FAULT_CLEAR (R351): Writing 1 to BRK_FAULT while the chopper's EN is 0 clears BRK_FAULT and REGLIM. -/
  | brkFaultClear (b : Fin 4)
  /-- BUS_OV_CLEAR (R352): Writing 1 to BUS_OV clears it unless VBUS is at or above VOFF. -/
  | busOvClear (b : Fin 4)
  /-- HK_SAMPLE (R360): A housekeeping channel is sampled, with validity retry, level entry and leave, fuser and shutdown checks. -/
  | hkSample (x : Fin 60) (raw : BitVec 12) (value : BitVec 16) (ok : Bool)
  /-- HK_REQUAL (R361): Writing HK_CHx_STATUS.REQUAL starts re-qualification of a broken channel. -/
  | hkRequal (x : Fin 60)
  /-- HK_TEST (R358): Writing HK_CTL.TEST returns housekeeping to SLOW sampling, or is ignored while a station is armed. -/
  | hkTest
  /-- THROTTLE_DEMAND_STEP (R369): Every STEP_INT the demanded throttle step D rises or falls by one. -/
  | throttleDemandStep
  /-- THROTTLE_APPLY_CHECK (R370): At most once per 1 ms the applied step follows D, subject to the projection check, or is
  deferred. -/
  | throttleApplyCheck
  /-- G3_STOP (R386): A G3 action starts the press-wide stop: stations decide frames, axes stop and stations disarm as the web
  slows. -/
  | g3Stop
  /-- DECEL_CHECK (R387): From GRACE after G3, each observer period checks the web deceleration and enforces QSTOP on the first
  failure. -/
  | decelCheck
  /-- STOP_TIMEOUT (R387): The G3 stop is not complete STOPMAX after it began, so KA_DRIVE goes static and every motor channel is
  disabled. -/
  | stopTimeout
  /-- STOP_DONE (R386): The web velocity has been zero for 100 ms with every axis idle and every station disarmed, so G3 clears. -/
  | stopDone
  /-- G4 (R388): A G4 action makes every keepalive static, stops mallets and engines, flushes the ledger and reports to the keeper.
  -/
  | g4
  /-- KA_HV_TIMEOUT (R397): 2 s after G3 without every HV output at zero, KA_HV goes static. -/
  | kaHvTimeout
  /-- HOST_RAISE (R380): Writing EVT_RAISE.GO raises a user event, or is ignored for any other event. -/
  | hostRaise (e : BitVec 8) (cause : BitVec 16)
  /-- PEND_CLEAR (R379): A W1C clear of EVT_PENDk bits clears them, resending the vector when a raising meets the clear. -/
  | pendClear (k : Fin 8) (mask met : BitVec 32)
  /-- EVENT_CONFIG_WRITE (R381): A write to EVT_Ee_CFG sets routing and repeat settings, and a level outside ALLOW or under lock is
  ignored. -/
  | eventConfigWrite (e : BitVec 8) (v : BitVec 32)
  /-- KEEPER_RELEASE (R404): At keeper release the boot ROM starts and runs start-up: OTP checks, mode decision, firmware, domains,
  memory and READY. -/
  | keeperRelease (b : Boot)
  /-- OTP_KEY_WRITE (R413): Writing the key to OTP_KEY enables the next programming command. -/
  | otpKeyWrite (v : BitVec 32)
  /-- OTP_READ (R408): OTP_CMD READ reads a word at both references, with one retry and the MARGINAL outcome. -/
  | otpRead (group : BitVec 4) (word : BitVec 5) (follow : Bool) (r : OtpRead)
  /-- OTP_PROG (R413): OTP_CMD PROG checks the request and starts programming a word, or refuses with an error code. -/
  | otpProg (group : BitVec 4) (word : BitVec 5) (follow : Bool)
  /-- OTP_PROG_DONE (R413): An OTP program attempt's verify completes, so the command succeeds, retries or fails after 4 attempts.
  -/
  | otpProgDone (verify : BitVec 32)
  /-- GET_INFO (R419): Returns revision, grade, firmware versions, mode and boot count. -/
  | getInfo (car : Bool)
  /-- RESET (R419): With the right key, responds and schedules a device reset 1 ms later. -/
  | reset
  /-- CLOSE_CONFIG (R419): Sets EVT_LOCK, MLT_LOCK, CHG_LOCK, EPS_LOCK and PWR_LOCK. -/
  | closeConfig
  /-- SET_TCOMP (R419): Stores an XTAB or CTAB temperature table in the life store and applies it. -/
  | setTcomp
  /-- CAL_SET (R425): Sets the calendar at the next fraction boundary and returns the previous value. -/
  | calSet (car : Bool)
  /-- IMG_LOAD (R279): Verifies a mallet image and loads it into a mallet, assigning its role, or refuses it. -/
  | imgLoad (host : List (BitVec 8)) (ecc : Ecc)
  /-- IMG_STAGE (R279): Verifies a mallet image and stages it for a splice in a reserved mallet, or refuses it. -/
  | imgStage (host : List (BitVec 8)) (ecc : Ecc)
  /-- IMG_REMOVE (R419): Releases a role and removes its image and staging. -/
  | imgRemove
  /-- PKG_LOAD (R419): Verifies a signed table package and performs LOAD on the named unit's inactive bank. -/
  | pkgLoad (host : List (BitVec 8)) (ecc : Ecc)
  /-- FW_UPDATE (R421): Writes and reads back a signed keeper firmware image in the inactive flash slot. -/
  | fwUpdate (fw : Fw) (flashOk : Bool)
  /-- FW_SWITCH (R421): Saves keeper state and starts the other firmware slot as TRIAL. -/
  | fwSwitch
  /-- FW_SWITCHED (R421): The new firmware sets READY within 200 ms, so EV_FW_SWITCHED is raised. -/
  | fwSwitched
  /-- FW_SWITCH_TIMEOUT (R421): READY is not set within 200 ms of a switch, so the keeper reverts to the previous slot. -/
  | fwSwitchTimeout
  /-- FW_CONFIRM (R421): Confirms the running slot and clears TRIAL. -/
  | fwConfirm
  /-- KEEPER_WDOG (R422): The 100 ms keeper watchdog expires, so the keeper restarts, switches slot, or raises EV_KEEPER_FAULT. -/
  | keeperWdog
  /-- LOG_READ (R424): Copies log records from the ring or a level's retained records to memory. -/
  | logRead (spoilt : List (BitVec 32 × List (BitVec 8)))
  /-- LIFE_READ (R426): Copies a life-store record to memory, choosing the valid copy. -/
  | lifeRead (layout : List (BitVec 8)) (c : Copies)
  /-- MARGIN_RUN (R428): Starts a margin review on request. -/
  | marginRun (car : Bool)
  /-- MARGIN_REVIEW (R428): After every 720 hours with VIN present, the keeper re-plans supplies, guard bands, OTP margin and head
  AGE and projects end dates. -/
  | marginReview (r : Review) (poly fuser : BitVec 16)
  /-- SUPPLY_STEP (R429): A planned supply rise advances by one 5 mV step, at most once per 1 ms. -/
  | supplyStep
  /-- KEY_REVOKE (R416): Checks a signed authorisation and blows a customer key's REVOKE bit. -/
  | keyRevoke (host : List (BitVec 8)) (ecc : Ecc) (blown : Bool)
  /-- KEY_SET (R415): Stores a customer public key whose hash matches OTP. -/
  | keySet (host : List (BitVec 8)) (ecc : Ecc)
  /-- LIFE_COUNT_WRITE (R427): Every 600 s the keeper writes the life counts and head counts to the life store. -/
  | lifeCountWrite
  /-- COUNTER_ENABLE (R438): Enabling a programmable counter checks its source and mode, or refuses it with CFG_ERR. -/
  | counterEnable (i : Fin 56) (v : BitVec 32)
  /-- COUNTER_READ (R440): A read of CNTi_LO through BAR0 or BAR4 returns the low word and latches the high word into the reader's
  shadow. -/
  | counterRead (who : Reader) (bar : Bar) (i : Fin 56)
  /-- CNT_HI_WRITE (R440): A write to CNTi_HI places the high bits in a staging register. -/
  | cntHiWrite (bar : Bar) (i : Fin 56) (v : BitVec 32)
  /-- CNT_LO_WRITE (R440): A write to CNTi_LO sets all 48 bits from the written word and the staging register in one tick. -/
  | cntLoWrite (bar : Bar) (i : Fin 56) (v : BitVec 32)
  /-- COUNTER_WRAP (R441): A counter passes 2⁴⁸ − 1, so it wraps or reloads, sets its overflow bit and raises EV_CNT_OVF or
  EV_CNT_SAMPLE. -/
  | counterWrap (i : Fin 56)
  /-- COUNTER_FREEZE (R443): Writing CNT_CTL.FREEZE stops or resumes every counter from the next tick. -/
  | counterFreeze (on : Bool)
  /-- SNAPSHOT (R444): Writing CNT_CTL.SNAP, or raising SNAP_EV, copies all 56 counters and the tick into the snapshot registers. -/
  | snapshot
  /-- DOMAIN_REQUEST (R460): A write to PWR_DOMREQ powers domains down and up in order, or is refused as a whole. -/
  | domainRequest (req : BitVec 12)
  /-- DOMAIN_POWER_UP (R460): A domain's PG rises, so isolation and reset are released, its tables fill with defaults and its ON bit
  is set. -/
  | domainPowerUp (d : Fin 12)
  /-- DOMAIN_PG_LOST (R461): A powered domain loses PG for 2 PCLK cycles, so it is isolated and EV_DOMAIN_PG is raised. -/
  | domainPgLost (d : Fin 12)
  /-- STANDBY_REQUEST (R466): Writing PWR_CTL.STBY places memory in self-refresh and powers down every domain except KEEP and PCIE,
  or is refused. -/
  | standbyRequest
  /-- POR (R462): VIN rises past 2.60 V, so the keeper LDO and oscillator start towards keeper release. -/
  | por (kept : Bool)
  /-- RESET_PIN (R463): RESET_N is low on 8 keeper-oscillator cycles, so a reset is accepted. -/
  | resetPin (samples : List Bool)
  /-- DEVICE_RESET (R463): An accepted reset starts the G4 action, flushes the ledger and drives PG_OUT low. -/
  | deviceReset
  /-- RESET_ISOLATE (R463): 30 µs after reset acceptance, memory enters self-refresh, every domain except KEEP is switched off and
  press time stops. -/
  | resetIsolate
  /-- VIN_SAMPLE (R464): Every 1 µs VIN is compared with WARN, counting a transient dip or raising EV_VIN_FAIL after two low
  samples. -/
  | vinSample (mv : BitVec 16)
  /-- VIN_UVLO (R464): VIN falls below the 2.50 V lockout, so every domain except KEEP is switched off and the calendar runs on
  VBAT. -/
  | vinUvlo
  /-- REG_FAULT (R468): A regulator leaves regulation by more than 10 % for 2 µs, so EV_REG_FAULT, a G4, is raised. -/
  | regFault (r : BitVec 4)
  /-- VBAT_LOW (R469): VBAT reads below 1.90 V, so VBAT_LOW is set and EV_VBAT_LOW is raised. -/
  | vbatLow (mv : BitVec 16)
  /-- ADPLL_DISABLE (R43): Clearing CLK_ADPLL_CTL.EN stops the root PLL and the divided clocks, and press time holds its value until
  the next lock. -/
  | adpllDisable
  /-- UNDEFINED_INSTRUCTION (R283): A mallet executes an instruction word whose opcode or func is in no table, and the ILLEGAL
  exception is taken. -/
  | undefinedInstruction (x : Fetch) (w : BitVec 32)
  /-- POWER_MANAGEMENT_STATE (R30): A host configuration write moves the endpoint between D0 and D3hot; in D3hot the BARs are not
  decoded and no MSI-X is sent while printing goes on. -/
  | powerManagementState (d3 : Bool)
  /-- LANE_BLOCK_LOCK (R199): An image lane's receiver gains or loses 64b/66b block lock, and INK_Ll_STATUS.UP follows. -/
  | laneBlockLock (l : Fin 18) (up : Bool)
  /-- INDEX_PULSE (R314): An index pulse on an axis's input in use swaps a friction bank with PEND set and READY, or records
  BANK_LATE. -/
  | indexPulse (a : Fin 24)
  /-- VIO_SUPPLY_CHANGE (R458): VIO_A or VIO_B appears or disappears, and the balls of that bank move between Hi-Z and their reset
  or driven states. -/
  | vioSupplyChange (bankB up : Bool)
deriving DecidableEq, Repr

end Sys2Proof
end

