-- ==== Sys2Proof/Decode.lean ====
section
/-!
DEFINITION. The reading of a word of the opcode table, and which words are instructions of a mallet. The table gives no row any bits: the
block's commands are no words that it fetches, so no word spells a command.
-/
namespace Sys2Proof

/-- The command that a word spells by the table's bits: none, since no row gives bits. -/
def decodeTableWord (_nbits _w : Nat) : Option Instr := none

/-- Bits [hi:lo] of an instruction word. -/
def fieldOf (w : BitVec 32) (hi lo : Nat) : Nat := w.toNat / 2 ^ lo % 2 ^ (hi + 1 - lo)

/-- Whether a func value and the fields of the register ALU group are legal (R283, R285). -/
def legalAlu (kd kb func : Nat) : Bool :=
  if func = 7 then kb == 0
  else if func = 11 then kd == 0
  else if func = 13 ∨ func = 14 then kd % 2 == 0
  else decide (func ≤ 14)

/-- Whether func and the fields of the loop profile are legal (R283, R302–R304). -/
def legalLoop (kd ka kb func : Nat) : Bool :=
  let op := func % 64
  let rest := func / 64
  match op with
  | 0 => kd == 0 && rest == 0
  | 1 => kd == 0 && rest == 0
  | 2 => kd == 0 && rest == 0
  | 3 => ka == 0 && kb == 0 && decide (rest < 128)
  | 4 => kb % 2 == 0 && rest == 0
  | 5 => decide (1 ≤ rest) && decide (rest ≤ 11)
  | 6 => kb % 2 == 0 && rest == 0
  | 7 => kd != kb && rest == 0
  | _ => false

/-- Whether a word is an instruction of a mallet, by its opcode, func and fields (R282–R287, R289–R294, R299–R304); the loop profile on
loop mallets only. -/
def legalWord (isLoop : Bool) (w : BitVec 32) : Bool :=
  let kd := fieldOf w 25 22
  let ka := fieldOf w 21 18
  let kb := fieldOf w 17 14
  let func := fieldOf w 13 0
  let imm := fieldOf w 17 0
  let cond := kd
  match fieldOf w 31 26 with
  | 0x00 => legalAlu kd kb func
  | 0x01 => true
  | 0x02 => true
  | 0x03 => true
  | 0x04 => true
  | 0x05 => fieldOf w 17 7 == 0 && fieldOf w 6 5 != 3
  | 0x06 => kd == 0
  | 0x08 => ka == 0
  | 0x09 => true
  | 0x0C => true
  | 0x0D => true
  | 0x0E => true
  | 0x10 => true
  | 0x11 => true
  | 0x12 => true
  | 0x14 => true
  | 0x15 => true
  | 0x18 => cond != 15
  | 0x19 => cond == 0
  | 0x1A => kd == 0 && ka == 0 && kb == 0 && decide (func ≤ 1)
  | 0x1C => cond == 0 && ka % 2 == 0 && kb == 0 && func == 0
  | 0x1D => decide (cond ≤ 1) && ka % 2 == 0 && func == 0 && (if cond == 1 then kb % 2 == 0 else kb == 0)
  | 0x1E => decide (cond ≤ 7) && func % 1024 == 0 && (if cond % 2 == 1 then kb % 2 == 0 else kb == 0)
  | 0x20 => fieldOf w 13 10 % 2 == 0 && decide (fieldOf w 9 0 ≤ 1)
  | 0x21 => fieldOf w 13 10 % 2 == 0 && decide (fieldOf w 9 0 ≤ 1)
  | 0x22 => kd == 0 && ka == 0 && decide (imm < 16384)
  | 0x23 => kd == 0 && ka == 0 && decide (imm ≤ 1)
  | 0x24 => kd == 0 && ka == 0 && kb == 0 && func == 0
  | 0x26 => kd == 0 && decide (imm < 256)
  | 0x28 => kd == 0 && ka % 4 == 0 && kb == 0 && func == 0
  | 0x29 => kd % 4 == 0 && ka == 0 && kb == 0 && func == 0
  | 0x2C => ka == 0 && decide (imm < 32)
  | 0x2D => kd == 0 && decide (imm < 32)
  | 0x2E => kd % 2 == 0 && ka == 0 && decide (imm < 56)
  | 0x30 => kd == 0 && ka == 0 && kb == 0 && decide (func ≤ 2)
  | 0x38 => isLoop && legalLoop kd ka kb func
  | _ => false

end Sys2Proof
end

