-- ==== Sys2Proof/Config.lean ====
section
/-!
DEFINITION. What the specification leaves open: each is an uninterpreted constant, so no proof can see a value of it. A
statement about the model holds whatever these are.
-/
namespace Sys2Proof.Config

/-- A fresh free value for each count of the state's free-value counter (log entry 4). -/
opaque freeValue : Nat → BitVec 64

end Sys2Proof.Config
end

