-- ==== Sys2Proof/Machine/Bits.lean ====
section
/-!
DEFINITION. Signed and unsigned readings of fields, clamps, rounding, bit masks and byte order (memory is little-endian).
-/
namespace Sys2Proof.Machine

/-- The signed value of the low w bits of n. -/
def sx (w n : Nat) : Int :=
  let m := n % 2 ^ w
  if 2 * m < 2 ^ w then (m : Int) else (m : Int) - (2 ^ w : Nat)

/-- The low w bits of an integer, as an unsigned number. -/
def ux (w : Nat) (z : Int) : Nat := (z % ((2 ^ w : Nat) : Int)).toNat

/-- The integer clamped to the range lo to hi. -/
def clampI (lo hi z : Int) : Int := if z < lo then lo else if hi < z then hi else z

/-- The signed range of w bits, as a clamp. -/
def satS (w : Nat) (z : Int) : Int := clampI (-(2 ^ (w - 1) : Nat)) ((2 ^ (w - 1) : Nat) - 1) z

/-- The unsigned range of w bits, as a clamp. -/
def satU (w n : Nat) : Nat := min n (2 ^ w - 1)

/-- Bit i of n. -/
def bitOf (n i : Nat) : Bool := n / 2 ^ i % 2 = 1

/-- n with bit i set. -/
def setBit (n i : Nat) : Nat := n ||| 2 ^ i

/-- n with bit i cleared. -/
def clrBit (n i : Nat) : Nat := if bitOf n i then n - 2 ^ i else n

/-- n with bit i set to b. -/
def putBit (n i : Nat) (b : Bool) : Nat := if b then setBit n i else clrBit n i

/-- Bits [hi:lo] of n. -/
def bitsOf (n hi lo : Nat) : Nat := n / 2 ^ lo % 2 ^ (hi + 1 - lo)

/-- 1 for true, 0 for false. -/
def b2n (b : Bool) : Nat := if b then 1 else 0

/-- The number of set bits among the lowest n. -/
def countBits (v : Nat) : Nat → Nat
  | 0 => 0
  | n + 1 => countBits v n + b2n (bitOf v n)

/-- The lowest set bit of v among bits i to i + n - 1. -/
def lowestBit (v : Nat) : Nat → Nat → Option Nat
  | _, 0 => none
  | i, n + 1 => if bitOf v i then some i else lowestBit v (i + 1) n

/-- Rounding to the nearest integer, halves up, of a / b with b positive. -/
def roundDiv (a b : Int) : Int := (2 * a + b) / (2 * b)

/-- The greatest r below r0 + 2^k with r * r at most n, found bit by bit from the top. -/
def isqrtFrom (n : Nat) : Nat → Nat → Nat
  | 0, r => r
  | k + 1, r => isqrtFrom n k (if (r + 2 ^ k) * (r + 2 ^ k) ≤ n then r + 2 ^ k else r)

/-- The integer square root of a number below 2^256. -/
def isqrt (n : Nat) : Nat := isqrtFrom n 128 0

/-- The sign of an integer, 1 for zero. -/
def signOf (z : Int) : Int := if z < 0 then -1 else 1

/-- The low word of a 64-bit value. -/
def lo32 (n : Nat) : Nat := n % 2 ^ 32

/-- The high word of a 64-bit value. -/
def hi32 (n : Nat) : Nat := n / 2 ^ 32 % 2 ^ 32

/-- The bytes of the low 8n bits of v, lowest first. -/
def toLE (v : Nat) : Nat → List Byte
  | 0 => []
  | n + 1 => BitVec.ofNat 8 v :: toLE (v / 256) n

/-- The number that a list of bytes holds, lowest first. -/
def ofLE : List Byte → Nat
  | [] => 0
  | b :: r => b.toNat + 256 * ofLE r

/-- The numbers from lo, n of them. -/
def upFrom (lo : Nat) : Nat → List Nat
  | 0 => []
  | n + 1 => lo :: upFrom (lo + 1) n

/-- Item i of a list, or the given value beyond its end. -/
def nthD {α : Type} (d : α) : List α → Nat → α
  | [], _ => d
  | x :: _, 0 => x
  | _ :: r, i + 1 => nthD d r i

/-- The list with item i replaced; unchanged beyond its end. -/
def setNth {α : Type} : List α → Nat → α → List α
  | [], _, _ => []
  | _ :: r, 0, v => v :: r
  | x :: r, i + 1, v => x :: setNth r i v

/-- The first item that satisfies a test. -/
def findFirst {α : Type} (p : α → Bool) : List α → Option α
  | [] => none
  | x :: r => if p x then some x else findFirst p r

/-- The larger of two integers. -/
def maxI (a b : Int) : Int := if a < b then b else a

end Sys2Proof.Machine
end

