-- ==== Sys2Proof/Machine/EvTable.lean ====
section
/-!
DEFINITION. The event tables of every chapter (R376–R378, R381): number, default level, allowed levels, routes. One
row per named event; a number without a row is reserved (R376).
-/
namespace Sys2Proof.Machine

/-- One row of the event tables: number, default gong level, mask of allowed levels (R381), keeper route, mallet broadcast,
host vector enabled, vector (R378). -/
structure EvDef where
  num : Nat
  level : Nat
  allow : Nat
  keep : Bool
  bcast : Bool
  hostEn : Bool
  vec : Nat
deriving DecidableEq, Repr

/-! ## Event numbers, by name -/

def EV.VIN_FAIL : Nat := 0
def EV.VBAT_LOW : Nat := 1
def EV.DOMAIN_PG : Nat := 2
def EV.REG_FAULT : Nat := 3
def EV.PLL_LOCK : Nat := 4
def EV.PLL_HOLDOVER : Nat := 5
def EV.PLL_LOST : Nat := 6
def EV.MDLL_UNLOCK : Nat := 7
def EV.CLK_STEP_REJECT : Nat := 8
def EV.TCOMP_FROZEN : Nat := 9
def EV.OTP_INTEGRITY : Nat := 10
def EV.OTP_MARGINAL : Nat := 11
def EV.OTP_TRANSIENT : Nat := 12
def EV.OTP_PROG_FAIL : Nat := 13
def EV.PWR_REFUSED : Nat := 14
def EV.FCLK_LOST : Nat := 15
def EV.MLT_EXC : Nat := 16
def EV.MLT_HALT : Nat := 17
def EV.MLT_TAKEOVER : Nat := 18
def EV.MLT_NO_SPARE : Nat := 19
def EV.MLT_BOUNCE : Nat := 20
def EV.MLT_BOUNCE_LOST : Nat := 21
def EV.MLT_MEM_TRANSIENT : Nat := 22
def EV.MLT_IMAGE_REJECT : Nat := 23
def EV.MLT_HOST_MSG : Nat := 24
def EV.WEB_SRC_LOST : Nat := 32
def EV.WEB_SRC_FROZEN : Nat := 33
def EV.WEB_SWITCH_SEC : Nat := 34
def EV.WEB_SENSORLESS : Nat := 35
def EV.WEB_COAST_EXPIRED : Nat := 36
def EV.WEB_PHASE_JUMP : Nat := 37
def EV.WEB_REVERSE : Nat := 38
def EV.WEB_REVERSE_LIMIT : Nat := 39
def EV.SNARE_CAPT : Nat := 40
def EV.SNARE_OVR : Nat := 41
def EV.WEB_TRANSIENT : Nat := 42
def EV.GEAR_APPLIED : Nat := 43
def EV.GEAR_LATE : Nat := 44
def EV.GEAR_REJECT : Nat := 45
def EV.GEAR_SUPERSEDED : Nat := 46
def EV.SLOWDOWN_REQ : Nat := 47
def EV.OVERSPEED_DROP : Nat := 48
def EV.OVERSPEED_SPOIL : Nat := 49
def EV.OBS_STALE : Nat := 50
def EV.FQ_EMPTY : Nat := 64
def EV.FQ_OVERFLOW : Nat := 65
def EV.FQ_JOBWAIT : Nat := 66
def EV.FRAME_DESC_ERR : Nat := 67
def EV.FEED_UNDERRUN : Nat := 68
def EV.YRL_ERROR : Nat := 69
def EV.MEM_ECC_TRANSIENT : Nat := 70
def EV.MEM_PAGE_RETIRED : Nat := 71
def EV.MEM_UNCORR : Nat := 72
def EV.MEM_POOL_LOW : Nat := 73
def EV.MEM_POOL_EMPTY : Nat := 74
def EV.MEM_RANGE : Nat := 75
def EV.DMA_DESC_DONE : Nat := 76
def EV.DMA_CHAIN_DONE : Nat := 77
def EV.DMA_BAD : Nat := 78
def EV.DMA_ABORT : Nat := 79
def EV.DMA_FETCH_ERR : Nat := 80
def EV.PCIE_CPL_TRANSIENT : Nat := 81
def EV.BANK_LATE : Nat := 82
def EV.TBL_LOAD_ERR : Nat := 83
def EV.LEAD_LOW : Nat := 84
def EV.TMEM_TRANSIENT : Nat := 85
def EV.TMEM_DAMAGED : Nat := 86
def EV.TMEM_UNCORR : Nat := 87
def EV.LANE_TRANSIENT : Nat := 96
def EV.LANE_SPARE_IN : Nat := 97
def EV.LANE_NO_SPARE : Nat := 98
def EV.LANE_SPARE_FAIL : Nat := 99
def EV.HUB_MISSED : Nat := 100
def EV.LATE_PACKET : Nat := 101
def EV.HUB_FAULT : Nat := 102
def EV.SIDEBAND_FAIL : Nat := 103
def EV.HEAD_ID_ERR : Nat := 104
def EV.HEAD_TEMP_WARN : Nat := 105
def EV.HEAD_TEMP_LIMIT : Nat := 106
def EV.HEAD_TEMP_RUNAWAY : Nat := 107
def EV.WAVE_LATE : Nat := 108
def EV.WAVE_LOAD_ERR : Nat := 109
def EV.INK_BELOW_VMIN : Nat := 110
def EV.DD_TRANSIENT : Nat := 111
def EV.DD_HIDDEN : Nat := 112
def EV.DD_WEAK : Nat := 113
def EV.DD_DEVIATED : Nat := 114
def EV.BD_MISS : Nat := 128
def EV.BD_LOST : Nat := 129
def EV.XSCAN_SQUASH : Nat := 130
def EV.XSCAN_SPOIL : Nat := 131
def EV.POLY_UNLOCK : Nat := 132
def EV.PIX_CLAMP : Nat := 133
def EV.APC_TRANSIENT : Nat := 134
def EV.APC_LINK : Nat := 135
def EV.APC_DRIVE_HIGH : Nat := 136
def EV.BEAM_FAULT : Nat := 137
def EV.HV_ARC : Nat := 138
def EV.HV_ARC_LASTING : Nat := 139
def EV.HV_RAMP_FAIL : Nat := 140
def EV.FUSER_TEMP : Nat := 141
def EV.FUSER_CUT : Nat := 142
def EV.FUSER_ZC_LOST : Nat := 143
def EV.FUSER_SENSOR : Nat := 144
def EV.EP_BELOW_VMIN : Nat := 145
def EV.CS_QUEUED : Nat := 160
def EV.CS_REJECT : Nat := 161
def EV.CS_APPLIED : Nat := 162
def EV.CS_NOT_APPLIED : Nat := 163
def EV.CS_CANCELLED : Nat := 164
def EV.SPLICE_CUT : Nat := 165
def EV.SPEC_SQUASH : Nat := 166
def EV.SPEC_LOST : Nat := 167
def EV.REV_LIMIT : Nat := 168
def EV.LEDGER_SPILL : Nat := 169
def EV.LEDGER_OVERRUN : Nat := 170
def EV.AXS_FB_TRANSIENT : Nat := 192
def EV.AXS_FB_LOST : Nat := 193
def EV.AXS_FB_FROZEN : Nat := 194
def EV.AXS_IMPLAUSIBLE : Nat := 195
def EV.AXS_FB_SWITCH : Nat := 196
def EV.AXS_COAST_EXPIRED : Nat := 197
def EV.AXS_TARGET_BEHIND : Nat := 198
def EV.AXS_LIMIT : Nat := 199
def EV.HOME_DONE : Nat := 200
def EV.HOME_ABORT : Nat := 201
def EV.HOME_UNSTABLE : Nat := 202
def EV.STEP_STALL : Nat := 203
def EV.STEP_OVERCURRENT : Nat := 204
def EV.AXS_BANK_LATE : Nat := 205
def EV.AXS_TBL_LOAD_ERR : Nat := 206
def EV.AXS_GEAR : Nat := 207
def EV.AXS_GEAR_OVS : Nat := 208
def EV.TRACE_DONE : Nat := 209
def EV.MOT_OVERCURRENT : Nat := 210
def EV.MOT_GATE_FAULT : Nat := 211
def EV.MOT_ISENSE_TRANSIENT : Nat := 212
def EV.MOT_ISENSE_LOST : Nat := 213
def EV.MOT_COMM_SWITCH : Nat := 214
def EV.MOT_COMM_LOST : Nat := 215
def EV.MOT_SLS_FAIL : Nat := 216
def EV.MOT_LOCKED : Nat := 217
def EV.MOT_CATCH : Nat := 218
def EV.MOT_SPIN_REVERSE : Nat := 219
def EV.MOT_VCLAMP : Nat := 220
def EV.BRK_TRANSIENT : Nat := 221
def EV.BRK_FAULT : Nat := 222
def EV.BUS_OV : Nat := 223
def EV.HK_WARN : Nat := 224
def EV.HK_THROTTLE : Nat := 225
def EV.HK_CRIT : Nat := 226
def EV.HK_TSD : Nat := 227
def EV.HK_SENSOR_TRANSIENT : Nat := 228
def EV.HK_SENSOR_BROKEN : Nat := 229
def EV.HK_ZONE_BLIND : Nat := 230
def EV.HK_GUARD_LOST : Nat := 231
def EV.KEEPER_BOOT : Nat := 232
def EV.FW_SWITCHED : Nat := 233
def EV.FW_REVERT : Nat := 234
def EV.KEEPER_FAULT : Nat := 235
def EV.LIFE_TRANSIENT : Nat := 236
def EV.LIFE_COPY_LOST : Nat := 237
def EV.MARGIN_LOW : Nat := 238
def EV.CAL_LOST : Nat := 239
def EV.CNT_OVF : Nat := 240
def EV.CNT_SAMPLE : Nat := 241
def EV.SLOT_REFUSED : Nat := 248
def EV.GONG_ESCALATE : Nat := 249
def EV.STOP_DONE : Nat := 250
def EV.STOP_ENFORCED : Nat := 251
def EV.USER0 : Nat := 252
def EV.USER1 : Nat := 253
def EV.USER2 : Nat := 254
def EV.USER3 : Nat := 255

/-- Rows of the event tables, part 0. -/
def evRows0 : List EvDef :=
  [⟨0, 4, 16, true, false, false, 0⟩,
   ⟨1, 0, 3, true, false, true, 31⟩,
   ⟨2, 4, 16, true, false, false, 0⟩,
   ⟨3, 4, 16, true, false, false, 0⟩,
   ⟨4, 0, 1, true, false, false, 0⟩,
   ⟨5, 1, 14, true, false, true, 0⟩,
   ⟨6, 3, 24, true, false, true, 0⟩,
   ⟨7, 2, 12, true, false, true, 1⟩,
   ⟨8, 0, 3, false, true, true, 1⟩,
   ⟨9, 0, 3, true, false, false, 0⟩,
   ⟨10, 1, 10, true, false, true, 28⟩,
   ⟨11, 0, 3, true, false, true, 28⟩,
   ⟨12, 0, 1, true, false, false, 0⟩,
   ⟨13, 0, 3, true, false, true, 28⟩,
   ⟨14, 0, 3, false, false, true, 31⟩,
   ⟨15, 4, 16, true, false, false, 0⟩,
   ⟨16, 0, 3, true, false, true, 18⟩,
   ⟨17, 1, 14, true, false, true, 18⟩,
   ⟨18, 1, 2, true, true, true, 18⟩,
   ⟨19, 3, 8, true, false, true, 18⟩,
   ⟨20, 0, 3, true, false, false, 0⟩,
   ⟨21, 0, 3, true, false, true, 18⟩,
   ⟨22, 0, 3, true, false, false, 0⟩,
   ⟨23, 0, 3, true, false, true, 19⟩,
   ⟨24, 0, 1, false, false, true, 19⟩,
   ⟨32, 1, 14, true, false, true, 3⟩,
   ⟨33, 1, 14, true, false, true, 3⟩,
   ⟨34, 1, 2, true, true, true, 3⟩,
   ⟨35, 1, 14, true, true, true, 3⟩,
   ⟨36, 3, 8, true, false, true, 3⟩,
   ⟨37, 1, 6, false, true, true, 3⟩,
   ⟨38, 0, 3, false, true, true, 3⟩,
   ⟨39, 3, 8, true, false, true, 3⟩,
   ⟨40, 0, 1, false, true, false, 0⟩,
   ⟨41, 0, 3, false, true, true, 2⟩,
   ⟨42, 0, 3, true, false, false, 0⟩,
   ⟨43, 0, 1, false, true, false, 0⟩,
   ⟨44, 0, 3, false, true, true, 4⟩,
   ⟨45, 0, 3, false, true, true, 4⟩,
   ⟨46, 0, 1, false, true, true, 4⟩,
   ⟨47, 1, 2, false, true, true, 5⟩,
   ⟨48, 1, 2, false, true, true, 5⟩,
   ⟨49, 3, 8, true, false, true, 5⟩,
   ⟨50, 1, 14, true, true, true, 3⟩,
   ⟨64, 0, 3, false, true, true, 6⟩,
   ⟨65, 0, 1, false, false, true, 6⟩,
   ⟨66, 0, 3, false, true, true, 6⟩,
   ⟨67, 2, 12, true, false, true, 6⟩]

/-- Rows of the event tables, part 1. -/
def evRows1 : List EvDef :=
  [⟨68, 2, 12, true, false, true, 6⟩,
   ⟨69, 2, 12, true, false, true, 6⟩,
   ⟨70, 0, 3, true, false, false, 0⟩,
   ⟨71, 0, 3, true, false, true, 7⟩,
   ⟨72, 2, 12, true, false, true, 7⟩,
   ⟨73, 0, 3, true, false, true, 7⟩,
   ⟨74, 1, 10, true, false, true, 7⟩,
   ⟨75, 0, 3, false, false, true, 7⟩,
   ⟨76, 0, 1, false, true, true, 8⟩,
   ⟨77, 0, 1, false, true, true, 8⟩,
   ⟨78, 0, 3, true, false, true, 8⟩,
   ⟨79, 0, 1, false, false, true, 8⟩,
   ⟨80, 0, 3, true, false, true, 8⟩,
   ⟨81, 0, 3, true, false, false, 0⟩,
   ⟨82, 0, 3, false, true, true, 9⟩,
   ⟨83, 0, 3, false, false, true, 9⟩,
   ⟨84, 0, 3, false, true, true, 9⟩,
   ⟨85, 0, 3, true, false, false, 0⟩,
   ⟨86, 1, 6, true, false, true, 9⟩,
   ⟨87, 2, 12, true, false, true, 9⟩,
   ⟨96, 0, 3, true, false, false, 0⟩,
   ⟨97, 1, 2, true, false, true, 10⟩,
   ⟨98, 3, 12, true, false, true, 10⟩,
   ⟨99, 0, 3, true, false, true, 10⟩,
   ⟨100, 1, 6, false, true, true, 11⟩,
   ⟨101, 1, 6, false, true, true, 11⟩,
   ⟨102, 3, 12, true, false, true, 10⟩,
   ⟨103, 0, 3, true, false, true, 10⟩,
   ⟨104, 0, 1, true, false, true, 10⟩,
   ⟨105, 0, 3, true, false, true, 12⟩,
   ⟨106, 2, 12, true, false, true, 12⟩,
   ⟨107, 3, 8, true, false, true, 12⟩,
   ⟨108, 0, 3, false, true, true, 11⟩,
   ⟨109, 0, 3, false, false, true, 11⟩,
   ⟨110, 2, 12, false, true, true, 11⟩,
   ⟨111, 0, 1, true, false, false, 0⟩,
   ⟨112, 1, 2, true, false, true, 12⟩,
   ⟨113, 0, 1, true, false, false, 0⟩,
   ⟨114, 0, 3, true, false, true, 12⟩,
   ⟨128, 1, 6, true, false, true, 13⟩,
   ⟨129, 3, 8, true, false, true, 13⟩,
   ⟨130, 1, 6, false, true, true, 13⟩,
   ⟨131, 2, 12, true, false, true, 13⟩,
   ⟨132, 2, 12, false, true, true, 13⟩,
   ⟨133, 0, 3, false, true, false, 0⟩,
   ⟨134, 0, 1, true, false, false, 0⟩,
   ⟨135, 1, 10, true, false, true, 14⟩,
   ⟨136, 0, 3, true, false, true, 14⟩]

/-- Rows of the event tables, part 2. -/
def evRows2 : List EvDef :=
  [⟨137, 3, 12, true, false, true, 14⟩,
   ⟨138, 2, 12, true, false, true, 14⟩,
   ⟨139, 3, 8, true, false, true, 14⟩,
   ⟨140, 3, 12, true, false, true, 14⟩,
   ⟨141, 1, 6, true, false, true, 15⟩,
   ⟨142, 3, 8, true, false, true, 15⟩,
   ⟨143, 3, 8, true, false, true, 15⟩,
   ⟨144, 3, 8, true, false, true, 15⟩,
   ⟨145, 2, 12, false, true, true, 13⟩,
   ⟨160, 0, 1, false, true, true, 16⟩,
   ⟨161, 0, 3, false, false, true, 16⟩,
   ⟨162, 0, 1, false, true, true, 16⟩,
   ⟨163, 2, 12, true, false, true, 16⟩,
   ⟨164, 0, 1, false, true, true, 16⟩,
   ⟨165, 2, 12, true, false, true, 16⟩,
   ⟨166, 0, 3, false, true, false, 0⟩,
   ⟨167, 1, 6, true, false, true, 17⟩,
   ⟨168, 1, 6, true, false, true, 17⟩,
   ⟨169, 0, 3, false, false, true, 17⟩,
   ⟨170, 0, 9, true, false, true, 17⟩,
   ⟨192, 0, 3, true, false, false, 0⟩,
   ⟨193, 1, 14, true, false, true, 20⟩,
   ⟨194, 1, 14, true, false, true, 20⟩,
   ⟨195, 1, 14, true, false, true, 20⟩,
   ⟨196, 1, 2, false, true, true, 20⟩,
   ⟨197, 3, 8, true, false, true, 20⟩,
   ⟨198, 0, 3, false, true, true, 21⟩,
   ⟨199, 1, 14, true, true, true, 21⟩,
   ⟨200, 0, 1, false, true, false, 0⟩,
   ⟨201, 1, 2, false, true, true, 21⟩,
   ⟨202, 1, 2, false, true, true, 21⟩,
   ⟨203, 1, 14, true, false, true, 21⟩,
   ⟨204, 1, 10, true, false, true, 21⟩,
   ⟨205, 0, 3, false, false, true, 21⟩,
   ⟨206, 0, 3, false, false, true, 21⟩,
   ⟨207, 0, 1, false, true, false, 0⟩,
   ⟨208, 1, 10, false, true, true, 21⟩,
   ⟨209, 0, 1, false, true, true, 21⟩,
   ⟨210, 1, 10, true, false, true, 22⟩,
   ⟨211, 1, 10, true, false, true, 22⟩,
   ⟨212, 0, 3, true, false, false, 0⟩,
   ⟨213, 1, 10, true, false, true, 22⟩,
   ⟨214, 1, 2, false, true, true, 22⟩,
   ⟨215, 1, 10, true, false, true, 22⟩,
   ⟨216, 1, 10, false, true, true, 22⟩,
   ⟨217, 1, 10, true, false, true, 22⟩,
   ⟨218, 0, 1, false, true, false, 0⟩,
   ⟨219, 1, 2, false, true, true, 22⟩]

/-- Rows of the event tables, part 3. -/
def evRows3 : List EvDef :=
  [⟨220, 0, 3, false, true, false, 0⟩,
   ⟨221, 0, 3, true, false, false, 0⟩,
   ⟨222, 1, 10, true, false, true, 23⟩,
   ⟨223, 3, 8, true, false, true, 23⟩,
   ⟨224, 0, 3, true, false, true, 24⟩,
   ⟨225, 1, 2, true, true, true, 24⟩,
   ⟨226, 3, 24, true, false, true, 24⟩,
   ⟨227, 4, 16, true, false, false, 0⟩,
   ⟨228, 0, 3, true, false, false, 0⟩,
   ⟨229, 1, 10, true, false, true, 25⟩,
   ⟨230, 3, 8, true, false, true, 25⟩,
   ⟨231, 3, 8, true, false, true, 25⟩,
   ⟨232, 0, 1, true, false, true, 29⟩,
   ⟨233, 0, 1, true, false, true, 29⟩,
   ⟨234, 0, 3, true, false, true, 29⟩,
   ⟨235, 4, 16, true, false, false, 0⟩,
   ⟨236, 0, 3, true, false, false, 0⟩,
   ⟨237, 0, 3, true, false, true, 29⟩,
   ⟨238, 0, 3, true, false, true, 29⟩,
   ⟨239, 0, 3, true, false, true, 29⟩,
   ⟨240, 0, 3, false, true, true, 30⟩,
   ⟨241, 0, 1, false, true, true, 30⟩,
   ⟨248, 0, 3, true, false, true, 26⟩,
   ⟨249, 0, 1, true, false, true, 26⟩,
   ⟨250, 0, 1, true, true, true, 26⟩,
   ⟨251, 0, 1, true, false, true, 26⟩,
   ⟨252, 0, 15, true, true, true, 27⟩,
   ⟨253, 0, 15, true, true, true, 27⟩,
   ⟨254, 0, 15, true, true, true, 27⟩,
   ⟨255, 0, 15, true, true, true, 27⟩]

/-- Every named event. -/
def evRows : List EvDef := evRows0 ++ evRows1 ++ evRows2 ++ evRows3

/-- The row of event e, looked up. -/
def evFind (e : Nat) : List EvDef → Option EvDef
  | [] => none
  | r :: rs => if r.num = e then some r else evFind e rs

/-- Whether a chapter names event e (R376). -/
def evNamed (e : Nat) : Bool := (evFind e evRows).isSome

/-- The routes and levels of event e; a reserved number has none (R376, R378). -/
def evDef (e : Nat) : EvDef := (evFind e evRows).getD ⟨e, 0, 0, false, false, false, 0⟩

end Sys2Proof.Machine
end

