-- ==== Sys2Proof/Machine/RegMap.lean ====
section
/-!
DEFINITION. The BAR0 register map (R8, R9, R33, R62, R63, R94, R127, R128, R154, R199, R230, R256, R281, R336, R355, R375,
R402, R433, R434, R449, R470): every register family with its offset, its instances and its fields, each with its bits, its
access code (R8) and its reset value. A bit that no field holds is reserved and reads as zero (R9).
-/
namespace Sys2Proof.Machine

/-- The access codes of the field tables (R8). -/
inductive Access where
  | rw | ro | w1c | w1s | wo | rwl | rc
deriving DecidableEq, Repr

/-- One field of one register: the register's BAR0 offset, its lowest bit, its width and its reset value. -/
structure Field where
  off : Nat
  lo : Nat
  width : Nat
  reset : Nat
deriving DecidableEq, Repr

/-- The key under which the register file holds the field. -/
def Field.key (f : Field) : Nat := f.off * 32 + f.lo

/-- One register family: the offset of its first instance, and up to two indices with their counts and
strides; then the fields of the instance with those indices, each with its access code. -/
structure RegDef where
  base : Nat
  n1 : Nat
  s1 : Nat
  n2 : Nat
  s2 : Nat
  fields : Nat → Nat → List (Field × Access)

/-- The source of fixed counter i (R439). -/
def fixedSource (i : Nat) : Nat :=
  match i with
  | 48 => 0x001 | 49 => 0x002 | 50 => 0x003 | 51 => 0x004 | 52 => 0x192 | 53 => 0x093 | 54 => 0x005 | 55 => 0x236 | _ => 0

/-- Reset pulse width of exposure code c, in slots: 16c/15 rounded to nearest (R202). -/
def ptabWidth (c : Nat) : Nat := (32 * c + 15) / 30

/-- First slot of the reset pulse of code c (R202). -/
def ptabFirst (c : Nat) : Nat := if c = 0 then 0 else (16 - ptabWidth c) / 2

/-- Last slot of the reset pulse of code c (R202). -/
def ptabLast (c : Nat) : Nat := if c = 0 then 0 else ptabFirst c + ptabWidth c - 1

/-- 1 for a loop mallet (R257): mallets 26 to 35. -/
def malletKind (m : Nat) : Nat := if 26 ≤ m then 1 else 0

/-- 1 for a spare mallet (R257): 24, 25, 34 and 35. -/
def malletSpare (m : Nat) : Nat := if m = 24 ∨ m = 25 ∨ m = 34 ∨ m = 35 then 1 else 0

/-! ## The fields, by name -/

def F.GCTL_ID_PART : Field := ⟨0x0, 16, 16, 0x4680⟩
def F.GCTL_ID_REV : Field := ⟨0x0, 8, 8, 0xB0⟩
def F.GCTL_ID_GRADE : Field := ⟨0x0, 0, 8, 0x0⟩
def F.GCTL_SERIAL_LO : Field := ⟨0x4, 0, 32, 0x0⟩
def F.GCTL_SERIAL_HI : Field := ⟨0x8, 0, 32, 0x0⟩
def F.GCTL_STATUS_UNPROV : Field := ⟨0xC, 3, 1, 0x0⟩
def F.GCTL_STATUS_MODE : Field := ⟨0xC, 1, 2, 0x0⟩
def F.GCTL_STATUS_READY : Field := ⟨0xC, 0, 1, 0x0⟩
def F.GCTL_USERPAGE_CNT_EN : Field := ⟨0x10, 0, 1, 0x0⟩
def F.GCTL_FLAM_COUNT : Field := ⟨0x14, 0, 8, 0x0⟩
def F.CLK_ADPLL_CTL_TCOMP_EN : Field := ⟨0x10000, 1, 1, 0x0⟩
def F.CLK_ADPLL_CTL_EN : Field := ⟨0x10000, 0, 1, 0x0⟩
def F.CLK_ADPLL_STATUS_BAND : Field := ⟨0x10004, 9, 3, 0x0⟩
def F.CLK_ADPLL_STATUS_NOBAND : Field := ⟨0x10004, 8, 1, 0x0⟩
def F.CLK_ADPLL_STATUS_LOCK_LOST : Field := ⟨0x10004, 4, 1, 0x0⟩
def F.CLK_ADPLL_STATUS_REF_LOST : Field := ⟨0x10004, 3, 1, 0x0⟩
def F.CLK_ADPLL_STATUS_HOLDOVER : Field := ⟨0x10004, 2, 1, 0x0⟩
def F.CLK_ADPLL_STATUS_LOCKED : Field := ⟨0x10004, 1, 1, 0x0⟩
def F.CLK_ADPLL_FCOMP_FCOMP : Field := ⟨0x10008, 0, 24, 0x0⟩
def F.CLK_BAND_ROOT_FHI (n : Nat) : Field := ⟨0x10020 + n * 0x4, 20, 12, 0x0⟩
def F.CLK_BAND_ROOT_FLO (n : Nat) : Field := ⟨0x10020 + n * 0x4, 8, 12, 0x0⟩
def F.CLK_BAND_ROOT_VALID (n : Nat) : Field := ⟨0x10020 + n * 0x4, 7, 1, 0x0⟩
def F.CLK_BAND_ROOT_CODE (n : Nat) : Field := ⟨0x10020 + n * 0x4, 0, 7, 0x0⟩
def F.CLK_MDLL_CTL_PHASE (n : Nat) : Field := ⟨0x10100 + n * 0x40, 3, 5, 0x0⟩
def F.CLK_MDLL_CTL_APPLY (n : Nat) : Field := ⟨0x10100 + n * 0x40, 1, 1, 0x1⟩
def F.CLK_MDLL_CTL_EN (n : Nat) : Field := ⟨0x10100 + n * 0x40, 0, 1, 0x0⟩
def F.CLK_MDLL_FREQ_PIXF (n : Nat) : Field := ⟨0x10104 + n * 0x40, 0, 24, 0x19999A⟩
def F.CLK_MDLL_STATUS_PIXF_USED (n : Nat) : Field := ⟨0x10108 + n * 0x40, 8, 24, 0x0⟩
def F.CLK_MDLL_STATUS_UNLOCKED (n : Nat) : Field := ⟨0x10108 + n * 0x40, 3, 1, 0x0⟩
def F.CLK_MDLL_STATUS_STEP_REJ (n : Nat) : Field := ⟨0x10108 + n * 0x40, 2, 1, 0x0⟩
def F.CLK_MDLL_STATUS_LOCKED (n : Nat) : Field := ⟨0x10108 + n * 0x40, 1, 1, 0x0⟩
def F.CLK_MDLL_BAND_FHI (n : Nat) (k : Nat) : Field := ⟨0x10120 + n * 0x40 + k * 0x4, 20, 12, 0x0⟩
def F.CLK_MDLL_BAND_FLO (n : Nat) (k : Nat) : Field := ⟨0x10120 + n * 0x40 + k * 0x4, 8, 12, 0x0⟩
def F.CLK_MDLL_BAND_VALID (n : Nat) (k : Nat) : Field := ⟨0x10120 + n * 0x40 + k * 0x4, 7, 1, 0x0⟩
def F.CLK_MDLL_BAND_CODE (n : Nat) (k : Nat) : Field := ⟨0x10120 + n * 0x40 + k * 0x4, 0, 7, 0x0⟩
def F.CLK_XTAB_PPM (n : Nat) : Field := ⟨0x10200 + n * 0x4, 0, 16, 0x0⟩
def F.CLK_CTAB_PPM (n : Nat) : Field := ⟨0x10280 + n * 0x4, 0, 16, 0x0⟩
def F.CLK_CAL_COMP_PPM : Field := ⟨0x10300, 0, 16, 0x0⟩
def F.CLK_LOCK_LOCK : Field := ⟨0x103F0, 0, 1, 0x0⟩
def F.CLK_FLAM_COUNT : Field := ⟨0x103F4, 0, 8, 0x0⟩
def F.TIME_LO : Field := ⟨0x20000, 0, 32, 0x0⟩
def F.TIME_HI : Field := ⟨0x20004, 0, 32, 0x0⟩
def F.TIME_STATUS_HELD : Field := ⟨0x20008, 1, 1, 0x0⟩
def F.TIME_STATUS_RUNNING : Field := ⟨0x20008, 0, 1, 0x0⟩
def F.TIME_SNARE_CAPT : Field := ⟨0x20010, 0, 32, 0x0⟩
def F.TIME_SNARE_OVR : Field := ⟨0x20014, 0, 32, 0x0⟩
def F.TIME_FLAM_COUNT : Field := ⟨0x20018, 0, 8, 0x0⟩
def F.SN_CTL_FILT (n : Nat) : Field := ⟨0x20100 + n * 0x20, 12, 4, 0x0⟩
def F.SN_CTL_SRC (n : Nat) : Field := ⟨0x20100 + n * 0x20, 8, 4, 0x0⟩
def F.SN_CTL_EDGE (n : Nat) : Field := ⟨0x20100 + n * 0x20, 6, 2, 0x0⟩
def F.SN_CTL_MODE (n : Nat) : Field := ⟨0x20100 + n * 0x20, 4, 2, 0x0⟩
def F.SN_CTL_DISARM (n : Nat) : Field := ⟨0x20100 + n * 0x20, 1, 1, 0x0⟩
def F.SN_CTL_ARM (n : Nat) : Field := ⟨0x20100 + n * 0x20, 0, 1, 0x0⟩
def F.SN_STATUS_MISS (n : Nat) : Field := ⟨0x20104 + n * 0x20, 8, 8, 0x0⟩
def F.SN_STATUS_NOPOS (n : Nat) : Field := ⟨0x20104 + n * 0x20, 2, 1, 0x0⟩
def F.SN_STATUS_UNREAD (n : Nat) : Field := ⟨0x20104 + n * 0x20, 1, 1, 0x0⟩
def F.SN_STATUS_ARMED (n : Nat) : Field := ⟨0x20104 + n * 0x20, 0, 1, 0x0⟩
def F.SN_TIME_LO (n : Nat) : Field := ⟨0x20108 + n * 0x20, 0, 32, 0x0⟩
def F.SN_TIME_HI (n : Nat) : Field := ⟨0x2010C + n * 0x20, 0, 32, 0x0⟩
def F.SN_WPOS_LO (n : Nat) : Field := ⟨0x20110 + n * 0x20, 0, 32, 0x0⟩
def F.SN_WPOS_HI (n : Nat) : Field := ⟨0x20114 + n * 0x20, 0, 32, 0x0⟩
def F.WEB_CTL_SWITCH : Field := ⟨0x30000, 8, 1, 0x0⟩
def F.WEB_CTL_FB_SLS : Field := ⟨0x30000, 5, 1, 0x0⟩
def F.WEB_CTL_FB_SEC : Field := ⟨0x30000, 4, 1, 0x0⟩
def F.WEB_CTL_MAIN : Field := ⟨0x30000, 2, 2, 0x0⟩
def F.WEB_CTL_OBS_EN : Field := ⟨0x30000, 0, 1, 0x0⟩
def F.WEB_STATUS_REV_LIM : Field := ⟨0x30004, 11, 1, 0x0⟩
def F.WEB_STATUS_COAST_EXP : Field := ⟨0x30004, 10, 1, 0x0⟩
def F.WEB_STATUS_FROZEN : Field := ⟨0x30004, 9, 1, 0x0⟩
def F.WEB_STATUS_LOST : Field := ⟨0x30004, 8, 1, 0x0⟩
def F.WEB_STATUS_ABSORBING : Field := ⟨0x30004, 5, 1, 0x0⟩
def F.WEB_STATUS_REVERSE : Field := ⟨0x30004, 4, 1, 0x0⟩
def F.WEB_STATUS_STALE : Field := ⟨0x30004, 3, 1, 0x0⟩
def F.WEB_STATUS_COASTING : Field := ⟨0x30004, 2, 1, 0x0⟩
def F.WEB_STATUS_SRC_IN_USE : Field := ⟨0x30004, 0, 2, 0x0⟩
def F.WEB_POS_LO : Field := ⟨0x30008, 0, 32, 0x0⟩
def F.WEB_POS_HI : Field := ⟨0x3000C, 0, 32, 0x0⟩
def F.WEB_VEL : Field := ⟨0x30010, 0, 32, 0x0⟩
def F.WEB_ACC : Field := ⟨0x30014, 0, 32, 0x0⟩
def F.WEB_OBS_T_LO : Field := ⟨0x30018, 0, 32, 0x0⟩
def F.WEB_OBS_T_HI : Field := ⟨0x3001C, 0, 32, 0x0⟩
def F.WEB_COAST_FREEZE_N : Field := ⟨0x30020, 16, 8, 0x10⟩
def F.WEB_COAST_COAST_MS : Field := ⟨0x30020, 0, 16, 0x32⟩
def F.WEB_REV_LIMIT_LIMIT : Field := ⟨0x30024, 0, 32, 0x10000⟩
def F.WEB_REPHASE_SLEW_SH : Field := ⟨0x30028, 8, 4, 0x6⟩
def F.WEB_REPHASE_THRESH : Field := ⟨0x30028, 0, 8, 0x40⟩
def F.WEB_SLOWDOWN_THERM : Field := ⟨0x3002C, 24, 1, 0x0⟩
def F.WEB_SLOWDOWN_OVS : Field := ⟨0x3002C, 16, 8, 0x0⟩
def F.WEB_SLOWDOWN_VMAX : Field := ⟨0x3002C, 0, 16, 0x0⟩
def F.WEB_CORR : Field := ⟨0x30030, 0, 32, 0x0⟩
def F.WEB_FLAM_COUNT : Field := ⟨0x30034, 0, 8, 0x0⟩
def F.WEB_SRC_CTL_EN (n : Nat) : Field := ⟨0x30040 + n * 0x20, 9, 1, 0x0⟩
def F.WEB_SRC_CTL_DIR (n : Nat) : Field := ⟨0x30040 + n * 0x20, 8, 1, 0x0⟩
def F.WEB_SRC_CTL_FILT (n : Nat) : Field := ⟨0x30040 + n * 0x20, 6, 2, 0x2⟩
def F.WEB_SRC_CTL_TYPE (n : Nat) : Field := ⟨0x30040 + n * 0x20, 4, 2, 0x0⟩
def F.WEB_SRC_CTL_INPUT (n : Nat) : Field := ⟨0x30040 + n * 0x20, 0, 4, 0x0⟩
def F.WEB_SRC_SSI_MONO (n : Nat) : Field := ⟨0x30044 + n * 0x20, 16, 8, 0x0⟩
def F.WEB_SRC_SSI_CRC_EN (n : Nat) : Field := ⟨0x30044 + n * 0x20, 15, 1, 0x0⟩
def F.WEB_SRC_SSI_GRAY (n : Nat) : Field := ⟨0x30044 + n * 0x20, 14, 1, 0x0⟩
def F.WEB_SRC_SSI_CLKDIV (n : Nat) : Field := ⟨0x30044 + n * 0x20, 6, 8, 0xF⟩
def F.WEB_SRC_SSI_BITS (n : Nat) : Field := ⟨0x30044 + n * 0x20, 0, 6, 0x18⟩
def F.WEB_SRC_SCALE_LO (n : Nat) : Field := ⟨0x30048 + n * 0x20, 0, 32, 0x0⟩
def F.WEB_SRC_SCALE_HI (n : Nat) : Field := ⟨0x3004C + n * 0x20, 0, 32, 0x0⟩
def F.WEB_SRC_STATUS_TRANS (n : Nat) : Field := ⟨0x30050 + n * 0x20, 16, 8, 0x0⟩
def F.WEB_SRC_STATUS_FROZEN (n : Nat) : Field := ⟨0x30050 + n * 0x20, 12, 1, 0x0⟩
def F.WEB_SRC_STATUS_LOST (n : Nat) : Field := ⟨0x30050 + n * 0x20, 11, 1, 0x0⟩
def F.WEB_SRC_STATUS_CRCERR (n : Nat) : Field := ⟨0x30050 + n * 0x20, 10, 1, 0x0⟩
def F.WEB_SRC_STATUS_IDXERR (n : Nat) : Field := ⟨0x30050 + n * 0x20, 9, 1, 0x0⟩
def F.WEB_SRC_STATUS_QERR (n : Nat) : Field := ⟨0x30050 + n * 0x20, 8, 1, 0x0⟩
def F.WEB_SRC_STATUS_CFG_ERR (n : Nat) : Field := ⟨0x30050 + n * 0x20, 2, 1, 0x0⟩
def F.WEB_SRC_STATUS_IN_USE (n : Nat) : Field := ⟨0x30050 + n * 0x20, 1, 1, 0x0⟩
def F.WEB_SRC_STATUS_QUALIFIED (n : Nat) : Field := ⟨0x30050 + n * 0x20, 0, 1, 0x0⟩
def F.WEB_SRC_PPR (n : Nat) : Field := ⟨0x30054 + n * 0x20, 0, 32, 0x0⟩
def F.WEB_SRC_CNT_LO (n : Nat) : Field := ⟨0x30058 + n * 0x20, 0, 32, 0x0⟩
def F.WEB_SRC_CNT_HI (n : Nat) : Field := ⟨0x3005C + n * 0x20, 0, 32, 0x0⟩
def F.WEB_ST_GCTL_RCANCEL (n : Nat) : Field := ⟨0x30100 + n * 0x40, 1, 1, 0x0⟩
def F.WEB_ST_GCTL_RPEND (n : Nat) : Field := ⟨0x30100 + n * 0x40, 0, 1, 0x0⟩
def F.WEB_ST_STATUS_DROPK (n : Nat) : Field := ⟨0x30104 + n * 0x40, 16, 16, 0x0⟩
def F.WEB_ST_STATUS_RAT_DONE (n : Nat) : Field := ⟨0x30104 + n * 0x40, 11, 1, 0x0⟩
def F.WEB_ST_STATUS_RAT_SUPER (n : Nat) : Field := ⟨0x30104 + n * 0x40, 10, 1, 0x0⟩
def F.WEB_ST_STATUS_RAT_REJ (n : Nat) : Field := ⟨0x30104 + n * 0x40, 9, 1, 0x0⟩
def F.WEB_ST_STATUS_RAT_LATE (n : Nat) : Field := ⟨0x30104 + n * 0x40, 8, 1, 0x0⟩
def F.WEB_ST_STATUS_OVS_WARN (n : Nat) : Field := ⟨0x30104 + n * 0x40, 3, 1, 0x0⟩
def F.WEB_ST_STATUS_DROPPING (n : Nat) : Field := ⟨0x30104 + n * 0x40, 2, 1, 0x0⟩
def F.WEB_ST_STATUS_ABSORB (n : Nat) : Field := ⟨0x30104 + n * 0x40, 1, 1, 0x0⟩
def F.WEB_ST_STATUS_HOLDING (n : Nat) : Field := ⟨0x30104 + n * 0x40, 0, 1, 0x0⟩
def F.WEB_ST_OFS_LO (n : Nat) : Field := ⟨0x30108 + n * 0x40, 0, 32, 0x0⟩
def F.WEB_ST_OFS_HI (n : Nat) : Field := ⟨0x3010C + n * 0x40, 0, 32, 0x0⟩
def F.WEB_ST_RAT_LO (n : Nat) : Field := ⟨0x30110 + n * 0x40, 0, 32, 0x0⟩
def F.WEB_ST_RAT_HI (n : Nat) : Field := ⟨0x30114 + n * 0x40, 0, 32, 0x0⟩
def F.WEB_ST_RNEXT_LO (n : Nat) : Field := ⟨0x30118 + n * 0x40, 0, 32, 0x0⟩
def F.WEB_ST_RNEXT_HI (n : Nat) : Field := ⟨0x3011C + n * 0x40, 0, 32, 0x0⟩
def F.WEB_ST_RAT_AT_LO (n : Nat) : Field := ⟨0x30120 + n * 0x40, 0, 32, 0x0⟩
def F.WEB_ST_RAT_AT_HI (n : Nat) : Field := ⟨0x30124 + n * 0x40, 0, 32, 0x0⟩
def F.WEB_ST_LPOS_LO (n : Nat) : Field := ⟨0x30128 + n * 0x40, 0, 16, 0x0⟩
def F.WEB_ST_LPOS_HI (n : Nat) : Field := ⟨0x3012C + n * 0x40, 0, 32, 0x0⟩
def F.WEB_ST_LBIAS_LO (n : Nat) : Field := ⟨0x30130 + n * 0x40, 0, 16, 0x0⟩
def F.WEB_ST_LBIAS_HI (n : Nat) : Field := ⟨0x30134 + n * 0x40, 0, 32, 0x0⟩
def F.WEB_ST_FLIM_LIMIT (n : Nat) : Field := ⟨0x30138 + n * 0x40, 0, 18, 0x27100⟩
def F.WEB_ST_HOLD (n : Nat) : Field := ⟨0x3013C + n * 0x40, 0, 32, 0x0⟩
def F.DMA_CTL_EN : Field := ⟨0x40000, 0, 1, 0x0⟩
def F.DMA_STATUS_BUSY : Field := ⟨0x40004, 0, 16, 0x0⟩
def F.DMA_FLAM_COUNT : Field := ⟨0x40008, 0, 8, 0x0⟩
def F.DMA_CH_CTL_IRQ_CHAIN (n : Nat) : Field := ⟨0x40100 + n * 0x20, 2, 1, 0x0⟩
def F.DMA_CH_CTL_ABORT (n : Nat) : Field := ⟨0x40100 + n * 0x20, 1, 1, 0x0⟩
def F.DMA_CH_CTL_START (n : Nat) : Field := ⟨0x40100 + n * 0x20, 0, 1, 0x0⟩
def F.DMA_CH_STATUS_BADCNT (n : Nat) : Field := ⟨0x40104 + n * 0x20, 16, 16, 0x0⟩
def F.DMA_CH_STATUS_ERR (n : Nat) : Field := ⟨0x40104 + n * 0x20, 8, 4, 0x0⟩
def F.DMA_CH_STATUS_START_IGN (n : Nat) : Field := ⟨0x40104 + n * 0x20, 6, 1, 0x0⟩
def F.DMA_CH_STATUS_ABORT_LATE (n : Nat) : Field := ⟨0x40104 + n * 0x20, 5, 1, 0x0⟩
def F.DMA_CH_STATUS_FETCH_ERR (n : Nat) : Field := ⟨0x40104 + n * 0x20, 4, 1, 0x0⟩
def F.DMA_CH_STATUS_BAD_SEEN (n : Nat) : Field := ⟨0x40104 + n * 0x20, 3, 1, 0x0⟩
def F.DMA_CH_STATUS_ABORTED (n : Nat) : Field := ⟨0x40104 + n * 0x20, 2, 1, 0x0⟩
def F.DMA_CH_STATUS_DONE (n : Nat) : Field := ⟨0x40104 + n * 0x20, 1, 1, 0x0⟩
def F.DMA_CH_STATUS_BUSY (n : Nat) : Field := ⟨0x40104 + n * 0x20, 0, 1, 0x0⟩
def F.DMA_CH_HEAD_LO (n : Nat) : Field := ⟨0x40108 + n * 0x20, 0, 32, 0x0⟩
def F.DMA_CH_HEAD_HI (n : Nat) : Field := ⟨0x4010C + n * 0x20, 0, 32, 0x0⟩
def F.DMA_CH_CUR_LO (n : Nat) : Field := ⟨0x40110 + n * 0x20, 0, 32, 0x0⟩
def F.DMA_CH_CUR_HI (n : Nat) : Field := ⟨0x40114 + n * 0x20, 0, 32, 0x0⟩
def F.DMA_CH_RESIDUE (n : Nat) : Field := ⟨0x40118 + n * 0x20, 0, 32, 0x0⟩
def F.DMA_CH_CRC (n : Nat) : Field := ⟨0x4011C + n * 0x20, 0, 32, 0x0⟩
def F.FEED_CTL_NOSNOOP : Field := ⟨0x50000, 0, 1, 0x0⟩
def F.FEED_PEEK_WBASE : Field := ⟨0x50008, 4, 13, 0x0⟩
def F.FEED_PEEK_STATION : Field := ⟨0x50008, 1, 3, 0x0⟩
def F.FEED_PEEK_EN : Field := ⟨0x50008, 0, 1, 0x0⟩
def F.FEED_MEM_CFG_SIZE : Field := ⟨0x50010, 0, 3, 0x0⟩
def F.FEED_MEM_STATUS_RETIRING : Field := ⟨0x50014, 6, 1, 0x0⟩
def F.FEED_MEM_STATUS_OOR : Field := ⟨0x50014, 5, 1, 0x0⟩
def F.FEED_MEM_STATUS_POOL_EMPTY : Field := ⟨0x50014, 4, 1, 0x0⟩
def F.FEED_MEM_STATUS_POOL_LOW : Field := ⟨0x50014, 3, 1, 0x0⟩
def F.FEED_MEM_STATUS_UNCORR : Field := ⟨0x50014, 2, 1, 0x0⟩
def F.FEED_MEM_STATUS_RETIRED : Field := ⟨0x50014, 1, 1, 0x0⟩
def F.FEED_MEM_STATUS_ECC_T : Field := ⟨0x50014, 0, 1, 0x0⟩
def F.FEED_MEM_SPARE_FREE : Field := ⟨0x50018, 16, 16, 0x0⟩
def F.FEED_MEM_SPARE_PAGES : Field := ⟨0x50018, 0, 16, 0x1000⟩
def F.FEED_MEM_ERR_LO : Field := ⟨0x5001C, 0, 32, 0x0⟩
def F.FEED_MEM_ERR_HI : Field := ⟨0x50020, 0, 32, 0x0⟩
def F.FEED_MEM_RETIRED : Field := ⟨0x50024, 0, 32, 0x0⟩
def F.FEED_MEM_TRANS : Field := ⟨0x50028, 0, 32, 0x0⟩
def F.FEED_FLAM_COUNT : Field := ⟨0x5002C, 0, 8, 0x0⟩
def F.FEED_LOCK_LOCK : Field := ⟨0x50030, 0, 1, 0x0⟩
def F.FEED_Q_CTL_LOG2SIZE (n : Nat) : Field := ⟨0x50100 + n * 0x40, 4, 4, 0x4⟩
def F.FEED_Q_CTL_EN (n : Nat) : Field := ⟨0x50100 + n * 0x40, 0, 1, 0x0⟩
def F.FEED_Q_STATUS_REANCHOR (n : Nat) : Field := ⟨0x50104 + n * 0x40, 10, 1, 0x0⟩
def F.FEED_Q_STATUS_YRL_ERR (n : Nat) : Field := ⟨0x50104 + n * 0x40, 9, 1, 0x0⟩
def F.FEED_Q_STATUS_DESC_ERR (n : Nat) : Field := ⟨0x50104 + n * 0x40, 8, 1, 0x0⟩
def F.FEED_Q_STATUS_UNDERRUN (n : Nat) : Field := ⟨0x50104 + n * 0x40, 7, 1, 0x0⟩
def F.FEED_Q_STATUS_OVERFLOW (n : Nat) : Field := ⟨0x50104 + n * 0x40, 6, 1, 0x0⟩
def F.FEED_Q_STATUS_PROVISIONAL (n : Nat) : Field := ⟨0x50104 + n * 0x40, 3, 1, 0x0⟩
def F.FEED_Q_STATUS_JOBWAIT (n : Nat) : Field := ⟨0x50104 + n * 0x40, 2, 1, 0x0⟩
def F.FEED_Q_STATUS_EMPTY (n : Nat) : Field := ⟨0x50104 + n * 0x40, 1, 1, 0x1⟩
def F.FEED_Q_STATUS_RUNNING (n : Nat) : Field := ⟨0x50104 + n * 0x40, 0, 1, 0x0⟩
def F.FEED_Q_BASE_LO (n : Nat) : Field := ⟨0x50108 + n * 0x40, 0, 32, 0x0⟩
def F.FEED_Q_BASE_HI (n : Nat) : Field := ⟨0x5010C + n * 0x40, 0, 32, 0x0⟩
def F.FEED_Q_HEAD (n : Nat) : Field := ⟨0x50110 + n * 0x40, 0, 16, 0x0⟩
def F.FEED_Q_TAIL (n : Nat) : Field := ⟨0x50114 + n * 0x40, 0, 16, 0x0⟩
def F.FEED_Q_CUR_FRAME (n : Nat) : Field := ⟨0x50118 + n * 0x40, 0, 32, 0x0⟩
def F.FEED_Q_CUR_JOB (n : Nat) : Field := ⟨0x5011C + n * 0x40, 0, 32, 0x0⟩
def F.FEED_Q_PROV_COUNT (n : Nat) : Field := ⟨0x50120 + n * 0x40, 8, 9, 0x0⟩
def F.FEED_Q_PROV_FIRST (n : Nat) : Field := ⟨0x50120 + n * 0x40, 0, 8, 0x0⟩
def F.SCR_CFG_PSHIDE (n : Nat) : Field := ⟨0x60000 + n * 0x2000, 18, 1, 0x1⟩
def F.SCR_CFG_KIND (n : Nat) : Field := ⟨0x60000 + n * 0x2000, 17, 1, 0x0⟩
def F.SCR_CFG_RES (n : Nat) : Field := ⟨0x60000 + n * 0x2000, 16, 1, 0x1⟩
def F.SCR_CFG_WIDTH (n : Nat) : Field := ⟨0x60000 + n * 0x2000, 0, 16, 0x0⟩
def F.SCR_LEAD_FLOOR (n : Nat) : Field := ⟨0x60004 + n * 0x2000, 16, 9, 0x40⟩
def F.SCR_LEAD_TARGET (n : Nat) : Field := ⟨0x60004 + n * 0x2000, 0, 9, 0xC0⟩
def F.SCR_LEADNOW_MIN (n : Nat) : Field := ⟨0x60008 + n * 0x2000, 16, 9, 0x100⟩
def F.SCR_LEADNOW_LEAD (n : Nat) : Field := ⟨0x60008 + n * 0x2000, 0, 9, 0x0⟩
def F.SCR_MOFS_YOFF (n : Nat) : Field := ⟨0x6000C + n * 0x2000, 8, 8, 0x0⟩
def F.SCR_MOFS_XOFF (n : Nat) : Field := ⟨0x6000C + n * 0x2000, 0, 8, 0x0⟩
def F.SCR_TADDR_LO (n : Nat) : Field := ⟨0x60010 + n * 0x2000, 6, 26, 0x0⟩
def F.SCR_TADDR_HI (n : Nat) : Field := ⟨0x60014 + n * 0x2000, 0, 32, 0x0⟩
def F.SCR_TCMD_GO (n : Nat) : Field := ⟨0x60018 + n * 0x2000, 31, 1, 0x0⟩
def F.SCR_TCMD_KIND (n : Nat) : Field := ⟨0x60018 + n * 0x2000, 4, 2, 0x0⟩
def F.SCR_TCMD_OP (n : Nat) : Field := ⟨0x60018 + n * 0x2000, 0, 3, 0x0⟩
def F.SCR_TSTAT_ERR (n : Nat) : Field := ⟨0x6001C + n * 0x2000, 24, 4, 0x0⟩
def F.SCR_TSTAT_HID (n : Nat) : Field := ⟨0x6001C + n * 0x2000, 16, 8, 0x0⟩
def F.SCR_TSTAT_THR (n : Nat) : Field := ⟨0x6001C + n * 0x2000, 8, 8, 0x0⟩
def F.SCR_TSTAT_CRV (n : Nat) : Field := ⟨0x6001C + n * 0x2000, 0, 8, 0x0⟩
def F.SCR_HEDIT_NOHELP (n : Nat) : Field := ⟨0x60020 + n * 0x2000, 17, 1, 0x0⟩
def F.SCR_HEDIT_MISSING (n : Nat) : Field := ⟨0x60020 + n * 0x2000, 16, 1, 0x0⟩
def F.SCR_HEDIT_NOZZLE (n : Nat) : Field := ⟨0x60020 + n * 0x2000, 0, 16, 0x0⟩
def F.SCR_STATUS_HIDE_LOST (n : Nat) : Field := ⟨0x60024 + n * 0x2000, 7, 1, 0x0⟩
def F.SCR_STATUS_LEAD_CFG_REJ (n : Nat) : Field := ⟨0x60024 + n * 0x2000, 6, 1, 0x0⟩
def F.SCR_STATUS_LEAD_LOW (n : Nat) : Field := ⟨0x60024 + n * 0x2000, 5, 1, 0x0⟩
def F.SCR_STATUS_TMEM_UNCORR (n : Nat) : Field := ⟨0x60024 + n * 0x2000, 4, 1, 0x0⟩
def F.SCR_STATUS_TMEM_DAMAGED (n : Nat) : Field := ⟨0x60024 + n * 0x2000, 3, 1, 0x0⟩
def F.SCR_STATUS_TMEM_TRANS (n : Nat) : Field := ⟨0x60024 + n * 0x2000, 2, 1, 0x0⟩
def F.SCR_STATUS_LOAD_ERR (n : Nat) : Field := ⟨0x60024 + n * 0x2000, 1, 1, 0x0⟩
def F.SCR_STATUS_BANK_LATE (n : Nat) : Field := ⟨0x60024 + n * 0x2000, 0, 1, 0x0⟩
def F.SCR_DEMAND_RATIO (n : Nat) : Field := ⟨0x60028 + n * 0x2000, 0, 16, 0x0⟩
def F.SCR_FLAM_COUNT (n : Nat) : Field := ⟨0x6002C + n * 0x2000, 0, 8, 0x0⟩
def F.INK_FLAM_COUNT : Field := ⟨0x80000, 0, 8, 0x0⟩
def F.INK_SB_CMD_GO : Field := ⟨0x80010, 31, 1, 0x0⟩
def F.INK_SB_CMD_WRITE : Field := ⟨0x80010, 30, 1, 0x0⟩
def F.INK_SB_CMD_STATION : Field := ⟨0x80010, 27, 3, 0x0⟩
def F.INK_SB_CMD_HUB : Field := ⟨0x80010, 26, 1, 0x0⟩
def F.INK_SB_CMD_PORT : Field := ⟨0x80010, 21, 5, 0x0⟩
def F.INK_SB_CMD_ADDR : Field := ⟨0x80010, 14, 7, 0x0⟩
def F.INK_SB_CMD_LEN : Field := ⟨0x80010, 8, 6, 0x0⟩
def F.INK_SB_REG : Field := ⟨0x80014, 0, 32, 0x0⟩
def F.INK_SB_STATUS_RETRIED : Field := ⟨0x80018, 4, 1, 0x0⟩
def F.INK_SB_STATUS_RESULT : Field := ⟨0x80018, 1, 3, 0x0⟩
def F.INK_SB_STATUS_BUSY : Field := ⟨0x80018, 0, 1, 0x0⟩
def F.INK_SB_DATA (n : Nat) : Field := ⟨0x80020 + n * 0x4, 0, 32, 0x0⟩
def F.INK_DD_CTL_HIDE_DEV : Field := ⟨0x80040, 14, 1, 0x0⟩
def F.INK_DD_CTL_DSIZE : Field := ⟨0x80040, 12, 2, 0x3⟩
def F.INK_DD_CTL_BURST : Field := ⟨0x80040, 8, 4, 0x4⟩
def F.INK_DD_CTL_MODE : Field := ⟨0x80040, 6, 1, 0x0⟩
def F.INK_DD_CTL_GATE : Field := ⟨0x80040, 5, 1, 0x0⟩
def F.INK_DD_CTL_STATION : Field := ⟨0x80040, 1, 3, 0x0⟩
def F.INK_DD_CTL_EN : Field := ⟨0x80040, 0, 1, 0x0⟩
def F.INK_DD_RANGE_LAST : Field := ⟨0x80044, 16, 16, 0x0⟩
def F.INK_DD_RANGE_FIRST : Field := ⟨0x80044, 0, 16, 0x0⟩
def F.INK_DD_TIME_WIN : Field := ⟨0x80048, 20, 12, 0x0⟩
def F.INK_DD_TIME_FLIGHT : Field := ⟨0x80048, 0, 20, 0x0⟩
def F.INK_DD_PERIOD : Field := ⟨0x8004C, 0, 18, 0x0⟩
def F.INK_DD_WEAK : Field := ⟨0x80050, 0, 12, 0x0⟩
def F.INK_DD_RESULT_VALID : Field := ⟨0x80054, 31, 1, 0x0⟩
def F.INK_DD_RESULT_CLASS : Field := ⟨0x80054, 29, 2, 0x0⟩
def F.INK_DD_RESULT_RETEST : Field := ⟨0x80054, 28, 1, 0x0⟩
def F.INK_DD_RESULT_STATION : Field := ⟨0x80054, 25, 3, 0x0⟩
def F.INK_DD_RESULT_NOZZLE : Field := ⟨0x80054, 0, 16, 0x0⟩
def F.INK_L_STATUS_TIMEOUT (n : Nat) : Field := ⟨0x80100 + n * 0x20, 9, 1, 0x0⟩
def F.INK_L_STATUS_NACK_SEEN (n : Nat) : Field := ⟨0x80100 + n * 0x20, 8, 1, 0x0⟩
def F.INK_L_STATUS_NOSPARE1 (n : Nat) : Field := ⟨0x80100 + n * 0x20, 6, 1, 0x0⟩
def F.INK_L_STATUS_NOSPARE0 (n : Nat) : Field := ⟨0x80100 + n * 0x20, 5, 1, 0x0⟩
def F.INK_L_STATUS_SPARE (n : Nat) : Field := ⟨0x80100 + n * 0x20, 4, 1, 0x0⟩
def F.INK_L_STATUS_SPARED (n : Nat) : Field := ⟨0x80100 + n * 0x20, 3, 1, 0x0⟩
def F.INK_L_STATUS_FAILED (n : Nat) : Field := ⟨0x80100 + n * 0x20, 2, 1, 0x0⟩
def F.INK_L_STATUS_TBLOCK (n : Nat) : Field := ⟨0x80100 + n * 0x20, 1, 1, 0x0⟩
def F.INK_L_STATUS_UP (n : Nat) : Field := ⟨0x80100 + n * 0x20, 0, 1, 0x0⟩
def F.INK_L_DELAY (n : Nat) : Field := ⟨0x80104 + n * 0x20, 0, 12, 0x0⟩
def F.INK_L_TRANS (n : Nat) : Field := ⟨0x80108 + n * 0x20, 0, 32, 0x0⟩
def F.INK_L_SDELAY_SP1 (n : Nat) : Field := ⟨0x8010C + n * 0x20, 16, 12, 0x0⟩
def F.INK_L_SDELAY_SP0 (n : Nat) : Field := ⟨0x8010C + n * 0x20, 0, 12, 0x0⟩
def F.INK_SP_CTL_EN (n : Nat) : Field := ⟨0x80400 + n * 0x10, 31, 1, 0x0⟩
def F.INK_SP_CTL_PARK (n : Nat) : Field := ⟨0x80400 + n * 0x10, 16, 4, 0x0⟩
def F.INK_SP_CTL_MAP (n : Nat) : Field := ⟨0x80400 + n * 0x10, 0, 16, 0x0⟩
def F.INK_SP_STATUS_FOR_LANE (n : Nat) : Field := ⟨0x80404 + n * 0x10, 8, 4, 0x0⟩
def F.INK_SP_STATUS_FAIL (n : Nat) : Field := ⟨0x80404 + n * 0x10, 3, 1, 0x0⟩
def F.INK_SP_STATUS_ULOCK (n : Nat) : Field := ⟨0x80404 + n * 0x10, 2, 1, 0x0⟩
def F.INK_SP_STATUS_IN_USE (n : Nat) : Field := ⟨0x80404 + n * 0x10, 1, 1, 0x0⟩
def F.INK_SP_STATUS_FREE (n : Nat) : Field := ⟨0x80404 + n * 0x10, 0, 1, 0x0⟩
def F.INK_S_VMIN (n : Nat) : Field := ⟨0x81000 + n * 0x100, 0, 16, 0xA⟩
def F.INK_S_STATUS_SB_FAIL (n : Nat) : Field := ⟨0x81004 + n * 0x100, 12, 1, 0x0⟩
def F.INK_S_STATUS_WAVE_ERR (n : Nat) : Field := ⟨0x81004 + n * 0x100, 11, 1, 0x0⟩
def F.INK_S_STATUS_TEMP_LIMIT (n : Nat) : Field := ⟨0x81004 + n * 0x100, 10, 1, 0x0⟩
def F.INK_S_STATUS_LATE_PKT (n : Nat) : Field := ⟨0x81004 + n * 0x100, 9, 1, 0x0⟩
def F.INK_S_STATUS_MISSED (n : Nat) : Field := ⟨0x81004 + n * 0x100, 8, 1, 0x0⟩
def F.INK_S_STATUS_HEAD_HOT (n : Nat) : Field := ⟨0x81004 + n * 0x100, 2, 1, 0x0⟩
def F.INK_S_STATUS_BELOW_VMIN (n : Nat) : Field := ⟨0x81004 + n * 0x100, 1, 1, 0x0⟩
def F.INK_S_WCMD_GO (n : Nat) : Field := ⟨0x81008 + n * 0x100, 31, 1, 0x0⟩
def F.INK_S_WCMD_OP (n : Nat) : Field := ⟨0x81008 + n * 0x100, 0, 3, 0x0⟩
def F.INK_S_WSTAT_ERR (n : Nat) : Field := ⟨0x8100C + n * 0x100, 24, 4, 0x0⟩
def F.INK_S_WSTAT_PEND (n : Nat) : Field := ⟨0x8100C + n * 0x100, 5, 1, 0x0⟩
def F.INK_S_WSTAT_DAMAGED (n : Nat) : Field := ⟨0x8100C + n * 0x100, 4, 1, 0x0⟩
def F.INK_S_WSTAT_ENGAGED (n : Nat) : Field := ⟨0x8100C + n * 0x100, 3, 1, 0x0⟩
def F.INK_S_WSTAT_STATE (n : Nat) : Field := ⟨0x8100C + n * 0x100, 1, 2, 0x0⟩
def F.INK_S_WSTAT_ACTIVE (n : Nat) : Field := ⟨0x8100C + n * 0x100, 0, 1, 0x0⟩
def F.INK_S_WADDR_LO (n : Nat) : Field := ⟨0x81010 + n * 0x100, 6, 26, 0x0⟩
def F.INK_S_WADDR_HI (n : Nat) : Field := ⟨0x81014 + n * 0x100, 0, 32, 0x0⟩
def F.INK_S_MISSED (n : Nat) : Field := ⟨0x81018 + n * 0x100, 0, 32, 0x0⟩
def F.INK_S_HD_MAP_EN (n : Nat) (k : Nat) : Field := ⟨0x82000 + n * 0x400 + k * 0x10, 31, 1, 0x0⟩
def F.INK_S_HD_MAP_REV (n : Nat) (k : Nat) : Field := ⟨0x82000 + n * 0x400 + k * 0x10, 30, 1, 0x0⟩
def F.INK_S_HD_MAP_HUB (n : Nat) (k : Nat) : Field := ⟨0x82000 + n * 0x400 + k * 0x10, 29, 1, 0x0⟩
def F.INK_S_HD_MAP_PORT (n : Nat) (k : Nat) : Field := ⟨0x82000 + n * 0x400 + k * 0x10, 24, 5, 0x0⟩
def F.INK_S_HD_MAP_FIRST (n : Nat) (k : Nat) : Field := ⟨0x82000 + n * 0x400 + k * 0x10, 0, 16, 0x0⟩
def F.INK_S_HD_CFG_DLY (n : Nat) (k : Nat) : Field := ⟨0x82004 + n * 0x400 + k * 0x10, 24, 8, 0x0⟩
def F.INK_S_HD_CFG_TICKLE (n : Nat) (k : Nat) : Field := ⟨0x82004 + n * 0x400 + k * 0x10, 23, 1, 0x0⟩
def F.INK_S_HD_CFG_GROUP (n : Nat) (k : Nat) : Field := ⟨0x82004 + n * 0x400 + k * 0x10, 21, 2, 0x0⟩
def F.INK_S_HD_CFG_ROWOFS (n : Nat) (k : Nat) : Field := ⟨0x82004 + n * 0x400 + k * 0x10, 16, 5, 0x0⟩
def F.INK_S_HD_CFG_COUNT (n : Nat) (k : Nat) : Field := ⟨0x82004 + n * 0x400 + k * 0x10, 0, 13, 0x0⟩
def F.INK_S_HD_TEMP_S (n : Nat) (k : Nat) : Field := ⟨0x82008 + n * 0x400 + k * 0x10, 16, 16, 0x0⟩
def F.INK_S_HD_TEMP_T (n : Nat) (k : Nat) : Field := ⟨0x82008 + n * 0x400 + k * 0x10, 0, 16, 0x0⟩
def F.INK_S_HD_SCALE_USED (n : Nat) (k : Nat) : Field := ⟨0x8200C + n * 0x400 + k * 0x10, 16, 16, 0x4000⟩
def F.INK_S_HD_SCALE_AGE (n : Nat) (k : Nat) : Field := ⟨0x8200C + n * 0x400 + k * 0x10, 0, 16, 0x4000⟩
def F.EPS_FLAM_COUNT : Field := ⟨0xA0000, 0, 8, 0x0⟩
def F.EPS_LOCK_LOCK : Field := ⟨0xA0004, 0, 1, 0x0⟩
def F.EPS_FZ_CTL_EN (n : Nat) : Field := ⟨0xA0100 + n * 0x20, 31, 1, 0x0⟩
def F.EPS_FZ_CTL_STATION (n : Nat) : Field := ⟨0xA0100 + n * 0x20, 28, 2, 0x0⟩
def F.EPS_FZ_CTL_TH (n : Nat) : Field := ⟨0xA0100 + n * 0x20, 24, 4, 0x0⟩
def F.EPS_FZ_CTL_BAND (n : Nat) : Field := ⟨0xA0100 + n * 0x20, 16, 8, 0xA⟩
def F.EPS_FZ_CTL_SETPT (n : Nat) : Field := ⟨0xA0100 + n * 0x20, 0, 16, 0x0⟩
def F.EPS_FZ_DUTY_N (n : Nat) : Field := ⟨0xA0104 + n * 0x20, 8, 8, 0x1⟩
def F.EPS_FZ_DUTY_M (n : Nat) : Field := ⟨0xA0104 + n * 0x20, 0, 8, 0x0⟩
def F.EPS_FZ_CUT (n : Nat) : Field := ⟨0xA0108 + n * 0x20, 0, 12, 0x0⟩
def F.EPS_FZ_STATUS_ZC_LOST (n : Nat) : Field := ⟨0xA010C + n * 0x20, 5, 1, 0x0⟩
def F.EPS_FZ_STATUS_CUT (n : Nat) : Field := ⟨0xA010C + n * 0x20, 4, 1, 0x0⟩
def F.EPS_FZ_STATUS_IN_BAND (n : Nat) : Field := ⟨0xA010C + n * 0x20, 3, 1, 0x0⟩
def F.EPS_FZ_STATUS_HEAT (n : Nat) : Field := ⟨0xA010C + n * 0x20, 2, 1, 0x0⟩
def F.EPS_FZ_STATUS_SENS_BAD (n : Nat) : Field := ⟨0xA010C + n * 0x20, 1, 1, 0x0⟩
def F.EPS_FZ_STATUS_TEMP_OUT (n : Nat) : Field := ⟨0xA010C + n * 0x20, 0, 1, 0x0⟩
def F.EPS_FZ_TEMP (n : Nat) : Field := ⟨0xA0110 + n * 0x20, 0, 16, 0x0⟩
def F.EPS_HV_CFG_EN (n : Nat) : Field := ⟨0xA0800 + n * 0x20, 31, 1, 0x0⟩
def F.EPS_HV_CFG_ARCEN (n : Nat) : Field := ⟨0xA0800 + n * 0x20, 30, 1, 0x1⟩
def F.EPS_HV_CFG_MON (n : Nat) : Field := ⟨0xA0800 + n * 0x20, 24, 5, 0x1F⟩
def F.EPS_HV_CFG_ARC_N (n : Nat) : Field := ⟨0xA0800 + n * 0x20, 20, 4, 0x4⟩
def F.EPS_HV_CFG_ARC_TOL (n : Nat) : Field := ⟨0xA0800 + n * 0x20, 8, 12, 0x100⟩
def F.EPS_HV_CFG_TOL (n : Nat) : Field := ⟨0xA0800 + n * 0x20, 0, 8, 0x20⟩
def F.EPS_HV_SET (n : Nat) : Field := ⟨0xA0804 + n * 0x20, 0, 16, 0x0⟩
def F.EPS_HV_RAMP_MGAIN (n : Nat) : Field := ⟨0xA0808 + n * 0x20, 16, 16, 0x1000⟩
def F.EPS_HV_RAMP_RAMP (n : Nat) : Field := ⟨0xA0808 + n * 0x20, 0, 16, 0x40⟩
def F.EPS_HV_STATUS_OUT (n : Nat) : Field := ⟨0xA080C + n * 0x20, 16, 16, 0x0⟩
def F.EPS_HV_STATUS_ARC_LATCH (n : Nat) : Field := ⟨0xA080C + n * 0x20, 3, 1, 0x0⟩
def F.EPS_HV_STATUS_ARC (n : Nat) : Field := ⟨0xA080C + n * 0x20, 2, 1, 0x0⟩
def F.EPS_HV_STATUS_AT_SET (n : Nat) : Field := ⟨0xA080C + n * 0x20, 1, 1, 0x0⟩
def F.EPS_HV_STATUS_RAMPING (n : Nat) : Field := ⟨0xA080C + n * 0x20, 0, 1, 0x0⟩
def F.EPS_HV_MON (n : Nat) : Field := ⟨0xA0810 + n * 0x20, 0, 16, 0x0⟩
def F.EPS_S_CFG_FOLLOW (n : Nat) : Field := ⟨0xA1000 + n * 0x400, 31, 1, 0x1⟩
def F.EPS_S_CFG_BEAMREV (n : Nat) : Field := ⟨0xA1000 + n * 0x400, 30, 1, 0x0⟩
def F.EPS_S_CFG_SCANDIR (n : Nat) : Field := ⟨0xA1000 + n * 0x400, 29, 1, 0x0⟩
def F.EPS_S_CFG_BDBEAM (n : Nat) : Field := ⟨0xA1000 + n * 0x400, 26, 3, 0x0⟩
def F.EPS_S_CFG_BD_EDGE (n : Nat) : Field := ⟨0xA1000 + n * 0x400, 25, 1, 0x0⟩
def F.EPS_S_STATUS_STATE (n : Nat) : Field := ⟨0xA1004 + n * 0x400, 28, 4, 0x0⟩
def F.EPS_S_STATUS_STEP (n : Nat) : Field := ⟨0xA1004 + n * 0x400, 24, 4, 0x0⟩
def F.EPS_S_STATUS_BELOW_VMIN (n : Nat) : Field := ⟨0xA1004 + n * 0x400, 10, 1, 0x0⟩
def F.EPS_S_STATUS_PHLOCK (n : Nat) : Field := ⟨0xA1004 + n * 0x400, 9, 1, 0x0⟩
def F.EPS_S_STATUS_BD_OK (n : Nat) : Field := ⟨0xA1004 + n * 0x400, 8, 1, 0x0⟩
def F.EPS_S_STATUS_APC_ERR (n : Nat) : Field := ⟨0xA1004 + n * 0x400, 7, 1, 0x0⟩
def F.EPS_S_STATUS_BEAM_FLT (n : Nat) : Field := ⟨0xA1004 + n * 0x400, 6, 1, 0x0⟩
def F.EPS_S_STATUS_HV_ARC (n : Nat) : Field := ⟨0xA1004 + n * 0x400, 5, 1, 0x0⟩
def F.EPS_S_STATUS_XSPOIL (n : Nat) : Field := ⟨0xA1004 + n * 0x400, 4, 1, 0x0⟩
def F.EPS_S_STATUS_SQUASH (n : Nat) : Field := ⟨0xA1004 + n * 0x400, 3, 1, 0x0⟩
def F.EPS_S_STATUS_BD_LOST (n : Nat) : Field := ⟨0xA1004 + n * 0x400, 2, 1, 0x0⟩
def F.EPS_S_STATUS_BD_MISS (n : Nat) : Field := ⟨0xA1004 + n * 0x400, 1, 1, 0x0⟩
def F.EPS_S_STATUS_PIX_CLAMP (n : Nat) : Field := ⟨0xA1004 + n * 0x400, 0, 1, 0x0⟩
def F.EPS_S_PPF (n : Nat) : Field := ⟨0xA1008 + n * 0x400, 0, 32, 0x0⟩
def F.EPS_S_MAG (n : Nat) : Field := ⟨0xA100C + n * 0x400, 0, 32, 0x0⟩
def F.EPS_S_SCAN_LEAD (n : Nat) : Field := ⟨0xA1010 + n * 0x400, 16, 16, 0x3C0⟩
def F.EPS_S_SCAN_SOS (n : Nat) : Field := ⟨0xA1010 + n * 0x400, 0, 16, 0x1E0⟩
def F.EPS_S_APCWIN_APC_LEN (n : Nat) : Field := ⟨0xA1014 + n * 0x400, 16, 16, 0x100⟩
def F.EPS_S_APCWIN_APC_OFS (n : Nat) : Field := ⟨0xA1014 + n * 0x400, 0, 16, 0x40⟩
def F.EPS_S_XPHASE (n : Nat) : Field := ⟨0xA1018 + n * 0x400, 0, 32, 0x0⟩
def F.EPS_S_XWIN_XMISS (n : Nat) : Field := ⟨0xA101C + n * 0x400, 8, 8, 0x4⟩
def F.EPS_S_XWIN_XTOL (n : Nat) : Field := ⟨0xA101C + n * 0x400, 0, 8, 0x20⟩
def F.EPS_S_XERR (n : Nat) : Field := ⟨0xA1020 + n * 0x400, 0, 16, 0x0⟩
def F.EPS_S_BDT_LO (n : Nat) : Field := ⟨0xA1024 + n * 0x400, 0, 32, 0x0⟩
def F.EPS_S_BDT_HI (n : Nat) : Field := ⟨0xA1028 + n * 0x400, 0, 32, 0x0⟩
def F.EPS_S_TFAC (n : Nat) : Field := ⟨0xA102C + n * 0x400, 0, 32, 0x0⟩
def F.EPS_S_PRAT_LO (n : Nat) : Field := ⟨0xA1030 + n * 0x400, 0, 32, 0x0⟩
def F.EPS_S_PRAT_HI (n : Nat) : Field := ⟨0xA1034 + n * 0x400, 0, 32, 0x0⟩
def F.EPS_S_FPOS_LO (n : Nat) : Field := ⟨0xA1038 + n * 0x400, 0, 16, 0x0⟩
def F.EPS_S_FPOS_HI (n : Nat) : Field := ⟨0xA103C + n * 0x400, 0, 32, 0x0⟩
def F.EPS_S_VMIN (n : Nat) : Field := ⟨0xA1040 + n * 0x400, 0, 16, 0x12C⟩
def F.EPS_S_POLY_CHAN (n : Nat) : Field := ⟨0xA1044 + n * 0x400, 28, 4, 0x0⟩
def F.EPS_S_POLY_FACETS (n : Nat) : Field := ⟨0xA1044 + n * 0x400, 24, 4, 0xB⟩
def F.EPS_S_POLY_SPINUP (n : Nat) : Field := ⟨0xA1044 + n * 0x400, 16, 8, 0x64⟩
def F.EPS_S_POLY_RPM_MAX (n : Nat) : Field := ⟨0xA1044 + n * 0x400, 0, 16, 0xEA60⟩
def F.EPS_S_DRUM_AXIS (n : Nat) : Field := ⟨0xA1048 + n * 0x400, 24, 5, 0x0⟩
def F.EPS_S_DRUM_DEVDLY (n : Nat) : Field := ⟨0xA1048 + n * 0x400, 0, 16, 0x0⟩
def F.EPS_S_APC_CTL_SPIDIV (n : Nat) : Field := ⟨0xA104C + n * 0x400, 16, 8, 0x5⟩
def F.EPS_S_APC_CTL_DRIVE_MAX (n : Nat) : Field := ⟨0xA104C + n * 0x400, 0, 16, 0x2710⟩
def F.EPS_S_BDLY (n : Nat) (k : Nat) : Field := ⟨0xA1060 + n * 0x400 + k * 0x4, 0, 12, 0x0⟩
def F.EPS_S_PTAB_LAST (n : Nat) (k : Nat) : Field := ⟨0xA1080 + n * 0x400 + k * 0x4, 4, 4, ptabLast k⟩
def F.EPS_S_PTAB_FIRST (n : Nat) (k : Nat) : Field := ⟨0xA1080 + n * 0x400 + k * 0x4, 0, 4, ptabFirst k⟩
def F.EPS_S_APC_DRIVE (n : Nat) (k : Nat) : Field := ⟨0xA10C0 + n * 0x400 + k * 0x4, 16, 16, 0x0⟩
def F.EPS_S_APC_TARGET (n : Nat) (k : Nat) : Field := ⟨0xA10C0 + n * 0x400 + k * 0x4, 0, 16, 0x0⟩
def F.CHG_STATUS_SPLICE_CUT : Field := ⟨0xC0000, 11, 1, 0x0⟩
def F.CHG_STATUS_CANCELLED : Field := ⟨0xC0000, 10, 1, 0x0⟩
def F.CHG_STATUS_NOTAPP : Field := ⟨0xC0000, 9, 1, 0x0⟩
def F.CHG_STATUS_REJECTED : Field := ⟨0xC0000, 8, 1, 0x0⟩
def F.CHG_STATUS_PEND : Field := ⟨0xC0000, 0, 3, 0x0⟩
def F.CHG_CS_ADDR_LO : Field := ⟨0xC0008, 6, 26, 0x0⟩
def F.CHG_CS_ADDR_HI : Field := ⟨0xC000C, 0, 32, 0x0⟩
def F.CHG_CS_CMD_GO : Field := ⟨0xC0010, 31, 1, 0x0⟩
def F.CHG_CS_CMD_OP : Field := ⟨0xC0010, 16, 2, 0x0⟩
def F.CHG_CS_CMD_EPOCH : Field := ⟨0xC0010, 0, 16, 0x0⟩
def F.CHG_CS_RESULT_EPOCH : Field := ⟨0xC0014, 16, 16, 0x0⟩
def F.CHG_CS_RESULT_REJ : Field := ⟨0xC0014, 0, 4, 0x0⟩
def F.CHG_FLAM_COUNT : Field := ⟨0xC0018, 0, 8, 0x0⟩
def F.CHG_LOCK_LOCK : Field := ⟨0xC001C, 0, 1, 0x0⟩
def F.CHG_CS_STATE_EPOCH (n : Nat) : Field := ⟨0xC0040 + n * 0x20, 16, 16, 0x0⟩
def F.CHG_CS_STATE_MASK (n : Nat) : Field := ⟨0xC0040 + n * 0x20, 8, 8, 0x0⟩
def F.CHG_CS_STATE_STATE (n : Nat) : Field := ⟨0xC0040 + n * 0x20, 0, 2, 0x0⟩
def F.CHG_CS_DONE_NOTAPP (n : Nat) : Field := ⟨0xC0044 + n * 0x20, 8, 8, 0x0⟩
def F.CHG_CS_DONE_APPLIED (n : Nat) : Field := ⟨0xC0044 + n * 0x20, 0, 8, 0x0⟩
def F.CHG_CS_SPLICE_LO (n : Nat) : Field := ⟨0xC0048 + n * 0x20, 0, 32, 0x0⟩
def F.CHG_CS_SPLICE_HI (n : Nat) : Field := ⟨0xC004C + n * 0x20, 0, 32, 0x0⟩
def F.CHG_CS_JOB (n : Nat) : Field := ⟨0xC0050 + n * 0x20, 0, 32, 0x0⟩
def F.CHG_S_CONF_CLEAD (n : Nat) : Field := ⟨0xC0100 + n * 0x20, 16, 16, 0x960⟩
def F.CHG_S_CONF_CWIN (n : Nat) : Field := ⟨0xC0100 + n * 0x20, 0, 8, 0x10⟩
def F.CHG_S_STATUS_EPOCH (n : Nat) : Field := ⟨0xC0104 + n * 0x20, 16, 16, 0x0⟩
def F.CHG_S_STATUS_REVLIM (n : Nat) : Field := ⟨0xC0104 + n * 0x20, 11, 1, 0x0⟩
def F.CHG_S_STATUS_LOST (n : Nat) : Field := ⟨0xC0104 + n * 0x20, 10, 1, 0x0⟩
def F.CHG_S_STATUS_SQUASH (n : Nat) : Field := ⟨0xC0104 + n * 0x20, 9, 1, 0x0⟩
def F.CHG_S_STATUS_NOTAPP (n : Nat) : Field := ⟨0xC0104 + n * 0x20, 8, 1, 0x0⟩
def F.CHG_S_STATUS_BEHIND (n : Nat) : Field := ⟨0xC0104 + n * 0x20, 0, 1, 0x0⟩
def F.CHG_S_JOB (n : Nat) : Field := ⟨0xC0108 + n * 0x20, 0, 32, 0x0⟩
def F.CHG_S_SPLICE_LINE (n : Nat) : Field := ⟨0xC010C + n * 0x20, 0, 32, 0x0⟩
def F.CHG_S_LOST (n : Nat) : Field := ⟨0xC0110 + n * 0x20, 0, 32, 0x0⟩
def F.CHG_LED_BASE_LO : Field := ⟨0xC0200, 22, 10, 0x0⟩
def F.CHG_LED_BASE_HI : Field := ⟨0xC0204, 0, 32, 0x0⟩
def F.CHG_LED_STATUS_FLUSHED : Field := ⟨0xC020C, 2, 1, 0x0⟩
def F.CHG_LED_STATUS_SPILL : Field := ⟨0xC020C, 1, 1, 0x0⟩
def F.CHG_LED_STATUS_OVERRUN : Field := ⟨0xC020C, 0, 1, 0x0⟩
def F.CHG_LED_W : Field := ⟨0xC0210, 0, 32, 0x0⟩
def F.CHG_LED_R : Field := ⟨0xC0214, 0, 32, 0x0⟩
def F.CHG_LED_F : Field := ⟨0xC0218, 0, 32, 0x0⟩
def F.CHG_LED_OPEN : Field := ⟨0xC021C, 0, 32, 0x0⟩
def F.MLT_CTL_AUTOTAKE : Field := ⟨0xD0000, 0, 1, 0x1⟩
def F.MLT_SPARES_FREE : Field := ⟨0xD0004, 0, 4, 0xF⟩
def F.MLT_HALTED_LO : Field := ⟨0xD0008, 0, 32, 0x0⟩
def F.MLT_HALTED_HI : Field := ⟨0xD000C, 0, 32, 0x0⟩
def F.MLT_ASSIGN_GO : Field := ⟨0xD0010, 31, 1, 0x0⟩
def F.MLT_ASSIGN_OP : Field := ⟨0xD0010, 29, 2, 0x0⟩
def F.MLT_ASSIGN_ROLE : Field := ⟨0xD0010, 16, 6, 0x0⟩
def F.MLT_ASSIGN_MALLET : Field := ⟨0xD0010, 0, 6, 0x0⟩
def F.MLT_ASSIGN_RESULT_EPOCH : Field := ⟨0xD0014, 16, 16, 0x0⟩
def F.MLT_ASSIGN_RESULT_ERR : Field := ⟨0xD0014, 0, 4, 0x0⟩
def F.MLT_FLAM_COUNT : Field := ⟨0xD0018, 0, 8, 0x0⟩
def F.MLT_LOCK_LOCK : Field := ⟨0xD001C, 0, 1, 0x0⟩
def F.MLT_IMGSTORE_LO : Field := ⟨0xD0020, 23, 9, 0x0⟩
def F.MLT_IMGSTORE_HI : Field := ⟨0xD0024, 0, 32, 0x0⟩
def F.MLT_MSM_ECC : Field := ⟨0xD0028, 0, 32, 0x0⟩
def F.MLT_HOST_TX (n : Nat) : Field := ⟨0xD0040 + n * 0x4, 0, 32, 0x0⟩
def F.MLT_HOST_TXCMD_GO : Field := ⟨0xD0050, 0, 1, 0x0⟩
def F.MLT_HOST_RX (n : Nat) : Field := ⟨0xD0060 + n * 0x4, 0, 32, 0x0⟩
def F.MLT_HOST_RXSTAT_POP : Field := ⟨0xD0070, 31, 1, 0x0⟩
def F.MLT_HOST_RXSTAT_BOUNCE : Field := ⟨0xD0070, 8, 1, 0x0⟩
def F.MLT_HOST_RXSTAT_COUNT : Field := ⟨0xD0070, 0, 7, 0x0⟩
def F.MLT_ROLE_MAP_BOUND (n : Nat) : Field := ⟨0xD0400 + n * 0x8, 31, 1, 0x0⟩
def F.MLT_ROLE_MAP_MALLET (n : Nat) : Field := ⟨0xD0400 + n * 0x8, 24, 6, 0x0⟩
def F.MLT_ROLE_MAP_STATION (n : Nat) : Field := ⟨0xD0400 + n * 0x8, 16, 8, 0xFF⟩
def F.MLT_ROLE_MAP_EPOCH (n : Nat) : Field := ⟨0xD0400 + n * 0x8, 0, 16, 0x0⟩
def F.MLT_ROLE_PRIV_WRMASK (n : Nat) : Field := ⟨0xD0404 + n * 0x8, 10, 22, 0x0⟩
def F.MLT_ROLE_PRIV_PRIV (n : Nat) : Field := ⟨0xD0404 + n * 0x8, 0, 6, 0x0⟩
def F.MLT_M_CTL_HALT (n : Nat) : Field := ⟨0xD1000 + n * 0x40, 0, 1, 0x0⟩
def F.MLT_M_STATUS_KIND (n : Nat) : Field := ⟨0xD1004 + n * 0x40, 31, 1, malletKind n⟩
def F.MLT_M_STATUS_SPARE (n : Nat) : Field := ⟨0xD1004 + n * 0x40, 30, 1, malletSpare n⟩
def F.MLT_M_STATUS_ECC_T (n : Nat) : Field := ⟨0xD1004 + n * 0x40, 10, 1, 0x0⟩
def F.MLT_M_STATUS_BOUNCE_LOST (n : Nat) : Field := ⟨0xD1004 + n * 0x40, 9, 1, 0x0⟩
def F.MLT_M_STATUS_EXC (n : Nat) : Field := ⟨0xD1004 + n * 0x40, 8, 1, 0x0⟩
def F.MLT_M_STATUS_WHY (n : Nat) : Field := ⟨0xD1004 + n * 0x40, 4, 4, 0x0⟩
def F.MLT_M_STATUS_STATE (n : Nat) : Field := ⟨0xD1004 + n * 0x40, 0, 2, 0x0⟩
def F.MLT_M_PC (n : Nat) : Field := ⟨0xD1008 + n * 0x40, 0, 32, 0x0⟩
def F.MLT_M_CAUSE (n : Nat) : Field := ⟨0xD100C + n * 0x40, 0, 32, 0x0⟩
def F.MLT_M_EPC (n : Nat) : Field := ⟨0xD1010 + n * 0x40, 0, 32, 0x0⟩
def F.MLT_M_WDOG (n : Nat) : Field := ⟨0xD1014 + n * 0x40, 0, 24, 0x0⟩
def F.MLT_M_QUEUE_BOUNCE (n : Nat) : Field := ⟨0xD1018 + n * 0x40, 16, 5, 0x0⟩
def F.MLT_M_QUEUE_INQ (n : Nat) : Field := ⟨0xD1018 + n * 0x40, 0, 7, 0x0⟩
def F.MLT_M_ECC (n : Nat) : Field := ⟨0xD101C + n * 0x40, 0, 32, 0x0⟩
def F.MLT_M_PORT_TYPE (n : Nat) (k : Nat) : Field := ⟨0xD6000 + n * 0x400 + k * 0x4, 28, 4, 0x0⟩
def F.MLT_M_PORT_TARGET (n : Nat) (k : Nat) : Field := ⟨0xD6000 + n * 0x400 + k * 0x4, 16, 11, 0x0⟩
def F.MLT_M_PORT_ARG (n : Nat) (k : Nat) : Field := ⟨0xD6000 + n * 0x400 + k * 0x4, 0, 16, 0x0⟩
def F.AXS_FLAM_COUNT : Field := ⟨0xE0000, 0, 8, 0x0⟩
def F.AXS_TCMD_GO : Field := ⟨0xE0010, 31, 1, 0x0⟩
def F.AXS_TCMD_UNIT : Field := ⟨0xE0010, 16, 5, 0x0⟩
def F.AXS_TCMD_KIND : Field := ⟨0xE0010, 4, 4, 0x0⟩
def F.AXS_TCMD_OP : Field := ⟨0xE0010, 0, 3, 0x0⟩
def F.AXS_TERR : Field := ⟨0xE0014, 0, 4, 0x0⟩
def F.AXS_TADDR_LO : Field := ⟨0xE0018, 6, 26, 0x0⟩
def F.AXS_TADDR_HI : Field := ⟨0xE001C, 0, 32, 0x0⟩
def F.AXS_SSI_MONO (n : Nat) : Field := ⟨0xE0020 + n * 0x4, 16, 8, 0x0⟩
def F.AXS_SSI_CRC_EN (n : Nat) : Field := ⟨0xE0020 + n * 0x4, 15, 1, 0x0⟩
def F.AXS_SSI_GRAY (n : Nat) : Field := ⟨0xE0020 + n * 0x4, 14, 1, 0x0⟩
def F.AXS_SSI_CLKDIV (n : Nat) : Field := ⟨0xE0020 + n * 0x4, 6, 8, 0xF⟩
def F.AXS_SSI_BITS (n : Nat) : Field := ⟨0xE0020 + n * 0x4, 0, 6, 0x18⟩
def F.AXS_LT_CTL_EN (n : Nat) : Field := ⟨0xE0100 + n * 0x10, 31, 1, 0x0⟩
def F.AXS_LT_CTL_ROLE (n : Nat) : Field := ⟨0xE0100 + n * 0x10, 16, 6, 0x3F⟩
def F.AXS_LT_PERIOD (n : Nat) : Field := ⟨0xE0104 + n * 0x10, 0, 24, 0x249F⟩
def F.AXS_LT_PHASE (n : Nat) : Field := ⟨0xE0108 + n * 0x10, 0, 24, 0x0⟩
def F.AXS_LT_STATUS_LATE (n : Nat) : Field := ⟨0xE010C + n * 0x10, 16, 16, 0x0⟩
def F.AXS_LT_STATUS_REFUSED (n : Nat) : Field := ⟨0xE010C + n * 0x10, 1, 1, 0x0⟩
def F.AXS_LT_STATUS_RUNNING (n : Nat) : Field := ⟨0xE010C + n * 0x10, 0, 1, 0x0⟩
def F.AXS_G_CTL_LEADER (n : Nat) : Field := ⟨0xE0200 + n * 0x8, 24, 5, 0x0⟩
def F.AXS_G_CTL_MASK (n : Nat) : Field := ⟨0xE0200 + n * 0x8, 0, 24, 0x0⟩
def F.AXS_G_STATUS_STATE (n : Nat) : Field := ⟨0xE0204 + n * 0x8, 28, 4, 0x0⟩
def F.AXS_G_STATUS_REJ (n : Nat) : Field := ⟨0xE0204 + n * 0x8, 24, 4, 0x0⟩
def F.TR_CTL_ARM (n : Nat) : Field := ⟨0xE0300 + n * 0x40, 31, 1, 0x0⟩
def F.TR_CTL_FORCE (n : Nat) : Field := ⟨0xE0300 + n * 0x40, 30, 1, 0x0⟩
def F.TR_CTL_CLKSRC (n : Nat) : Field := ⟨0xE0300 + n * 0x40, 29, 1, 0x0⟩
def F.TR_CTL_TIMER (n : Nat) : Field := ⟨0xE0300 + n * 0x40, 25, 4, 0x0⟩
def F.TR_CTL_DIV (n : Nat) : Field := ⟨0xE0300 + n * 0x40, 13, 12, 0x1⟩
def F.TR_CTL_PRE (n : Nat) : Field := ⟨0xE0300 + n * 0x40, 0, 13, 0x1000⟩
def F.TR_TRIG_MODE (n : Nat) : Field := ⟨0xE0304 + n * 0x40, 30, 2, 0x3⟩
def F.TR_TRIG_EVENT (n : Nat) : Field := ⟨0xE0304 + n * 0x40, 0, 8, 0x0⟩
def F.TR_THRESH (n : Nat) : Field := ⟨0xE0308 + n * 0x40, 0, 32, 0x0⟩
def F.TR_STATUS_STATE (n : Nat) : Field := ⟨0xE030C + n * 0x40, 30, 2, 0x0⟩
def F.TR_STATUS_PREVALID (n : Nat) : Field := ⟨0xE030C + n * 0x40, 0, 13, 0x0⟩
def F.TR_TTIME_LO (n : Nat) : Field := ⟨0xE0310 + n * 0x40, 0, 32, 0x0⟩
def F.TR_TTIME_HI (n : Nat) : Field := ⟨0xE0314 + n * 0x40, 0, 32, 0x0⟩
def F.TR_RDADDR_CHAN (n : Nat) : Field := ⟨0xE0318 + n * 0x40, 13, 3, 0x0⟩
def F.TR_RDADDR_INDEX (n : Nat) : Field := ⟨0xE0318 + n * 0x40, 0, 13, 0x0⟩
def F.TR_RDDATA (n : Nat) : Field := ⟨0xE031C + n * 0x40, 0, 32, 0x0⟩
def F.TR_SRC_EN (n : Nat) (k : Nat) : Field := ⟨0xE0320 + n * 0x40 + k * 0x4, 31, 1, 0x0⟩
def F.TR_SRC_OFFSET (n : Nat) (k : Nat) : Field := ⟨0xE0320 + n * 0x40 + k * 0x4, 0, 24, 0x0⟩
def F.AXS_A_CTL_EN (n : Nat) : Field := ⟨0xE1000 + n * 0x100, 31, 1, 0x0⟩
def F.AXS_A_CTL_SWITCH (n : Nat) : Field := ⟨0xE1000 + n * 0x100, 30, 1, 0x0⟩
def F.AXS_A_CFG_TIMER (n : Nat) : Field := ⟨0xE1004 + n * 0x100, 28, 4, 0x0⟩
def F.AXS_A_CFG_UNIDIR (n : Nat) : Field := ⟨0xE1004 + n * 0x100, 27, 1, 0x0⟩
def F.AXS_A_CFG_ALT_EN (n : Nat) : Field := ⟨0xE1004 + n * 0x100, 26, 1, 0x0⟩
def F.AXS_A_CFG_SLS (n : Nat) : Field := ⟨0xE1004 + n * 0x100, 25, 1, 0x0⟩
def F.AXS_A_CFG_FB (n : Nat) : Field := ⟨0xE1004 + n * 0x100, 20, 5, 0x1F⟩
def F.AXS_A_CFG_ALT (n : Nat) : Field := ⟨0xE1004 + n * 0x100, 15, 5, 0x1F⟩
def F.AXS_A_CFG_SLSCH (n : Nat) : Field := ⟨0xE1004 + n * 0x100, 11, 4, 0x0⟩
def F.AXS_A_CFG_OUT (n : Nat) : Field := ⟨0xE1004 + n * 0x100, 0, 11, 0x7FF⟩
def F.AXS_A_STATUS_STATE (n : Nat) : Field := ⟨0xE1008 + n * 0x100, 28, 4, 0x0⟩
def F.AXS_A_STATUS_REJ (n : Nat) : Field := ⟨0xE1008 + n * 0x100, 24, 4, 0x0⟩
def F.AXS_A_STATUS_FBUSE (n : Nat) : Field := ⟨0xE1008 + n * 0x100, 22, 2, 0x0⟩
def F.AXS_A_STATUS_SYNC (n : Nat) : Field := ⟨0xE1008 + n * 0x100, 21, 1, 0x0⟩
def F.AXS_A_STATUS_HOMED (n : Nat) : Field := ⟨0xE1008 + n * 0x100, 20, 1, 0x0⟩
def F.AXS_A_STATUS_COASTING (n : Nat) : Field := ⟨0xE1008 + n * 0x100, 19, 1, 0x0⟩
def F.AXS_A_STATUS_LIMN_ACT (n : Nat) : Field := ⟨0xE1008 + n * 0x100, 18, 1, 0x0⟩
def F.AXS_A_STATUS_LIMP_ACT (n : Nat) : Field := ⟨0xE1008 + n * 0x100, 17, 1, 0x0⟩
def F.AXS_A_STATUS_CFG_ERR (n : Nat) : Field := ⟨0xE1008 + n * 0x100, 16, 1, 0x0⟩
def F.AXS_A_STATUS_BANK_LATE (n : Nat) : Field := ⟨0xE1008 + n * 0x100, 11, 1, 0x0⟩
def F.AXS_A_STATUS_GEAR_OVS (n : Nat) : Field := ⟨0xE1008 + n * 0x100, 10, 1, 0x0⟩
def F.AXS_A_STATUS_HOME_UNSTABLE (n : Nat) : Field := ⟨0xE1008 + n * 0x100, 9, 1, 0x0⟩
def F.AXS_A_STATUS_HOME_ABORT (n : Nat) : Field := ⟨0xE1008 + n * 0x100, 8, 1, 0x0⟩
def F.AXS_A_STATUS_LIMIT (n : Nat) : Field := ⟨0xE1008 + n * 0x100, 7, 1, 0x0⟩
def F.AXS_A_STATUS_BEHIND (n : Nat) : Field := ⟨0xE1008 + n * 0x100, 6, 1, 0x0⟩
def F.AXS_A_STATUS_CMD_REJ (n : Nat) : Field := ⟨0xE1008 + n * 0x100, 5, 1, 0x0⟩
def F.AXS_A_STATUS_COAST_EXP (n : Nat) : Field := ⟨0xE1008 + n * 0x100, 4, 1, 0x0⟩
def F.AXS_A_STATUS_IMPLAUSIBLE (n : Nat) : Field := ⟨0xE1008 + n * 0x100, 3, 1, 0x0⟩
def F.AXS_A_STATUS_FROZEN (n : Nat) : Field := ⟨0xE1008 + n * 0x100, 2, 1, 0x0⟩
def F.AXS_A_STATUS_LOST (n : Nat) : Field := ⟨0xE1008 + n * 0x100, 1, 1, 0x0⟩
def F.AXS_A_STATUS_STALL (n : Nat) : Field := ⟨0xE1008 + n * 0x100, 0, 1, 0x0⟩
def F.AXS_A_CMD_GO (n : Nat) : Field := ⟨0xE100C + n * 0x100, 31, 1, 0x0⟩
def F.AXS_A_CMD_CODE (n : Nat) : Field := ⟨0xE100C + n * 0x100, 0, 4, 0x0⟩
def F.AXS_A_CMDARG (n : Nat) : Field := ⟨0xE1010 + n * 0x100, 0, 32, 0x0⟩
def F.AXS_A_TSTAT_PEND (n : Nat) : Field := ⟨0xE1014 + n * 0x100, 5, 1, 0x0⟩
def F.AXS_A_TSTAT_DAMAGED (n : Nat) : Field := ⟨0xE1014 + n * 0x100, 4, 1, 0x0⟩
def F.AXS_A_TSTAT_ENGAGED (n : Nat) : Field := ⟨0xE1014 + n * 0x100, 3, 1, 0x0⟩
def F.AXS_A_TSTAT_STATE (n : Nat) : Field := ⟨0xE1014 + n * 0x100, 1, 2, 0x0⟩
def F.AXS_A_TSTAT_ACTIVE (n : Nat) : Field := ⟨0xE1014 + n * 0x100, 0, 1, 0x0⟩
def F.AXS_A_POS_LO (n : Nat) : Field := ⟨0xE1018 + n * 0x100, 0, 32, 0x0⟩
def F.AXS_A_POS_HI (n : Nat) : Field := ⟨0xE101C + n * 0x100, 0, 32, 0x0⟩
def F.AXS_A_ACT_LO (n : Nat) : Field := ⟨0xE1020 + n * 0x100, 0, 32, 0x0⟩
def F.AXS_A_ACT_HI (n : Nat) : Field := ⟨0xE1024 + n * 0x100, 0, 32, 0x0⟩
def F.AXS_A_TGT_LO (n : Nat) : Field := ⟨0xE1028 + n * 0x100, 0, 32, 0x0⟩
def F.AXS_A_TGT_HI (n : Nat) : Field := ⟨0xE102C + n * 0x100, 0, 32, 0x0⟩
def F.AXS_A_VEL (n : Nat) : Field := ⟨0xE1030 + n * 0x100, 0, 32, 0x0⟩
def F.AXS_A_VMAX (n : Nat) : Field := ⟨0xE1034 + n * 0x100, 0, 32, 0x0⟩
def F.AXS_A_AMAX (n : Nat) : Field := ⟨0xE1038 + n * 0x100, 0, 32, 0x0⟩
def F.AXS_A_DMAX (n : Nat) : Field := ⟨0xE103C + n * 0x100, 0, 32, 0x0⟩
def F.AXS_A_JMAX (n : Nat) : Field := ⟨0xE1040 + n * 0x100, 0, 32, 0x0⟩
def F.AXS_A_EDEC (n : Nat) : Field := ⟨0xE1044 + n * 0x100, 0, 32, 0x0⟩
def F.AXS_A_GCTL_RCANCEL (n : Nat) : Field := ⟨0xE1048 + n * 0x100, 1, 1, 0x0⟩
def F.AXS_A_GCTL_RPEND (n : Nat) : Field := ⟨0xE1048 + n * 0x100, 0, 1, 0x0⟩
def F.AXS_A_GOFS_LO (n : Nat) : Field := ⟨0xE104C + n * 0x100, 0, 32, 0x0⟩
def F.AXS_A_GOFS_HI (n : Nat) : Field := ⟨0xE1050 + n * 0x100, 0, 32, 0x0⟩
def F.AXS_A_RAT_LO (n : Nat) : Field := ⟨0xE1054 + n * 0x100, 0, 32, 0x0⟩
def F.AXS_A_RAT_HI (n : Nat) : Field := ⟨0xE1058 + n * 0x100, 0, 32, 0x0⟩
def F.AXS_A_RNEXT_LO (n : Nat) : Field := ⟨0xE105C + n * 0x100, 0, 32, 0x0⟩
def F.AXS_A_RNEXT_HI (n : Nat) : Field := ⟨0xE1060 + n * 0x100, 0, 32, 0x0⟩
def F.AXS_A_RAT_AT_LO (n : Nat) : Field := ⟨0xE1064 + n * 0x100, 0, 32, 0x0⟩
def F.AXS_A_RAT_AT_HI (n : Nat) : Field := ⟨0xE1068 + n * 0x100, 0, 32, 0x0⟩
def F.AXS_A_GBIAS (n : Nat) : Field := ⟨0xE106C + n * 0x100, 0, 32, 0x0⟩
def F.AXS_A_REPH_SLEW_SH (n : Nat) : Field := ⟨0xE1070 + n * 0x100, 8, 4, 0x6⟩
def F.AXS_A_REPH_THRESH (n : Nat) : Field := ⟨0xE1070 + n * 0x100, 0, 8, 0x40⟩
def F.AXS_A_HOLD (n : Nat) : Field := ⟨0xE1074 + n * 0x100, 0, 32, 0x0⟩
def F.AXS_A_MA1 (n : Nat) : Field := ⟨0xE1078 + n * 0x100, 0, 32, 0x0⟩
def F.AXS_A_MA2 (n : Nat) : Field := ⟨0xE107C + n * 0x100, 0, 32, 0x0⟩
def F.AXS_A_MB (n : Nat) : Field := ⟨0xE1080 + n * 0x100, 0, 32, 0x0⟩
def F.AXS_A_RLIM_RN (n : Nat) : Field := ⟨0xE1084 + n * 0x100, 24, 8, 0x4⟩
def F.AXS_A_RLIM_RLIM (n : Nat) : Field := ⟨0xE1084 + n * 0x100, 0, 24, 0x0⟩
def F.AXS_A_COAST_FREEZE_N (n : Nat) : Field := ⟨0xE1088 + n * 0x100, 16, 8, 0x10⟩
def F.AXS_A_COAST_COAST_MS (n : Nat) : Field := ⟨0xE1088 + n * 0x100, 0, 16, 0x32⟩
def F.AXS_A_PPR (n : Nat) : Field := ⟨0xE108C + n * 0x100, 0, 32, 0x0⟩
def F.AXS_A_CPR (n : Nat) : Field := ⟨0xE1090 + n * 0x100, 0, 32, 0x0⟩
def F.AXS_A_FF (n : Nat) : Field := ⟨0xE1094 + n * 0x100, 0, 16, 0x0⟩
def F.AXS_A_SWCFG_LIMP_POL (n : Nat) : Field := ⟨0xE1098 + n * 0x100, 31, 1, 0x0⟩
def F.AXS_A_SWCFG_LIMP (n : Nat) : Field := ⟨0xE1098 + n * 0x100, 24, 7, 0x7F⟩
def F.AXS_A_SWCFG_LIMN_POL (n : Nat) : Field := ⟨0xE1098 + n * 0x100, 23, 1, 0x0⟩
def F.AXS_A_SWCFG_LIMN (n : Nat) : Field := ⟨0xE1098 + n * 0x100, 16, 7, 0x7F⟩
def F.AXS_A_SWCFG_HOME_POL (n : Nat) : Field := ⟨0xE1098 + n * 0x100, 15, 1, 0x1⟩
def F.AXS_A_SWCFG_HOME (n : Nat) : Field := ⟨0xE1098 + n * 0x100, 8, 7, 0x7F⟩
def F.AXS_A_SWCFG_QN (n : Nat) : Field := ⟨0xE1098 + n * 0x100, 4, 4, 0x4⟩
def F.AXS_A_HOMECFG_HSNARE (n : Nat) : Field := ⟨0xE109C + n * 0x100, 27, 5, 0x0⟩
def F.AXS_A_HOMECFG_HOLDOFF (n : Nat) : Field := ⟨0xE109C + n * 0x100, 0, 16, 0x7D0⟩
def F.AXS_A_HOMEPOS_LO (n : Nat) : Field := ⟨0xE10A0 + n * 0x100, 0, 32, 0x0⟩
def F.AXS_A_HOMEPOS_HI (n : Nat) : Field := ⟨0xE10A4 + n * 0x100, 0, 32, 0x0⟩
def F.AXS_A_HCAP_LO (n : Nat) : Field := ⟨0xE10A8 + n * 0x100, 0, 32, 0x0⟩
def F.AXS_A_HCAP_HI (n : Nat) : Field := ⟨0xE10AC + n * 0x100, 0, 32, 0x0⟩
def F.AXS_A_CHATTER_CHAT_MAX (n : Nat) : Field := ⟨0xE10B0 + n * 0x100, 8, 8, 0x8⟩
def F.AXS_A_CHATTER_COUNT (n : Nat) : Field := ⟨0xE10B0 + n * 0x100, 0, 8, 0x0⟩
def F.AXS_A_TRANS (n : Nat) : Field := ⟨0xE10B4 + n * 0x100, 0, 32, 0x0⟩
def F.AXS_A_GSTAT_RAT_DONE (n : Nat) : Field := ⟨0xE10B8 + n * 0x100, 11, 1, 0x0⟩
def F.AXS_A_GSTAT_RAT_REJ (n : Nat) : Field := ⟨0xE10B8 + n * 0x100, 9, 1, 0x0⟩
def F.AXS_A_GSTAT_RAT_LATE (n : Nat) : Field := ⟨0xE10B8 + n * 0x100, 8, 1, 0x0⟩
def F.AXS_A_GSTAT_ABSORB (n : Nat) : Field := ⟨0xE10B8 + n * 0x100, 1, 1, 0x0⟩
def F.AXS_A_GSTAT_HOLDING (n : Nat) : Field := ⟨0xE10B8 + n * 0x100, 0, 1, 0x0⟩
def F.STP_CTL_EN (n : Nat) : Field := ⟨0xE3000 + n * 0x40, 31, 1, 0x0⟩
def F.STP_CTL_AXIS (n : Nat) : Field := ⟨0xE3000 + n * 0x40, 24, 5, 0x0⟩
def F.STP_CTL_VBUS (n : Nat) : Field := ⟨0xE3000 + n * 0x40, 20, 4, 0x0⟩
def F.STP_CHOP_PER (n : Nat) : Field := ⟨0xE3004 + n * 0x40, 16, 16, 0xEA6⟩
def F.STP_CHOP_KP (n : Nat) : Field := ⟨0xE3004 + n * 0x40, 8, 8, 0x10⟩
def F.STP_CHOP_KI (n : Nat) : Field := ⟨0xE3004 + n * 0x40, 0, 8, 0x8⟩
def F.STP_CUR_IRUN (n : Nat) : Field := ⟨0xE3008 + n * 0x40, 20, 12, 0x0⟩
def F.STP_CUR_IHOLD (n : Nat) : Field := ⟨0xE3008 + n * 0x40, 8, 12, 0x0⟩
def F.STP_CUR_HOLD_MS (n : Nat) : Field := ⟨0xE3008 + n * 0x40, 0, 8, 0x64⟩
def F.STP_IMAX (n : Nat) : Field := ⟨0xE300C + n * 0x40, 0, 12, 0xFFF⟩
def F.STP_STALL_EN (n : Nat) : Field := ⟨0xE3010 + n * 0x40, 31, 1, 0x0⟩
def F.STP_STALL_STALL_N (n : Nat) : Field := ⟨0xE3010 + n * 0x40, 24, 7, 0x4⟩
def F.STP_STALL_ANG (n : Nat) : Field := ⟨0xE3010 + n * 0x40, 16, 8, 0x72⟩
def F.STP_STALL_VMIN (n : Nat) : Field := ⟨0xE3010 + n * 0x40, 0, 16, 0xC8⟩
def F.STP_MOTOR_RPH (n : Nat) : Field := ⟨0xE3014 + n * 0x40, 16, 16, 0x0⟩
def F.STP_MOTOR_LPH (n : Nat) : Field := ⟨0xE3014 + n * 0x40, 0, 16, 0x0⟩
def F.STP_STATUS_LOAD (n : Nat) : Field := ⟨0xE3018 + n * 0x40, 24, 8, 0x0⟩
def F.STP_STATUS_BANK_LATE (n : Nat) : Field := ⟨0xE3018 + n * 0x40, 3, 1, 0x0⟩
def F.STP_STATUS_HOLD (n : Nat) : Field := ⟨0xE3018 + n * 0x40, 2, 1, 0x0⟩
def F.STP_STATUS_OVERCURRENT (n : Nat) : Field := ⟨0xE3018 + n * 0x40, 1, 1, 0x0⟩
def F.STP_STATUS_STALL (n : Nat) : Field := ⟨0xE3018 + n * 0x40, 0, 1, 0x0⟩
def F.STP_TSTAT_PEND (n : Nat) : Field := ⟨0xE301C + n * 0x40, 5, 1, 0x0⟩
def F.STP_TSTAT_DAMAGED (n : Nat) : Field := ⟨0xE301C + n * 0x40, 4, 1, 0x0⟩
def F.STP_TSTAT_ENGAGED (n : Nat) : Field := ⟨0xE301C + n * 0x40, 3, 1, 0x0⟩
def F.STP_TSTAT_STATE (n : Nat) : Field := ⟨0xE301C + n * 0x40, 1, 2, 0x0⟩
def F.STP_TSTAT_ACTIVE (n : Nat) : Field := ⟨0xE301C + n * 0x40, 0, 1, 0x0⟩
def F.MOT_FLAM_COUNT : Field := ⟨0xF0000, 0, 8, 0x0⟩
def F.MOT_SD_CTL_OSR : Field := ⟨0xF0010, 8, 8, 0x40⟩
def F.MOT_SD_CTL_SDDIV : Field := ⟨0xF0010, 0, 8, 0x3⟩
def F.MOT_BK_CTL_EN (n : Nat) : Field := ⟨0xF0100 + n * 0x20, 31, 1, 0x0⟩
def F.MOT_BK_CTL_CHK (n : Nat) : Field := ⟨0xF0100 + n * 0x20, 16, 8, 0x14⟩
def F.MOT_BK_CTL_FS (n : Nat) : Field := ⟨0xF0100 + n * 0x20, 0, 16, 0x0⟩
def F.MOT_BK_VON_VON (n : Nat) : Field := ⟨0xF0104 + n * 0x20, 16, 16, 0x0⟩
def F.MOT_BK_VON_VOFF (n : Nat) : Field := ⟨0xF0104 + n * 0x20, 0, 16, 0x0⟩
def F.MOT_BK_VHARD_IMIN (n : Nat) : Field := ⟨0xF0108 + n * 0x20, 16, 16, 0x0⟩
def F.MOT_BK_VHARD_VHARD (n : Nat) : Field := ⟨0xF0108 + n * 0x20, 0, 16, 0x0⟩
def F.MOT_BK_VBUS (n : Nat) : Field := ⟨0xF010C + n * 0x20, 0, 16, 0x0⟩
def F.MOT_BK_STATUS_DRVEN (n : Nat) : Field := ⟨0xF0110 + n * 0x20, 3, 1, 0x0⟩
def F.MOT_BK_STATUS_BRK_ON (n : Nat) : Field := ⟨0xF0110 + n * 0x20, 2, 1, 0x0⟩
def F.MOT_BK_STATUS_BRK_FAULT (n : Nat) : Field := ⟨0xF0110 + n * 0x20, 1, 1, 0x0⟩
def F.MOT_BK_STATUS_BUS_OV (n : Nat) : Field := ⟨0xF0110 + n * 0x20, 0, 1, 0x0⟩
def F.MOT_C_CTL_EN (n : Nat) : Field := ⟨0xF1000 + n * 0x80, 31, 1, 0x0⟩
def F.MOT_C_CTL_MODE (n : Nat) : Field := ⟨0xF1000 + n * 0x80, 29, 2, 0x0⟩
def F.MOT_C_CTL_SENSE (n : Nat) : Field := ⟨0xF1000 + n * 0x80, 27, 2, 0x0⟩
def F.MOT_C_CTL_SLS_FB (n : Nat) : Field := ⟨0xF1000 + n * 0x80, 26, 1, 0x0⟩
def F.MOT_C_CTL_OVM (n : Nat) : Field := ⟨0xF1000 + n * 0x80, 24, 2, 0x0⟩
def F.MOT_C_CTL_DIR (n : Nat) : Field := ⟨0xF1000 + n * 0x80, 23, 1, 0x0⟩
def F.MOT_C_CTL_BUS (n : Nat) : Field := ⟨0xF1000 + n * 0x80, 21, 2, 0x0⟩
def F.MOT_C_CTL_CATCH_EN (n : Nat) : Field := ⟨0xF1000 + n * 0x80, 20, 1, 0x1⟩
def F.MOT_C_STATUS_STATE (n : Nat) : Field := ⟨0xF1004 + n * 0x80, 28, 4, 0x0⟩
def F.MOT_C_STATUS_REGLIM (n : Nat) : Field := ⟨0xF1004 + n * 0x80, 11, 1, 0x0⟩
def F.MOT_C_STATUS_VCLAMP (n : Nat) : Field := ⟨0xF1004 + n * 0x80, 10, 1, 0x0⟩
def F.MOT_C_STATUS_FBSLS (n : Nat) : Field := ⟨0xF1004 + n * 0x80, 9, 1, 0x0⟩
def F.MOT_C_STATUS_CATCHING (n : Nat) : Field := ⟨0xF1004 + n * 0x80, 8, 1, 0x0⟩
def F.MOT_C_STATUS_CFG_ERR (n : Nat) : Field := ⟨0xF1004 + n * 0x80, 7, 1, 0x0⟩
def F.MOT_C_STATUS_SPIN_REVERSE (n : Nat) : Field := ⟨0xF1004 + n * 0x80, 6, 1, 0x0⟩
def F.MOT_C_STATUS_LOCKED (n : Nat) : Field := ⟨0xF1004 + n * 0x80, 5, 1, 0x0⟩
def F.MOT_C_STATUS_COMM_LOST (n : Nat) : Field := ⟨0xF1004 + n * 0x80, 4, 1, 0x0⟩
def F.MOT_C_STATUS_SLS_FAIL (n : Nat) : Field := ⟨0xF1004 + n * 0x80, 3, 1, 0x0⟩
def F.MOT_C_STATUS_ISENSE_LOST (n : Nat) : Field := ⟨0xF1004 + n * 0x80, 2, 1, 0x0⟩
def F.MOT_C_STATUS_OVERCURRENT (n : Nat) : Field := ⟨0xF1004 + n * 0x80, 1, 1, 0x0⟩
def F.MOT_C_STATUS_GATE_FLT (n : Nat) : Field := ⟨0xF1004 + n * 0x80, 0, 1, 0x0⟩
def F.MOT_C_PWM_MINP (n : Nat) : Field := ⟨0xF1008 + n * 0x80, 24, 8, 0x1E⟩
def F.MOT_C_PWM_DT (n : Nat) : Field := ⟨0xF1008 + n * 0x80, 16, 8, 0x4B⟩
def F.MOT_C_PWM_PER (n : Nat) : Field := ⟨0xF1008 + n * 0x80, 0, 14, 0x753⟩
def F.MOT_C_MOTOR_ELOFS (n : Nat) : Field := ⟨0xF100C + n * 0x80, 16, 16, 0x0⟩
def F.MOT_C_MOTOR_ENC (n : Nat) : Field := ⟨0xF100C + n * 0x80, 12, 4, 0x0⟩
def F.MOT_C_MOTOR_POLES (n : Nat) : Field := ⟨0xF100C + n * 0x80, 0, 4, 0x0⟩
def F.MOT_C_HALL_HOFS (n : Nat) : Field := ⟨0xF1010 + n * 0x80, 18, 14, 0x0⟩
def F.MOT_C_HALL_SECTORS (n : Nat) : Field := ⟨0xF1010 + n * 0x80, 0, 18, 0x0⟩
def F.MOT_C_VCMD_VQ (n : Nat) : Field := ⟨0xF1014 + n * 0x80, 16, 16, 0x0⟩
def F.MOT_C_VCMD_VD (n : Nat) : Field := ⟨0xF1014 + n * 0x80, 0, 16, 0x0⟩
def F.MOT_C_ICMD_IQ (n : Nat) : Field := ⟨0xF1018 + n * 0x80, 16, 16, 0x0⟩
def F.MOT_C_ICMD_ID (n : Nat) : Field := ⟨0xF1018 + n * 0x80, 0, 16, 0x0⟩
def F.MOT_C_SPD (n : Nat) : Field := ⟨0xF101C + n * 0x80, 0, 32, 0x0⟩
def F.MOT_C_CGAIN_CKP (n : Nat) : Field := ⟨0xF1020 + n * 0x80, 16, 16, 0x0⟩
def F.MOT_C_CGAIN_CKI (n : Nat) : Field := ⟨0xF1020 + n * 0x80, 0, 16, 0x0⟩
def F.MOT_C_SGAIN_SKP (n : Nat) : Field := ⟨0xF1024 + n * 0x80, 16, 16, 0x0⟩
def F.MOT_C_SGAIN_SKI (n : Nat) : Field := ⟨0xF1024 + n * 0x80, 8, 8, 0x0⟩
def F.MOT_C_SGAIN_SDIV (n : Nat) : Field := ⟨0xF1024 + n * 0x80, 0, 4, 0x0⟩
def F.MOT_C_LIM_IMAX (n : Nat) : Field := ⟨0xF1028 + n * 0x80, 16, 16, 0x7FFF⟩
def F.MOT_C_LIM_ILIM (n : Nat) : Field := ⟨0xF1028 + n * 0x80, 0, 16, 0x0⟩
def F.MOT_C_IQ (n : Nat) : Field := ⟨0xF102C + n * 0x80, 0, 32, 0x0⟩
def F.MOT_C_ID (n : Nat) : Field := ⟨0xF1030 + n * 0x80, 0, 32, 0x0⟩
def F.MOT_C_SPEED (n : Nat) : Field := ⟨0xF1034 + n * 0x80, 0, 32, 0x0⟩
def F.MOT_C_ANGLE (n : Nat) : Field := ⟨0xF1038 + n * 0x80, 0, 16, 0x0⟩
def F.MOT_C_POS_LO (n : Nat) : Field := ⟨0xF103C + n * 0x80, 0, 32, 0x0⟩
def F.MOT_C_POS_HI (n : Nat) : Field := ⟨0xF1040 + n * 0x80, 0, 32, 0x0⟩
def F.MOT_C_SPDMAX (n : Nat) : Field := ⟨0xF1044 + n * 0x80, 0, 24, 0xEA600⟩
def F.MOT_C_CATCH_REV_LIM (n : Nat) : Field := ⟨0xF1048 + n * 0x80, 16, 16, 0x0⟩
def F.MOT_C_CATCH_CATCH_MAX (n : Nat) : Field := ⟨0xF1048 + n * 0x80, 0, 16, 0x0⟩
def F.MOT_C_LOCK_LOCK_I (n : Nat) : Field := ⟨0xF104C + n * 0x80, 16, 12, 0x0⟩
def F.MOT_C_LOCK_LOCK_MS (n : Nat) : Field := ⟨0xF104C + n * 0x80, 0, 16, 0xC8⟩
def F.MOT_C_SLS_SLS_RAMP (n : Nat) : Field := ⟨0xF1050 + n * 0x80, 16, 16, 0x0⟩
def F.MOT_C_SLS_SLS_VMIN (n : Nat) : Field := ⟨0xF1050 + n * 0x80, 0, 16, 0x0⟩
def F.MOT_C_ISTART (n : Nat) : Field := ⟨0xF1054 + n * 0x80, 0, 16, 0x0⟩
def F.MOT_C_CPR (n : Nat) : Field := ⟨0xF1058 + n * 0x80, 0, 24, 0x0⟩
def F.HK_CTL_TEST : Field := ⟨0x100000, 16, 1, 0x0⟩
def F.HK_CTL_TZONES : Field := ⟨0x100000, 0, 16, 0xF⟩
def F.HK_STATUS_TSD : Field := ⟨0x100004, 4, 1, 0x0⟩
def F.HK_STATUS_CRIT : Field := ⟨0x100004, 3, 1, 0x0⟩
def F.HK_STATUS_BROKEN : Field := ⟨0x100004, 2, 1, 0x0⟩
def F.HK_STATUS_DEFER : Field := ⟨0x100004, 1, 1, 0x0⟩
def F.HK_STATUS_MODE : Field := ⟨0x100004, 0, 1, 0x0⟩
def F.HK_THROT_VMAX_T : Field := ⟨0x100008, 16, 16, 0x0⟩
def F.HK_THROT_STEP_INT : Field := ⟨0x100008, 8, 8, 0x14⟩
def F.HK_THROT_MAXSTEP : Field := ⟨0x100008, 5, 3, 0x7⟩
def F.HK_THLIM_A : Field := ⟨0x10000C, 19, 3, 0x0⟩
def F.HK_THLIM_D : Field := ⟨0x10000C, 16, 3, 0x0⟩
def F.HK_THLIM_LIMIT : Field := ⟨0x10000C, 0, 16, 0x100⟩
def F.HK_ZONE_LVL : Field := ⟨0x100010, 0, 32, 0x0⟩
def F.HK_BROKEN_LO : Field := ⟨0x100014, 0, 32, 0x0⟩
def F.HK_BROKEN_HI : Field := ⟨0x100018, 0, 28, 0x0⟩
def F.HK_FLAM_COUNT : Field := ⟨0x10001C, 0, 8, 0x0⟩
def F.HK_CH_CFG_EN (n : Nat) : Field := ⟨0x100100 + n * 0x10, 31, 1, if n < 12 then 1 else 0⟩
def F.HK_CH_CFG_GUARD (n : Nat) : Field := ⟨0x100100 + n * 0x10, 30, 1, 0x0⟩
def F.HK_CH_CFG_ZONE (n : Nat) : Field := ⟨0x100100 + n * 0x10, 26, 4, if n < 12 then n / 3 else 15⟩
def F.HK_CH_CFG_HYST (n : Nat) : Field := ⟨0x100100 + n * 0x10, 22, 4, 0x2⟩
def F.HK_CH_CFG_DWELL (n : Nat) : Field := ⟨0x100100 + n * 0x10, 17, 5, 0x8⟩
def F.HK_CH_CFG_PARAM (n : Nat) : Field := ⟨0x100100 + n * 0x10, 0, 16, 0x0⟩
def F.HK_CH_THR_CRIT (n : Nat) : Field := ⟨0x100104 + n * 0x10, 20, 10, 0x80⟩
def F.HK_CH_THR_THROT (n : Nat) : Field := ⟨0x100104 + n * 0x10, 10, 10, 0x73⟩
def F.HK_CH_THR_WARN (n : Nat) : Field := ⟨0x100104 + n * 0x10, 0, 10, 0x69⟩
def F.HK_CH_TEMP_RAW (n : Nat) : Field := ⟨0x100108 + n * 0x10, 16, 12, 0x0⟩
def F.HK_CH_TEMP_VALUE (n : Nat) : Field := ⟨0x100108 + n * 0x10, 0, 16, 0x0⟩
def F.HK_CH_STATUS_REQUAL (n : Nat) : Field := ⟨0x10010C + n * 0x10, 31, 1, 0x0⟩
def F.HK_CH_STATUS_TRANS (n : Nat) : Field := ⟨0x10010C + n * 0x10, 16, 8, 0x0⟩
def F.HK_CH_STATUS_ENTERED (n : Nat) : Field := ⟨0x10010C + n * 0x10, 4, 1, 0x0⟩
def F.HK_CH_STATUS_BROKEN (n : Nat) : Field := ⟨0x10010C + n * 0x10, 2, 1, 0x0⟩
def F.HK_CH_STATUS_LEVEL (n : Nat) : Field := ⟨0x10010C + n * 0x10, 0, 2, 0x0⟩
def F.EVT_GONG_LAST_EVT : Field := ⟨0x110004, 8, 8, 0x0⟩
def F.EVT_GONG_G4 : Field := ⟨0x110004, 3, 1, 0x0⟩
def F.EVT_GONG_G3 : Field := ⟨0x110004, 2, 1, 0x0⟩
def F.EVT_GONG_STOP_DONE : Field := ⟨0x110004, 1, 1, 0x0⟩
def F.EVT_GONG_ENFORCED : Field := ⟨0x110004, 0, 1, 0x0⟩
def F.EVT_STOP_STOPMAX : Field := ⟨0x110008, 24, 8, 0xA⟩
def F.EVT_STOP_GRACE : Field := ⟨0x110008, 12, 12, 0x1F4⟩
def F.EVT_STOP_DECEL : Field := ⟨0x110008, 0, 12, 0x64⟩
def F.EVT_STOP_AXES : Field := ⟨0x110010, 0, 24, 0x0⟩
def F.EVT_KA_CTL_AUX_G3 : Field := ⟨0x110014, 4, 1, 0x0⟩
def F.EVT_KA_CTL_AUX : Field := ⟨0x110014, 3, 1, 0x0⟩
def F.EVT_KA_CTL_FUSER : Field := ⟨0x110014, 2, 1, 0x0⟩
def F.EVT_KA_CTL_DRIVE : Field := ⟨0x110014, 1, 1, 0x0⟩
def F.EVT_KA_CTL_HV : Field := ⟨0x110014, 0, 1, 0x0⟩
def F.EVT_KA_STATUS_AUX : Field := ⟨0x110018, 7, 1, 0x0⟩
def F.EVT_KA_STATUS_FUSER : Field := ⟨0x110018, 6, 1, 0x0⟩
def F.EVT_KA_STATUS_DRIVE : Field := ⟨0x110018, 5, 1, 0x0⟩
def F.EVT_KA_STATUS_LASER : Field := ⟨0x110018, 1, 4, 0x0⟩
def F.EVT_KA_STATUS_HV : Field := ⟨0x110018, 0, 1, 0x0⟩
def F.EVT_RAISE_GO : Field := ⟨0x11001C, 31, 1, 0x0⟩
def F.EVT_RAISE_CAUSE : Field := ⟨0x11001C, 8, 16, 0x0⟩
def F.EVT_RAISE_EVENT : Field := ⟨0x11001C, 0, 8, 0x0⟩
def F.EVT_FLAM_COUNT : Field := ⟨0x110020, 0, 8, 0x0⟩
def F.EVT_LOCK_LOCK : Field := ⟨0x110024, 0, 1, 0x0⟩
def F.EVT_PEND (n : Nat) : Field := ⟨0x110040 + n * 0x4, 0, 32, 0x0⟩
def F.EVT_E_CFG_LEVEL (n : Nat) : Field := ⟨0x111000 + n * 0x10, 29, 3, (evDef n).level⟩
def F.EVT_E_CFG_ALLOW (n : Nat) : Field := ⟨0x111000 + n * 0x10, 24, 5, (evDef n).allow⟩
def F.EVT_E_CFG_KEEP (n : Nat) : Field := ⟨0x111000 + n * 0x10, 23, 1, if (evDef n).keep then 1 else 0⟩
def F.EVT_E_CFG_BCAST (n : Nat) : Field := ⟨0x111000 + n * 0x10, 22, 1, if (evDef n).bcast then 1 else 0⟩
def F.EVT_E_CFG_HOST_EN (n : Nat) : Field := ⟨0x111000 + n * 0x10, 21, 1, if (evDef n).hostEn then 1 else 0⟩
def F.EVT_E_CFG_MRAISE (n : Nat) : Field := ⟨0x111000 + n * 0x10, 20, 1, if 252 ≤ n then 1 else 0⟩
def F.EVT_E_CFG_REPN (n : Nat) : Field := ⟨0x111000 + n * 0x10, 16, 4, 0x0⟩
def F.EVT_E_CFG_REPWIN (n : Nat) : Field := ⟨0x111000 + n * 0x10, 8, 8, 0x0⟩
def F.EVT_E_CFG_VEC (n : Nat) : Field := ⟨0x111000 + n * 0x10, 0, 6, (evDef n).vec⟩
def F.EVT_E_CAUSE (n : Nat) : Field := ⟨0x111004 + n * 0x10, 0, 32, 0x0⟩
def F.EVT_E_TIME (n : Nat) : Field := ⟨0x111008 + n * 0x10, 0, 32, 0x0⟩
def F.EVT_E_COUNT (n : Nat) : Field := ⟨0x11100C + n * 0x10, 0, 16, 0x0⟩
def F.CNT_CTL_SNAP_EV : Field := ⟨0x120000, 8, 8, 0x0⟩
def F.CNT_CTL_SNAP_EV_EN : Field := ⟨0x120000, 7, 1, 0x0⟩
def F.CNT_CTL_SNAP : Field := ⟨0x120000, 1, 1, 0x0⟩
def F.CNT_CTL_FREEZE : Field := ⟨0x120000, 0, 1, 0x0⟩
def F.CNT_OVF_LO : Field := ⟨0x120008, 0, 32, 0x0⟩
def F.CNT_OVF_HI : Field := ⟨0x12000C, 0, 24, 0x0⟩
def F.CNT_SNAP_TIME_LO : Field := ⟨0x120010, 0, 32, 0x0⟩
def F.CNT_SNAP_TIME_HI : Field := ⟨0x120014, 0, 32, 0x0⟩
def F.CNT_FLAM_COUNT : Field := ⟨0x120018, 0, 8, 0x0⟩
def F.CNT_CFG_EN (n : Nat) : Field := ⟨0x120100 + n * 0x40, 31, 1, if 48 ≤ n then 1 else 0⟩
def F.CNT_CFG_MODE (n : Nat) : Field := ⟨0x120100 + n * 0x40, 29, 2, 0x0⟩
def F.CNT_CFG_SAMPLE (n : Nat) : Field := ⟨0x120100 + n * 0x40, 28, 1, 0x0⟩
def F.CNT_CFG_CFG_ERR (n : Nat) : Field := ⟨0x120100 + n * 0x40, 24, 1, 0x0⟩
def F.CNT_CFG_SRC (n : Nat) : Field := ⟨0x120100 + n * 0x40, 0, 10, fixedSource n⟩
def F.CNT_LO (n : Nat) : Field := ⟨0x120104 + n * 0x40, 0, 32, 0x0⟩
def F.CNT_HI (n : Nat) : Field := ⟨0x120108 + n * 0x40, 0, 16, 0x0⟩
def F.CNT_THRESH (n : Nat) : Field := ⟨0x12010C + n * 0x40, 0, 16, 0x0⟩
def F.CNT_RELOAD_LO (n : Nat) : Field := ⟨0x120110 + n * 0x40, 0, 32, 0x0⟩
def F.CNT_RELOAD_HI (n : Nat) : Field := ⟨0x120114 + n * 0x40, 0, 16, 0x0⟩
def F.CNT_SNAP_LO (n : Nat) : Field := ⟨0x120118 + n * 0x40, 0, 32, 0x0⟩
def F.CNT_SNAP_HI (n : Nat) : Field := ⟨0x12011C + n * 0x40, 0, 16, 0x0⟩
def F.CNT_STIME_LO (n : Nat) : Field := ⟨0x120120 + n * 0x40, 0, 32, 0x0⟩
def F.CNT_STIME_HI (n : Nat) : Field := ⟨0x120124 + n * 0x40, 0, 32, 0x0⟩
def F.MBX_CMD_GO : Field := ⟨0x130000, 31, 1, 0x0⟩
def F.MBX_CMD_OP : Field := ⟨0x130000, 0, 8, 0x0⟩
def F.MBX_STATUS_READY : Field := ⟨0x130004, 31, 1, 0x0⟩
def F.MBX_STATUS_BUSY : Field := ⟨0x130004, 30, 1, 0x0⟩
def F.MBX_STATUS_MODE : Field := ⟨0x130004, 28, 2, 0x0⟩
def F.MBX_STATUS_SLOT : Field := ⟨0x130004, 27, 1, 0x0⟩
def F.MBX_STATUS_TRIAL : Field := ⟨0x130004, 26, 1, 0x0⟩
def F.MBX_STATUS_CAL_VALID : Field := ⟨0x130004, 25, 1, 0x0⟩
def F.MBX_STATUS_RESULT : Field := ⟨0x130004, 0, 4, 0x0⟩
def F.MBX_ARG (n : Nat) : Field := ⟨0x130010 + n * 0x4, 0, 32, 0x0⟩
def F.MBX_RSP (n : Nat) : Field := ⟨0x130040 + n * 0x4, 0, 32, 0x0⟩
def F.MBX_CAL_LO : Field := ⟨0x130060, 0, 32, 0x0⟩
def F.MBX_CAL_HI : Field := ⟨0x130064, 0, 32, 0x0⟩
def F.MBX_CAL_FRAC : Field := ⟨0x130068, 0, 15, 0x0⟩
def F.MBX_FLAM_COUNT : Field := ⟨0x13006C, 0, 8, 0x0⟩
def F.OTP_CMD_GO : Field := ⟨0x140000, 31, 1, 0x0⟩
def F.OTP_CMD_FOLLOW : Field := ⟨0x140000, 30, 1, 0x1⟩
def F.OTP_CMD_OP : Field := ⟨0x140000, 10, 2, 0x0⟩
def F.OTP_CMD_GROUP : Field := ⟨0x140000, 5, 4, 0x0⟩
def F.OTP_CMD_WORD : Field := ⟨0x140000, 0, 5, 0x0⟩
def F.OTP_WDATA : Field := ⟨0x140004, 0, 32, 0x0⟩
def F.OTP_RDATA : Field := ⟨0x140008, 0, 32, 0x0⟩
def F.OTP_STATUS_ATTEMPTS : Field := ⟨0x14000C, 28, 4, 0x0⟩
def F.OTP_STATUS_ERR : Field := ⟨0x14000C, 24, 4, 0x0⟩
def F.OTP_STATUS_INTEGRITY : Field := ⟨0x14000C, 4, 1, 0x0⟩
def F.OTP_STATUS_PROG_FAIL : Field := ⟨0x14000C, 3, 1, 0x0⟩
def F.OTP_STATUS_MARGINAL : Field := ⟨0x14000C, 2, 1, 0x0⟩
def F.OTP_STATUS_TRANSIENT : Field := ⟨0x14000C, 1, 1, 0x0⟩
def F.OTP_STATUS_BUSY : Field := ⟨0x14000C, 0, 1, 0x0⟩
def F.OTP_GSTAT : Field := ⟨0x140010, 0, 32, 0x0⟩
def F.OTP_GSUP_ABSENT : Field := ⟨0x140014, 16, 16, 0x0⟩
def F.OTP_GSUP_SUPERSEDED : Field := ⟨0x140014, 0, 16, 0x0⟩
def F.OTP_KEY : Field := ⟨0x140018, 0, 32, 0x0⟩
def F.OTP_FLAM_COUNT : Field := ⟨0x14001C, 0, 8, 0x0⟩
def F.PWR_CTL_STBY : Field := ⟨0x150000, 0, 1, 0x0⟩
def F.PWR_STATUS_VTRANS : Field := ⟨0x150004, 24, 8, 0x0⟩
def F.PWR_STATUS_REG_FLT : Field := ⟨0x150004, 7, 1, 0x0⟩
def F.PWR_STATUS_VBAT_LOW : Field := ⟨0x150004, 6, 1, 0x0⟩
def F.PWR_STATUS_VIOA_INT : Field := ⟨0x150004, 4, 1, 0x0⟩
def F.PWR_STATUS_VIOA_LVL : Field := ⟨0x150004, 3, 1, 0x0⟩
def F.PWR_STATUS_STBY : Field := ⟨0x150004, 2, 1, 0x0⟩
def F.PWR_STATUS_BUSY : Field := ⟨0x150004, 1, 1, 0x0⟩
def F.PWR_STATUS_PG : Field := ⟨0x150004, 0, 1, 0x0⟩
def F.PWR_DOMREQ : Field := ⟨0x150008, 0, 12, 0x101⟩
def F.PWR_DOMSTAT_PG_LOST : Field := ⟨0x15000C, 16, 12, 0x0⟩
def F.PWR_DOMSTAT_ON : Field := ⟨0x15000C, 0, 12, 0x1⟩
def F.PWR_VINMON : Field := ⟨0x150010, 0, 16, 0xA5A⟩
def F.PWR_VIN_VBAT : Field := ⟨0x150014, 16, 16, 0x0⟩
def F.PWR_VIN_VIN : Field := ⟨0x150014, 0, 16, 0x0⟩
def F.PWR_VCORE : Field := ⟨0x150018, 0, 16, 0x0⟩
def F.PWR_RSTCAUSE_VINFAIL : Field := ⟨0x15001C, 3, 1, 0x0⟩
def F.PWR_RSTCAUSE_MBX : Field := ⟨0x15001C, 2, 1, 0x0⟩
def F.PWR_RSTCAUSE_PIN : Field := ⟨0x15001C, 1, 1, 0x0⟩
def F.PWR_RSTCAUSE_POR : Field := ⟨0x15001C, 0, 1, 0x1⟩
def F.PWR_ERR : Field := ⟨0x150020, 0, 2, 0x0⟩
def F.PWR_FLAM_COUNT : Field := ⟨0x150024, 0, 8, 0x0⟩
def F.PWR_LOCK_LOCK : Field := ⟨0x150028, 0, 1, 0x0⟩

/-! ## The register families -/

def D.GCTL_ID : RegDef := ⟨0x0, 1, 0x0, 1, 0x0, fun _ _ => [(F.GCTL_ID_PART, .ro), (F.GCTL_ID_REV, .ro), (F.GCTL_ID_GRADE, .ro)]⟩
def D.GCTL_SERIAL_LO : RegDef := ⟨0x4, 1, 0x0, 1, 0x0, fun _ _ => [(F.GCTL_SERIAL_LO, .ro)]⟩
def D.GCTL_SERIAL_HI : RegDef := ⟨0x8, 1, 0x0, 1, 0x0, fun _ _ => [(F.GCTL_SERIAL_HI, .ro)]⟩
def D.GCTL_STATUS : RegDef := ⟨0xC, 1, 0x0, 1, 0x0, fun _ _ => [(F.GCTL_STATUS_UNPROV, .ro), (F.GCTL_STATUS_MODE, .ro), (F.GCTL_STATUS_READY, .ro)]⟩
def D.GCTL_USERPAGE : RegDef := ⟨0x10, 1, 0x0, 1, 0x0, fun _ _ => [(F.GCTL_USERPAGE_CNT_EN, .rw)]⟩
def D.GCTL_FLAM : RegDef := ⟨0x14, 1, 0x0, 1, 0x0, fun _ _ => [(F.GCTL_FLAM_COUNT, .rc)]⟩
def D.CLK_ADPLL_CTL : RegDef := ⟨0x10000, 1, 0x0, 1, 0x0, fun _ _ => [(F.CLK_ADPLL_CTL_TCOMP_EN, .rw), (F.CLK_ADPLL_CTL_EN, .rw)]⟩
def D.CLK_ADPLL_STATUS : RegDef := ⟨0x10004, 1, 0x0, 1, 0x0, fun _ _ => [(F.CLK_ADPLL_STATUS_BAND, .ro), (F.CLK_ADPLL_STATUS_NOBAND, .w1c), (F.CLK_ADPLL_STATUS_LOCK_LOST, .w1c), (F.CLK_ADPLL_STATUS_REF_LOST, .w1c), (F.CLK_ADPLL_STATUS_HOLDOVER, .ro), (F.CLK_ADPLL_STATUS_LOCKED, .ro)]⟩
def D.CLK_ADPLL_FCOMP : RegDef := ⟨0x10008, 1, 0x0, 1, 0x0, fun _ _ => [(F.CLK_ADPLL_FCOMP_FCOMP, .rw)]⟩
def D.CLK_BAND_ROOT : RegDef := ⟨0x10020, 8, 0x4, 1, 0x0, fun n _ => [(F.CLK_BAND_ROOT_FHI n, .rwl), (F.CLK_BAND_ROOT_FLO n, .rwl), (F.CLK_BAND_ROOT_VALID n, .rwl), (F.CLK_BAND_ROOT_CODE n, .rwl)]⟩
def D.CLK_MDLL_CTL : RegDef := ⟨0x10100, 4, 0x40, 1, 0x0, fun n _ => [(F.CLK_MDLL_CTL_PHASE n, .rw), (F.CLK_MDLL_CTL_APPLY n, .rw), (F.CLK_MDLL_CTL_EN n, .rw)]⟩
def D.CLK_MDLL_FREQ : RegDef := ⟨0x10104, 4, 0x40, 1, 0x0, fun n _ => [(F.CLK_MDLL_FREQ_PIXF n, .rw)]⟩
def D.CLK_MDLL_STATUS : RegDef := ⟨0x10108, 4, 0x40, 1, 0x0, fun n _ => [(F.CLK_MDLL_STATUS_PIXF_USED n, .ro), (F.CLK_MDLL_STATUS_UNLOCKED n, .w1c), (F.CLK_MDLL_STATUS_STEP_REJ n, .w1c), (F.CLK_MDLL_STATUS_LOCKED n, .ro)]⟩
def D.CLK_MDLL_BAND : RegDef := ⟨0x10120, 4, 0x40, 8, 0x4, fun n k => [(F.CLK_MDLL_BAND_FHI n k, .rwl), (F.CLK_MDLL_BAND_FLO n k, .rwl), (F.CLK_MDLL_BAND_VALID n k, .rwl), (F.CLK_MDLL_BAND_CODE n k, .rwl)]⟩
def D.CLK_XTAB : RegDef := ⟨0x10200, 17, 0x4, 1, 0x0, fun n _ => [(F.CLK_XTAB_PPM n, .rw)]⟩
def D.CLK_CTAB : RegDef := ⟨0x10280, 17, 0x4, 1, 0x0, fun n _ => [(F.CLK_CTAB_PPM n, .rw)]⟩
def D.CLK_CAL_COMP : RegDef := ⟨0x10300, 1, 0x0, 1, 0x0, fun _ _ => [(F.CLK_CAL_COMP_PPM, .ro)]⟩
def D.CLK_LOCK : RegDef := ⟨0x103F0, 1, 0x0, 1, 0x0, fun _ _ => [(F.CLK_LOCK_LOCK, .w1s)]⟩
def D.CLK_FLAM : RegDef := ⟨0x103F4, 1, 0x0, 1, 0x0, fun _ _ => [(F.CLK_FLAM_COUNT, .rc)]⟩
def D.TIME_LO : RegDef := ⟨0x20000, 1, 0x0, 1, 0x0, fun _ _ => [(F.TIME_LO, .ro)]⟩
def D.TIME_HI : RegDef := ⟨0x20004, 1, 0x0, 1, 0x0, fun _ _ => [(F.TIME_HI, .ro)]⟩
def D.TIME_STATUS : RegDef := ⟨0x20008, 1, 0x0, 1, 0x0, fun _ _ => [(F.TIME_STATUS_HELD, .ro), (F.TIME_STATUS_RUNNING, .ro)]⟩
def D.TIME_SNARE_CAPT : RegDef := ⟨0x20010, 1, 0x0, 1, 0x0, fun _ _ => [(F.TIME_SNARE_CAPT, .w1c)]⟩
def D.TIME_SNARE_OVR : RegDef := ⟨0x20014, 1, 0x0, 1, 0x0, fun _ _ => [(F.TIME_SNARE_OVR, .w1c)]⟩
def D.TIME_FLAM : RegDef := ⟨0x20018, 1, 0x0, 1, 0x0, fun _ _ => [(F.TIME_FLAM_COUNT, .rc)]⟩
def D.SN_CTL : RegDef := ⟨0x20100, 32, 0x20, 1, 0x0, fun n _ => [(F.SN_CTL_FILT n, .rw), (F.SN_CTL_SRC n, .rw), (F.SN_CTL_EDGE n, .rw), (F.SN_CTL_MODE n, .rw), (F.SN_CTL_DISARM n, .wo), (F.SN_CTL_ARM n, .w1s)]⟩
def D.SN_STATUS : RegDef := ⟨0x20104, 32, 0x20, 1, 0x0, fun n _ => [(F.SN_STATUS_MISS n, .rc), (F.SN_STATUS_NOPOS n, .ro), (F.SN_STATUS_UNREAD n, .ro), (F.SN_STATUS_ARMED n, .ro)]⟩
def D.SN_TIME_LO : RegDef := ⟨0x20108, 32, 0x20, 1, 0x0, fun n _ => [(F.SN_TIME_LO n, .ro)]⟩
def D.SN_TIME_HI : RegDef := ⟨0x2010C, 32, 0x20, 1, 0x0, fun n _ => [(F.SN_TIME_HI n, .ro)]⟩
def D.SN_WPOS_LO : RegDef := ⟨0x20110, 32, 0x20, 1, 0x0, fun n _ => [(F.SN_WPOS_LO n, .ro)]⟩
def D.SN_WPOS_HI : RegDef := ⟨0x20114, 32, 0x20, 1, 0x0, fun n _ => [(F.SN_WPOS_HI n, .ro)]⟩
def D.WEB_CTL : RegDef := ⟨0x30000, 1, 0x0, 1, 0x0, fun _ _ => [(F.WEB_CTL_SWITCH, .wo), (F.WEB_CTL_FB_SLS, .rw), (F.WEB_CTL_FB_SEC, .rw), (F.WEB_CTL_MAIN, .rw), (F.WEB_CTL_OBS_EN, .rw)]⟩
def D.WEB_STATUS : RegDef := ⟨0x30004, 1, 0x0, 1, 0x0, fun _ _ => [(F.WEB_STATUS_REV_LIM, .w1c), (F.WEB_STATUS_COAST_EXP, .w1c), (F.WEB_STATUS_FROZEN, .w1c), (F.WEB_STATUS_LOST, .w1c), (F.WEB_STATUS_ABSORBING, .ro), (F.WEB_STATUS_REVERSE, .ro), (F.WEB_STATUS_STALE, .ro), (F.WEB_STATUS_COASTING, .ro), (F.WEB_STATUS_SRC_IN_USE, .ro)]⟩
def D.WEB_POS_LO : RegDef := ⟨0x30008, 1, 0x0, 1, 0x0, fun _ _ => [(F.WEB_POS_LO, .ro)]⟩
def D.WEB_POS_HI : RegDef := ⟨0x3000C, 1, 0x0, 1, 0x0, fun _ _ => [(F.WEB_POS_HI, .ro)]⟩
def D.WEB_VEL : RegDef := ⟨0x30010, 1, 0x0, 1, 0x0, fun _ _ => [(F.WEB_VEL, .ro)]⟩
def D.WEB_ACC : RegDef := ⟨0x30014, 1, 0x0, 1, 0x0, fun _ _ => [(F.WEB_ACC, .ro)]⟩
def D.WEB_OBS_T_LO : RegDef := ⟨0x30018, 1, 0x0, 1, 0x0, fun _ _ => [(F.WEB_OBS_T_LO, .ro)]⟩
def D.WEB_OBS_T_HI : RegDef := ⟨0x3001C, 1, 0x0, 1, 0x0, fun _ _ => [(F.WEB_OBS_T_HI, .ro)]⟩
def D.WEB_COAST : RegDef := ⟨0x30020, 1, 0x0, 1, 0x0, fun _ _ => [(F.WEB_COAST_FREEZE_N, .rw), (F.WEB_COAST_COAST_MS, .rw)]⟩
def D.WEB_REV_LIMIT : RegDef := ⟨0x30024, 1, 0x0, 1, 0x0, fun _ _ => [(F.WEB_REV_LIMIT_LIMIT, .rw)]⟩
def D.WEB_REPHASE : RegDef := ⟨0x30028, 1, 0x0, 1, 0x0, fun _ _ => [(F.WEB_REPHASE_SLEW_SH, .rw), (F.WEB_REPHASE_THRESH, .rw)]⟩
def D.WEB_SLOWDOWN : RegDef := ⟨0x3002C, 1, 0x0, 1, 0x0, fun _ _ => [(F.WEB_SLOWDOWN_THERM, .ro), (F.WEB_SLOWDOWN_OVS, .ro), (F.WEB_SLOWDOWN_VMAX, .ro)]⟩
def D.WEB_CORR : RegDef := ⟨0x30030, 1, 0x0, 1, 0x0, fun _ _ => [(F.WEB_CORR, .ro)]⟩
def D.WEB_FLAM : RegDef := ⟨0x30034, 1, 0x0, 1, 0x0, fun _ _ => [(F.WEB_FLAM_COUNT, .rc)]⟩
def D.WEB_SRC_CTL : RegDef := ⟨0x30040, 4, 0x20, 1, 0x0, fun n _ => [(F.WEB_SRC_CTL_EN n, .rw), (F.WEB_SRC_CTL_DIR n, .rw), (F.WEB_SRC_CTL_FILT n, .rw), (F.WEB_SRC_CTL_TYPE n, .rw), (F.WEB_SRC_CTL_INPUT n, .rw)]⟩
def D.WEB_SRC_SSI : RegDef := ⟨0x30044, 4, 0x20, 1, 0x0, fun n _ => [(F.WEB_SRC_SSI_MONO n, .rw), (F.WEB_SRC_SSI_CRC_EN n, .rw), (F.WEB_SRC_SSI_GRAY n, .rw), (F.WEB_SRC_SSI_CLKDIV n, .rw), (F.WEB_SRC_SSI_BITS n, .rw)]⟩
def D.WEB_SRC_SCALE_LO : RegDef := ⟨0x30048, 4, 0x20, 1, 0x0, fun n _ => [(F.WEB_SRC_SCALE_LO n, .rw)]⟩
def D.WEB_SRC_SCALE_HI : RegDef := ⟨0x3004C, 4, 0x20, 1, 0x0, fun n _ => [(F.WEB_SRC_SCALE_HI n, .rw)]⟩
def D.WEB_SRC_STATUS : RegDef := ⟨0x30050, 4, 0x20, 1, 0x0, fun n _ => [(F.WEB_SRC_STATUS_TRANS n, .rc), (F.WEB_SRC_STATUS_FROZEN n, .w1c), (F.WEB_SRC_STATUS_LOST n, .w1c), (F.WEB_SRC_STATUS_CRCERR n, .w1c), (F.WEB_SRC_STATUS_IDXERR n, .w1c), (F.WEB_SRC_STATUS_QERR n, .w1c), (F.WEB_SRC_STATUS_CFG_ERR n, .ro), (F.WEB_SRC_STATUS_IN_USE n, .ro), (F.WEB_SRC_STATUS_QUALIFIED n, .ro)]⟩
def D.WEB_SRC_PPR : RegDef := ⟨0x30054, 4, 0x20, 1, 0x0, fun n _ => [(F.WEB_SRC_PPR n, .rw)]⟩
def D.WEB_SRC_CNT_LO : RegDef := ⟨0x30058, 4, 0x20, 1, 0x0, fun n _ => [(F.WEB_SRC_CNT_LO n, .ro)]⟩
def D.WEB_SRC_CNT_HI : RegDef := ⟨0x3005C, 4, 0x20, 1, 0x0, fun n _ => [(F.WEB_SRC_CNT_HI n, .ro)]⟩
def D.WEB_ST_GCTL : RegDef := ⟨0x30100, 8, 0x40, 1, 0x0, fun n _ => [(F.WEB_ST_GCTL_RCANCEL n, .wo), (F.WEB_ST_GCTL_RPEND n, .w1s)]⟩
def D.WEB_ST_STATUS : RegDef := ⟨0x30104, 8, 0x40, 1, 0x0, fun n _ => [(F.WEB_ST_STATUS_DROPK n, .ro), (F.WEB_ST_STATUS_RAT_DONE n, .w1c), (F.WEB_ST_STATUS_RAT_SUPER n, .w1c), (F.WEB_ST_STATUS_RAT_REJ n, .w1c), (F.WEB_ST_STATUS_RAT_LATE n, .w1c), (F.WEB_ST_STATUS_OVS_WARN n, .ro), (F.WEB_ST_STATUS_DROPPING n, .ro), (F.WEB_ST_STATUS_ABSORB n, .ro), (F.WEB_ST_STATUS_HOLDING n, .ro)]⟩
def D.WEB_ST_OFS_LO : RegDef := ⟨0x30108, 8, 0x40, 1, 0x0, fun n _ => [(F.WEB_ST_OFS_LO n, .rw)]⟩
def D.WEB_ST_OFS_HI : RegDef := ⟨0x3010C, 8, 0x40, 1, 0x0, fun n _ => [(F.WEB_ST_OFS_HI n, .rw)]⟩
def D.WEB_ST_RAT_LO : RegDef := ⟨0x30110, 8, 0x40, 1, 0x0, fun n _ => [(F.WEB_ST_RAT_LO n, .ro)]⟩
def D.WEB_ST_RAT_HI : RegDef := ⟨0x30114, 8, 0x40, 1, 0x0, fun n _ => [(F.WEB_ST_RAT_HI n, .ro)]⟩
def D.WEB_ST_RNEXT_LO : RegDef := ⟨0x30118, 8, 0x40, 1, 0x0, fun n _ => [(F.WEB_ST_RNEXT_LO n, .rw)]⟩
def D.WEB_ST_RNEXT_HI : RegDef := ⟨0x3011C, 8, 0x40, 1, 0x0, fun n _ => [(F.WEB_ST_RNEXT_HI n, .rw)]⟩
def D.WEB_ST_RAT_AT_LO : RegDef := ⟨0x30120, 8, 0x40, 1, 0x0, fun n _ => [(F.WEB_ST_RAT_AT_LO n, .rw)]⟩
def D.WEB_ST_RAT_AT_HI : RegDef := ⟨0x30124, 8, 0x40, 1, 0x0, fun n _ => [(F.WEB_ST_RAT_AT_HI n, .rw)]⟩
def D.WEB_ST_LPOS_LO : RegDef := ⟨0x30128, 8, 0x40, 1, 0x0, fun n _ => [(F.WEB_ST_LPOS_LO n, .ro)]⟩
def D.WEB_ST_LPOS_HI : RegDef := ⟨0x3012C, 8, 0x40, 1, 0x0, fun n _ => [(F.WEB_ST_LPOS_HI n, .ro)]⟩
def D.WEB_ST_LBIAS_LO : RegDef := ⟨0x30130, 8, 0x40, 1, 0x0, fun n _ => [(F.WEB_ST_LBIAS_LO n, .ro)]⟩
def D.WEB_ST_LBIAS_HI : RegDef := ⟨0x30134, 8, 0x40, 1, 0x0, fun n _ => [(F.WEB_ST_LBIAS_HI n, .ro)]⟩
def D.WEB_ST_FLIM : RegDef := ⟨0x30138, 8, 0x40, 1, 0x0, fun n _ => [(F.WEB_ST_FLIM_LIMIT n, .ro)]⟩
def D.WEB_ST_HOLD : RegDef := ⟨0x3013C, 8, 0x40, 1, 0x0, fun n _ => [(F.WEB_ST_HOLD n, .ro)]⟩
def D.DMA_CTL : RegDef := ⟨0x40000, 1, 0x0, 1, 0x0, fun _ _ => [(F.DMA_CTL_EN, .rw)]⟩
def D.DMA_STATUS : RegDef := ⟨0x40004, 1, 0x0, 1, 0x0, fun _ _ => [(F.DMA_STATUS_BUSY, .ro)]⟩
def D.DMA_FLAM : RegDef := ⟨0x40008, 1, 0x0, 1, 0x0, fun _ _ => [(F.DMA_FLAM_COUNT, .rc)]⟩
def D.DMA_CH_CTL : RegDef := ⟨0x40100, 16, 0x20, 1, 0x0, fun n _ => [(F.DMA_CH_CTL_IRQ_CHAIN n, .rw), (F.DMA_CH_CTL_ABORT n, .wo), (F.DMA_CH_CTL_START n, .w1s)]⟩
def D.DMA_CH_STATUS : RegDef := ⟨0x40104, 16, 0x20, 1, 0x0, fun n _ => [(F.DMA_CH_STATUS_BADCNT n, .rc), (F.DMA_CH_STATUS_ERR n, .ro), (F.DMA_CH_STATUS_START_IGN n, .w1c), (F.DMA_CH_STATUS_ABORT_LATE n, .w1c), (F.DMA_CH_STATUS_FETCH_ERR n, .w1c), (F.DMA_CH_STATUS_BAD_SEEN n, .w1c), (F.DMA_CH_STATUS_ABORTED n, .w1c), (F.DMA_CH_STATUS_DONE n, .w1c), (F.DMA_CH_STATUS_BUSY n, .ro)]⟩
def D.DMA_CH_HEAD_LO : RegDef := ⟨0x40108, 16, 0x20, 1, 0x0, fun n _ => [(F.DMA_CH_HEAD_LO n, .rw)]⟩
def D.DMA_CH_HEAD_HI : RegDef := ⟨0x4010C, 16, 0x20, 1, 0x0, fun n _ => [(F.DMA_CH_HEAD_HI n, .rw)]⟩
def D.DMA_CH_CUR_LO : RegDef := ⟨0x40110, 16, 0x20, 1, 0x0, fun n _ => [(F.DMA_CH_CUR_LO n, .ro)]⟩
def D.DMA_CH_CUR_HI : RegDef := ⟨0x40114, 16, 0x20, 1, 0x0, fun n _ => [(F.DMA_CH_CUR_HI n, .ro)]⟩
def D.DMA_CH_RESIDUE : RegDef := ⟨0x40118, 16, 0x20, 1, 0x0, fun n _ => [(F.DMA_CH_RESIDUE n, .ro)]⟩
def D.DMA_CH_CRC : RegDef := ⟨0x4011C, 16, 0x20, 1, 0x0, fun n _ => [(F.DMA_CH_CRC n, .ro)]⟩
def D.FEED_CTL : RegDef := ⟨0x50000, 1, 0x0, 1, 0x0, fun _ _ => [(F.FEED_CTL_NOSNOOP, .rw)]⟩
def D.FEED_PEEK : RegDef := ⟨0x50008, 1, 0x0, 1, 0x0, fun _ _ => [(F.FEED_PEEK_WBASE, .rw), (F.FEED_PEEK_STATION, .rw), (F.FEED_PEEK_EN, .rw)]⟩
def D.FEED_MEM_CFG : RegDef := ⟨0x50010, 1, 0x0, 1, 0x0, fun _ _ => [(F.FEED_MEM_CFG_SIZE, .ro)]⟩
def D.FEED_MEM_STATUS : RegDef := ⟨0x50014, 1, 0x0, 1, 0x0, fun _ _ => [(F.FEED_MEM_STATUS_RETIRING, .ro), (F.FEED_MEM_STATUS_OOR, .w1c), (F.FEED_MEM_STATUS_POOL_EMPTY, .w1c), (F.FEED_MEM_STATUS_POOL_LOW, .w1c), (F.FEED_MEM_STATUS_UNCORR, .w1c), (F.FEED_MEM_STATUS_RETIRED, .w1c), (F.FEED_MEM_STATUS_ECC_T, .w1c)]⟩
def D.FEED_MEM_SPARE : RegDef := ⟨0x50018, 1, 0x0, 1, 0x0, fun _ _ => [(F.FEED_MEM_SPARE_FREE, .ro), (F.FEED_MEM_SPARE_PAGES, .rwl)]⟩
def D.FEED_MEM_ERR_LO : RegDef := ⟨0x5001C, 1, 0x0, 1, 0x0, fun _ _ => [(F.FEED_MEM_ERR_LO, .ro)]⟩
def D.FEED_MEM_ERR_HI : RegDef := ⟨0x50020, 1, 0x0, 1, 0x0, fun _ _ => [(F.FEED_MEM_ERR_HI, .ro)]⟩
def D.FEED_MEM_RETIRED : RegDef := ⟨0x50024, 1, 0x0, 1, 0x0, fun _ _ => [(F.FEED_MEM_RETIRED, .ro)]⟩
def D.FEED_MEM_TRANS : RegDef := ⟨0x50028, 1, 0x0, 1, 0x0, fun _ _ => [(F.FEED_MEM_TRANS, .rc)]⟩
def D.FEED_FLAM : RegDef := ⟨0x5002C, 1, 0x0, 1, 0x0, fun _ _ => [(F.FEED_FLAM_COUNT, .rc)]⟩
def D.FEED_LOCK : RegDef := ⟨0x50030, 1, 0x0, 1, 0x0, fun _ _ => [(F.FEED_LOCK_LOCK, .w1s)]⟩
def D.FEED_Q_CTL : RegDef := ⟨0x50100, 8, 0x40, 1, 0x0, fun n _ => [(F.FEED_Q_CTL_LOG2SIZE n, .rw), (F.FEED_Q_CTL_EN n, .rw)]⟩
def D.FEED_Q_STATUS : RegDef := ⟨0x50104, 8, 0x40, 1, 0x0, fun n _ => [(F.FEED_Q_STATUS_REANCHOR n, .w1c), (F.FEED_Q_STATUS_YRL_ERR n, .w1c), (F.FEED_Q_STATUS_DESC_ERR n, .w1c), (F.FEED_Q_STATUS_UNDERRUN n, .w1c), (F.FEED_Q_STATUS_OVERFLOW n, .w1c), (F.FEED_Q_STATUS_PROVISIONAL n, .ro), (F.FEED_Q_STATUS_JOBWAIT n, .ro), (F.FEED_Q_STATUS_EMPTY n, .ro), (F.FEED_Q_STATUS_RUNNING n, .ro)]⟩
def D.FEED_Q_BASE_LO : RegDef := ⟨0x50108, 8, 0x40, 1, 0x0, fun n _ => [(F.FEED_Q_BASE_LO n, .rw)]⟩
def D.FEED_Q_BASE_HI : RegDef := ⟨0x5010C, 8, 0x40, 1, 0x0, fun n _ => [(F.FEED_Q_BASE_HI n, .rw)]⟩
def D.FEED_Q_HEAD : RegDef := ⟨0x50110, 8, 0x40, 1, 0x0, fun n _ => [(F.FEED_Q_HEAD n, .ro)]⟩
def D.FEED_Q_TAIL : RegDef := ⟨0x50114, 8, 0x40, 1, 0x0, fun n _ => [(F.FEED_Q_TAIL n, .rw)]⟩
def D.FEED_Q_CUR_FRAME : RegDef := ⟨0x50118, 8, 0x40, 1, 0x0, fun n _ => [(F.FEED_Q_CUR_FRAME n, .ro)]⟩
def D.FEED_Q_CUR_JOB : RegDef := ⟨0x5011C, 8, 0x40, 1, 0x0, fun n _ => [(F.FEED_Q_CUR_JOB n, .ro)]⟩
def D.FEED_Q_PROV : RegDef := ⟨0x50120, 8, 0x40, 1, 0x0, fun n _ => [(F.FEED_Q_PROV_COUNT n, .ro), (F.FEED_Q_PROV_FIRST n, .ro)]⟩
def D.SCR_CFG : RegDef := ⟨0x60000, 8, 0x2000, 1, 0x0, fun n _ => [(F.SCR_CFG_PSHIDE n, .rw), (F.SCR_CFG_KIND n, .ro), (F.SCR_CFG_RES n, .rw), (F.SCR_CFG_WIDTH n, .rw)]⟩
def D.SCR_LEAD : RegDef := ⟨0x60004, 8, 0x2000, 1, 0x0, fun n _ => [(F.SCR_LEAD_FLOOR n, .rw), (F.SCR_LEAD_TARGET n, .rw)]⟩
def D.SCR_LEADNOW : RegDef := ⟨0x60008, 8, 0x2000, 1, 0x0, fun n _ => [(F.SCR_LEADNOW_MIN n, .rc), (F.SCR_LEADNOW_LEAD n, .ro)]⟩
def D.SCR_MOFS : RegDef := ⟨0x6000C, 8, 0x2000, 1, 0x0, fun n _ => [(F.SCR_MOFS_YOFF n, .rw), (F.SCR_MOFS_XOFF n, .rw)]⟩
def D.SCR_TADDR_LO : RegDef := ⟨0x60010, 8, 0x2000, 1, 0x0, fun n _ => [(F.SCR_TADDR_LO n, .rw)]⟩
def D.SCR_TADDR_HI : RegDef := ⟨0x60014, 8, 0x2000, 1, 0x0, fun n _ => [(F.SCR_TADDR_HI n, .rw)]⟩
def D.SCR_TCMD : RegDef := ⟨0x60018, 8, 0x2000, 1, 0x0, fun n _ => [(F.SCR_TCMD_GO n, .w1s), (F.SCR_TCMD_KIND n, .rw), (F.SCR_TCMD_OP n, .rw)]⟩
def D.SCR_TSTAT : RegDef := ⟨0x6001C, 8, 0x2000, 1, 0x0, fun n _ => [(F.SCR_TSTAT_ERR n, .ro), (F.SCR_TSTAT_HID n, .ro), (F.SCR_TSTAT_THR n, .ro), (F.SCR_TSTAT_CRV n, .ro)]⟩
def D.SCR_HEDIT : RegDef := ⟨0x60020, 8, 0x2000, 1, 0x0, fun n _ => [(F.SCR_HEDIT_NOHELP n, .wo), (F.SCR_HEDIT_MISSING n, .wo), (F.SCR_HEDIT_NOZZLE n, .wo)]⟩
def D.SCR_STATUS : RegDef := ⟨0x60024, 8, 0x2000, 1, 0x0, fun n _ => [(F.SCR_STATUS_HIDE_LOST n, .w1c), (F.SCR_STATUS_LEAD_CFG_REJ n, .w1c), (F.SCR_STATUS_LEAD_LOW n, .w1c), (F.SCR_STATUS_TMEM_UNCORR n, .w1c), (F.SCR_STATUS_TMEM_DAMAGED n, .w1c), (F.SCR_STATUS_TMEM_TRANS n, .w1c), (F.SCR_STATUS_LOAD_ERR n, .w1c), (F.SCR_STATUS_BANK_LATE n, .w1c)]⟩
def D.SCR_DEMAND : RegDef := ⟨0x60028, 8, 0x2000, 1, 0x0, fun n _ => [(F.SCR_DEMAND_RATIO n, .ro)]⟩
def D.SCR_FLAM : RegDef := ⟨0x6002C, 8, 0x2000, 1, 0x0, fun n _ => [(F.SCR_FLAM_COUNT n, .rc)]⟩
def D.INK_FLAM : RegDef := ⟨0x80000, 1, 0x0, 1, 0x0, fun _ _ => [(F.INK_FLAM_COUNT, .rc)]⟩
def D.INK_SB_CMD : RegDef := ⟨0x80010, 1, 0x0, 1, 0x0, fun _ _ => [(F.INK_SB_CMD_GO, .w1s), (F.INK_SB_CMD_WRITE, .rw), (F.INK_SB_CMD_STATION, .rw), (F.INK_SB_CMD_HUB, .rw), (F.INK_SB_CMD_PORT, .rw), (F.INK_SB_CMD_ADDR, .rw), (F.INK_SB_CMD_LEN, .rw)]⟩
def D.INK_SB_REG : RegDef := ⟨0x80014, 1, 0x0, 1, 0x0, fun _ _ => [(F.INK_SB_REG, .rw)]⟩
def D.INK_SB_STATUS : RegDef := ⟨0x80018, 1, 0x0, 1, 0x0, fun _ _ => [(F.INK_SB_STATUS_RETRIED, .ro), (F.INK_SB_STATUS_RESULT, .ro), (F.INK_SB_STATUS_BUSY, .ro)]⟩
def D.INK_SB_DATA : RegDef := ⟨0x80020, 8, 0x4, 1, 0x0, fun n _ => [(F.INK_SB_DATA n, .rw)]⟩
def D.INK_DD_CTL : RegDef := ⟨0x80040, 1, 0x0, 1, 0x0, fun _ _ => [(F.INK_DD_CTL_HIDE_DEV, .rw), (F.INK_DD_CTL_DSIZE, .rw), (F.INK_DD_CTL_BURST, .rw), (F.INK_DD_CTL_MODE, .rw), (F.INK_DD_CTL_GATE, .rw), (F.INK_DD_CTL_STATION, .rw), (F.INK_DD_CTL_EN, .rw)]⟩
def D.INK_DD_RANGE : RegDef := ⟨0x80044, 1, 0x0, 1, 0x0, fun _ _ => [(F.INK_DD_RANGE_LAST, .rw), (F.INK_DD_RANGE_FIRST, .rw)]⟩
def D.INK_DD_TIME : RegDef := ⟨0x80048, 1, 0x0, 1, 0x0, fun _ _ => [(F.INK_DD_TIME_WIN, .rw), (F.INK_DD_TIME_FLIGHT, .rw)]⟩
def D.INK_DD_PERIOD : RegDef := ⟨0x8004C, 1, 0x0, 1, 0x0, fun _ _ => [(F.INK_DD_PERIOD, .rw)]⟩
def D.INK_DD_WEAK : RegDef := ⟨0x80050, 1, 0x0, 1, 0x0, fun _ _ => [(F.INK_DD_WEAK, .rw)]⟩
def D.INK_DD_RESULT : RegDef := ⟨0x80054, 1, 0x0, 1, 0x0, fun _ _ => [(F.INK_DD_RESULT_VALID, .rc), (F.INK_DD_RESULT_CLASS, .rc), (F.INK_DD_RESULT_RETEST, .rc), (F.INK_DD_RESULT_STATION, .rc), (F.INK_DD_RESULT_NOZZLE, .rc)]⟩
def D.INK_L_STATUS : RegDef := ⟨0x80100, 18, 0x20, 1, 0x0, fun n _ => [(F.INK_L_STATUS_TIMEOUT n, .w1c), (F.INK_L_STATUS_NACK_SEEN n, .w1c), (F.INK_L_STATUS_NOSPARE1 n, .ro), (F.INK_L_STATUS_NOSPARE0 n, .ro), (F.INK_L_STATUS_SPARE n, .ro), (F.INK_L_STATUS_SPARED n, .ro), (F.INK_L_STATUS_FAILED n, .ro), (F.INK_L_STATUS_TBLOCK n, .ro), (F.INK_L_STATUS_UP n, .ro)]⟩
def D.INK_L_DELAY : RegDef := ⟨0x80104, 18, 0x20, 1, 0x0, fun n _ => [(F.INK_L_DELAY n, .ro)]⟩
def D.INK_L_TRANS : RegDef := ⟨0x80108, 18, 0x20, 1, 0x0, fun n _ => [(F.INK_L_TRANS n, .rc)]⟩
def D.INK_L_SDELAY : RegDef := ⟨0x8010C, 18, 0x20, 1, 0x0, fun n _ => [(F.INK_L_SDELAY_SP1 n, .ro), (F.INK_L_SDELAY_SP0 n, .ro)]⟩
def D.INK_SP_CTL : RegDef := ⟨0x80400, 2, 0x10, 1, 0x0, fun n _ => [(F.INK_SP_CTL_EN n, .rw), (F.INK_SP_CTL_PARK n, .rw), (F.INK_SP_CTL_MAP n, .rw)]⟩
def D.INK_SP_STATUS : RegDef := ⟨0x80404, 2, 0x10, 1, 0x0, fun n _ => [(F.INK_SP_STATUS_FOR_LANE n, .ro), (F.INK_SP_STATUS_FAIL n, .w1c), (F.INK_SP_STATUS_ULOCK n, .ro), (F.INK_SP_STATUS_IN_USE n, .ro), (F.INK_SP_STATUS_FREE n, .ro)]⟩
def D.INK_S_VMIN : RegDef := ⟨0x81000, 8, 0x100, 1, 0x0, fun n _ => [(F.INK_S_VMIN n, .rw)]⟩
def D.INK_S_STATUS : RegDef := ⟨0x81004, 8, 0x100, 1, 0x0, fun n _ => [(F.INK_S_STATUS_SB_FAIL n, .w1c), (F.INK_S_STATUS_WAVE_ERR n, .w1c), (F.INK_S_STATUS_TEMP_LIMIT n, .w1c), (F.INK_S_STATUS_LATE_PKT n, .w1c), (F.INK_S_STATUS_MISSED n, .w1c), (F.INK_S_STATUS_HEAD_HOT n, .ro), (F.INK_S_STATUS_BELOW_VMIN n, .ro)]⟩
def D.INK_S_WCMD : RegDef := ⟨0x81008, 8, 0x100, 1, 0x0, fun n _ => [(F.INK_S_WCMD_GO n, .w1s), (F.INK_S_WCMD_OP n, .rw)]⟩
def D.INK_S_WSTAT : RegDef := ⟨0x8100C, 8, 0x100, 1, 0x0, fun n _ => [(F.INK_S_WSTAT_ERR n, .ro), (F.INK_S_WSTAT_PEND n, .ro), (F.INK_S_WSTAT_DAMAGED n, .ro), (F.INK_S_WSTAT_ENGAGED n, .ro), (F.INK_S_WSTAT_STATE n, .ro), (F.INK_S_WSTAT_ACTIVE n, .ro)]⟩
def D.INK_S_WADDR_LO : RegDef := ⟨0x81010, 8, 0x100, 1, 0x0, fun n _ => [(F.INK_S_WADDR_LO n, .rw)]⟩
def D.INK_S_WADDR_HI : RegDef := ⟨0x81014, 8, 0x100, 1, 0x0, fun n _ => [(F.INK_S_WADDR_HI n, .rw)]⟩
def D.INK_S_MISSED : RegDef := ⟨0x81018, 8, 0x100, 1, 0x0, fun n _ => [(F.INK_S_MISSED n, .rc)]⟩
def D.INK_S_HD_MAP : RegDef := ⟨0x82000, 8, 0x400, 48, 0x10, fun n k => [(F.INK_S_HD_MAP_EN n k, .rw), (F.INK_S_HD_MAP_REV n k, .rw), (F.INK_S_HD_MAP_HUB n k, .rw), (F.INK_S_HD_MAP_PORT n k, .rw), (F.INK_S_HD_MAP_FIRST n k, .rw)]⟩
def D.INK_S_HD_CFG : RegDef := ⟨0x82004, 8, 0x400, 48, 0x10, fun n k => [(F.INK_S_HD_CFG_DLY n k, .rw), (F.INK_S_HD_CFG_TICKLE n k, .rw), (F.INK_S_HD_CFG_GROUP n k, .rw), (F.INK_S_HD_CFG_ROWOFS n k, .rw), (F.INK_S_HD_CFG_COUNT n k, .rw)]⟩
def D.INK_S_HD_TEMP : RegDef := ⟨0x82008, 8, 0x400, 48, 0x10, fun n k => [(F.INK_S_HD_TEMP_S n k, .ro), (F.INK_S_HD_TEMP_T n k, .ro)]⟩
def D.INK_S_HD_SCALE : RegDef := ⟨0x8200C, 8, 0x400, 48, 0x10, fun n k => [(F.INK_S_HD_SCALE_USED n k, .ro), (F.INK_S_HD_SCALE_AGE n k, .rw)]⟩
def D.EPS_FLAM : RegDef := ⟨0xA0000, 1, 0x0, 1, 0x0, fun _ _ => [(F.EPS_FLAM_COUNT, .rc)]⟩
def D.EPS_LOCK : RegDef := ⟨0xA0004, 1, 0x0, 1, 0x0, fun _ _ => [(F.EPS_LOCK_LOCK, .w1s)]⟩
def D.EPS_FZ_CTL : RegDef := ⟨0xA0100, 2, 0x20, 1, 0x0, fun n _ => [(F.EPS_FZ_CTL_EN n, .rw), (F.EPS_FZ_CTL_STATION n, .rw), (F.EPS_FZ_CTL_TH n, .rw), (F.EPS_FZ_CTL_BAND n, .rw), (F.EPS_FZ_CTL_SETPT n, .rw)]⟩
def D.EPS_FZ_DUTY : RegDef := ⟨0xA0104, 2, 0x20, 1, 0x0, fun n _ => [(F.EPS_FZ_DUTY_N n, .rw), (F.EPS_FZ_DUTY_M n, .rw)]⟩
def D.EPS_FZ_CUT : RegDef := ⟨0xA0108, 2, 0x20, 1, 0x0, fun n _ => [(F.EPS_FZ_CUT n, .rwl)]⟩
def D.EPS_FZ_STATUS : RegDef := ⟨0xA010C, 2, 0x20, 1, 0x0, fun n _ => [(F.EPS_FZ_STATUS_ZC_LOST n, .w1c), (F.EPS_FZ_STATUS_CUT n, .w1c), (F.EPS_FZ_STATUS_IN_BAND n, .ro), (F.EPS_FZ_STATUS_HEAT n, .ro), (F.EPS_FZ_STATUS_SENS_BAD n, .w1c), (F.EPS_FZ_STATUS_TEMP_OUT n, .w1c)]⟩
def D.EPS_FZ_TEMP : RegDef := ⟨0xA0110, 2, 0x20, 1, 0x0, fun n _ => [(F.EPS_FZ_TEMP n, .ro)]⟩
def D.EPS_HV_CFG : RegDef := ⟨0xA0800, 16, 0x20, 1, 0x0, fun n _ => [(F.EPS_HV_CFG_EN n, .rw), (F.EPS_HV_CFG_ARCEN n, .rw), (F.EPS_HV_CFG_MON n, .rw), (F.EPS_HV_CFG_ARC_N n, .rw), (F.EPS_HV_CFG_ARC_TOL n, .rw), (F.EPS_HV_CFG_TOL n, .rw)]⟩
def D.EPS_HV_SET : RegDef := ⟨0xA0804, 16, 0x20, 1, 0x0, fun n _ => [(F.EPS_HV_SET n, .rw)]⟩
def D.EPS_HV_RAMP : RegDef := ⟨0xA0808, 16, 0x20, 1, 0x0, fun n _ => [(F.EPS_HV_RAMP_MGAIN n, .rw), (F.EPS_HV_RAMP_RAMP n, .rw)]⟩
def D.EPS_HV_STATUS : RegDef := ⟨0xA080C, 16, 0x20, 1, 0x0, fun n _ => [(F.EPS_HV_STATUS_OUT n, .ro), (F.EPS_HV_STATUS_ARC_LATCH n, .ro), (F.EPS_HV_STATUS_ARC n, .w1c), (F.EPS_HV_STATUS_AT_SET n, .ro), (F.EPS_HV_STATUS_RAMPING n, .ro)]⟩
def D.EPS_HV_MON : RegDef := ⟨0xA0810, 16, 0x20, 1, 0x0, fun n _ => [(F.EPS_HV_MON n, .ro)]⟩
def D.EPS_S_CFG : RegDef := ⟨0xA1000, 4, 0x400, 1, 0x0, fun n _ => [(F.EPS_S_CFG_FOLLOW n, .rw), (F.EPS_S_CFG_BEAMREV n, .rw), (F.EPS_S_CFG_SCANDIR n, .rw), (F.EPS_S_CFG_BDBEAM n, .rw), (F.EPS_S_CFG_BD_EDGE n, .rw)]⟩
def D.EPS_S_STATUS : RegDef := ⟨0xA1004, 4, 0x400, 1, 0x0, fun n _ => [(F.EPS_S_STATUS_STATE n, .ro), (F.EPS_S_STATUS_STEP n, .ro), (F.EPS_S_STATUS_BELOW_VMIN n, .ro), (F.EPS_S_STATUS_PHLOCK n, .ro), (F.EPS_S_STATUS_BD_OK n, .ro), (F.EPS_S_STATUS_APC_ERR n, .w1c), (F.EPS_S_STATUS_BEAM_FLT n, .w1c), (F.EPS_S_STATUS_HV_ARC n, .w1c), (F.EPS_S_STATUS_XSPOIL n, .w1c), (F.EPS_S_STATUS_SQUASH n, .w1c), (F.EPS_S_STATUS_BD_LOST n, .w1c), (F.EPS_S_STATUS_BD_MISS n, .w1c), (F.EPS_S_STATUS_PIX_CLAMP n, .w1c)]⟩
def D.EPS_S_PPF : RegDef := ⟨0xA1008, 4, 0x400, 1, 0x0, fun n _ => [(F.EPS_S_PPF n, .rw)]⟩
def D.EPS_S_MAG : RegDef := ⟨0xA100C, 4, 0x400, 1, 0x0, fun n _ => [(F.EPS_S_MAG n, .rw)]⟩
def D.EPS_S_SCAN : RegDef := ⟨0xA1010, 4, 0x400, 1, 0x0, fun n _ => [(F.EPS_S_SCAN_LEAD n, .rw), (F.EPS_S_SCAN_SOS n, .rw)]⟩
def D.EPS_S_APCWIN : RegDef := ⟨0xA1014, 4, 0x400, 1, 0x0, fun n _ => [(F.EPS_S_APCWIN_APC_LEN n, .rw), (F.EPS_S_APCWIN_APC_OFS n, .rw)]⟩
def D.EPS_S_XPHASE : RegDef := ⟨0xA1018, 4, 0x400, 1, 0x0, fun n _ => [(F.EPS_S_XPHASE n, .rw)]⟩
def D.EPS_S_XWIN : RegDef := ⟨0xA101C, 4, 0x400, 1, 0x0, fun n _ => [(F.EPS_S_XWIN_XMISS n, .rw), (F.EPS_S_XWIN_XTOL n, .rw)]⟩
def D.EPS_S_XERR : RegDef := ⟨0xA1020, 4, 0x400, 1, 0x0, fun n _ => [(F.EPS_S_XERR n, .ro)]⟩
def D.EPS_S_BDT_LO : RegDef := ⟨0xA1024, 4, 0x400, 1, 0x0, fun n _ => [(F.EPS_S_BDT_LO n, .ro)]⟩
def D.EPS_S_BDT_HI : RegDef := ⟨0xA1028, 4, 0x400, 1, 0x0, fun n _ => [(F.EPS_S_BDT_HI n, .ro)]⟩
def D.EPS_S_TFAC : RegDef := ⟨0xA102C, 4, 0x400, 1, 0x0, fun n _ => [(F.EPS_S_TFAC n, .ro)]⟩
def D.EPS_S_PRAT_LO : RegDef := ⟨0xA1030, 4, 0x400, 1, 0x0, fun n _ => [(F.EPS_S_PRAT_LO n, .ro)]⟩
def D.EPS_S_PRAT_HI : RegDef := ⟨0xA1034, 4, 0x400, 1, 0x0, fun n _ => [(F.EPS_S_PRAT_HI n, .ro)]⟩
def D.EPS_S_FPOS_LO : RegDef := ⟨0xA1038, 4, 0x400, 1, 0x0, fun n _ => [(F.EPS_S_FPOS_LO n, .ro)]⟩
def D.EPS_S_FPOS_HI : RegDef := ⟨0xA103C, 4, 0x400, 1, 0x0, fun n _ => [(F.EPS_S_FPOS_HI n, .ro)]⟩
def D.EPS_S_VMIN : RegDef := ⟨0xA1040, 4, 0x400, 1, 0x0, fun n _ => [(F.EPS_S_VMIN n, .rw)]⟩
def D.EPS_S_POLY : RegDef := ⟨0xA1044, 4, 0x400, 1, 0x0, fun n _ => [(F.EPS_S_POLY_CHAN n, .rw), (F.EPS_S_POLY_FACETS n, .rw), (F.EPS_S_POLY_SPINUP n, .rw), (F.EPS_S_POLY_RPM_MAX n, .rw)]⟩
def D.EPS_S_DRUM : RegDef := ⟨0xA1048, 4, 0x400, 1, 0x0, fun n _ => [(F.EPS_S_DRUM_AXIS n, .rw), (F.EPS_S_DRUM_DEVDLY n, .rw)]⟩
def D.EPS_S_APC_CTL : RegDef := ⟨0xA104C, 4, 0x400, 1, 0x0, fun n _ => [(F.EPS_S_APC_CTL_SPIDIV n, .rw), (F.EPS_S_APC_CTL_DRIVE_MAX n, .rw)]⟩
def D.EPS_S_BDLY : RegDef := ⟨0xA1060, 4, 0x400, 8, 0x4, fun n k => [(F.EPS_S_BDLY n k, .rw)]⟩
def D.EPS_S_PTAB : RegDef := ⟨0xA1084, 4, 0x400, 15, 0x4, fun n k => [(F.EPS_S_PTAB_LAST n (k + 1), .rw), (F.EPS_S_PTAB_FIRST n (k + 1), .rw)]⟩
def D.EPS_S_APC : RegDef := ⟨0xA10C0, 4, 0x400, 8, 0x4, fun n k => [(F.EPS_S_APC_DRIVE n k, .ro), (F.EPS_S_APC_TARGET n k, .rw)]⟩
def D.CHG_STATUS : RegDef := ⟨0xC0000, 1, 0x0, 1, 0x0, fun _ _ => [(F.CHG_STATUS_SPLICE_CUT, .w1c), (F.CHG_STATUS_CANCELLED, .w1c), (F.CHG_STATUS_NOTAPP, .w1c), (F.CHG_STATUS_REJECTED, .w1c), (F.CHG_STATUS_PEND, .ro)]⟩
def D.CHG_CS_ADDR_LO : RegDef := ⟨0xC0008, 1, 0x0, 1, 0x0, fun _ _ => [(F.CHG_CS_ADDR_LO, .rw)]⟩
def D.CHG_CS_ADDR_HI : RegDef := ⟨0xC000C, 1, 0x0, 1, 0x0, fun _ _ => [(F.CHG_CS_ADDR_HI, .rw)]⟩
def D.CHG_CS_CMD : RegDef := ⟨0xC0010, 1, 0x0, 1, 0x0, fun _ _ => [(F.CHG_CS_CMD_GO, .w1s), (F.CHG_CS_CMD_OP, .rw), (F.CHG_CS_CMD_EPOCH, .rw)]⟩
def D.CHG_CS_RESULT : RegDef := ⟨0xC0014, 1, 0x0, 1, 0x0, fun _ _ => [(F.CHG_CS_RESULT_EPOCH, .ro), (F.CHG_CS_RESULT_REJ, .ro)]⟩
def D.CHG_FLAM : RegDef := ⟨0xC0018, 1, 0x0, 1, 0x0, fun _ _ => [(F.CHG_FLAM_COUNT, .rc)]⟩
def D.CHG_LOCK : RegDef := ⟨0xC001C, 1, 0x0, 1, 0x0, fun _ _ => [(F.CHG_LOCK_LOCK, .w1s)]⟩
def D.CHG_CS_STATE : RegDef := ⟨0xC0040, 4, 0x20, 1, 0x0, fun n _ => [(F.CHG_CS_STATE_EPOCH n, .ro), (F.CHG_CS_STATE_MASK n, .ro), (F.CHG_CS_STATE_STATE n, .ro)]⟩
def D.CHG_CS_DONE : RegDef := ⟨0xC0044, 4, 0x20, 1, 0x0, fun n _ => [(F.CHG_CS_DONE_NOTAPP n, .ro), (F.CHG_CS_DONE_APPLIED n, .ro)]⟩
def D.CHG_CS_SPLICE_LO : RegDef := ⟨0xC0048, 4, 0x20, 1, 0x0, fun n _ => [(F.CHG_CS_SPLICE_LO n, .ro)]⟩
def D.CHG_CS_SPLICE_HI : RegDef := ⟨0xC004C, 4, 0x20, 1, 0x0, fun n _ => [(F.CHG_CS_SPLICE_HI n, .ro)]⟩
def D.CHG_CS_JOB : RegDef := ⟨0xC0050, 4, 0x20, 1, 0x0, fun n _ => [(F.CHG_CS_JOB n, .ro)]⟩
def D.CHG_S_CONF : RegDef := ⟨0xC0100, 8, 0x20, 1, 0x0, fun n _ => [(F.CHG_S_CONF_CLEAD n, .rw), (F.CHG_S_CONF_CWIN n, .rw)]⟩
def D.CHG_S_STATUS : RegDef := ⟨0xC0104, 8, 0x20, 1, 0x0, fun n _ => [(F.CHG_S_STATUS_EPOCH n, .ro), (F.CHG_S_STATUS_REVLIM n, .w1c), (F.CHG_S_STATUS_LOST n, .w1c), (F.CHG_S_STATUS_SQUASH n, .w1c), (F.CHG_S_STATUS_NOTAPP n, .w1c), (F.CHG_S_STATUS_BEHIND n, .ro)]⟩
def D.CHG_S_JOB : RegDef := ⟨0xC0108, 8, 0x20, 1, 0x0, fun n _ => [(F.CHG_S_JOB n, .ro)]⟩
def D.CHG_S_SPLICE_LINE : RegDef := ⟨0xC010C, 8, 0x20, 1, 0x0, fun n _ => [(F.CHG_S_SPLICE_LINE n, .ro)]⟩
def D.CHG_S_LOST : RegDef := ⟨0xC0110, 8, 0x20, 1, 0x0, fun n _ => [(F.CHG_S_LOST n, .rc)]⟩
def D.CHG_LED_BASE_LO : RegDef := ⟨0xC0200, 1, 0x0, 1, 0x0, fun _ _ => [(F.CHG_LED_BASE_LO, .rwl)]⟩
def D.CHG_LED_BASE_HI : RegDef := ⟨0xC0204, 1, 0x0, 1, 0x0, fun _ _ => [(F.CHG_LED_BASE_HI, .rwl)]⟩
def D.CHG_LED_STATUS : RegDef := ⟨0xC020C, 1, 0x0, 1, 0x0, fun _ _ => [(F.CHG_LED_STATUS_FLUSHED, .w1c), (F.CHG_LED_STATUS_SPILL, .w1c), (F.CHG_LED_STATUS_OVERRUN, .w1c)]⟩
def D.CHG_LED_W : RegDef := ⟨0xC0210, 1, 0x0, 1, 0x0, fun _ _ => [(F.CHG_LED_W, .ro)]⟩
def D.CHG_LED_R : RegDef := ⟨0xC0214, 1, 0x0, 1, 0x0, fun _ _ => [(F.CHG_LED_R, .rw)]⟩
def D.CHG_LED_F : RegDef := ⟨0xC0218, 1, 0x0, 1, 0x0, fun _ _ => [(F.CHG_LED_F, .ro)]⟩
def D.CHG_LED_OPEN : RegDef := ⟨0xC021C, 1, 0x0, 1, 0x0, fun _ _ => [(F.CHG_LED_OPEN, .ro)]⟩
def D.MLT_CTL : RegDef := ⟨0xD0000, 1, 0x0, 1, 0x0, fun _ _ => [(F.MLT_CTL_AUTOTAKE, .rw)]⟩
def D.MLT_SPARES : RegDef := ⟨0xD0004, 1, 0x0, 1, 0x0, fun _ _ => [(F.MLT_SPARES_FREE, .ro)]⟩
def D.MLT_HALTED_LO : RegDef := ⟨0xD0008, 1, 0x0, 1, 0x0, fun _ _ => [(F.MLT_HALTED_LO, .ro)]⟩
def D.MLT_HALTED_HI : RegDef := ⟨0xD000C, 1, 0x0, 1, 0x0, fun _ _ => [(F.MLT_HALTED_HI, .ro)]⟩
def D.MLT_ASSIGN : RegDef := ⟨0xD0010, 1, 0x0, 1, 0x0, fun _ _ => [(F.MLT_ASSIGN_GO, .w1s), (F.MLT_ASSIGN_OP, .rw), (F.MLT_ASSIGN_ROLE, .rw), (F.MLT_ASSIGN_MALLET, .rw)]⟩
def D.MLT_ASSIGN_RESULT : RegDef := ⟨0xD0014, 1, 0x0, 1, 0x0, fun _ _ => [(F.MLT_ASSIGN_RESULT_EPOCH, .ro), (F.MLT_ASSIGN_RESULT_ERR, .ro)]⟩
def D.MLT_FLAM : RegDef := ⟨0xD0018, 1, 0x0, 1, 0x0, fun _ _ => [(F.MLT_FLAM_COUNT, .rc)]⟩
def D.MLT_LOCK : RegDef := ⟨0xD001C, 1, 0x0, 1, 0x0, fun _ _ => [(F.MLT_LOCK_LOCK, .w1s)]⟩
def D.MLT_IMGSTORE_LO : RegDef := ⟨0xD0020, 1, 0x0, 1, 0x0, fun _ _ => [(F.MLT_IMGSTORE_LO, .rwl)]⟩
def D.MLT_IMGSTORE_HI : RegDef := ⟨0xD0024, 1, 0x0, 1, 0x0, fun _ _ => [(F.MLT_IMGSTORE_HI, .rwl)]⟩
def D.MLT_MSM_ECC : RegDef := ⟨0xD0028, 1, 0x0, 1, 0x0, fun _ _ => [(F.MLT_MSM_ECC, .rc)]⟩
def D.MLT_HOST_TX : RegDef := ⟨0xD0040, 4, 0x4, 1, 0x0, fun n _ => [(F.MLT_HOST_TX n, .rw)]⟩
def D.MLT_HOST_TXCMD : RegDef := ⟨0xD0050, 1, 0x0, 1, 0x0, fun _ _ => [(F.MLT_HOST_TXCMD_GO, .w1s)]⟩
def D.MLT_HOST_RX : RegDef := ⟨0xD0060, 4, 0x4, 1, 0x0, fun n _ => [(F.MLT_HOST_RX n, .ro)]⟩
def D.MLT_HOST_RXSTAT : RegDef := ⟨0xD0070, 1, 0x0, 1, 0x0, fun _ _ => [(F.MLT_HOST_RXSTAT_POP, .wo), (F.MLT_HOST_RXSTAT_BOUNCE, .ro), (F.MLT_HOST_RXSTAT_COUNT, .ro)]⟩
def D.MLT_ROLE_MAP : RegDef := ⟨0xD0400, 62, 0x8, 1, 0x0, fun n _ => [(F.MLT_ROLE_MAP_BOUND n, .ro), (F.MLT_ROLE_MAP_MALLET n, .ro), (F.MLT_ROLE_MAP_STATION n, .ro), (F.MLT_ROLE_MAP_EPOCH n, .ro)]⟩
def D.MLT_ROLE_PRIV : RegDef := ⟨0xD0404, 62, 0x8, 1, 0x0, fun n _ => [(F.MLT_ROLE_PRIV_WRMASK n, .rwl), (F.MLT_ROLE_PRIV_PRIV n, .rwl)]⟩
def D.MLT_M_CTL : RegDef := ⟨0xD1000, 36, 0x40, 1, 0x0, fun n _ => [(F.MLT_M_CTL_HALT n, .wo)]⟩
def D.MLT_M_STATUS : RegDef := ⟨0xD1004, 36, 0x40, 1, 0x0, fun n _ => [(F.MLT_M_STATUS_KIND n, .ro), (F.MLT_M_STATUS_SPARE n, .ro), (F.MLT_M_STATUS_ECC_T n, .w1c), (F.MLT_M_STATUS_BOUNCE_LOST n, .w1c), (F.MLT_M_STATUS_EXC n, .w1c), (F.MLT_M_STATUS_WHY n, .ro), (F.MLT_M_STATUS_STATE n, .ro)]⟩
def D.MLT_M_PC : RegDef := ⟨0xD1008, 36, 0x40, 1, 0x0, fun n _ => [(F.MLT_M_PC n, .ro)]⟩
def D.MLT_M_CAUSE : RegDef := ⟨0xD100C, 36, 0x40, 1, 0x0, fun n _ => [(F.MLT_M_CAUSE n, .ro)]⟩
def D.MLT_M_EPC : RegDef := ⟨0xD1010, 36, 0x40, 1, 0x0, fun n _ => [(F.MLT_M_EPC n, .ro)]⟩
def D.MLT_M_WDOG : RegDef := ⟨0xD1014, 36, 0x40, 1, 0x0, fun n _ => [(F.MLT_M_WDOG n, .rw)]⟩
def D.MLT_M_QUEUE : RegDef := ⟨0xD1018, 36, 0x40, 1, 0x0, fun n _ => [(F.MLT_M_QUEUE_BOUNCE n, .ro), (F.MLT_M_QUEUE_INQ n, .ro)]⟩
def D.MLT_M_ECC : RegDef := ⟨0xD101C, 36, 0x40, 1, 0x0, fun n _ => [(F.MLT_M_ECC n, .rc)]⟩
def D.MLT_M_PORT : RegDef := ⟨0xD6000, 36, 0x400, 256, 0x4, fun n k => [(F.MLT_M_PORT_TYPE n k, .ro), (F.MLT_M_PORT_TARGET n k, .ro), (F.MLT_M_PORT_ARG n k, .ro)]⟩
def D.AXS_FLAM : RegDef := ⟨0xE0000, 1, 0x0, 1, 0x0, fun _ _ => [(F.AXS_FLAM_COUNT, .rc)]⟩
def D.AXS_TCMD : RegDef := ⟨0xE0010, 1, 0x0, 1, 0x0, fun _ _ => [(F.AXS_TCMD_GO, .w1s), (F.AXS_TCMD_UNIT, .rw), (F.AXS_TCMD_KIND, .rw), (F.AXS_TCMD_OP, .rw)]⟩
def D.AXS_TERR : RegDef := ⟨0xE0014, 1, 0x0, 1, 0x0, fun _ _ => [(F.AXS_TERR, .ro)]⟩
def D.AXS_TADDR_LO : RegDef := ⟨0xE0018, 1, 0x0, 1, 0x0, fun _ _ => [(F.AXS_TADDR_LO, .rw)]⟩
def D.AXS_TADDR_HI : RegDef := ⟨0xE001C, 1, 0x0, 1, 0x0, fun _ _ => [(F.AXS_TADDR_HI, .rw)]⟩
def D.AXS_SSI : RegDef := ⟨0xE0020, 4, 0x4, 1, 0x0, fun n _ => [(F.AXS_SSI_MONO n, .rw), (F.AXS_SSI_CRC_EN n, .rw), (F.AXS_SSI_GRAY n, .rw), (F.AXS_SSI_CLKDIV n, .rw), (F.AXS_SSI_BITS n, .rw)]⟩
def D.AXS_LT_CTL : RegDef := ⟨0xE0100, 16, 0x10, 1, 0x0, fun n _ => [(F.AXS_LT_CTL_EN n, .rw), (F.AXS_LT_CTL_ROLE n, .rw)]⟩
def D.AXS_LT_PERIOD : RegDef := ⟨0xE0104, 16, 0x10, 1, 0x0, fun n _ => [(F.AXS_LT_PERIOD n, .rw)]⟩
def D.AXS_LT_PHASE : RegDef := ⟨0xE0108, 16, 0x10, 1, 0x0, fun n _ => [(F.AXS_LT_PHASE n, .rw)]⟩
def D.AXS_LT_STATUS : RegDef := ⟨0xE010C, 16, 0x10, 1, 0x0, fun n _ => [(F.AXS_LT_STATUS_LATE n, .rc), (F.AXS_LT_STATUS_REFUSED n, .w1c), (F.AXS_LT_STATUS_RUNNING n, .ro)]⟩
def D.AXS_G_CTL : RegDef := ⟨0xE0200, 4, 0x8, 1, 0x0, fun n _ => [(F.AXS_G_CTL_LEADER n, .rw), (F.AXS_G_CTL_MASK n, .rw)]⟩
def D.AXS_G_STATUS : RegDef := ⟨0xE0204, 4, 0x8, 1, 0x0, fun n _ => [(F.AXS_G_STATUS_STATE n, .ro), (F.AXS_G_STATUS_REJ n, .ro)]⟩
def D.TR_CTL : RegDef := ⟨0xE0300, 4, 0x40, 1, 0x0, fun n _ => [(F.TR_CTL_ARM n, .w1s), (F.TR_CTL_FORCE n, .wo), (F.TR_CTL_CLKSRC n, .rw), (F.TR_CTL_TIMER n, .rw), (F.TR_CTL_DIV n, .rw), (F.TR_CTL_PRE n, .rw)]⟩
def D.TR_TRIG : RegDef := ⟨0xE0304, 4, 0x40, 1, 0x0, fun n _ => [(F.TR_TRIG_MODE n, .rw), (F.TR_TRIG_EVENT n, .rw)]⟩
def D.TR_THRESH : RegDef := ⟨0xE0308, 4, 0x40, 1, 0x0, fun n _ => [(F.TR_THRESH n, .rw)]⟩
def D.TR_STATUS : RegDef := ⟨0xE030C, 4, 0x40, 1, 0x0, fun n _ => [(F.TR_STATUS_STATE n, .ro), (F.TR_STATUS_PREVALID n, .ro)]⟩
def D.TR_TTIME_LO : RegDef := ⟨0xE0310, 4, 0x40, 1, 0x0, fun n _ => [(F.TR_TTIME_LO n, .ro)]⟩
def D.TR_TTIME_HI : RegDef := ⟨0xE0314, 4, 0x40, 1, 0x0, fun n _ => [(F.TR_TTIME_HI n, .ro)]⟩
def D.TR_RDADDR : RegDef := ⟨0xE0318, 4, 0x40, 1, 0x0, fun n _ => [(F.TR_RDADDR_CHAN n, .rw), (F.TR_RDADDR_INDEX n, .rw)]⟩
def D.TR_RDDATA : RegDef := ⟨0xE031C, 4, 0x40, 1, 0x0, fun n _ => [(F.TR_RDDATA n, .ro)]⟩
def D.TR_SRC : RegDef := ⟨0xE0320, 4, 0x40, 8, 0x4, fun n k => [(F.TR_SRC_EN n k, .rw), (F.TR_SRC_OFFSET n k, .rw)]⟩
def D.AXS_A_CTL : RegDef := ⟨0xE1000, 24, 0x100, 1, 0x0, fun n _ => [(F.AXS_A_CTL_EN n, .rw), (F.AXS_A_CTL_SWITCH n, .wo)]⟩
def D.AXS_A_CFG : RegDef := ⟨0xE1004, 24, 0x100, 1, 0x0, fun n _ => [(F.AXS_A_CFG_TIMER n, .rw), (F.AXS_A_CFG_UNIDIR n, .rw), (F.AXS_A_CFG_ALT_EN n, .rw), (F.AXS_A_CFG_SLS n, .rw), (F.AXS_A_CFG_FB n, .rw), (F.AXS_A_CFG_ALT n, .rw), (F.AXS_A_CFG_SLSCH n, .rw), (F.AXS_A_CFG_OUT n, .rw)]⟩
def D.AXS_A_STATUS : RegDef := ⟨0xE1008, 24, 0x100, 1, 0x0, fun n _ => [(F.AXS_A_STATUS_STATE n, .ro), (F.AXS_A_STATUS_REJ n, .ro), (F.AXS_A_STATUS_FBUSE n, .ro), (F.AXS_A_STATUS_SYNC n, .ro), (F.AXS_A_STATUS_HOMED n, .ro), (F.AXS_A_STATUS_COASTING n, .ro), (F.AXS_A_STATUS_LIMN_ACT n, .ro), (F.AXS_A_STATUS_LIMP_ACT n, .ro), (F.AXS_A_STATUS_CFG_ERR n, .ro), (F.AXS_A_STATUS_BANK_LATE n, .w1c), (F.AXS_A_STATUS_GEAR_OVS n, .w1c), (F.AXS_A_STATUS_HOME_UNSTABLE n, .w1c), (F.AXS_A_STATUS_HOME_ABORT n, .w1c), (F.AXS_A_STATUS_LIMIT n, .w1c), (F.AXS_A_STATUS_BEHIND n, .w1c), (F.AXS_A_STATUS_CMD_REJ n, .w1c), (F.AXS_A_STATUS_COAST_EXP n, .w1c), (F.AXS_A_STATUS_IMPLAUSIBLE n, .w1c), (F.AXS_A_STATUS_FROZEN n, .w1c), (F.AXS_A_STATUS_LOST n, .w1c), (F.AXS_A_STATUS_STALL n, .w1c)]⟩
def D.AXS_A_CMD : RegDef := ⟨0xE100C, 24, 0x100, 1, 0x0, fun n _ => [(F.AXS_A_CMD_GO n, .w1s), (F.AXS_A_CMD_CODE n, .rw)]⟩
def D.AXS_A_CMDARG : RegDef := ⟨0xE1010, 24, 0x100, 1, 0x0, fun n _ => [(F.AXS_A_CMDARG n, .rw)]⟩
def D.AXS_A_TSTAT : RegDef := ⟨0xE1014, 24, 0x100, 1, 0x0, fun n _ => [(F.AXS_A_TSTAT_PEND n, .ro), (F.AXS_A_TSTAT_DAMAGED n, .ro), (F.AXS_A_TSTAT_ENGAGED n, .ro), (F.AXS_A_TSTAT_STATE n, .ro), (F.AXS_A_TSTAT_ACTIVE n, .ro)]⟩
def D.AXS_A_POS_LO : RegDef := ⟨0xE1018, 24, 0x100, 1, 0x0, fun n _ => [(F.AXS_A_POS_LO n, .ro)]⟩
def D.AXS_A_POS_HI : RegDef := ⟨0xE101C, 24, 0x100, 1, 0x0, fun n _ => [(F.AXS_A_POS_HI n, .ro)]⟩
def D.AXS_A_ACT_LO : RegDef := ⟨0xE1020, 24, 0x100, 1, 0x0, fun n _ => [(F.AXS_A_ACT_LO n, .ro)]⟩
def D.AXS_A_ACT_HI : RegDef := ⟨0xE1024, 24, 0x100, 1, 0x0, fun n _ => [(F.AXS_A_ACT_HI n, .ro)]⟩
def D.AXS_A_TGT_LO : RegDef := ⟨0xE1028, 24, 0x100, 1, 0x0, fun n _ => [(F.AXS_A_TGT_LO n, .rw)]⟩
def D.AXS_A_TGT_HI : RegDef := ⟨0xE102C, 24, 0x100, 1, 0x0, fun n _ => [(F.AXS_A_TGT_HI n, .rw)]⟩
def D.AXS_A_VEL : RegDef := ⟨0xE1030, 24, 0x100, 1, 0x0, fun n _ => [(F.AXS_A_VEL n, .ro)]⟩
def D.AXS_A_VMAX : RegDef := ⟨0xE1034, 24, 0x100, 1, 0x0, fun n _ => [(F.AXS_A_VMAX n, .rw)]⟩
def D.AXS_A_AMAX : RegDef := ⟨0xE1038, 24, 0x100, 1, 0x0, fun n _ => [(F.AXS_A_AMAX n, .rw)]⟩
def D.AXS_A_DMAX : RegDef := ⟨0xE103C, 24, 0x100, 1, 0x0, fun n _ => [(F.AXS_A_DMAX n, .rw)]⟩
def D.AXS_A_JMAX : RegDef := ⟨0xE1040, 24, 0x100, 1, 0x0, fun n _ => [(F.AXS_A_JMAX n, .rw)]⟩
def D.AXS_A_EDEC : RegDef := ⟨0xE1044, 24, 0x100, 1, 0x0, fun n _ => [(F.AXS_A_EDEC n, .rw)]⟩
def D.AXS_A_GCTL : RegDef := ⟨0xE1048, 24, 0x100, 1, 0x0, fun n _ => [(F.AXS_A_GCTL_RCANCEL n, .wo), (F.AXS_A_GCTL_RPEND n, .w1s)]⟩
def D.AXS_A_GOFS_LO : RegDef := ⟨0xE104C, 24, 0x100, 1, 0x0, fun n _ => [(F.AXS_A_GOFS_LO n, .rw)]⟩
def D.AXS_A_GOFS_HI : RegDef := ⟨0xE1050, 24, 0x100, 1, 0x0, fun n _ => [(F.AXS_A_GOFS_HI n, .rw)]⟩
def D.AXS_A_RAT_LO : RegDef := ⟨0xE1054, 24, 0x100, 1, 0x0, fun n _ => [(F.AXS_A_RAT_LO n, .ro)]⟩
def D.AXS_A_RAT_HI : RegDef := ⟨0xE1058, 24, 0x100, 1, 0x0, fun n _ => [(F.AXS_A_RAT_HI n, .ro)]⟩
def D.AXS_A_RNEXT_LO : RegDef := ⟨0xE105C, 24, 0x100, 1, 0x0, fun n _ => [(F.AXS_A_RNEXT_LO n, .rw)]⟩
def D.AXS_A_RNEXT_HI : RegDef := ⟨0xE1060, 24, 0x100, 1, 0x0, fun n _ => [(F.AXS_A_RNEXT_HI n, .rw)]⟩
def D.AXS_A_RAT_AT_LO : RegDef := ⟨0xE1064, 24, 0x100, 1, 0x0, fun n _ => [(F.AXS_A_RAT_AT_LO n, .rw)]⟩
def D.AXS_A_RAT_AT_HI : RegDef := ⟨0xE1068, 24, 0x100, 1, 0x0, fun n _ => [(F.AXS_A_RAT_AT_HI n, .rw)]⟩
def D.AXS_A_GBIAS : RegDef := ⟨0xE106C, 24, 0x100, 1, 0x0, fun n _ => [(F.AXS_A_GBIAS n, .rw)]⟩
def D.AXS_A_REPH : RegDef := ⟨0xE1070, 24, 0x100, 1, 0x0, fun n _ => [(F.AXS_A_REPH_SLEW_SH n, .rw), (F.AXS_A_REPH_THRESH n, .rw)]⟩
def D.AXS_A_HOLD : RegDef := ⟨0xE1074, 24, 0x100, 1, 0x0, fun n _ => [(F.AXS_A_HOLD n, .ro)]⟩
def D.AXS_A_MA1 : RegDef := ⟨0xE1078, 24, 0x100, 1, 0x0, fun n _ => [(F.AXS_A_MA1 n, .rw)]⟩
def D.AXS_A_MA2 : RegDef := ⟨0xE107C, 24, 0x100, 1, 0x0, fun n _ => [(F.AXS_A_MA2 n, .rw)]⟩
def D.AXS_A_MB : RegDef := ⟨0xE1080, 24, 0x100, 1, 0x0, fun n _ => [(F.AXS_A_MB n, .rw)]⟩
def D.AXS_A_RLIM : RegDef := ⟨0xE1084, 24, 0x100, 1, 0x0, fun n _ => [(F.AXS_A_RLIM_RN n, .rw), (F.AXS_A_RLIM_RLIM n, .rw)]⟩
def D.AXS_A_COAST : RegDef := ⟨0xE1088, 24, 0x100, 1, 0x0, fun n _ => [(F.AXS_A_COAST_FREEZE_N n, .rw), (F.AXS_A_COAST_COAST_MS n, .rw)]⟩
def D.AXS_A_PPR : RegDef := ⟨0xE108C, 24, 0x100, 1, 0x0, fun n _ => [(F.AXS_A_PPR n, .rw)]⟩
def D.AXS_A_CPR : RegDef := ⟨0xE1090, 24, 0x100, 1, 0x0, fun n _ => [(F.AXS_A_CPR n, .rw)]⟩
def D.AXS_A_FF : RegDef := ⟨0xE1094, 24, 0x100, 1, 0x0, fun n _ => [(F.AXS_A_FF n, .ro)]⟩
def D.AXS_A_SWCFG : RegDef := ⟨0xE1098, 24, 0x100, 1, 0x0, fun n _ => [(F.AXS_A_SWCFG_LIMP_POL n, .rw), (F.AXS_A_SWCFG_LIMP n, .rw), (F.AXS_A_SWCFG_LIMN_POL n, .rw), (F.AXS_A_SWCFG_LIMN n, .rw), (F.AXS_A_SWCFG_HOME_POL n, .rw), (F.AXS_A_SWCFG_HOME n, .rw), (F.AXS_A_SWCFG_QN n, .rw)]⟩
def D.AXS_A_HOMECFG : RegDef := ⟨0xE109C, 24, 0x100, 1, 0x0, fun n _ => [(F.AXS_A_HOMECFG_HSNARE n, .rw), (F.AXS_A_HOMECFG_HOLDOFF n, .rw)]⟩
def D.AXS_A_HOMEPOS_LO : RegDef := ⟨0xE10A0, 24, 0x100, 1, 0x0, fun n _ => [(F.AXS_A_HOMEPOS_LO n, .rw)]⟩
def D.AXS_A_HOMEPOS_HI : RegDef := ⟨0xE10A4, 24, 0x100, 1, 0x0, fun n _ => [(F.AXS_A_HOMEPOS_HI n, .rw)]⟩
def D.AXS_A_HCAP_LO : RegDef := ⟨0xE10A8, 24, 0x100, 1, 0x0, fun n _ => [(F.AXS_A_HCAP_LO n, .ro)]⟩
def D.AXS_A_HCAP_HI : RegDef := ⟨0xE10AC, 24, 0x100, 1, 0x0, fun n _ => [(F.AXS_A_HCAP_HI n, .ro)]⟩
def D.AXS_A_CHATTER : RegDef := ⟨0xE10B0, 24, 0x100, 1, 0x0, fun n _ => [(F.AXS_A_CHATTER_CHAT_MAX n, .rw), (F.AXS_A_CHATTER_COUNT n, .ro)]⟩
def D.AXS_A_TRANS : RegDef := ⟨0xE10B4, 24, 0x100, 1, 0x0, fun n _ => [(F.AXS_A_TRANS n, .rc)]⟩
def D.AXS_A_GSTAT : RegDef := ⟨0xE10B8, 24, 0x100, 1, 0x0, fun n _ => [(F.AXS_A_GSTAT_RAT_DONE n, .w1c), (F.AXS_A_GSTAT_RAT_REJ n, .w1c), (F.AXS_A_GSTAT_RAT_LATE n, .w1c), (F.AXS_A_GSTAT_ABSORB n, .ro), (F.AXS_A_GSTAT_HOLDING n, .ro)]⟩
def D.STP_CTL : RegDef := ⟨0xE3000, 12, 0x40, 1, 0x0, fun n _ => [(F.STP_CTL_EN n, .rw), (F.STP_CTL_AXIS n, .rw), (F.STP_CTL_VBUS n, .rw)]⟩
def D.STP_CHOP : RegDef := ⟨0xE3004, 12, 0x40, 1, 0x0, fun n _ => [(F.STP_CHOP_PER n, .rw), (F.STP_CHOP_KP n, .rw), (F.STP_CHOP_KI n, .rw)]⟩
def D.STP_CUR : RegDef := ⟨0xE3008, 12, 0x40, 1, 0x0, fun n _ => [(F.STP_CUR_IRUN n, .rw), (F.STP_CUR_IHOLD n, .rw), (F.STP_CUR_HOLD_MS n, .rw)]⟩
def D.STP_IMAX : RegDef := ⟨0xE300C, 12, 0x40, 1, 0x0, fun n _ => [(F.STP_IMAX n, .rw)]⟩
def D.STP_STALL : RegDef := ⟨0xE3010, 12, 0x40, 1, 0x0, fun n _ => [(F.STP_STALL_EN n, .rw), (F.STP_STALL_STALL_N n, .rw), (F.STP_STALL_ANG n, .rw), (F.STP_STALL_VMIN n, .rw)]⟩
def D.STP_MOTOR : RegDef := ⟨0xE3014, 12, 0x40, 1, 0x0, fun n _ => [(F.STP_MOTOR_RPH n, .rw), (F.STP_MOTOR_LPH n, .rw)]⟩
def D.STP_STATUS : RegDef := ⟨0xE3018, 12, 0x40, 1, 0x0, fun n _ => [(F.STP_STATUS_LOAD n, .ro), (F.STP_STATUS_BANK_LATE n, .w1c), (F.STP_STATUS_HOLD n, .ro), (F.STP_STATUS_OVERCURRENT n, .w1c), (F.STP_STATUS_STALL n, .w1c)]⟩
def D.STP_TSTAT : RegDef := ⟨0xE301C, 12, 0x40, 1, 0x0, fun n _ => [(F.STP_TSTAT_PEND n, .ro), (F.STP_TSTAT_DAMAGED n, .ro), (F.STP_TSTAT_ENGAGED n, .ro), (F.STP_TSTAT_STATE n, .ro), (F.STP_TSTAT_ACTIVE n, .ro)]⟩
def D.MOT_FLAM : RegDef := ⟨0xF0000, 1, 0x0, 1, 0x0, fun _ _ => [(F.MOT_FLAM_COUNT, .rc)]⟩
def D.MOT_SD_CTL : RegDef := ⟨0xF0010, 1, 0x0, 1, 0x0, fun _ _ => [(F.MOT_SD_CTL_OSR, .rw), (F.MOT_SD_CTL_SDDIV, .rw)]⟩
def D.MOT_BK_CTL : RegDef := ⟨0xF0100, 4, 0x20, 1, 0x0, fun n _ => [(F.MOT_BK_CTL_EN n, .rw), (F.MOT_BK_CTL_CHK n, .rw), (F.MOT_BK_CTL_FS n, .rw)]⟩
def D.MOT_BK_VON : RegDef := ⟨0xF0104, 4, 0x20, 1, 0x0, fun n _ => [(F.MOT_BK_VON_VON n, .rw), (F.MOT_BK_VON_VOFF n, .rw)]⟩
def D.MOT_BK_VHARD : RegDef := ⟨0xF0108, 4, 0x20, 1, 0x0, fun n _ => [(F.MOT_BK_VHARD_IMIN n, .rw), (F.MOT_BK_VHARD_VHARD n, .rw)]⟩
def D.MOT_BK_VBUS : RegDef := ⟨0xF010C, 4, 0x20, 1, 0x0, fun n _ => [(F.MOT_BK_VBUS n, .ro)]⟩
def D.MOT_BK_STATUS : RegDef := ⟨0xF0110, 4, 0x20, 1, 0x0, fun n _ => [(F.MOT_BK_STATUS_DRVEN n, .ro), (F.MOT_BK_STATUS_BRK_ON n, .ro), (F.MOT_BK_STATUS_BRK_FAULT n, .w1c), (F.MOT_BK_STATUS_BUS_OV n, .w1c)]⟩
def D.MOT_C_CTL : RegDef := ⟨0xF1000, 12, 0x80, 1, 0x0, fun n _ => [(F.MOT_C_CTL_EN n, .rw), (F.MOT_C_CTL_MODE n, .rw), (F.MOT_C_CTL_SENSE n, .rw), (F.MOT_C_CTL_SLS_FB n, .rw), (F.MOT_C_CTL_OVM n, .rw), (F.MOT_C_CTL_DIR n, .rw), (F.MOT_C_CTL_BUS n, .rw), (F.MOT_C_CTL_CATCH_EN n, .rw)]⟩
def D.MOT_C_STATUS : RegDef := ⟨0xF1004, 12, 0x80, 1, 0x0, fun n _ => [(F.MOT_C_STATUS_STATE n, .ro), (F.MOT_C_STATUS_REGLIM n, .ro), (F.MOT_C_STATUS_VCLAMP n, .ro), (F.MOT_C_STATUS_FBSLS n, .ro), (F.MOT_C_STATUS_CATCHING n, .ro), (F.MOT_C_STATUS_CFG_ERR n, .w1c), (F.MOT_C_STATUS_SPIN_REVERSE n, .w1c), (F.MOT_C_STATUS_LOCKED n, .w1c), (F.MOT_C_STATUS_COMM_LOST n, .w1c), (F.MOT_C_STATUS_SLS_FAIL n, .w1c), (F.MOT_C_STATUS_ISENSE_LOST n, .w1c), (F.MOT_C_STATUS_OVERCURRENT n, .w1c), (F.MOT_C_STATUS_GATE_FLT n, .w1c)]⟩
def D.MOT_C_PWM : RegDef := ⟨0xF1008, 12, 0x80, 1, 0x0, fun n _ => [(F.MOT_C_PWM_MINP n, .rw), (F.MOT_C_PWM_DT n, .rw), (F.MOT_C_PWM_PER n, .rw)]⟩
def D.MOT_C_MOTOR : RegDef := ⟨0xF100C, 12, 0x80, 1, 0x0, fun n _ => [(F.MOT_C_MOTOR_ELOFS n, .rw), (F.MOT_C_MOTOR_ENC n, .rw), (F.MOT_C_MOTOR_POLES n, .rw)]⟩
def D.MOT_C_HALL : RegDef := ⟨0xF1010, 12, 0x80, 1, 0x0, fun n _ => [(F.MOT_C_HALL_HOFS n, .rw), (F.MOT_C_HALL_SECTORS n, .rw)]⟩
def D.MOT_C_VCMD : RegDef := ⟨0xF1014, 12, 0x80, 1, 0x0, fun n _ => [(F.MOT_C_VCMD_VQ n, .rw), (F.MOT_C_VCMD_VD n, .rw)]⟩
def D.MOT_C_ICMD : RegDef := ⟨0xF1018, 12, 0x80, 1, 0x0, fun n _ => [(F.MOT_C_ICMD_IQ n, .rw), (F.MOT_C_ICMD_ID n, .rw)]⟩
def D.MOT_C_SPD : RegDef := ⟨0xF101C, 12, 0x80, 1, 0x0, fun n _ => [(F.MOT_C_SPD n, .rw)]⟩
def D.MOT_C_CGAIN : RegDef := ⟨0xF1020, 12, 0x80, 1, 0x0, fun n _ => [(F.MOT_C_CGAIN_CKP n, .rw), (F.MOT_C_CGAIN_CKI n, .rw)]⟩
def D.MOT_C_SGAIN : RegDef := ⟨0xF1024, 12, 0x80, 1, 0x0, fun n _ => [(F.MOT_C_SGAIN_SKP n, .rw), (F.MOT_C_SGAIN_SKI n, .rw), (F.MOT_C_SGAIN_SDIV n, .rw)]⟩
def D.MOT_C_LIM : RegDef := ⟨0xF1028, 12, 0x80, 1, 0x0, fun n _ => [(F.MOT_C_LIM_IMAX n, .rw), (F.MOT_C_LIM_ILIM n, .rw)]⟩
def D.MOT_C_IQ : RegDef := ⟨0xF102C, 12, 0x80, 1, 0x0, fun n _ => [(F.MOT_C_IQ n, .ro)]⟩
def D.MOT_C_ID : RegDef := ⟨0xF1030, 12, 0x80, 1, 0x0, fun n _ => [(F.MOT_C_ID n, .ro)]⟩
def D.MOT_C_SPEED : RegDef := ⟨0xF1034, 12, 0x80, 1, 0x0, fun n _ => [(F.MOT_C_SPEED n, .ro)]⟩
def D.MOT_C_ANGLE : RegDef := ⟨0xF1038, 12, 0x80, 1, 0x0, fun n _ => [(F.MOT_C_ANGLE n, .ro)]⟩
def D.MOT_C_POS_LO : RegDef := ⟨0xF103C, 12, 0x80, 1, 0x0, fun n _ => [(F.MOT_C_POS_LO n, .ro)]⟩
def D.MOT_C_POS_HI : RegDef := ⟨0xF1040, 12, 0x80, 1, 0x0, fun n _ => [(F.MOT_C_POS_HI n, .ro)]⟩
def D.MOT_C_SPDMAX : RegDef := ⟨0xF1044, 12, 0x80, 1, 0x0, fun n _ => [(F.MOT_C_SPDMAX n, .rw)]⟩
def D.MOT_C_CATCH : RegDef := ⟨0xF1048, 12, 0x80, 1, 0x0, fun n _ => [(F.MOT_C_CATCH_REV_LIM n, .rw), (F.MOT_C_CATCH_CATCH_MAX n, .rw)]⟩
def D.MOT_C_LOCK : RegDef := ⟨0xF104C, 12, 0x80, 1, 0x0, fun n _ => [(F.MOT_C_LOCK_LOCK_I n, .rw), (F.MOT_C_LOCK_LOCK_MS n, .rw)]⟩
def D.MOT_C_SLS : RegDef := ⟨0xF1050, 12, 0x80, 1, 0x0, fun n _ => [(F.MOT_C_SLS_SLS_RAMP n, .rw), (F.MOT_C_SLS_SLS_VMIN n, .rw)]⟩
def D.MOT_C_ISTART : RegDef := ⟨0xF1054, 12, 0x80, 1, 0x0, fun n _ => [(F.MOT_C_ISTART n, .rw)]⟩
def D.MOT_C_CPR : RegDef := ⟨0xF1058, 12, 0x80, 1, 0x0, fun n _ => [(F.MOT_C_CPR n, .rw)]⟩
def D.HK_CTL : RegDef := ⟨0x100000, 1, 0x0, 1, 0x0, fun _ _ => [(F.HK_CTL_TEST, .w1s), (F.HK_CTL_TZONES, .rw)]⟩
def D.HK_STATUS : RegDef := ⟨0x100004, 1, 0x0, 1, 0x0, fun _ _ => [(F.HK_STATUS_TSD, .w1c), (F.HK_STATUS_CRIT, .w1c), (F.HK_STATUS_BROKEN, .w1c), (F.HK_STATUS_DEFER, .ro), (F.HK_STATUS_MODE, .ro)]⟩
def D.HK_THROT : RegDef := ⟨0x100008, 1, 0x0, 1, 0x0, fun _ _ => [(F.HK_THROT_VMAX_T, .ro), (F.HK_THROT_STEP_INT, .rw), (F.HK_THROT_MAXSTEP, .rw)]⟩
def D.HK_THLIM : RegDef := ⟨0x10000C, 1, 0x0, 1, 0x0, fun _ _ => [(F.HK_THLIM_A, .ro), (F.HK_THLIM_D, .ro), (F.HK_THLIM_LIMIT, .rw)]⟩
def D.HK_ZONE_LVL : RegDef := ⟨0x100010, 1, 0x0, 1, 0x0, fun _ _ => [(F.HK_ZONE_LVL, .ro)]⟩
def D.HK_BROKEN_LO : RegDef := ⟨0x100014, 1, 0x0, 1, 0x0, fun _ _ => [(F.HK_BROKEN_LO, .ro)]⟩
def D.HK_BROKEN_HI : RegDef := ⟨0x100018, 1, 0x0, 1, 0x0, fun _ _ => [(F.HK_BROKEN_HI, .ro)]⟩
def D.HK_FLAM : RegDef := ⟨0x10001C, 1, 0x0, 1, 0x0, fun _ _ => [(F.HK_FLAM_COUNT, .rc)]⟩
def D.HK_CH_CFG : RegDef := ⟨0x100100, 60, 0x10, 1, 0x0, fun n _ => [(F.HK_CH_CFG_EN n, .rw), (F.HK_CH_CFG_GUARD n, .rw), (F.HK_CH_CFG_ZONE n, .rw), (F.HK_CH_CFG_HYST n, .rw), (F.HK_CH_CFG_DWELL n, .rw), (F.HK_CH_CFG_PARAM n, .rw)]⟩
def D.HK_CH_THR : RegDef := ⟨0x100104, 60, 0x10, 1, 0x0, fun n _ => [(F.HK_CH_THR_CRIT n, .rw), (F.HK_CH_THR_THROT n, .rw), (F.HK_CH_THR_WARN n, .rw)]⟩
def D.HK_CH_TEMP : RegDef := ⟨0x100108, 60, 0x10, 1, 0x0, fun n _ => [(F.HK_CH_TEMP_RAW n, .ro), (F.HK_CH_TEMP_VALUE n, .ro)]⟩
def D.HK_CH_STATUS : RegDef := ⟨0x10010C, 60, 0x10, 1, 0x0, fun n _ => [(F.HK_CH_STATUS_REQUAL n, .w1s), (F.HK_CH_STATUS_TRANS n, .rc), (F.HK_CH_STATUS_ENTERED n, .w1c), (F.HK_CH_STATUS_BROKEN n, .ro), (F.HK_CH_STATUS_LEVEL n, .ro)]⟩
def D.EVT_GONG : RegDef := ⟨0x110004, 1, 0x0, 1, 0x0, fun _ _ => [(F.EVT_GONG_LAST_EVT, .ro), (F.EVT_GONG_G4, .ro), (F.EVT_GONG_G3, .ro), (F.EVT_GONG_STOP_DONE, .w1c), (F.EVT_GONG_ENFORCED, .w1c)]⟩
def D.EVT_STOP : RegDef := ⟨0x110008, 1, 0x0, 1, 0x0, fun _ _ => [(F.EVT_STOP_STOPMAX, .rw), (F.EVT_STOP_GRACE, .rw), (F.EVT_STOP_DECEL, .rw)]⟩
def D.EVT_STOP_AXES : RegDef := ⟨0x110010, 1, 0x0, 1, 0x0, fun _ _ => [(F.EVT_STOP_AXES, .rw)]⟩
def D.EVT_KA_CTL : RegDef := ⟨0x110014, 1, 0x0, 1, 0x0, fun _ _ => [(F.EVT_KA_CTL_AUX_G3, .rw), (F.EVT_KA_CTL_AUX, .rw), (F.EVT_KA_CTL_FUSER, .rw), (F.EVT_KA_CTL_DRIVE, .rw), (F.EVT_KA_CTL_HV, .rw)]⟩
def D.EVT_KA_STATUS : RegDef := ⟨0x110018, 1, 0x0, 1, 0x0, fun _ _ => [(F.EVT_KA_STATUS_AUX, .ro), (F.EVT_KA_STATUS_FUSER, .ro), (F.EVT_KA_STATUS_DRIVE, .ro), (F.EVT_KA_STATUS_LASER, .ro), (F.EVT_KA_STATUS_HV, .ro)]⟩
def D.EVT_RAISE : RegDef := ⟨0x11001C, 1, 0x0, 1, 0x0, fun _ _ => [(F.EVT_RAISE_GO, .w1s), (F.EVT_RAISE_CAUSE, .rw), (F.EVT_RAISE_EVENT, .rw)]⟩
def D.EVT_FLAM : RegDef := ⟨0x110020, 1, 0x0, 1, 0x0, fun _ _ => [(F.EVT_FLAM_COUNT, .rc)]⟩
def D.EVT_LOCK : RegDef := ⟨0x110024, 1, 0x0, 1, 0x0, fun _ _ => [(F.EVT_LOCK_LOCK, .w1s)]⟩
def D.EVT_PEND : RegDef := ⟨0x110040, 8, 0x4, 1, 0x0, fun n _ => [(F.EVT_PEND n, .w1c)]⟩
def D.EVT_E_CFG : RegDef := ⟨0x111000, 256, 0x10, 1, 0x0, fun n _ => [(F.EVT_E_CFG_LEVEL n, .rwl), (F.EVT_E_CFG_ALLOW n, .ro), (F.EVT_E_CFG_KEEP n, .ro), (F.EVT_E_CFG_BCAST n, .rw), (F.EVT_E_CFG_HOST_EN n, .rw), (F.EVT_E_CFG_MRAISE n, .ro), (F.EVT_E_CFG_REPN n, .rw), (F.EVT_E_CFG_REPWIN n, .rw), (F.EVT_E_CFG_VEC n, .rw)]⟩
def D.EVT_E_CAUSE : RegDef := ⟨0x111004, 256, 0x10, 1, 0x0, fun n _ => [(F.EVT_E_CAUSE n, .ro)]⟩
def D.EVT_E_TIME : RegDef := ⟨0x111008, 256, 0x10, 1, 0x0, fun n _ => [(F.EVT_E_TIME n, .ro)]⟩
def D.EVT_E_COUNT : RegDef := ⟨0x11100C, 256, 0x10, 1, 0x0, fun n _ => [(F.EVT_E_COUNT n, .rc)]⟩
def D.CNT_CTL : RegDef := ⟨0x120000, 1, 0x0, 1, 0x0, fun _ _ => [(F.CNT_CTL_SNAP_EV, .rw), (F.CNT_CTL_SNAP_EV_EN, .rw), (F.CNT_CTL_SNAP, .wo), (F.CNT_CTL_FREEZE, .rw)]⟩
def D.CNT_OVF_LO : RegDef := ⟨0x120008, 1, 0x0, 1, 0x0, fun _ _ => [(F.CNT_OVF_LO, .w1c)]⟩
def D.CNT_OVF_HI : RegDef := ⟨0x12000C, 1, 0x0, 1, 0x0, fun _ _ => [(F.CNT_OVF_HI, .w1c)]⟩
def D.CNT_SNAP_TIME_LO : RegDef := ⟨0x120010, 1, 0x0, 1, 0x0, fun _ _ => [(F.CNT_SNAP_TIME_LO, .ro)]⟩
def D.CNT_SNAP_TIME_HI : RegDef := ⟨0x120014, 1, 0x0, 1, 0x0, fun _ _ => [(F.CNT_SNAP_TIME_HI, .ro)]⟩
def D.CNT_FLAM : RegDef := ⟨0x120018, 1, 0x0, 1, 0x0, fun _ _ => [(F.CNT_FLAM_COUNT, .rc)]⟩
def D.CNT_CFG : RegDef := ⟨0x120100, 56, 0x40, 1, 0x0, fun n _ => [(F.CNT_CFG_EN n, .rw), (F.CNT_CFG_MODE n, .rw), (F.CNT_CFG_SAMPLE n, .rw), (F.CNT_CFG_CFG_ERR n, .w1c), (F.CNT_CFG_SRC n, .rw)]⟩
def D.CNT_LO : RegDef := ⟨0x120104, 56, 0x40, 1, 0x0, fun n _ => [(F.CNT_LO n, .rw)]⟩
def D.CNT_HI : RegDef := ⟨0x120108, 56, 0x40, 1, 0x0, fun n _ => [(F.CNT_HI n, .rw)]⟩
def D.CNT_THRESH : RegDef := ⟨0x12010C, 56, 0x40, 1, 0x0, fun n _ => [(F.CNT_THRESH n, .rw)]⟩
def D.CNT_RELOAD_LO : RegDef := ⟨0x120110, 56, 0x40, 1, 0x0, fun n _ => [(F.CNT_RELOAD_LO n, .rw)]⟩
def D.CNT_RELOAD_HI : RegDef := ⟨0x120114, 56, 0x40, 1, 0x0, fun n _ => [(F.CNT_RELOAD_HI n, .rw)]⟩
def D.CNT_SNAP_LO : RegDef := ⟨0x120118, 56, 0x40, 1, 0x0, fun n _ => [(F.CNT_SNAP_LO n, .ro)]⟩
def D.CNT_SNAP_HI : RegDef := ⟨0x12011C, 56, 0x40, 1, 0x0, fun n _ => [(F.CNT_SNAP_HI n, .ro)]⟩
def D.CNT_STIME_LO : RegDef := ⟨0x120120, 56, 0x40, 1, 0x0, fun n _ => [(F.CNT_STIME_LO n, .ro)]⟩
def D.CNT_STIME_HI : RegDef := ⟨0x120124, 56, 0x40, 1, 0x0, fun n _ => [(F.CNT_STIME_HI n, .ro)]⟩
def D.MBX_CMD : RegDef := ⟨0x130000, 1, 0x0, 1, 0x0, fun _ _ => [(F.MBX_CMD_GO, .w1s), (F.MBX_CMD_OP, .rw)]⟩
def D.MBX_STATUS : RegDef := ⟨0x130004, 1, 0x0, 1, 0x0, fun _ _ => [(F.MBX_STATUS_READY, .ro), (F.MBX_STATUS_BUSY, .ro), (F.MBX_STATUS_MODE, .ro), (F.MBX_STATUS_SLOT, .ro), (F.MBX_STATUS_TRIAL, .ro), (F.MBX_STATUS_CAL_VALID, .ro), (F.MBX_STATUS_RESULT, .ro)]⟩
def D.MBX_ARG : RegDef := ⟨0x130010, 12, 0x4, 1, 0x0, fun n _ => [(F.MBX_ARG n, .rw)]⟩
def D.MBX_RSP : RegDef := ⟨0x130040, 8, 0x4, 1, 0x0, fun n _ => [(F.MBX_RSP n, .ro)]⟩
def D.MBX_CAL_LO : RegDef := ⟨0x130060, 1, 0x0, 1, 0x0, fun _ _ => [(F.MBX_CAL_LO, .ro)]⟩
def D.MBX_CAL_HI : RegDef := ⟨0x130064, 1, 0x0, 1, 0x0, fun _ _ => [(F.MBX_CAL_HI, .ro)]⟩
def D.MBX_CAL_FRAC : RegDef := ⟨0x130068, 1, 0x0, 1, 0x0, fun _ _ => [(F.MBX_CAL_FRAC, .ro)]⟩
def D.MBX_FLAM : RegDef := ⟨0x13006C, 1, 0x0, 1, 0x0, fun _ _ => [(F.MBX_FLAM_COUNT, .rc)]⟩
def D.OTP_CMD : RegDef := ⟨0x140000, 1, 0x0, 1, 0x0, fun _ _ => [(F.OTP_CMD_GO, .w1s), (F.OTP_CMD_FOLLOW, .rw), (F.OTP_CMD_OP, .rw), (F.OTP_CMD_GROUP, .rw), (F.OTP_CMD_WORD, .rw)]⟩
def D.OTP_WDATA : RegDef := ⟨0x140004, 1, 0x0, 1, 0x0, fun _ _ => [(F.OTP_WDATA, .rw)]⟩
def D.OTP_RDATA : RegDef := ⟨0x140008, 1, 0x0, 1, 0x0, fun _ _ => [(F.OTP_RDATA, .ro)]⟩
def D.OTP_STATUS : RegDef := ⟨0x14000C, 1, 0x0, 1, 0x0, fun _ _ => [(F.OTP_STATUS_ATTEMPTS, .ro), (F.OTP_STATUS_ERR, .ro), (F.OTP_STATUS_INTEGRITY, .w1c), (F.OTP_STATUS_PROG_FAIL, .w1c), (F.OTP_STATUS_MARGINAL, .w1c), (F.OTP_STATUS_TRANSIENT, .w1c), (F.OTP_STATUS_BUSY, .ro)]⟩
def D.OTP_GSTAT : RegDef := ⟨0x140010, 1, 0x0, 1, 0x0, fun _ _ => [(F.OTP_GSTAT, .ro)]⟩
def D.OTP_GSUP : RegDef := ⟨0x140014, 1, 0x0, 1, 0x0, fun _ _ => [(F.OTP_GSUP_ABSENT, .ro), (F.OTP_GSUP_SUPERSEDED, .ro)]⟩
def D.OTP_KEY : RegDef := ⟨0x140018, 1, 0x0, 1, 0x0, fun _ _ => [(F.OTP_KEY, .wo)]⟩
def D.OTP_FLAM : RegDef := ⟨0x14001C, 1, 0x0, 1, 0x0, fun _ _ => [(F.OTP_FLAM_COUNT, .rc)]⟩
def D.PWR_CTL : RegDef := ⟨0x150000, 1, 0x0, 1, 0x0, fun _ _ => [(F.PWR_CTL_STBY, .wo)]⟩
def D.PWR_STATUS : RegDef := ⟨0x150004, 1, 0x0, 1, 0x0, fun _ _ => [(F.PWR_STATUS_VTRANS, .rc), (F.PWR_STATUS_REG_FLT, .w1c), (F.PWR_STATUS_VBAT_LOW, .w1c), (F.PWR_STATUS_VIOA_INT, .ro), (F.PWR_STATUS_VIOA_LVL, .ro), (F.PWR_STATUS_STBY, .ro), (F.PWR_STATUS_BUSY, .ro), (F.PWR_STATUS_PG, .ro)]⟩
def D.PWR_DOMREQ : RegDef := ⟨0x150008, 1, 0x0, 1, 0x0, fun _ _ => [(F.PWR_DOMREQ, .rw)]⟩
def D.PWR_DOMSTAT : RegDef := ⟨0x15000C, 1, 0x0, 1, 0x0, fun _ _ => [(F.PWR_DOMSTAT_PG_LOST, .w1c), (F.PWR_DOMSTAT_ON, .ro)]⟩
def D.PWR_VINMON : RegDef := ⟨0x150010, 1, 0x0, 1, 0x0, fun _ _ => [(F.PWR_VINMON, .rwl)]⟩
def D.PWR_VIN : RegDef := ⟨0x150014, 1, 0x0, 1, 0x0, fun _ _ => [(F.PWR_VIN_VBAT, .ro), (F.PWR_VIN_VIN, .ro)]⟩
def D.PWR_VCORE : RegDef := ⟨0x150018, 1, 0x0, 1, 0x0, fun _ _ => [(F.PWR_VCORE, .ro)]⟩
def D.PWR_RSTCAUSE : RegDef := ⟨0x15001C, 1, 0x0, 1, 0x0, fun _ _ => [(F.PWR_RSTCAUSE_VINFAIL, .w1c), (F.PWR_RSTCAUSE_MBX, .w1c), (F.PWR_RSTCAUSE_PIN, .w1c), (F.PWR_RSTCAUSE_POR, .w1c)]⟩
def D.PWR_ERR : RegDef := ⟨0x150020, 1, 0x0, 1, 0x0, fun _ _ => [(F.PWR_ERR, .ro)]⟩
def D.PWR_FLAM : RegDef := ⟨0x150024, 1, 0x0, 1, 0x0, fun _ _ => [(F.PWR_FLAM_COUNT, .rc)]⟩
def D.PWR_LOCK : RegDef := ⟨0x150028, 1, 0x0, 1, 0x0, fun _ _ => [(F.PWR_LOCK_LOCK, .w1s)]⟩

/-- The register families of block 0x00 (spec/01_press_model.md R33). -/
def D.block00 : List RegDef :=
  [D.GCTL_ID, D.GCTL_SERIAL_LO, D.GCTL_SERIAL_HI, D.GCTL_STATUS, D.GCTL_USERPAGE, D.GCTL_FLAM]
/-- The register families of block 0x01 (spec/02_clocks_and_press_time.md R62). -/
def D.block01 : List RegDef :=
  [D.CLK_ADPLL_CTL, D.CLK_ADPLL_STATUS, D.CLK_ADPLL_FCOMP, D.CLK_BAND_ROOT, D.CLK_MDLL_CTL, D.CLK_MDLL_FREQ, D.CLK_MDLL_STATUS, D.CLK_MDLL_BAND, D.CLK_XTAB, D.CLK_CTAB, D.CLK_CAL_COMP, D.CLK_LOCK, D.CLK_FLAM]
/-- The register families of block 0x02 (spec/02_clocks_and_press_time.md R63). -/
def D.block02 : List RegDef :=
  [D.TIME_LO, D.TIME_HI, D.TIME_STATUS, D.TIME_SNARE_CAPT, D.TIME_SNARE_OVR, D.TIME_FLAM, D.SN_CTL, D.SN_STATUS, D.SN_TIME_LO, D.SN_TIME_HI, D.SN_WPOS_LO, D.SN_WPOS_HI]
/-- The register families of block 0x03 (spec/03_web_position_and_gearing.md R94). -/
def D.block03 : List RegDef :=
  [D.WEB_CTL, D.WEB_STATUS, D.WEB_POS_LO, D.WEB_POS_HI, D.WEB_VEL, D.WEB_ACC, D.WEB_OBS_T_LO, D.WEB_OBS_T_HI, D.WEB_COAST, D.WEB_REV_LIMIT, D.WEB_REPHASE, D.WEB_SLOWDOWN, D.WEB_CORR, D.WEB_FLAM, D.WEB_SRC_CTL, D.WEB_SRC_SSI, D.WEB_SRC_SCALE_LO, D.WEB_SRC_SCALE_HI, D.WEB_SRC_STATUS, D.WEB_SRC_PPR, D.WEB_SRC_CNT_LO, D.WEB_SRC_CNT_HI, D.WEB_ST_GCTL, D.WEB_ST_STATUS, D.WEB_ST_OFS_LO, D.WEB_ST_OFS_HI, D.WEB_ST_RAT_LO, D.WEB_ST_RAT_HI, D.WEB_ST_RNEXT_LO, D.WEB_ST_RNEXT_HI, D.WEB_ST_RAT_AT_LO, D.WEB_ST_RAT_AT_HI, D.WEB_ST_LPOS_LO, D.WEB_ST_LPOS_HI, D.WEB_ST_LBIAS_LO, D.WEB_ST_LBIAS_HI, D.WEB_ST_FLIM, D.WEB_ST_HOLD]
/-- The register families of block 0x04 (spec/04_frames_raster_and_dma.md R128). -/
def D.block04 : List RegDef :=
  [D.DMA_CTL, D.DMA_STATUS, D.DMA_FLAM, D.DMA_CH_CTL, D.DMA_CH_STATUS, D.DMA_CH_HEAD_LO, D.DMA_CH_HEAD_HI, D.DMA_CH_CUR_LO, D.DMA_CH_CUR_HI, D.DMA_CH_RESIDUE, D.DMA_CH_CRC]
/-- The register families of block 0x05 (spec/04_frames_raster_and_dma.md R127). -/
def D.block05 : List RegDef :=
  [D.FEED_CTL, D.FEED_PEEK, D.FEED_MEM_CFG, D.FEED_MEM_STATUS, D.FEED_MEM_SPARE, D.FEED_MEM_ERR_LO, D.FEED_MEM_ERR_HI, D.FEED_MEM_RETIRED, D.FEED_MEM_TRANS, D.FEED_FLAM, D.FEED_LOCK, D.FEED_Q_CTL, D.FEED_Q_STATUS, D.FEED_Q_BASE_LO, D.FEED_Q_BASE_HI, D.FEED_Q_HEAD, D.FEED_Q_TAIL, D.FEED_Q_CUR_FRAME, D.FEED_Q_CUR_JOB, D.FEED_Q_PROV]
/-- The register families of block 0x06 (spec/05_screening.md R154). -/
def D.block06 : List RegDef :=
  [D.SCR_CFG, D.SCR_LEAD, D.SCR_LEADNOW, D.SCR_MOFS, D.SCR_TADDR_LO, D.SCR_TADDR_HI, D.SCR_TCMD, D.SCR_TSTAT, D.SCR_HEDIT, D.SCR_STATUS, D.SCR_DEMAND, D.SCR_FLAM]
/-- The register families of block 0x08 (spec/06_inkjet_stations.md R199). -/
def D.block08 : List RegDef :=
  [D.INK_FLAM, D.INK_SB_CMD, D.INK_SB_REG, D.INK_SB_STATUS, D.INK_SB_DATA, D.INK_DD_CTL, D.INK_DD_RANGE, D.INK_DD_TIME, D.INK_DD_PERIOD, D.INK_DD_WEAK, D.INK_DD_RESULT, D.INK_L_STATUS, D.INK_L_DELAY, D.INK_L_TRANS, D.INK_L_SDELAY, D.INK_SP_CTL, D.INK_SP_STATUS, D.INK_S_VMIN, D.INK_S_STATUS, D.INK_S_WCMD, D.INK_S_WSTAT, D.INK_S_WADDR_LO, D.INK_S_WADDR_HI, D.INK_S_MISSED, D.INK_S_HD_MAP, D.INK_S_HD_CFG, D.INK_S_HD_TEMP, D.INK_S_HD_SCALE]
/-- The register families of block 0x0A (spec/07_ep_stations.md R230). -/
def D.block0A : List RegDef :=
  [D.EPS_FLAM, D.EPS_LOCK, D.EPS_FZ_CTL, D.EPS_FZ_DUTY, D.EPS_FZ_CUT, D.EPS_FZ_STATUS, D.EPS_FZ_TEMP, D.EPS_HV_CFG, D.EPS_HV_SET, D.EPS_HV_RAMP, D.EPS_HV_STATUS, D.EPS_HV_MON, D.EPS_S_CFG, D.EPS_S_STATUS, D.EPS_S_PPF, D.EPS_S_MAG, D.EPS_S_SCAN, D.EPS_S_APCWIN, D.EPS_S_XPHASE, D.EPS_S_XWIN, D.EPS_S_XERR, D.EPS_S_BDT_LO, D.EPS_S_BDT_HI, D.EPS_S_TFAC, D.EPS_S_PRAT_LO, D.EPS_S_PRAT_HI, D.EPS_S_FPOS_LO, D.EPS_S_FPOS_HI, D.EPS_S_VMIN, D.EPS_S_POLY, D.EPS_S_DRUM, D.EPS_S_APC_CTL, D.EPS_S_BDLY, D.EPS_S_PTAB, D.EPS_S_APC]
/-- The register families of block 0x0C (spec/08_job_change_speculation_ledger.md R256). -/
def D.block0C : List RegDef :=
  [D.CHG_STATUS, D.CHG_CS_ADDR_LO, D.CHG_CS_ADDR_HI, D.CHG_CS_CMD, D.CHG_CS_RESULT, D.CHG_FLAM, D.CHG_LOCK, D.CHG_CS_STATE, D.CHG_CS_DONE, D.CHG_CS_SPLICE_LO, D.CHG_CS_SPLICE_HI, D.CHG_CS_JOB, D.CHG_S_CONF, D.CHG_S_STATUS, D.CHG_S_JOB, D.CHG_S_SPLICE_LINE, D.CHG_S_LOST, D.CHG_LED_BASE_LO, D.CHG_LED_BASE_HI, D.CHG_LED_STATUS, D.CHG_LED_W, D.CHG_LED_R, D.CHG_LED_F, D.CHG_LED_OPEN]
/-- The register families of block 0x0D (spec/09_mallets_programming_model.md R281). -/
def D.block0D : List RegDef :=
  [D.MLT_CTL, D.MLT_SPARES, D.MLT_HALTED_LO, D.MLT_HALTED_HI, D.MLT_ASSIGN, D.MLT_ASSIGN_RESULT, D.MLT_FLAM, D.MLT_LOCK, D.MLT_IMGSTORE_LO, D.MLT_IMGSTORE_HI, D.MLT_MSM_ECC, D.MLT_HOST_TX, D.MLT_HOST_TXCMD, D.MLT_HOST_RX, D.MLT_HOST_RXSTAT, D.MLT_ROLE_MAP, D.MLT_ROLE_PRIV, D.MLT_M_CTL, D.MLT_M_STATUS, D.MLT_M_PC, D.MLT_M_CAUSE, D.MLT_M_EPC, D.MLT_M_WDOG, D.MLT_M_QUEUE, D.MLT_M_ECC, D.MLT_M_PORT]
/-- The register families of block 0x0E (spec/11_loops_and_axes.md R336). -/
def D.block0E : List RegDef :=
  [D.AXS_FLAM, D.AXS_TCMD, D.AXS_TERR, D.AXS_TADDR_LO, D.AXS_TADDR_HI, D.AXS_SSI, D.AXS_LT_CTL, D.AXS_LT_PERIOD, D.AXS_LT_PHASE, D.AXS_LT_STATUS, D.AXS_G_CTL, D.AXS_G_STATUS, D.TR_CTL, D.TR_TRIG, D.TR_THRESH, D.TR_STATUS, D.TR_TTIME_LO, D.TR_TTIME_HI, D.TR_RDADDR, D.TR_RDDATA, D.TR_SRC, D.AXS_A_CTL, D.AXS_A_CFG, D.AXS_A_STATUS, D.AXS_A_CMD, D.AXS_A_CMDARG, D.AXS_A_TSTAT, D.AXS_A_POS_LO, D.AXS_A_POS_HI, D.AXS_A_ACT_LO, D.AXS_A_ACT_HI, D.AXS_A_TGT_LO, D.AXS_A_TGT_HI, D.AXS_A_VEL, D.AXS_A_VMAX, D.AXS_A_AMAX, D.AXS_A_DMAX, D.AXS_A_JMAX, D.AXS_A_EDEC, D.AXS_A_GCTL] ++
  [D.AXS_A_GOFS_LO, D.AXS_A_GOFS_HI, D.AXS_A_RAT_LO, D.AXS_A_RAT_HI, D.AXS_A_RNEXT_LO, D.AXS_A_RNEXT_HI, D.AXS_A_RAT_AT_LO, D.AXS_A_RAT_AT_HI, D.AXS_A_GBIAS, D.AXS_A_REPH, D.AXS_A_HOLD, D.AXS_A_MA1, D.AXS_A_MA2, D.AXS_A_MB, D.AXS_A_RLIM, D.AXS_A_COAST, D.AXS_A_PPR, D.AXS_A_CPR, D.AXS_A_FF, D.AXS_A_SWCFG, D.AXS_A_HOMECFG, D.AXS_A_HOMEPOS_LO, D.AXS_A_HOMEPOS_HI, D.AXS_A_HCAP_LO, D.AXS_A_HCAP_HI, D.AXS_A_CHATTER, D.AXS_A_TRANS, D.AXS_A_GSTAT, D.STP_CTL, D.STP_CHOP, D.STP_CUR, D.STP_IMAX, D.STP_STALL, D.STP_MOTOR, D.STP_STATUS, D.STP_TSTAT]
/-- The register families of block 0x0F (spec/12_motor_commutation.md R355). -/
def D.block0F : List RegDef :=
  [D.MOT_FLAM, D.MOT_SD_CTL, D.MOT_BK_CTL, D.MOT_BK_VON, D.MOT_BK_VHARD, D.MOT_BK_VBUS, D.MOT_BK_STATUS, D.MOT_C_CTL, D.MOT_C_STATUS, D.MOT_C_PWM, D.MOT_C_MOTOR, D.MOT_C_HALL, D.MOT_C_VCMD, D.MOT_C_ICMD, D.MOT_C_SPD, D.MOT_C_CGAIN, D.MOT_C_SGAIN, D.MOT_C_LIM, D.MOT_C_IQ, D.MOT_C_ID, D.MOT_C_SPEED, D.MOT_C_ANGLE, D.MOT_C_POS_LO, D.MOT_C_POS_HI, D.MOT_C_SPDMAX, D.MOT_C_CATCH, D.MOT_C_LOCK, D.MOT_C_SLS, D.MOT_C_ISTART, D.MOT_C_CPR]
/-- The register families of block 0x10 (spec/13_thermal_and_housekeeping.md R375). -/
def D.block10 : List RegDef :=
  [D.HK_CTL, D.HK_STATUS, D.HK_THROT, D.HK_THLIM, D.HK_ZONE_LVL, D.HK_BROKEN_LO, D.HK_BROKEN_HI, D.HK_FLAM, D.HK_CH_CFG, D.HK_CH_THR, D.HK_CH_TEMP, D.HK_CH_STATUS]
/-- The register families of block 0x11 (spec/14_faults_events_partners.md R402). -/
def D.block11 : List RegDef :=
  [D.EVT_GONG, D.EVT_STOP, D.EVT_STOP_AXES, D.EVT_KA_CTL, D.EVT_KA_STATUS, D.EVT_RAISE, D.EVT_FLAM, D.EVT_LOCK, D.EVT_PEND, D.EVT_E_CFG, D.EVT_E_CAUSE, D.EVT_E_TIME, D.EVT_E_COUNT]
/-- The register families of block 0x12 (spec/16_event_counters.md R449). -/
def D.block12 : List RegDef :=
  [D.CNT_CTL, D.CNT_OVF_LO, D.CNT_OVF_HI, D.CNT_SNAP_TIME_LO, D.CNT_SNAP_TIME_HI, D.CNT_FLAM, D.CNT_CFG, D.CNT_LO, D.CNT_HI, D.CNT_THRESH, D.CNT_RELOAD_LO, D.CNT_RELOAD_HI, D.CNT_SNAP_LO, D.CNT_SNAP_HI, D.CNT_STIME_LO, D.CNT_STIME_HI]
/-- The register families of block 0x13 (spec/15_keeper_otp_and_life.md R433). -/
def D.block13 : List RegDef :=
  [D.MBX_CMD, D.MBX_STATUS, D.MBX_ARG, D.MBX_RSP, D.MBX_CAL_LO, D.MBX_CAL_HI, D.MBX_CAL_FRAC, D.MBX_FLAM]
/-- The register families of block 0x14 (spec/15_keeper_otp_and_life.md R434). -/
def D.block14 : List RegDef :=
  [D.OTP_CMD, D.OTP_WDATA, D.OTP_RDATA, D.OTP_STATUS, D.OTP_GSTAT, D.OTP_GSUP, D.OTP_KEY, D.OTP_FLAM]
/-- The register families of block 0x15 (spec/17_balls_power_and_reset.md R470). -/
def D.block15 : List RegDef :=
  [D.PWR_CTL, D.PWR_STATUS, D.PWR_DOMREQ, D.PWR_DOMSTAT, D.PWR_VINMON, D.PWR_VIN, D.PWR_VCORE, D.PWR_RSTCAUSE, D.PWR_ERR, D.PWR_FLAM, D.PWR_LOCK]

/-- The families of the block that holds a BAR0 offset (R33). -/
def D.blockOf (off : Nat) : List RegDef :=
  match off / 0x10000 with
  | 0x0 => D.block00
  | 0x1 => D.block01
  | 0x2 => D.block02
  | 0x3 => D.block03
  | 0x4 => D.block04
  | 0x5 => D.block05
  | 0x6 => D.block06
  | 0x8 => D.block08
  | 0xA => D.block0A
  | 0xC => D.block0C
  | 0xD => D.block0D
  | 0xE => D.block0E
  | 0xF => D.block0F
  | 0x10 => D.block10
  | 0x11 => D.block11
  | 0x12 => D.block12
  | 0x13 => D.block13
  | 0x14 => D.block14
  | 0x15 => D.block15
  | _ => []

/-- Whether a family has an instance at an offset: the indices that give it, if any. -/
def RegDef.index? (d : RegDef) (off : Nat) : Option (Nat × Nat) :=
  if off < d.base then none else
    let r := off - d.base
    let i := if d.s1 = 0 then 0 else r / d.s1
    let q := if d.s1 = 0 then r else r % d.s1
    let j := if d.s2 = 0 then 0 else q / d.s2
    let e := if d.s2 = 0 then q else q % d.s2
    if i < d.n1 ∧ j < d.n2 ∧ e = 0 then some (i, j) else none

/-- The register at an offset, if there is one (R9: none reads as zero and ignores writes). -/
def regAtIn (off : Nat) : List RegDef → Option (RegDef × Nat × Nat)
  | [] => none
  | d :: ds =>
    match d.index? off with
    | some (i, j) => some (d, i, j)
    | none => regAtIn off ds

def regAt (off : Nat) : Option (RegDef × Nat × Nat) := regAtIn off (D.blockOf off)

end Sys2Proof.Machine
end

