-- ==== Sys2Proof/Machine/Tables.lean ====
section
/-!
DEFINITION. The sparse table: reading, writing and its canonical form. A write of the default value removes the entry, so
equal tables are equal lists.
-/
namespace Sys2Proof.Machine

variable {α : Type}

/-- The value at a key: the entry's, or the default where no entry stands. -/
def tget (d : α) (t : Tbl α) (k : Nat) : α :=
  match t with
  | [] => d
  | (k', v) :: r => if k' = k then v else tget d r k

/-- The table with a key's entry removed. -/
def tdel (t : Tbl α) (k : Nat) : Tbl α :=
  match t with
  | [] => []
  | (k', v) :: r => if k' = k then tdel r k else (k', v) :: tdel r k

/-- The table with an entry put in its place by key. -/
def tins (t : Tbl α) (k : Nat) (v : α) : Tbl α :=
  match t with
  | [] => [(k, v)]
  | (k', v') :: r =>
    if k < k' then (k, v) :: (k', v') :: r
    else if k' = k then (k, v) :: r
    else (k', v') :: tins r k v

/-- Write a value at a key; the default value leaves no entry. -/
def tput [DecidableEq α] (d : α) (t : Tbl α) (k : Nat) (v : α) : Tbl α :=
  if v = d then tdel t k else tins t k v

/-- The keys rise strictly from a lower bound. -/
def tsorted (lo : Nat) : Tbl α → Bool
  | [] => true
  | (k, _) :: r => decide (lo ≤ k) && tsorted (k + 1) r

/-- No entry holds the default of its key. -/
def tclean [DecidableEq α] (d : Nat → α) (t : Tbl α) : Bool :=
  t.all fun kv => !decide (kv.2 = d kv.1)

/-- The canonical form: keys rise strictly and no entry equals what an unlisted key reads as. -/
def twf [DecidableEq α] (d : Nat → α) (t : Tbl α) : Bool := tsorted 0 t && tclean d t

/-- Write a run of values at consecutive keys. -/
def tputs [DecidableEq α] (d : α) (t : Tbl α) (k : Nat) : List α → Tbl α
  | [] => t
  | v :: vs => tputs d (tput d t k v) (k + 1) vs

/-- Read n values at consecutive keys. -/
def tgets (d : α) (t : Tbl α) (k : Nat) : Nat → List α
  | 0 => []
  | n + 1 => tget d t k :: tgets d t (k + 1) n

end Sys2Proof.Machine
end

