-- ==== Sys2Proof/Machine/State.lean ====
section
/-!
DEFINITION. The state of the YX-4680 (every register, memory, queue and status the specification gives it, and the queue of
commands that wait), the reasons a step can stop, and the state right after reset.
-/
namespace Sys2Proof.Machine

/-- Why the model stops with a fault: no rule of the specification stops the block, so no meaning raises one. -/
inductive Fault where
  /-- Raised by nothing: the specification gives the block no stop of its own. Safe. -/
  | noRule
deriving DecidableEq, Repr

/-- Why the model refuses a command. -/
inductive Refusal where
  /-- Raised by no arm of Dispatch.lean: every command has its meaning. Safe. -/
  | notModelled (mnemonic : String)
deriving DecidableEq, Repr

/-! ## Clocks and press time (R34–R60) -/

/-- Phase of the root ADPLL (R35, R36, R38, R40): off, acquiring, locked, in holdover, or pulling back to lock. -/
inductive PllPhase where
  | off | acquiring | locked | holdover | pulling
deriving DecidableEq, Repr

/-- One MDLL pixel synthesiser (R49–R53): a value waiting for a BD edge, the tick of the last applied step, whether a band is
selected, whether lock was lost while the station was armed and has not come back, the line at which the second frame after the loss
ends, once known, how many frame starts still come before that frame, and whether the second raising of R53 was made. -/
structure Mdll where
  pend : Option Nat
  last : Option Nat
  band : Option (Nat × Nat)
  lost : Bool
  ahead : Nat
  again : Bool
deriving DecidableEq, Repr

def Mdll.reset : Mdll := ⟨none, none, none, false, 0, false⟩

/-- Root clock state: the PLL phase, whether press time has begun to count, whether FCLK runs, whether the reference is
present, the tick of holdover entry, the calendar error accumulated in units of 2^-15 / (128 * 10^6) counts, and the error last taken from
a good reading, which the keeper holds (R45). -/
structure Clk where
  pll : PllPhase
  begun : Bool
  running : Bool
  refOk : Bool
  holdSince : Nat
  lostRaised : Bool
  frozen : Bool
  calAcc : Int
  calErr : Int
  mdll : Tbl Mdll
deriving DecidableEq, Repr

/-! ## Web position (R64–R91) -/

/-- One publish in effect (R70): P0, V, A and T0. -/
structure Pub where
  p0 : Int
  v : Int
  a : Int
  t0 : Nat
deriving DecidableEq, Repr

/-- A stretch of ticks over which one publish and one armed state hold (R71): its first tick, the value kept for the tick
before it, whether kept values may not fall, and whether the position is held (R73). -/
structure Seg where
  start : Nat
  kept : Int
  mono : Bool
  held : Bool
  pub : Pub
deriving DecidableEq, Repr

/-- The front end of an incremental input (R65, R66): the accepted levels of A, B and the index, how many samples in a row have differed
from each, the samples since the last count (saturating at 8), the count, and the count at the last index edge. -/
structure Inc where
  a : Bool
  b : Bool
  z : Bool
  na : Nat
  nb : Nat
  nz : Nat
  gap : Nat
  count : Int
  index : Option Int
deriving DecidableEq, Repr

def Inc.reset : Inc := ⟨false, false, false, 0, 0, 0, 8, 0, none⟩

/-- A sinc3 filter of a modulator's bits (R339, R340): its integrators and combs, the bits of the output under way, the output completed
last (Q15), the last bit and how often in a row it has come, and whether the input has been stuck since the last sample was taken. -/
structure Sinc where
  i1 : Int
  i2 : Int
  i3 : Int
  d1 : Int
  d2 : Int
  d3 : Int
  n : Nat
  out : Int
  lev : Bool
  same : Nat
  stuck : Bool
deriving DecidableEq, Repr

def Sinc.reset : Sinc := ⟨0, 0, 0, 0, 0, 0, 0, 0, false, 0, false⟩

/-- Hidden state of one master source: its incremental front end; last latched raw count, whether a retry is awaited, observer periods
since an invalid sample (saturating at 256, R69), periods tracked and the sum of differences (R69), the mean carried when taken into use, withheld unchanged samples in a
row (R81), and whether it stands declared lost until a valid sample (R68). -/
structure Src where
  inc : Inc
  last : Int
  seen : Bool
  retry : Bool
  valid : Nat
  tracked : Nat
  diffSum : Int
  carried : Int
  unchanged : Nat
  dead : Bool
deriving DecidableEq, Repr

def Src.reset : Src := ⟨Inc.reset, 0, false, false, 256, 0, 0, 0, 0, false⟩

/-- Hidden state of the WEB block: the sources; the source in use, whether one was ever in use, and whether it stands declared lost
or frozen (R82); the publish in effect and the kept stretches; WEB_CORR in 2^-10 web units (R85); the highest measured position of the armed run, once one was formed
(R72) and whether the reversal has passed its limit (R73); the ticks of the coast start, the last publish and the last observer
period; whether the coast time has expired; a switch asked for (R84); the position latched for the observer program, and the
extrapolated position, at the last period. -/
structure Web where
  src : Tbl Src
  inUse : Option Nat
  everUsed : Bool
  down : Bool
  pub : Pub
  published : Bool
  segs : List Seg
  corr : Int
  high : Option Int
  revOver : Bool
  coastSince : Option Nat
  expired : Bool
  lastPub : Nat
  switchReq : Bool
  period : Nat
  latch : Int
  lastPos : Int
deriving DecidableEq, Repr

/-- Hidden gear state of a station or a geared axis (R75–R91): the ratio and web position of the pending change, as they stood at RPEND
(R78); a late change that waits for a publish; whether the rate reached 95 % in this frame, whether it stood above the fire limit at the
last observer period, whether EV_OVERSPEED_DROP was raised in this frame, the station position of the last applied scheduled change
(R78), and an axis's own bias, 32.16 (R320). -/
structure Gear where
  next : Nat
  at_ : Int
  late : Bool
  hot : Bool
  above : Bool
  dropRaised : Bool
  doneAt : Option Int
  bias : Int
deriving DecidableEq, Repr

def Gear.reset : Gear := ⟨0, 0, false, false, false, false, none, 0⟩

/-! ## Frames and lines (R106–R114, R232–R236, R247–R251) -/

/-- A frame as its station holds it: the descriptor of R106, its place, and what the station has done with it. `state` is the
record state of R248, `cut` the first line it blanks, `prov` the epoch of the change set it waits for (R109), `bare` the
reason it is taken without screening (R107, R245); `entered` that the work of its boundary was done, `reached` that the line position has
reached it, `prior` the last image line of what was placed before it, `held` the first lines not fired under R87, `dropJ` the index from which lines are skipped and `dropK` the k they are skipped with (R90). -/
structure Frame where
  index : Nat
  num : Nat
  job : Nat
  plane : Nat
  stride : Nat
  width : Nat
  form : Nat
  res : Nat
  x0 : Nat
  rlines : Nat
  len : Nat
  gap : Nat
  anchor : Option Int
  lines : Nat
  start : Option Int
  prior : Option Int
  prov : Option Nat
  bare : Option Nat
  entered : Bool
  reached : Bool
  held : Nat
  begun : Bool
  cut : Option Int
  state : Nat
  reason : Nat
  emitted : Nat
  missed : Nat
  degraded : Bool
  descErr : Bool
  yrlErr : Bool
  underErr : Bool
  tFirst : Nat
  tLast : Nat
  lastFire : Nat
  dropJ : Option Nat
  dropK : Nat
deriving DecidableEq, Repr

/-- What the device sends on an image lane (R162). -/
inductive LaneMsg where
  | tb (time : Nat)
  | line (lpos : Int) (fire : Nat) (seg : Nat) (last test committed : Bool) (wset : Nat) (codes : List Byte)
  | commit (lseq rev : Nat) (lpos : Int)
  | revise (lseq rev fire : Nat)
  | scale (port s0 s : Nat) (lpos : Int)
  | wave (bank part : Nat) (body : List Byte)
  | assign (hub : Nat)
  | echo
  | switch
  | cap
  | sbReq (write : Bool) (port addr reg len : Nat) (data : List Byte)
  | ack (seq seg : Nat)
  | nack (seq seg cause : Nat)
deriving DecidableEq, Repr

/-- Where a staged line stands (R234–R236): waiting for its confirm check, squashed and open to a re-staging, committed, or lost. -/
inductive LinePhase where
  | staged | squashed | committed | lost
deriving DecidableEq, Repr

/-- One line an inkjet station has announced: fire time in effect, tick of the staging, revision, mallet whose region holds
it, LSEQ on each hub's lane, its phase, whether it was counted missed, hubs that reported it (bit 0 lane 2n), and the COMMIT and REVISE
messages sent for it, oldest first, each with its lane and SEQ (R177). -/
structure Line where
  lpos : Int
  fire : Nat
  staged : Nat
  rev : Nat
  mallet : Nat
  lseq : Nat
  lseqB : Nat
  phase : LinePhase
  miss : Bool
  fired : Nat
  msgs : List (Nat × Nat × LaneMsg)
deriving DecidableEq, Repr

/-- A line slot of the line store (R114, R139, R141). -/
inductive SlotPhase where
  | filled | screened | void
deriving DecidableEq, Repr

/-- A slot's line, its phase, the epoch it waits for, and what its screening will count: density lost, neighbours promoted, and
whether the lead stood below the floor (R153). -/
structure Slot where
  lpos : Int
  phase : SlotPhase
  prov : Option Nat
  lost : Nat
  promoted : Nat
  low : Bool
deriving DecidableEq, Repr

/-- An outstanding line-slot request of a feed engine (R112, R114). -/
structure FeedReq where
  lpos : Int
  read : Bool
  withdrawn : Bool
  prov : Option Nat
deriving DecidableEq, Repr

/-- Phase of a station (R27, R181, R225, R226). -/
inductive Phase where
  | unarmed | arming (step : Nat) | armed | disarming (step : Nat)
deriving DecidableEq, Repr

/-- One station: its phase, its frames oldest first, its announced lines, its outstanding requests, the next ring index to
fetch, the line after the last placed frame, the next line to request and whether the queue ran empty (R110); the epoch whose first line
was screened last, and whether the first line of the running job has still to be screened (R149); the same of the first line staged, which
decides the waveform bank (R187); the frames closed last, newest first, whose lines a head of a later row may still fire and a drop test may
still mark (R157, R195); and whether the line position stands in a frame whose end was not reached yet (R192). -/
structure Station where
  phase : Phase
  frames : List Frame
  lines : List Line
  reqs : List FeedReq
  nextFetch : Nat
  endLine : Option Int
  lastImage : Option Int
  nextLine : Option Int
  ranEmpty : Bool
  leadLow : Bool
  unscreened : Option Nat
  bounded : Option Nat
  newJob : Bool
  waved : Option Nat
  newWave : Bool
  past : List Frame
  printing : Bool
deriving DecidableEq, Repr

def Station.reset : Station := ⟨.unarmed, [], [], [], 0, none, none, none, true, false, none, none, false, none, false, [], false⟩

/-! ## Device memory and DMA (R95–R123) -/

/-- Device memory: its bytes, its poisoned 64-byte blocks, the pages redirected to a spare, and the pages waiting to be retired with the one
being copied first, each with the station whose read found it. -/
structure DevMem where
  bytes : Tbl Byte
  poison : List Nat
  retired : List Nat
  queue : List (Nat × Option Nat)
deriving DecidableEq, Repr

/-- Phase of a DMA channel (R119–R123): idle, reading its descriptor from host memory, waiting for store buffers to drain, or moving data. -/
inductive DmaPhase where
  | idle | fetch | drain | moving
deriving DecidableEq, Repr

/-- One DMA channel: phase, the running CRC register before the final XOR, bytes still to move, whether a host read has been
reissued, the descriptor's fields, and the number of the first store issued after the descriptor began (R123). -/
structure Dma where
  phase : DmaPhase
  crc : Nat
  reissued : Bool
  src : Nat
  dst : Nat
  len : Nat
  flags : Nat
  drainMask : Nat
  drainSeq : Nat
  next : Nat
deriving DecidableEq, Repr

def Dma.reset : Dma := ⟨.idle, 0xFFFFFFFF, false, 0, 0, 0, 0, 0, 0, 0⟩

/-- A request of the device to host memory (R124): a write with its bytes or a read of a length, with its No Snoop and Relaxed Ordering
attributes. -/
structure HostReq where
  write : Bool
  addr : Nat
  len : Nat
  data : List Byte
  noSnoop : Bool
  relaxed : Bool
deriving DecidableEq, Repr

/-! ## Change sets and the ledger (R238–R253) -/

/-- What a change-set slot keeps beyond its registers: the ratio and the required banks of each station (R238). -/
structure CsExtra where
  rats : List Nat
  reqs : List Nat
deriving DecidableEq, Repr

def CsExtra.reset : CsExtra := ⟨[], []⟩

/-- A station record of a ledger entry (R248). -/
structure Rec where
  state : Nat
  reason : Nat
  emitted : Nat
  missed : Nat
deriving DecidableEq, Repr

/-- An open ledger entry (R247, R250): its sequence number, the pair it records, its epoch, its DEGRADED mask, its times, its
station set, and the records written. `spilled` entries stand in the ring only (R251). -/
structure Entry where
  seq : Nat
  job : Nat
  num : Nat
  epoch : Nat
  degraded : Nat
  tFirst : Nat
  tLast : Nat
  stations : Nat
  have_ : Nat
  recs : Tbl Rec
  spilled : Bool
deriving DecidableEq, Repr

/-! ## Mallets, roles and the carillon (R257–R301) -/

/-- A 16-byte carillon message: header and three payload words (R270). -/
structure Msg where
  w0 : Word
  w1 : Word
  w2 : Word
  w3 : Word
deriving DecidableEq, Repr

/-- What a checkpoint holds (R295). -/
structure Checkpoint where
  k : Vector Word 16
  z : Bool
  n : Bool
  c : Bool
  v : Bool
  acc : Int
deriving DecidableEq, Repr

/-- The effects that may be staged (R292). -/
inductive Eff where
  | line (st : Nat) (lpos : Int)
  | scan (st : Nat) (lpos : Int)
  | pin (gpio action width : Nat) (timed : Option Nat)
  | event (e : Nat) (cause : Word)
  | send (m : Msg)
deriving DecidableEq, Repr

/-- A staged effect: its port (0xFF for SEND and SIGNAL), its time, whether it is confirmed, its checkpoint. -/
structure Effect where
  eff : Eff
  port : Nat
  fire : Nat
  conf : Bool
  cp : Checkpoint
deriving DecidableEq, Repr

/-- A speculation region (R291–R296): open, closing, its effects oldest first, its base checkpoint. -/
structure Region where
  isOpen : Bool
  closing : Bool
  effs : List Effect
  base : Checkpoint
deriving DecidableEq, Repr

/-- What a waiting mallet waits for (R289). -/
inductive Wait where
  | time (target : Nat)
  | pos (target : Int) (limit : Option Nat)
  | event (kd : Nat) (mask : BitVec 256) (limit : Option Nat) (queue timer : Bool)
deriving DecidableEq, Repr

/-- A store in a mallet's store buffer (R301): its address, its value the number of FENCEs before it, and its number among all stores
(R123). -/
structure Store where
  addr : Nat
  val : Word
  fence : Nat
  seq : Nat
deriving DecidableEq, Repr

/-- Run state of a mallet (MLT_Mm_STATUS.STATE). -/
inductive Run where
  | idle | running | halted | loading
deriving DecidableEq, Repr

/-- What a stalled mallet waits for its store buffer to do (R301): nothing, DRAIN, HALT, or room for one store. -/
inductive Stall where
  | none | drain | halt | store (addr : Nat) (val : Word)
deriving DecidableEq, Repr

/-- One mallet. -/
structure Mallet where
  k : Vector Word 16
  z : Bool
  n : Bool
  c : Bool
  v : Bool
  exl : Bool
  pc : Nat
  cause : Word
  epc : Nat
  evec : Nat
  sqh : Nat
  acc : Int
  lposF : Nat
  pend : BitVec 256
  inq : List Msg
  bounce : List Msg
  view : Tbl Nat
  sb : List Store
  fence : Nat
  stall : Stall
  wait : Option Wait
  run : Run
  why : Nat
  ready : Nat
  lastWait : Nat
  lastSend : Option Nat
  afterMac : Bool
  timerAt : Option Nat
  role : Option Nat
  region : Region
deriving DecidableEq, Repr

/-- What a role holds (R267, R278): its holder, its epoch, its station, its requested privilege, whether it is the observer
role, its kind, its entry points and whether a verified image exists. -/
structure Role where
  holder : Option Nat
  epoch : Nat
  station : Option Nat
  priv : Nat
  obs : Bool
  kind : Nat
  entry : Nat
  take : Nat
  image : Option (List Byte)
  staged : Option (Nat × List Byte)
deriving DecidableEq, Repr

def Role.reset : Role := ⟨none, 0, none, 0, false, 0, 0, 0, none, none⟩

/-- A message on the carillon: the sender's role (62 host, 63 keeper) and mallet, and the message as sent. -/
structure Flight where
  from_ : Nat
  epoch : Nat
  mallet : Option Nat
  msg : Msg
deriving DecidableEq, Repr

/-! ## Events (R377–R397) -/

/-- A keeper log record (R423): kind, event, cause, press time, level, class, data. -/
structure LogRec where
  seq : Nat
  secs : Nat
  frac : Nat
  time : Nat
  cause : Nat
  event : Nat
  level : Nat
  cls : Nat
  kind : Nat
  boot : Nat
  data : Nat
deriving DecidableEq, Repr

/-- A device stop in the life store (R395, R426): its level, event and class, the calendar at the raising, in 1/32,768 s, and its
length in 10 ms units. -/
structure Stop where
  level : Nat
  event : Nat
  cls : Nat
  at_ : Nat
  len : Nat
deriving DecidableEq, Repr

/-- Gong and routing state: raising times per event within its repeat window (R385), sent MSI-X messages per vector and the
messages held by a mask (R379), the tick and velocity of the G3 raising, its class (R386, R387, R395), whether the rows G3_STOP and G4
still have to act, the keeper records that wait for the G4 report and the stop it opens (R22, R388), whether a check of R387 has failed, whether STOPMAX has acted, KA_DRIVE dropped under R387, the 2 s of KA_HV over
(R397), the tick from which each keepalive toggles, by its bit of EVT_KA_STATUS (R396), and the tick since which the published velocity has been zero (R386). -/
structure Gong where
  times : Tbl (List Nat)
  sent : Tbl Nat
  g3At : Nat
  v0 : Int
  cls : Nat
  g3Want : Bool
  g4Want : Bool
  g4Recs : List LogRec
  g4Stop : Option Stop
  failed : Bool
  stopTimed : Bool
  driveDrop : Bool
  kaHvOff : Bool
  kaFrom : Tbl Nat
  zeroSince : Option Nat
deriving DecidableEq, Repr

/-- The answer of the last read, as its reader receives it (R31, R54): none yet, a word, a Completer Abort, or bytes with the
poison mark of R98. -/
inductive Answer where
  | none | word (w : Word) | abort | bytes (bs : List Byte) (poisoned : Bool)
deriving DecidableEq, Repr

/-- A checkpoint of zeros. -/
def Checkpoint.zero : Checkpoint := ⟨Vector.replicate 16 0, false, false, false, false, 0⟩

/-- A mallet at reset: idle, its registers zero (log entry 1). -/
def Mallet.reset : Mallet :=
  { k := Vector.replicate 16 0, z := false, n := false, c := false, v := false, exl := false, pc := 0, cause := 0, epc := 0,
    evec := 0, sqh := 0, acc := 0, lposF := 0, pend := 0, inq := [], bounce := [], view := [], sb := [], fence := 0,
    stall := .none, wait := none, run := .idle, why := 0, ready := 0, lastWait := 0, lastSend := none, afterMac := false,
    timerAt := none, role := none, region := ⟨false, false, [], Checkpoint.zero⟩ }

/-! ## Inkjet stations and lanes (R155–R196) -/

/-- A message as it stands on a lane (R159, R160): the hub address and SEQ and SEG of its header, and what it says. -/
structure Sent where
  hub : Nat
  seq : Nat
  seg : Nat
  msg : LaneMsg
deriving DecidableEq, Repr

/-- An acknowledged message that waits for its acknowledgement (R173): SEQ, SEG, the 1/25 tick at which its last block leaves (a byte takes
12 of them, R159), whether it has been resent. -/
structure OutMsg where
  seq : Nat
  seg : Nat
  msg : LaneMsg
  leftAt : Nat
  resent : Bool
deriving DecidableEq, Repr

/-- One image lane: the next SEQ, outstanding messages, the 1/25 tick at which the link is free, and that at which the priority messages
have left (R161); the messages sent, newest first; STATUS due after the last TB, STATUS and TELEMETRY faults in a row, the latest FAULT
bits, the next SEQ expected from the hub, once one has come (R174), and its latest LAST_FIRED (R170); the ECHO sum and count, the spare
whose path is being measured and the paths measured (bit 0 spare 0, bit 1 spare 1, bit 2 the lane's own), the tick of the select from which
timeouts are held, and whether the first STATUS on a spare is awaited (R177). -/
structure Lane where
  seq : Nat
  out : List OutMsg
  busy : Nat
  prio : Nat
  sent : List Sent
  due : Bool
  badStatus : Nat
  badTelem : Nat
  faults : Nat
  hubSeq : Option Nat
  lastFired : Option Int
  echoSum : Int
  echoN : Nat
  measuring : Option Nat
  measured : Nat
  held : Option Nat
  fresh : Bool
deriving DecidableEq, Repr

def Lane.reset : Lane := ⟨0, [], 0, 0, [], false, 0, 0, 0, none, none, 0, 0, none, 0, none, false⟩

/-- A head's memory as read at arm (R184); whether it was warned of (R190), its sensor good (0), withheld (1) or broken (2) (R360,
R362), whether its T has reached TLIMIT and no frame has begun since (R191), its T at the first frame spoiled under R191 and the frames ended
since (R192). -/
structure Head where
  typ : Nat
  serial : Nat
  nozzles : Nat
  fmax : Nat
  rank : Nat
  tref : Int
  tcoef : Int
  twarn : Int
  tlimit : Int
  warned : Bool
  bad : Nat
  hot : Bool
  spoilT : Option Int
  since : Nat
deriving DecidableEq, Repr

def Head.reset : Head := ⟨0, 0, 0, 0, 0, 0, 0, 0, 0, false, 0, false, none, 0⟩

/-- Hidden state of an inkjet station: the tick of the arm request, the tick at which CAP is due, and the tick at which the first WAVE
message of a download left. -/
structure InkSt where
  armAt : Nat
  capDue : Option Nat
  waveAt : Option Nat
deriving DecidableEq, Repr

def InkSt.reset : InkSt := ⟨0, none, none⟩

/-- The drop-detection engine (R193–R196): the next nozzle, a nozzle to retest, the test running and whether it is a retest, the first
line of its burst, the fire time of its first drop in sled mode, the sled-mode test lines that their hubs have still to report, each with its
station, the tick at which its windows close, the last usable gap line, marks held while a bank is busy (R148), the
tick of the first test of the nozzle last found, the stations whose frames stay DEGRADED up to a line (R195), and tests and weak
results by station * 128 + head * 2 (R428). -/
structure Dd where
  next : Option Nat
  retest : Option Nat
  test : Option Nat
  again : Bool
  first : Int
  fire0 : Nat
  sled : List (Nat × Line)
  closes : Nat
  gapLine : Option Int
  marks : List Nat
  since : Nat
  hide : List (Nat × Option Int)
  counts : Tbl Nat
deriving DecidableEq, Repr

def Dd.reset : Dd := ⟨none, none, none, false, 0, 0, [], 0, none, [], 0, [], []⟩

/-- The sideband engine (R175): whether the transaction is on its retry, its lane, the tick of its request, the request, and the last
result a hub returned for it. -/
structure Sb where
  retry : Bool
  lane : Nat
  at_ : Nat
  req : Option LaneMsg
  res : Option Nat
deriving DecidableEq, Repr

/-- Hidden state of a spare: STATUS faults in a row of its parked hub. -/
structure Spare where
  bad : Nat
deriving DecidableEq, Repr

/-! ## EP stations (R200–R227) -/

/-- A staged scan: its first line, the predicted BD time, and the mallet whose region holds it. -/
structure Scan where
  lpos : Int
  pred : Nat
  mallet : Nat
deriving DecidableEq, Repr

/-- An exchange on a beam-port sideband that awaits its reply (R217, R218). -/
structure Apc where
  cmd : Nat
  beam : Nat
  data : Nat
  retried : Bool
deriving DecidableEq, Repr

/-- Hidden state of an EP station: its staged scans; the last BD edge and the latest intervals, newest first; missing edges in a row;
facets in and out of tolerance in a row (R210); squashes by ring index of their frame (R207); beam lighting (R205);
whether BD is lost for good (R208); edges toward a revolution; the beam READ_DRIVE asks next, outstanding exchanges and
targets last written (R218), the enable mask sent; beams blank after an MDLL unlock (R53); the line after the last facet's
lines (R214); the 10-bit symbols of the last scan released, beam by beam, and the lanes whose running disparity is positive after them
(R200, R203); and edges in a row, and the tick at which the arm step in progress
began (R225). -/
structure Ep where
  scans : List Scan
  lastBd : Option Nat
  intervals : List Nat
  missing : Nat
  inTol : Nat
  outTol : Nat
  squashes : Tbl Nat
  lit : Bool
  litAt : Nat
  dead : Bool
  edges : Nat
  beam : Nat
  polledAt : Nat
  apc : List Apc
  targets : Tbl Nat
  enabled : Nat
  blank : Bool
  served : Option Int
  out : List (List (BitVec 10))
  rd : Nat
  run : Nat
  stepAt : Nat
deriving DecidableEq, Repr

def Ep.reset : Ep := ⟨[], none, [], 0, 0, 0, [], false, 0, false, 0, 0, 0, [], [], 0, false, none, [], 0, 0, 0⟩

/-- Hidden state of an HV channel (R219, R220): fault and arc samples in a row, the tick of the first arc of a window, the tick from
which the output is held at 0, the tick by which AT_SET must hold, whether frames are being spoiled, whether AT_SET was reached
since the ramp began, whether the device holds or ramps the channel to 0 (R225, R226), the ticks of the last step and sample, and the
tick at which the ramp of a disarm reached 0, and the tick since which AT_SET has held. -/
structure Hv where
  fltRun : Nat
  arcRun : Nat
  arcAt : Option Nat
  holdAt : Option Nat
  rampBy : Option Nat
  spoiling : Bool
  reached : Bool
  down : Bool
  stepAt : Nat
  monAt : Nat
  zeroAt : Option Nat
  setAt : Option Nat
deriving DecidableEq, Repr

def Hv.reset : Hv := ⟨0, 0, none, none, none, false, false, false, 0, 0, none, none⟩

/-- Hidden state of a fuser zone (R221, R222): the burst accumulator, the output, and the frame EV_FUSER_TEMP was raised for last. -/
structure Fuser where
  acc : Nat
  ssr : Bool
  told : Nat
deriving DecidableEq, Repr

def Fuser.reset : Fuser := ⟨0, false, 0⟩

/-! ## Axes, steppers and trace units (R305–R333) -/

/-- One feedback input of an axis: its incremental front end, the offset from its raw count to the axis position, its last raw count, its valid samples in a row
(saturating at 256, R311), and the SSI word clocked last, its error, and whether one was clocked (R308). -/
structure AxIn where
  inc : Inc
  off : Int
  raw : Int
  valid : Nat
  frame : Int
  frameBad : Bool
  framed : Bool
deriving DecidableEq, Repr

def AxIn.reset : AxIn := ⟨Inc.reset, 0, 0, 0, 0, false, false⟩

/-- A qualified switch input (R323): whether it is accepted as active, and samples in a row that differ. -/
structure Switch where
  active : Bool
  run : Nat
deriving DecidableEq, Repr

/-- Hidden state of an axis. Setpoint `x` in 10^-18 counts, velocity `v` in 10^-12 counts/s, acceleration `a` in 10^-6 counts/s²; the
target of the motion, the commanded velocity in counts/s; the gear operand, the geared count (32.16) of the last update, the
velocity matched, and whether it exceeded VMAX (R320, R321); the inputs, awaited retry, unchanged and implausible samples in a
row, the tick of the coast start, whether the input in use is declared down, whether the coast has expired, a switch asked for
(R310, R311), the correction being absorbed (R312), whether it is held, what is held of the web's jumps in 32.16 counts (R86), and what the
axis has absorbed less of the web's correction than the web itself, in 2^-10 web units (R312); d[k-1], d[k-2] and the setpoint at the last
firing (R309), the sensorless estimate there (R310); the switch inputs; the count of the last home capture, the tick of home acceptance,
whether a search runs, and whether a change of the home input is held back from its count, since it may be the accepted edge (R325); and the
tick since which the setpoint has stood still (R327). -/
structure Axis where
  x : Int
  v : Int
  a : Int
  goal : Int
  vel : Int
  toPhase : Bool
  gcount : Int
  matched : Bool
  excess : Bool
  main : AxIn
  alt : AxIn
  retry : Bool
  unchanged : Nat
  implausible : Nat
  coastAt : Option Nat
  down : Bool
  expired : Bool
  switchReq : Bool
  corr : Int
  hold : Bool
  held : Int
  rel : Int
  d1 : Int
  d2 : Int
  posAt : Int
  slsAt : Int
  limP : Switch
  limN : Switch
  home : Switch
  hcap : Option Int
  accepted : Option Nat
  searching : Bool
  edgeHeld : Bool
  stillAt : Nat
deriving DecidableEq, Repr

def Axis.reset : Axis :=
  { x := 0, v := 0, a := 0, goal := 0, vel := 0, toPhase := false, gcount := 0, matched := false, excess := false, main := AxIn.reset,
    alt := AxIn.reset, retry := false, unchanged := 0, implausible := 0, coastAt := none, down := false, expired := false,
    switchReq := false, corr := 0, hold := false, held := 0, rel := 0, d1 := 0, d2 := 0, posAt := 0, slsAt := 0, limP := ⟨false, 0⟩, limN := ⟨false, 0⟩,
    home := ⟨false, 0⟩, hcap := none, accepted := none, searching := false, edgeHeld := false, stillAt := 0 }

/-- Hidden state of an interpolation group (R322): the path position, velocity and acceleration in an axis's units, its length in
counts, and each member with its start and its D. -/
structure Group where
  x : Int
  v : Int
  a : Int
  len : Nat
  members : List (Nat × Int × Int)
deriving DecidableEq, Repr

def Group.reset : Group := ⟨0, 0, 0, 0, []⟩

/-- Hidden state of a stepper: the filters of its phase currents (R339), overcurrent periods in a row, an awaited retry, the integrators and
duties of the two phases, the tick and the setpoint of the last period, and stall steps in a row (R327–R330, R340). -/
structure Stepper where
  sa : Sinc
  sb : Sinc
  excess : Nat
  retry : Bool
  intA : Int
  intB : Int
  dutyA : Int
  dutyB : Int
  lastAt : Nat
  last : Int
  stall : Nat
deriving DecidableEq, Repr

def Stepper.reset : Stepper := ⟨Sinc.reset, Sinc.reset, 0, false, 0, 0, 0, 0, 0, 0, 0⟩

/-- Hidden state of a trace unit (R331–R333): its samples, newest first, eight words each; the samples still to take after the
trigger; the last value of channel 0; the tick of the ARM write; and the tick of the last sample. -/
structure Trace where
  rows : List (List Word)
  left : Nat
  prev : Option Nat
  armAt : Nat
  lastAt : Nat
deriving DecidableEq, Repr

def Trace.reset : Trace := ⟨[], 0, none, 0, 0⟩

/-! ## Three-phase channels and brake choppers (R337–R352) -/

/-- Hidden state of a three-phase channel: the tick of the last period boundary; the filters of its phase currents (R339); the angle's last
increment, the last 16, and whether it is in step with its source since the enable; the angle before an open-loop start; awaited retries of current and angle; overcurrent samples in a row, and the
tick of an overcurrent trip (R349); integrators of the d, q and speed laws; periods to the next run of the speed law and the current it
formed; the voltage vector in effect, the compare values of legs U, V and W and those of the period before (R337); the accepted hall
levels with the samples that differ from each, the sector, tick and interval of the last hall edge and its sense, and the encoder's front
end (R343); the tick from which |IQ| has stood at LOCK_I without a commutation event (R349); the tick of the start; observer revolutions at
or above SLS_VMIN; the tick of the measuring window or braking cycle, the position and the commutation events at its start (R348); the
commutation events since the enable; and whether the channel has braked. -/
structure Motor where
  last : Nat
  su : Sinc
  sv : Sinc
  inc : Int
  incs : List Int
  inStep : Bool
  open_ : Nat
  badI : Bool
  badA : Bool
  excess : Nat
  tripAt : Option Nat
  intD : Int
  intQ : Int
  intS : Int
  sdiv : Nat
  iq : Int
  vd : Int
  vq : Int
  legs : List Nat
  legsWas : List Nat
  hall : BitVec 3
  hallRun : List Nat
  sector : Nat
  edgeAt : Nat
  interval : Nat
  fwd : Bool
  enc : Inc
  lockFrom : Option Nat
  startAt : Nat
  revs : Nat
  windowAt : Nat
  windowPos : Int
  windowN : Nat
  comms : Nat
  braked : Bool
deriving DecidableEq, Repr

def Motor.reset : Motor :=
  { last := 0, su := Sinc.reset, sv := Sinc.reset, inc := 0, incs := [], inStep := false, open_ := 0, badI := false, badA := false,
    excess := 0, tripAt := none,
    intD := 0, intQ := 0, intS := 0, sdiv := 0, iq := 0, vd := 0, vq := 0, legs := [], legsWas := [], hall := 0,
    hallRun := [0, 0, 0], sector := 0, edgeAt := 0, interval := 0, fwd := true, enc := Inc.reset, lockFrom := none, startAt := 0, revs := 0, windowAt := 0,
    windowPos := 0, windowN := 0, comms := 0, braked := false }

/-- Hidden state of a brake chopper bus: which of its three registers have been written (R347, R352), the filters of BKb_V and BKb_I (R339),
samples at or above VHARD in a row, an awaited retry of BKb_V, the tick of the last sample, the tick at which a check window opened, whether it is the retry window,
and whether current has been seen in it (R351). -/
structure Bus where
  written : BitVec 3
  sv : Sinc
  si : Sinc
  high : Nat
  retry : Bool
  sampleAt : Nat
  checkAt : Option Nat
  second : Bool
  seen : Bool
deriving DecidableEq, Repr

def Bus.reset : Bus := ⟨0, Sinc.reset, Sinc.reset, 0, false, 0, none, false, false⟩

/-! ## Housekeeping (R356–R372) -/

/-- Hidden state of a housekeeping channel: the tick of its last sample, an awaited retry, the levels entered (bit 0 WARN, 1 THROTTLE,
2 CRITICAL), samples in a row toward entering and leaving each, valid samples of a re-qualification, samples in a row above 140 °C,
whether it has given a valid sample in SLOW, and for the thermal cycles of R427 whether a rise of 40 °C has been seen and the extreme
since. -/
structure HkCh where
  last : Nat
  retry : Bool
  inside : Nat
  enter : List Nat
  leave : List Nat
  requal : Nat
  hot : Nat
  slowOk : Bool
  risen : Bool
  ext : Option Int
deriving DecidableEq, Repr

def HkCh.reset : HkCh := ⟨0, false, 0, [0, 0, 0], [0, 0, 0], 0, 0, false, false, none⟩

/-! ## Keeper (R403–R430, R459–R469) -/

/-- One margin review of the life store (R428, R430): the calendar seconds, the operating hours, the value of each item, and the date at
which each item's line reaches its limit. -/
structure ReviewRec where
  secs : Nat
  hours : Nat
  values : List (Nat × Int)
  dates : List (Nat × Nat)
deriving DecidableEq, Repr

/-- Hidden state of the keeper. `supplied` that VIN stands above the lockout; `released` that start-up has run since the last reset;
`slotA` and `slotB` the firmware of the flash slots; `active` the slot recorded as active; `key` that OTP_KEY was written immediately
before (R413); `prog` the OTP word being programmed and its target; `keys` the installed customer keys by index (R415);
`xtab` and `ctab` the stored tables (R419); `resetAt` the tick of a mailbox reset, `accepted` a reset accepted on the ball, `resetT0` the
tick of an accepted reset (R463); `cause` what RSTCAUSE will latch; `wdogAt` the calendar of the last watchdog expiry (R422); `vplan`,
`guards` and `guardPlan` what margin review planned (R428, R429), `otpRef` the tightened reference's offset, `reviewAsked` that a review is
asked for; `reviews` the newest 64; `heads` the heads counted, most recently seen first (R426); `vlow` how many VIN samples in a row, up to the last, lay below
WARN and `vfail` that EV_VIN_FAIL was raised (R464); `vinFrames` the job and frame number in progress at each station then; `selfRefresh`
that device memory is in self-refresh; `calLost` that EV_CAL_LOST waits for start-up; `back` that a firmware switch returns to the previous slot and `modeWas` the mode before it; `calValid`; `bands` and `memSize` as start-up found
them (R467), and the data rate it set, in MT/s (R477); whether the flash runs 8D-8D-8D, and how often XSPI_RST_N was driven low for 10 µs
(R484); `dbgLock` (R418); the presence of VIO_A and VIO_B (R458); the tick of the last accepted power-down and its domains, and the
mask of the domains still to be powered up (R460). -/
structure Keeper where
  supplied : Bool
  released : Bool
  slotA : Fw
  slotB : Fw
  active : Nat
  trial : Bool
  key : Bool
  prog : Option (Nat × Nat)
  keys : Tbl (List Byte)
  xtab : List Nat
  ctab : List Nat
  resetAt : Option Nat
  accepted : Bool
  resetT0 : Option Nat
  cause : Nat
  wdogAt : Option Nat
  vplan : Nat
  guards : List Nat
  guardPlan : List Nat
  otpRef : Nat
  reviewAsked : Bool
  reviews : List ReviewRec
  heads : List Nat
  vlow : Nat
  vfail : Bool
  vinFrames : List (Nat × Nat × Nat)
  selfRefresh : Bool
  calLost : Bool
  back : Bool
  modeWas : Nat
  calValid : Bool
  bands : List Nat
  memSize : Nat
  memRate : Nat
  octal : Bool
  xspiResets : Nat
  dbgLock : Bool
  vioA : Bool
  vioB : Bool
  downs : Nat × List Nat
  ups : Nat
deriving DecidableEq, Repr

/-- The keeper before its first release: a firmware of version 1 in both slots (log entry 33), the cause a cold start. -/
def Keeper.reset : Keeper :=
  { supplied := true, released := false, slotA := ⟨1, 0, true⟩, slotB := ⟨1, 0, true⟩, active := 0, trial := false, key := false,
    prog := none, keys := [], xtab := [], ctab := [], resetAt := none, accepted := false, resetT0 := none, cause := 1, wdogAt := none,
    vplan := 0, guards := [], guardPlan := [], otpRef := 0, reviewAsked := false, reviews := [], heads := [], vlow := 0,
    vfail := false, vinFrames := [], selfRefresh := false, calLost := false, back := false, modeWas := 0, calValid := false, bands := [], memSize := 0, memRate := 0, octal := false, xspiResets := 0,
    dbgLock := false, vioA := true, vioB := true, downs := (0, []), ups := 0 }

/-- The trained PCI Express link (R30): its lanes, 0 before it trains, and its rate in 0.1 GT/s. -/
structure PcieLink where
  width : Nat
  rate : Nat
deriving DecidableEq, Repr

/-- An event counter (R440–R445). -/
structure Counter where
  /-- The count; 2^48 or more means a wrap stands to be taken (R441). -/
  value : Nat
  /-- Where the counter has been written, the tick of the last write plus 1, and what the count would be in that tick had it not been
  written: an increment of that tick is discarded, a wrap is not (R442). -/
  wroteAt : Nat
  was : Nat
  /-- Whether a snapshot of the present tick stands to be taken, at that tick's end (R444). -/
  due : Bool
  /-- The value of the last snapshot. -/
  snap : Nat
deriving DecidableEq, Repr

def Counter.reset : Counter := ⟨0, 0, 0, false, 0⟩

/-- The state of the block. -/
structure State where
  /-- The model's own: the commands that wait, first in, first out. -/
  pending : List Instr
  /-- The model's own: how many free values have been drawn (log entry 4). -/
  free : Nat
  /-- The answer of the last read (R31). -/
  answer : Answer
  /-- Press time in ticks (R13); the registers show its low 64 bits. -/
  time : Nat
  /-- Register fields by Field.key; an unlisted field holds its reset value (R33 and the other register maps). -/
  regs : Tbl Nat
  /-- High words latched for a reader (R54, R60, R440), by reader * 2^26 + offset. -/
  shadow : Tbl Nat
  /-- The event counters (R435–R445). -/
  count : Tbl Counter
  /-- The tick of the last write of CNT_CTL.FREEZE, with whether the counters stood still in that tick: a write acts from the next one
  (R442, R443). -/
  freeze : Option (Nat × Bool)
  clk : Clk
  /-- Tick from which a snare is armed, and tick of its last disarm (R58), by snare: armed, then 32 + snare: disarmed. -/
  snare : Tbl Nat
  web : Web
  gear : Tbl Gear
  st : Tbl Station
  mem : DevMem
  /-- The line store (R24, R139): bytes. -/
  lst : Tbl Byte
  /-- Line slots (R114), by station * 256 + slot. -/
  slots : Tbl (Option Slot)
  dma : Tbl Dma
  /-- Requests of the device to host memory (R117, R124), newest first. -/
  hostOut : List HostReq
  /-- EP scan buffers (R24, R115): bytes, by station * 0x1C0000 + offset. -/
  scan : Tbl Byte
  /-- The epoch for which a bank is ENGAGED (R149, R187), by station * 4 + kind; kind 3 is the waveform bank. -/
  engaged : Tbl Nat
  /-- Table memory of the screen engines (R143), by bank address; an unlisted cell holds the default contents of R143. -/
  tmem : Tbl Nat
  /-- What a change set keeps beyond its registers (R238). -/
  cs : Tbl CsExtra
  nextEpoch : Nat
  ledger : List Entry
  mlt : Tbl Mallet
  imem : Tbl Word
  dmem : Tbl Byte
  msm : Tbl Byte
  /-- Poisoned words of mallet memories (R263): data memory m * 4096 + word, and 2^20 + word for MSM. -/
  mltPoison : List Nat
  roles : Tbl Role
  flights : List Flight
  /-- Host receive queue (R272): whether an entry is a bounce record, and the message. -/
  hostRx : List (Bool × Msg)
  gong : Gong
  lanes : Tbl Lane
  heads : Tbl Head
  ink : Tbl InkSt
  /-- Waveform banks (R186), by (station * 2 + bank) * 1024 + byte. -/
  waves : Tbl Byte
  dd : Dd
  ddResults : List Word
  sb : Sb
  spares : Tbl Spare
  ep : Tbl Ep
  hv : Tbl Hv
  fuser : Tbl Fuser
  /-- Tick of the last ZC_IN edge (R224). -/
  zcAt : Nat
  /-- Units counted but not yet worth one of a counter source's units (R126, R198), by source code. -/
  resid : Tbl Nat
  /-- MSI-X table words (R30, R32), by word index; an unlisted vector control word reads as masked. -/
  msix : Tbl Nat
  /-- MSI-X pending-bit array (R30). -/
  pba : Nat
  /-- The endpoint is in D3hot (R30). -/
  d3hot : Bool
  /-- The trained link (R30). -/
  link : PcieLink
  /-- Keeper log (R423, R424): records newest first, of the ring; then the newest of each level. -/
  log : List LogRec
  logKept : Tbl (List LogRec)
  logSeq : Nat
  /-- The last 256 entries written FINAL, newest first (R389), and what a flush without FCLK saved there. -/
  finals : List (List Byte)
  saved : List (List Byte)
  /-- Calendar seconds and fraction (R425), the part of a count that has passed, and the boot count (R419). -/
  calSec : Nat
  calFrac : Nat
  calSub : Nat
  boots : Nat
  /-- Level of each general I/O ball driven by a port (R265), pending timed pin actions: tick, ball, action, width. -/
  gpio : Tbl Nat
  timed : List (Nat × Nat × Nat × Nat)
  /-- The station whose request was served last (R112), and the number of the next store (R123). -/
  feedTurn : Nat
  storeSeq : Nat
  /-- Nozzles that a table bank's damaged words cover (R151): bank, first, count. -/
  tmemBad : List (Nat × Nat × Nat)
  /-- Image address, plus one, of each table LOAD in progress: station * 4 + kind; 64 + station waveforms; 128 + axis. -/
  loadAt : Tbl Nat
  /-- Messages at the keeper (R419), oldest first; press time and role of the last raising of each event by a port (R266). -/
  keeperRx : List Msg
  eventPort : Tbl Nat
  /-- Stops in the life store, newest first (R426), and a G4 whose length still runs (R395). -/
  stops : List Stop
  stopOpen : Option Stop
  /-- Life counts (R427), live and as last written to the life store. -/
  life : Tbl Nat
  lifeSaved : Tbl Nat
  /-- Tick of the last enable or firing of each loop timer (R305), and of the last profile-generator update (R315). -/
  timers : Tbl Nat
  pgenAt : Nat
  axes : Tbl Axis
  groups : Tbl Group
  steppers : Tbl Stepper
  traces : Tbl Trace
  /-- The last value emitted to each OUTPUT target (R309). -/
  outs : Tbl Int
  motors : Tbl Motor
  buses : Tbl Bus
  hk : Tbl HkCh
  /-- Ticks of the last throttle step and of the last projection check (R369, R370). -/
  stepAt : Nat
  checkAt : Nat
  /-- OTP words (R406), by group * 32 + word; an unprogrammed word is zero. -/
  otp : Tbl Nat
  keeper : Keeper
  /-- Records in the keeper's hardware FIFO during a firmware switch (R421, R423), oldest first, and records dropped. -/
  fifo : List LogRec
  fifoLost : Nat
  /-- The staging register of each counter's high bits (R440). -/
  cntStage : Tbl Nat
deriving DecidableEq, Repr

/-- The OTP as delivered (R406, R409, R410; log entry 3): groups 0–3 locked with their CRCs, the revision and grade of a YX-4680-C, and
every other bit unprogrammed. -/
def otpDelivered : Tbl Nat :=
  [(2, 0xB043), (30, 0x7B59), (31, 0xFFFFFFFF), (62, 0x183F), (63, 0xFFFFFFFF), (94, 0x183F), (95, 0xFFFFFFFF), (126, 0x183F),
    (127, 0xFFFFFFFF)]

/-- The state right after reset (R8, R13, R143, R267, R402, R463): every register at its reset value, nothing armed, nothing
assigned, no command waiting. -/
def State.reset : State where
  pending := []
  free := 0
  answer := .none
  time := 0
  regs := []
  shadow := []
  count := []
  freeze := none
  clk := ⟨.off, false, false, true, 0, false, false, 0, 0, []⟩
  snare := []
  web :=
    { src := [], inUse := none, everUsed := false, down := false, pub := ⟨0, 0, 0, 0⟩, published := false, segs := [], corr := 0,
      high := none, revOver := false, coastSince := none, expired := false, lastPub := 0, switchReq := false, period := 0,
      latch := 0, lastPos := 0 }
  gear := []
  st := []
  mem := ⟨[], [], [], []⟩
  lst := []
  slots := []
  dma := []
  hostOut := []
  scan := []
  engaged := []
  tmem := []
  cs := []
  nextEpoch := 1
  ledger := []
  mlt := []
  imem := []
  dmem := []
  msm := []
  mltPoison := []
  roles := []
  flights := []
  hostRx := []
  gong := ⟨[], [], 0, 0, 0, false, false, [], none, false, false, false, false, [], some 0⟩
  lanes := []
  heads := []
  ink := []
  waves := []
  dd := Dd.reset
  ddResults := []
  sb := ⟨false, 0, 0, none, none⟩
  spares := []
  ep := []
  hv := []
  fuser := []
  zcAt := 0
  resid := []
  msix := []
  pba := 0
  d3hot := false
  link := ⟨0, 0⟩
  log := []
  logKept := []
  logSeq := 0
  finals := []
  saved := []
  calSec := 0
  calFrac := 0
  calSub := 0
  boots := 0
  gpio := []
  timed := []
  feedTurn := 0
  storeSeq := 0
  tmemBad := []
  loadAt := []
  keeperRx := []
  eventPort := []
  stops := []
  stopOpen := none
  life := []
  lifeSaved := []
  timers := []
  pgenAt := 0
  axes := []
  groups := []
  steppers := []
  traces := []
  outs := []
  motors := []
  buses := []
  hk := []
  stepAt := 0
  checkAt := 0
  otp := otpDelivered
  keeper := Keeper.reset
  fifo := []
  fifoLost := 0
  cntStage := []

end Sys2Proof.Machine
end

