-- ==== Sys2Proof/Machine/Ops.lean ====
section
/-!
DEFINITION. The operations every meaning shares: register fields, free values, units of the state, counters, press time, the
web position and line positions, device memory and check codes.
-/
namespace Sys2Proof.Machine

/-- The outcome of a command. -/
abbrev Out := Host.Outcome State Fault Refusal

/-! ## Register fields (R8, R9) -/

/-- The value of a register field, within its width. -/
def State.f (s : State) (x : Field) : Nat := tget x.reset s.regs x.key % 2 ^ x.width

/-- Whether a one-bit field is set. -/
def State.on (s : State) (x : Field) : Bool := decide (s.f x ≠ 0)

/-- Set a register field; bits beyond its width are dropped. -/
def State.setF (s : State) (x : Field) (v : Nat) : State :=
  { s with regs := tput x.reset s.regs x.key (v % 2 ^ x.width) }

/-- Set a field to a truth value. -/
def State.setB (s : State) (x : Field) (b : Bool) : State := s.setF x (b2n b)

/-- Set several fields, in order. -/
def State.setFs (s : State) : List (Field × Nat) → State
  | [] => s
  | (x, v) :: r => (s.setF x v).setFs r

/-- Add to a saturating count (R390). -/
def State.addF (s : State) (x : Field) (n : Nat) : State := s.setF x (min (s.f x + n) (2 ^ x.width - 1))

/-- The signed value of a field. -/
def State.fs (s : State) (x : Field) : Int := sx x.width (s.f x)

/-- The unsigned value of a register pair. -/
def State.pair (s : State) (hi lo : Field) : Nat := 2 ^ lo.width * s.f hi + s.f lo

/-- The signed value of a register pair. -/
def State.pairS (s : State) (hi lo : Field) : Int := sx (hi.width + lo.width) (s.pair hi lo)

/-- The address that a register pair holds; the low register stores only the bits above its alignment. -/
def State.addr (s : State) (hi lo : Field) : Nat := 2 ^ lo.lo * s.pair hi lo

/-- Set a register pair from an unsigned value. -/
def State.setPair (s : State) (hi lo : Field) (v : Nat) : State := (s.setF lo v).setF hi (v / 2 ^ lo.width)

/-- Set a register pair from a signed value. -/
def State.setPairS (s : State) (hi lo : Field) (z : Int) : State := s.setPair hi lo (ux (hi.width + lo.width) z)

/-- Set one bit of a field. -/
def State.setBitF (s : State) (x : Field) (i : Nat) (b : Bool) : State := s.setF x (putBit (s.f x) i b)

/-! ## Units of the state -/

def State.station (s : State) (n : Nat) : Station := tget Station.reset s.st n
def State.setStation (s : State) (n : Nat) (x : Station) : State := { s with st := tput Station.reset s.st n x }
def State.gearOf (s : State) (n : Nat) : Gear := tget Gear.reset s.gear n
def State.setGear (s : State) (n : Nat) (x : Gear) : State := { s with gear := tput Gear.reset s.gear n x }
def State.source (s : State) (i : Nat) : Src := tget Src.reset s.web.src i
def State.setSource (s : State) (i : Nat) (x : Src) : State := { s with web := { s.web with src := tput Src.reset s.web.src i x } }
def State.mdll (s : State) (n : Nat) : Mdll := tget Mdll.reset s.clk.mdll n
def State.setMdll (s : State) (n : Nat) (x : Mdll) : State := { s with clk := { s.clk with mdll := tput Mdll.reset s.clk.mdll n x } }
def State.mallet (s : State) (m : Nat) : Mallet := tget Mallet.reset s.mlt m
def State.setMallet (s : State) (m : Nat) (x : Mallet) : State := { s with mlt := tput Mallet.reset s.mlt m x }
def State.role (s : State) (r : Nat) : Role := tget Role.reset s.roles r
def State.setRole (s : State) (r : Nat) (x : Role) : State := { s with roles := tput Role.reset s.roles r x }
def State.lane (s : State) (l : Nat) : Lane := tget Lane.reset s.lanes l
def State.setLane (s : State) (l : Nat) (x : Lane) : State := { s with lanes := tput Lane.reset s.lanes l x }
def State.chan (s : State) (c : Nat) : Dma := tget Dma.reset s.dma c
def State.setChan (s : State) (c : Nat) (x : Dma) : State := { s with dma := tput Dma.reset s.dma c x }
def State.slot (s : State) (n i : Nat) : Option Slot := tget none s.slots (n * 256 + i)
def State.setSlot (s : State) (n i : Nat) (x : Option Slot) : State := { s with slots := tput none s.slots (n * 256 + i) x }
def State.epSt (s : State) (n : Nat) : Ep := tget Ep.reset s.ep n
def State.setEp (s : State) (n : Nat) (x : Ep) : State := { s with ep := tput Ep.reset s.ep n x }
def State.inkSt (s : State) (n : Nat) : InkSt := tget InkSt.reset s.ink n
def State.setInk (s : State) (n : Nat) (x : InkSt) : State := { s with ink := tput InkSt.reset s.ink n x }
def State.head (s : State) (n h : Nat) : Head := tget Head.reset s.heads (n * 64 + h)
def State.setHead (s : State) (n h : Nat) (x : Head) : State := { s with heads := tput Head.reset s.heads (n * 64 + h) x }
def State.hvCh (s : State) (c : Nat) : Hv := tget Hv.reset s.hv c
def State.setHv (s : State) (c : Nat) (x : Hv) : State := { s with hv := tput Hv.reset s.hv c x }
def State.zone (s : State) (z : Nat) : Fuser := tget Fuser.reset s.fuser z
def State.setZone (s : State) (z : Nat) (x : Fuser) : State := { s with fuser := tput Fuser.reset s.fuser z x }

def State.axis (s : State) (a : Nat) : Axis := tget Axis.reset s.axes a
def State.setAxis (s : State) (a : Nat) (x : Axis) : State := { s with axes := tput Axis.reset s.axes a x }
def State.group (s : State) (g : Nat) : Group := tget Group.reset s.groups g
def State.setGroup (s : State) (g : Nat) (x : Group) : State := { s with groups := tput Group.reset s.groups g x }
def State.stepper (s : State) (i : Nat) : Stepper := tget Stepper.reset s.steppers i
def State.setStepper (s : State) (i : Nat) (x : Stepper) : State := { s with steppers := tput Stepper.reset s.steppers i x }
def State.trace (s : State) (u : Nat) : Trace := tget Trace.reset s.traces u
def State.setTrace (s : State) (u : Nat) (x : Trace) : State := { s with traces := tput Trace.reset s.traces u x }
def State.motor (s : State) (c : Nat) : Motor := tget Motor.reset s.motors c
def State.setMotor (s : State) (c : Nat) (x : Motor) : State := { s with motors := tput Motor.reset s.motors c x }
def State.busOf (s : State) (b : Nat) : Bus := tget Bus.reset s.buses b
def State.setBus (s : State) (b : Nat) (x : Bus) : State := { s with buses := tput Bus.reset s.buses b x }

def State.hkCh (s : State) (x : Nat) : HkCh := tget HkCh.reset s.hk x
def State.setHk (s : State) (x : Nat) (y : HkCh) : State := { s with hk := tput HkCh.reset s.hk x y }

/-- Whether a station is armed. -/
def Station.isArmed (x : Station) : Bool := decide (x.phase = .armed)

def State.armed (s : State) (n : Nat) : Bool := (s.station n).isArmed

/-- The armed EP station whose drum axis is a (R212). -/
def State.drumOf (s : State) (a : Nat) : Option Nat :=
  findFirst (fun n => s.armed n && s.on (F.SCR_CFG_KIND n) && decide (s.f (F.EPS_S_DRUM_AXIS n) = a)) [0, 1, 2, 3]

/-- Whether station k, other than n, is an EP station that is armed, arming or disarming. -/
def State.epInUse (s : State) (n k : Nat) : Bool := decide (k ≠ n) && s.on (F.SCR_CFG_KIND k) && decide ((s.station k).phase ≠ .unarmed)

/-- The three-phase channels of axis a: its OUTPUT target's (R309, R346) and its sensorless input's (R311). -/
def State.axChannels (s : State) (a : Nat) : List Nat :=
  (if s.f (F.AXS_A_CFG_OUT a) < 48 then [s.f (F.AXS_A_CFG_OUT a) / 4] else []) ++
    (if s.on (F.AXS_A_CFG_SLS a) then [s.f (F.AXS_A_CFG_SLSCH a)] else [])

/-- Whether a three-phase channel is given to another user than axis a (R25): the polygon of a station in use, or another enabled axis
(log entry 46). -/
def State.axChannelTaken (s : State) (a c : Nat) : Bool :=
  (upFrom 0 4).any (fun k => s.epInUse 8 k && decide (s.f (F.EPS_S_POLY_CHAN k) = c)) ||
    (upFrom 0 24).any fun b => decide (b ≠ a) && s.on (F.AXS_A_CTL_EN b) && (s.axChannels b).contains c

/-- AXS_An_HOLD: what the axis holds of jumps, in counts (R312). -/
def State.showHold (s : State) (a : Nat) : State :=
  let x := s.axis a
  s.setF (F.AXS_A_HOLD a) (ux 32 (x.held / 65536 + if x.hold then x.corr else 0))

/-- The mask of armed stations among the first n. -/
def armedMaskTo (s : State) : Nat → Nat
  | 0 => 0
  | n + 1 => armedMaskTo s n + (if s.armed n then 2 ^ n else 0)

/-- The mask of armed stations. -/
def State.armedMask (s : State) : Nat := armedMaskTo s 8

/-- Whether any station is armed. -/
def State.anyArmed (s : State) : Bool := decide (s.armedMask ≠ 0)

/-- Whether a power domain is on (R459). -/
def State.powered (s : State) (d : Nat) : Bool := bitOf (s.f F.PWR_DOMSTAT_ON) d

/-- Apply a step to every number below n, from 0 upwards. -/
def forBelow (n : Nat) (g : Nat → State → State) (s : State) : State :=
  match n with
  | 0 => s
  | n + 1 => g n (forBelow n g s)

/-- Draw a fresh free value (log entry 4). -/
def State.draw (s : State) : State := { s with free := s.free + 1 }

/-- The free value that the next draw yields. -/
def State.freeNow (s : State) : BitVec 64 := Config.freeValue s.free

/-! ## Counters (R435–R443) -/

/-- Whether counter i counts occurrences of a source code. -/
def counts (s : State) (code i : Nat) : Bool :=
  s.on (F.CNT_CFG_EN i) && decide (s.f (F.CNT_CFG_MODE i) = 0) && decide (s.f (F.CNT_CFG_SRC i) = code)

/-- Counter i. -/
def State.ctr (s : State) (i : Nat) : Counter := tget Counter.reset s.count i

/-- Add n in the tick `now`: in a tick in which the counter has been written the increment is discarded, but for a wrap (R442). -/
def Counter.gain (c : Counter) (now n : Nat) : Counter :=
  if c.wroteAt = now + 1 then { c with was := c.was + n } else { c with value := c.value + n }

/-- The end of a tick takes the snapshot that is due (R444). -/
def Counter.endTick (c : Counter) : Counter :=
  if c.due then { c with due := false, snap := c.value % 2 ^ 48 } else c

/-- Add units to every counter below i that counts the code. -/
def countUp (s : State) (code n : Nat) : Nat → Tbl Counter → Tbl Counter
  | 0, t => t
  | i + 1, t => countUp s code n i (if counts s code i then tput Counter.reset t i ((tget Counter.reset t i).gain s.time n) else t)

/-- Whether the counters stand still in the present tick: a write of FREEZE acts from the next one (R442, R443). -/
def State.frozen (s : State) : Bool :=
  match s.freeze with
  | some (t, b) => if t = s.time then b else s.on F.CNT_CTL_FREEZE
  | none => s.on F.CNT_CTL_FREEZE

/-- Write CNT_CTL.FREEZE (R442, R443). -/
def State.setFreeze (s : State) (on : Bool) : State :=
  ({ s with freeze := some (s.time, s.frozen) }).setB F.CNT_CTL_FREEZE on

/-- Deliver n units of an occurrence source (R435); a freeze discards them (R443). -/
def State.tally (s : State) (code n : Nat) : State :=
  if s.frozen then s else { s with count := countUp s code n 56 s.count }

/-- Deliver n pieces of a source whose unit is `unit` pieces; the remainder waits. -/
def State.tallyUnits (s : State) (code n unit : Nat) : State :=
  let r := tget 0 s.resid code + n
  ({ s with resid := tput 0 s.resid code (r % unit) }).tally code (r / unit)

/-- One more collision or ignored write in a block's FLAM counter (R390, R401). -/
def State.flam (s : State) (x : Field) (n : Nat) : State := (s.addF x n).tally 0x235 n

/-! ## Web position (R70–R75) -/

/-- p(t) of R71 for one publish. -/
def Pub.at_ (p : Pub) (t : Nat) : Int :=
  let d : Int := (t : Int) - p.t0
  p.p0 + (p.v * d * 2 ^ 25 + p.a * d * d) / 2 ^ 49

/-- The highest p over the ticks lo to hi: at an end, or beside the vertex where the acceleration is negative. -/
def Pub.maxOver (p : Pub) (lo hi : Nat) : Int :=
  let ends := maxI (p.at_ lo) (p.at_ hi)
  if p.a < 0 then
    let w : Int := p.t0 + p.v * 2 ^ 24 / (-p.a)
    let c (z : Int) : Nat := min hi (max lo z.toNat)
    maxI ends (maxI (p.at_ (c w)) (p.at_ (c (w + 1))))
  else ends

/-- The value a stretch keeps for tick t (R71, R73). -/
def Seg.at_ (g : Seg) (t : Nat) : Int :=
  if g.held then g.kept
  else if g.mono then maxI g.kept (g.pub.maxOver g.start t)
  else g.pub.at_ t

/-- The stretch that holds tick t: the newest one that starts at or before it. -/
def segAt (t : Nat) : List Seg → Option Seg
  | [] => none
  | g :: r => if g.start ≤ t then some g else segAt t r

/-- The extrapolated web position kept for tick t (R71); zero before the first publish (R72). -/
def Web.posAt (w : Web) (t : Nat) : Int :=
  match segAt t w.segs with
  | some g => g.at_ t
  | none => 0

/-- The extrapolated web position at the present tick. -/
def State.webPos (s : State) : Int := s.web.posAt s.time

/-- Start a new stretch at a tick; stretches more than 64 ticks old are dropped, but for the one that holds that tick (R71). -/
def Web.rebase (w : Web) (now : Nat) (mono held : Bool) (pub : Pub) : Web :=
  let kept := if held then w.posAt now else w.posAt (now - 1)
  let rec trim : List Seg → List Seg
    | [] => []
    | g :: r => if g.start + 64 ≤ now then [g] else g :: trim r
  { w with pub := pub, segs := ⟨now, kept, mono, held, pub⟩ :: trim (w.segs.filter fun g => decide (g.start < now)) }

/-- Re-form the kept position after a change of the armed stations or of the hold (R71, R73). -/
def State.rebaseWeb (s : State) : State :=
  if s.web.published then
    { s with web := s.web.rebase s.time s.anyArmed (s.on F.WEB_STATUS_REVERSE) s.web.pub }
  else s

/-- The extrapolated web velocity at the present tick, in 2^-24 web units per tick. -/
def State.webVel (s : State) : Int := s.web.pub.v + s.web.pub.a * ((s.time : Int) - s.web.pub.t0) / 2 ^ 24

/-- A velocity as a web speed in 0.1 m/min. -/
def speed10 (v : Int) : Int := v * 360000000 / 2 ^ 40

/-- The product of R12: position times a 32.32 ratio, 16 fraction bits kept, truncated toward minus infinity. -/
def lineProduct (pos : Int) (ratio : Nat) : Int := pos * (ratio : Int) / 2 ^ 16

/-- The 32.16 reading of a line position: its low 32 integer bits are kept (R12). -/
def wrap48 (z : Int) : Int := sx 48 (ux 48 z)

def State.ratio (s : State) (n : Nat) : Nat := s.pair (F.WEB_ST_RAT_HI n) (F.WEB_ST_RAT_LO n)
def State.offset (s : State) (n : Nat) : Int := s.pairS (F.WEB_ST_OFS_HI n) (F.WEB_ST_OFS_LO n)
def State.lbias (s : State) (n : Nat) : Int := s.pairS (F.WEB_ST_LBIAS_HI n) (F.WEB_ST_LBIAS_LO n)
def State.setLbias (s : State) (n : Nat) (z : Int) : State := s.setPairS (F.WEB_ST_LBIAS_HI n) (F.WEB_ST_LBIAS_LO n) z

/-- Station n's line position, 32.16, at a web position (R12, R75). -/
def State.lposAtPos (s : State) (n : Nat) (p : Int) : Int := wrap48 (lineProduct (p - s.offset n) (s.ratio n) + s.lbias n)

/-- Station n's line position now. -/
def State.lpos (s : State) (n : Nat) : Int := s.lposAtPos n s.webPos

/-- Station n's line position at a station position (R242). -/
def State.lposAtStation (s : State) (n : Nat) (p : Int) : Int := wrap48 (lineProduct p (s.ratio n) + s.lbias n)

/-- Station n's present integer line. -/
def State.lineNow (s : State) (n : Nat) : Int := s.lpos n / 65536

/-- Bisection for the first tick after lo, up to hi, at which station n's line position reaches a target, 32.16. -/
def firstPosTick (s : State) (n : Nat) (target : Int) : Nat → Nat → Nat → Nat
  | 0, _, hi => hi
  | k + 1, lo, hi =>
    if lo + 1 < hi then
      let mid := (lo + hi) / 2
      if target ≤ s.lposAtPos n (s.web.posAt mid) then firstPosTick s n target k lo mid else firstPosTick s n target k mid hi
    else hi

/-- The tick, now or later, at which station n's line position reaches a target, 32.16; none where it stays below for 2^40 ticks. -/
def State.tickAtLpos (s : State) (n : Nat) (target : Int) : Option Nat :=
  if target ≤ s.lpos n then some s.time
  else if s.lposAtPos n (s.web.posAt (s.time + 2 ^ 40)) < target then none
  else some (firstPosTick s n target 41 s.time (s.time + 2 ^ 40))

/-- A rate of lines per second from a velocity and a ratio (R88). -/
def lineRate (v : Int) (ratio : Nat) : Int := v * (ratio : Int) * 600000000 / 2 ^ 56

/-! ## Press time (R13, R43) and what each tick counts -/

/-- The lead of station n: line slots with screened codes ahead of its line position (R141). -/
def leadOf (s : State) (n : Nat) : Nat → Nat
  | 0 => 0
  | i + 1 => leadOf s n i + (match s.slot n i with
      | some x => if x.phase = .screened ∧ s.lineNow n < x.lpos then 1 else 0
      | none => 0)

def State.lead (s : State) (n : Nat) : Nat := leadOf s n 256

/-- Number of busy DMA channels (R437). -/
def State.busyDma (s : State) : Nat := countBits (s.f F.DMA_STATUS_BUSY) 16

/-- A level source's value (R437); none for a code that is no level source. -/
def State.level? (s : State) (code : Nat) : Option Nat :=
  if 0x040 ≤ code ∧ code ≤ 0x047 then some (s.lead (code - 0x040))
  else if 0x048 ≤ code ∧ code ≤ 0x04F then
    some ((s.f (F.FEED_Q_TAIL (code - 0x048)) + 65536 - s.f (F.FEED_Q_HEAD (code - 0x048))) % 65536)
  else match code with
    | 0x050 => some (s.f F.CHG_LED_OPEN)
    | 0x051 => some (s.f F.FEED_MEM_SPARE_FREE)
    | 0x052 => some (s.f F.HK_THLIM_A)
    | 0x053 => some s.busyDma
    | 0x054 => some (s.f F.CHG_STATUS_PEND)
    | _ => none

/-- SCLK cycles per 8 ticks at a throttle step (R47, R368). -/
def sclkShare (step : Nat) : Nat := nthD 16 [16, 15, 14, 12, 8, 8, 8, 4] step

/-- Fabric-branch cycles per 4 ticks at a throttle step (R47, R368). -/
def fabricShare (step : Nat) : Nat := nthD 4 [4, 4, 4, 4, 4, 3, 2, 2] step

/-- Units an occurrence source of time delivers in n ticks (R437). -/
def State.tickUnits (s : State) (code n : Nat) : Nat :=
  if code = 0x001 then n
  else if code = 0x002 then
    let k := sclkShare (s.f F.HK_THLIM_A)
    (s.time + n) * k / 8 - s.time * k / 8
  else if code = 0x003 then
    let k := fabricShare (s.f F.HK_THLIM_A)
    (s.time + n) * k / 4 - s.time * k / 4
  else if code = 0x220 then (if s.f F.HK_THLIM_A = 0 then 0 else (s.time + n) / 600 - s.time / 600)
  else if 0x250 ≤ code ∧ code ≤ 0x273 then
    let m := s.mallet (code - 0x250)
    if m.run = .running ∧ m.wait = none then n else 0
  else 0

/-- What counter i gains in n ticks of its source. -/
def State.tickGain (s : State) (n i : Nat) : Nat :=
  if s.on (F.CNT_CFG_EN i) then
    let src := s.f (F.CNT_CFG_SRC i)
    match s.f (F.CNT_CFG_MODE i) with
    | 0 => s.tickUnits src n
    | 1 => match s.level? src with
      | some v => if s.f (F.CNT_THRESH i) < v then n else 0
      | none => 0
    | _ => match s.level? src with
      | some v => v * n
      | none => 0
  else 0

/-- The end of the present tick and the gain of n more for every counter below i; a freeze discards the gain. -/
def tickCounts (s : State) (n : Nat) : Nat → Tbl Counter → Tbl Counter
  | 0, t => t
  | i + 1, t =>
    let c := (tget Counter.reset t i).endTick
    tickCounts s n i (tput Counter.reset t i (if s.on F.CNT_CTL_FREEZE then c else { c with value := c.value + s.tickGain n i }))

/-- Add counts of 1/32,768 s to the calendar (R425). -/
def State.addCal (s : State) (k : Int) : State :=
  let total : Nat := ((32768 * s.calSec + s.calFrac : Nat) + k : Int).toNat
  { s with calSec := total / 32768 % 2 ^ 64, calFrac := total % 32768 }

/-- Add to a life count (R427). -/
def State.lived (s : State) (key k : Nat) : State := { s with life := tput 0 s.life key (tget 0 s.life key + k) }

/-- Add to a head's count; of more than 1,024 heads the least recently seen is replaced (R426, R427). -/
def State.livedHead (s : State) (key k : Nat) : State :=
  let hs := key :: s.keeper.heads.filter fun x => decide (x ≠ key)
  let s := { s with keeper := { s.keeper with heads := hs.take 1024 } }
  ((hs.drop 1024).foldl (fun s (x : Nat) => { s with life := tput 0 s.life x 0 }) s).lived key k

/-- Life counts kept in ticks: the on-time of HV channel c under 0x40 + c, the powered time of domain d under 0x60 + d (R427). -/
def State.lifeTicks (s : State) (n : Nat) : State :=
  let s := forBelow 16 (fun c s => if s.on (F.EPS_HV_CFG_EN c) then s.lived (0x40 + c) n else s) s
  forBelow 12 (fun d s => if s.powered d then s.lived (0x60 + d) n else s) s

/-- Let n ticks pass (R13): press time advances where the divided clocks run, and so do the counters of ticks and levels unless frozen
(R437, R443); the calendar (R425) and the life counts of time advance in any case (log entry 34). -/
def State.advance (s : State) (n : Nat) : State :=
  let sub := 32768 * n + s.calSub
  let s := (({ s with calSub := sub % 600000000 }).addCal (sub / 600000000 : Nat)).lifeTicks n
  if s.clk.running then
    { s with time := s.time + n, count := if n = 0 then s.count else tickCounts s n 56 s.count }
  else s

/-- Bring press time forward to a tick at which something is due, never back (log entry 6). -/
def State.advanceTo (s : State) (t : Nat) : State := if s.time < t then s.advance (t - s.time) else s

/-! ## Device memory (R95–R98) -/

/-- Usable device memory U in bytes (R95). -/
def State.usable (s : State) : Nat :=
  let z := s.f F.FEED_MEM_CFG_SIZE
  if 2 ≤ z ∧ z ≤ 6 then 2 ^ (30 + z) / 8 * 7 - 4096 * s.f F.FEED_MEM_SPARE_PAGES else 0

/-- Whether n bytes at an address lie in usable device memory. -/
def State.inMem (s : State) (a n : Nat) : Bool := decide (a + n ≤ s.usable)

/-- Whether a 64-byte block is poisoned (R98). -/
def State.poisoned (s : State) (a n : Nat) : Bool :=
  s.mem.poison.any fun b => decide (b * 64 < a + n) && decide (a < b * 64 + 64)

/-- Read n bytes; a byte nothing has written reads as zero (log entry 2). -/
def State.memRead (s : State) (a n : Nat) : List Byte := tgets 0 s.mem.bytes a n

/-- Read a little-endian number of n bytes. -/
def State.memNat (s : State) (a n : Nat) : Nat := ofLE (s.memRead a n)

/-- Write bytes whatever the poison. -/
def State.memPut (s : State) (a : Nat) (bs : List Byte) : State :=
  { s with mem := { s.mem with bytes := tputs 0 s.mem.bytes a bs } }

/-- Write the bytes that fall in one block: a full write clears the block's poison, a partial write to poison is dropped and
sets OOR (R98). -/
def State.memWriteBlock (s : State) (a : Nat) (bs : List Byte) : State :=
  let b := a / 64
  if s.mem.poison.contains b then
    if bs.length = 64 then
      ({ s with mem := { s.mem with poison := s.mem.poison.filter fun x => decide (x ≠ b) } }).memPut a bs
    else s.setF F.FEED_MEM_STATUS_OOR 1
  else s.memPut a bs

/-- Write bytes block by block; the count bounds the blocks. -/
def memWriteGo (s : State) (a : Nat) (bs : List Byte) : Nat → State
  | 0 => s
  | k + 1 =>
    match bs with
    | [] => s
    | _ =>
      let room := 64 - a % 64
      memWriteGo (s.memWriteBlock a (bs.take room)) (a + room) (bs.drop room) k

/-- Write bytes to device memory (R97, R98). -/
def State.memWrite (s : State) (a : Nat) (bs : List Byte) : State := memWriteGo s a bs (bs.length / 64 + 2)

/-! ## Check codes -/

/-- One bit of a reflected CRC-32C register (R120). -/
def crc32Bit (c : Nat) : Nat := if c % 2 = 1 then (c / 2) ^^^ 0x82F63B78 else c / 2

/-- One byte of CRC-32C. -/
def crc32Byte (c : Nat) (b : Byte) : Nat :=
  let x := c ^^^ b.toNat
  crc32Bit (crc32Bit (crc32Bit (crc32Bit (crc32Bit (crc32Bit (crc32Bit (crc32Bit x)))))))

/-- The running CRC-32C register over bytes (R120), from a register value. -/
def crc32Run (c : Nat) (bs : List Byte) : Nat := bs.foldl crc32Byte c

/-- CRC-32C (R120). -/
def crc32c (bs : List Byte) : Nat := crc32Run 0xFFFFFFFF bs ^^^ 0xFFFFFFFF

/-- One bit of a CRC that shifts left: width, polynomial. -/
def crcLBit (w poly c : Nat) : Nat :=
  if c / 2 ^ (w - 1) % 2 = 1 then (c * 2 % 2 ^ w) ^^^ poly else c * 2 % 2 ^ w

/-- One byte of an unreflected CRC of at least 8 bits. -/
def crcLByte (w poly c : Nat) (b : Byte) : Nat :=
  let x := c ^^^ (b.toNat * 2 ^ (w - 8))
  crcLBit w poly (crcLBit w poly (crcLBit w poly (crcLBit w poly
    (crcLBit w poly (crcLBit w poly (crcLBit w poly (crcLBit w poly x)))))))

/-- CRC-16 of R184: polynomial 0x1021, initial value 0xFFFF. -/
def crc16 (bs : List Byte) : Nat := bs.foldl (crcLByte 16 0x1021) 0xFFFF

/-- CRC-8 of R217: polynomial x^8 + x^2 + x + 1, initial value 0. -/
def crc8 (bs : List Byte) : Nat := bs.foldl (crcLByte 8 0x07) 0

/-! ## Reads (R31, R54) -/

/-- Latch a word in a reader's shadow of the register at an offset (R54). -/
def State.latch (s : State) (reader off w : Nat) : State := { s with shadow := tput 0 s.shadow (2 ^ 26 * reader + off) (w % 2 ^ 32) }

/-- What a reader's shadow of the register at an offset holds. -/
def State.shadowOf (s : State) (reader off : Nat) : Nat := tget 0 s.shadow (2 ^ 26 * reader + off)

/-- Whether the device runs in normal mode (R405, R411, R412): READY, or in a firmware switch out of it, which leaves READY clear while the
press prints (R421; DEDUCED, log entry 75). -/
def State.inService (s : State) : Bool :=
  if s.f F.MBX_STATUS_MODE = 3 then decide (s.keeper.modeWas = 1) else s.on F.MBX_STATUS_READY && decide (s.f F.MBX_STATUS_MODE = 1)

/-- The model's answer to a reader (R31). -/
def State.reply (s : State) (w : Nat) : State := { s with answer := .word (BitVec.ofNat 32 w) }

/-! ## The memories' canonical form -/

/-- The memories the model holds as sparse tables (device memory R95, line store and EP scan buffers R24, MSM and the mallets' memories R259 to R263, waveform
banks R186) stand in canonical form: addresses strictly rising, no entry equal to what an unlisted address reads as (log entry 2). -/
def State.memoryWf (s : State) : Bool :=
  twf (fun _ => 0) s.mem.bytes && twf (fun _ => 0) s.lst && twf (fun _ => 0) s.msm && twf (fun _ => 0) s.imem
    && twf (fun _ => 0) s.dmem && twf (fun _ => 0) s.waves && twf (fun _ => 0) s.scan

/-- The state a meaning answers. -/
def after (o : Out) (s : State) : State :=
  match o with
  | .next t => t
  | .fault _ => s
  | .refused _ => s

end Sys2Proof.Machine
end

