-- ==== Sys2Proof/Machine/Gong.lean ====
section
/-!
DEFINITION. Events and what a gong level costs in print (R19–R23, R376–R388, R489): raising an event, its routes, the marks on
frames, the spoiling of frames, the ledger (R247–R253), and the squash of staged effects (R296, R297).
-/
namespace Sys2Proof.Machine

/-! ## Reason codes (R249) -/

def Reason.NONE : Nat := 0
def Reason.DESC_ERR : Nat := 1
def Reason.UNDERRUN : Nat := 2
def Reason.MEM_UNCORR : Nat := 3
def Reason.YRL_ERROR : Nat := 4
def Reason.TABLE_UNCORR : Nat := 5
def Reason.LATE_PACKET : Nat := 6
def Reason.HUB_MISSED : Nat := 7
def Reason.HUB_SILENT : Nat := 8
def Reason.LANE_FAILED : Nat := 9
def Reason.BELOW_VMIN : Nat := 10
def Reason.HEAD_TEMP : Nat := 11
def Reason.XSCAN : Nat := 12
def Reason.BD_MISS : Nat := 13
def Reason.HV_ARC : Nat := 14
def Reason.OVERSPEED : Nat := 15
def Reason.SQUASH_LATE : Nat := 16
def Reason.REV_LIMIT : Nat := 17
def Reason.BANK_NOT_READY : Nat := 18
def Reason.SPLICE : Nat := 19
def Reason.SPLICE_CUT : Nat := 20
def Reason.GONG : Nat := 21
def Reason.PRESS_STOP : Nat := 22
def Reason.DEVICE_STOP : Nat := 23
def Reason.PIX_UNLOCK : Nat := 24
def Reason.PHASE_HOLD : Nat := 25
def Reason.SEQ_GAP : Nat := 26
def Reason.STAGE_LATE : Nat := 27
def Reason.NOT_ARMED : Nat := 63

/-- The reason a frame takes when event e spoils it (R489); GONG for an event without a code of its own. -/
def reasonOf (e : Nat) : Nat :=
  if e = EV.MDLL_UNLOCK then Reason.PIX_UNLOCK
  else if e = EV.FRAME_DESC_ERR then Reason.DESC_ERR
  else if e = EV.FEED_UNDERRUN then Reason.UNDERRUN
  else if e = EV.YRL_ERROR then Reason.YRL_ERROR
  else if e = EV.MEM_UNCORR then Reason.MEM_UNCORR
  else if e = EV.TMEM_DAMAGED ∨ e = EV.TMEM_UNCORR then Reason.TABLE_UNCORR
  else if e = EV.LANE_NO_SPARE then Reason.LANE_FAILED
  else if e = EV.HUB_MISSED then Reason.HUB_MISSED
  else if e = EV.LATE_PACKET then Reason.LATE_PACKET
  else if e = EV.HEAD_TEMP_LIMIT then Reason.HEAD_TEMP
  else if e = EV.INK_BELOW_VMIN ∨ e = EV.EP_BELOW_VMIN then Reason.BELOW_VMIN
  else if e = EV.BD_MISS then Reason.BD_MISS
  else if e = EV.XSCAN_SQUASH ∨ e = EV.XSCAN_SPOIL ∨ e = EV.POLY_UNLOCK then Reason.XSCAN
  else if e = EV.HV_ARC then Reason.HV_ARC
  else if e = EV.OVERSPEED_DROP ∨ e = EV.OVERSPEED_SPOIL then Reason.OVERSPEED
  else if e = EV.CS_NOT_APPLIED then Reason.BANK_NOT_READY
  else if e = EV.SPLICE_CUT then Reason.SPLICE_CUT
  else if e = EV.SPEC_LOST then Reason.STAGE_LATE
  else if e = EV.REV_LIMIT then Reason.REV_LIMIT
  else Reason.GONG

/-- The class of a stop that event e causes at its default level (R395): 0 D, 1 P, 2 C. EV_PLL_LOST is of the device while the reference is
good, and EV_HK_CRIT and EV_HK_TSD are of the device on an on-die channel; the device's own supply faults are counted as internal faults
(DEDUCED, log entry 74). -/
def evClass (s : State) (e cause : Nat) : Nat :=
  if e = EV.PLL_LOST then b2n (!s.clk.refOk)
  else if e = EV.HK_CRIT ∨ e = EV.HK_TSD then b2n (decide (12 ≤ cause))
  else if e = EV.FCLK_LOST ∨ e = EV.MDLL_UNLOCK ∨ e = EV.MLT_NO_SPARE ∨ e = EV.KEEPER_FAULT ∨ e = EV.DOMAIN_PG ∨ e = EV.REG_FAULT then 0
  else if 252 ≤ e then 2
  else 1

/-- What a cause field names (R377): the station that the chapters let it carry, a lane of 0–15 or an HV channel of one, or
nothing. -/
def evStation (s : State) (e cause : Nat) : Option Nat :=
  let byStation : Option Nat := some (cause % 8)
  if e = EV.LANE_TRANSIENT ∨ e = EV.LANE_SPARE_IN ∨ e = EV.LANE_NO_SPARE ∨ e = EV.HUB_FAULT then
    if cause % 256 < 16 then some (cause % 256 / 2) else none
  else if e = EV.LANE_SPARE_FAIL then none
  else if e = EV.MDLL_UNLOCK then some (cause % 4)
  else if e = EV.HV_ARC ∨ e = EV.HV_ARC_LASTING ∨ e = EV.HV_RAMP_FAIL then some (cause % 16 / 4)
  else if e = EV.FUSER_TEMP ∨ e = EV.FUSER_CUT ∨ e = EV.FUSER_SENSOR then some (s.f (F.EPS_FZ_CTL_STATION (cause % 2)))
  else if e = EV.FUSER_ZC_LOST then none
  else if e = EV.OVERSPEED_DROP then byStation
  else if 64 ≤ e ∧ e ≤ 69 ∨ 82 ≤ e ∧ e ≤ 87 then byStation
  else if 100 ≤ e ∧ e ≤ 114 then byStation
  else if 128 ≤ e ∧ e ≤ 145 then byStation
  else if e = EV.CS_QUEUED ∨ e = EV.CS_REJECT ∨ e = EV.CS_CANCELLED then none
  else if 160 ≤ e ∧ e ≤ 170 then byStation
  else if e = EV.SLOT_REFUSED then byStation
  else none

/-! ## Routes (R378, R379, R423, R444) -/

/-- Send MSI-X vector v, or hold it while it is masked (R379); in D3hot none is sent (R30). -/
def State.sendMsix (s : State) (v : Nat) : State :=
  if s.d3hot then s
  else if bitOf (tget 1 s.msix (v * 4 + 3)) 0 then { s with pba := setBit s.pba v }
  else { s with gong := { s.gong with sent := tput 0 s.gong.sent v (tget 0 s.gong.sent v + 1) } }

/-- Set event e in the pending set of every mallet below n that holds a role (R378). -/
def broadcastTo (e : Nat) (n : Nat) (s : State) : State :=
  forBelow n (fun m s =>
    let x := s.mallet m
    if x.role.isSome then s.setMallet m { x with pend := x.pend ||| BitVec.ofNat 256 (2 ^ e) } else s) s

/-- A record reaches the keeper's log (R423, R424): the ring keeps 65,536 records, and each level keeps its newest 256. -/
def State.logWrite (s : State) (r : LogRec) : State :=
  let r := { r with seq := s.logSeq }
  ({ s with
    log := (r :: s.log).take 65536
    logKept := tput [] s.logKept r.level ((r :: tget [] s.logKept r.level).take 256)
    logSeq := (s.logSeq + 1) % 2 ^ 32 }).tally 0x240 1

/-- A record of the keeper's log, dated now (R423). -/
def State.logRec (s : State) (kind e cause lvl cls data : Nat) : LogRec :=
  ⟨0, s.calSec, s.calFrac, if s.clk.begun then s.time else 0, cause, e, lvl, cls, kind, s.boots % 256, data⟩

/-- A record goes to the keeper's log; during a firmware switch it waits in the hardware FIFO of 1,024 records, or is dropped
(R421, R423). -/
def State.logPut (s : State) (r : LogRec) : State :=
  if s.f F.MBX_STATUS_MODE = 3 then
    if s.fifo.length < 1024 then { s with fifo := s.fifo ++ [r] }
    else ({ s with fifoLost := s.fifoLost + 1 }).tally 0x241 1
  else s.logWrite r

/-- Write one record to the keeper's log (R423). -/
def State.logAdd (s : State) (kind e cause lvl cls data : Nat) : State := s.logPut (s.logRec kind e cause lvl cls data)

/-- The record of a raising (R378); that of a G4 waits until the flush is complete (R22, R388). -/
def State.logRaise (s : State) (e cause lvl : Nat) : State :=
  if lvl = 4 ∧ s.on F.EVT_GONG_G4 = false then
    { s with gong := { s.gong with g4Recs := s.gong.g4Recs ++ [s.logRec 0 e cause lvl 3 0] } }
  else s.logAdd 0 e cause lvl 3 0

/-- The FIFO is written to the log; a LOST record with the count follows records that were dropped (R423). -/
def State.logDrain (s : State) : State :=
  let s := (s.fifo.foldl State.logWrite { s with fifo := [] })
  if s.fifoLost = 0 then s
  else (({ s with fifoLost := 0 }).logAdd 6 0 0 0 3 (s.fifoLost % 65536))

/-- A keeper note in the log (R423). -/
def State.note (s : State) (data : Nat) : State := s.logAdd 5 0 0 0 3 data

/-- A retry outcome in the log (R392, R423): kind 1 transient, 2 lasting, 3 UNRESOLVED. Its event number is that of the path: the event that
its transient outcome raises, or the one of its lasting action where it raises none (DESIGN CHOICE, log entry 73). -/
def State.logRetry (s : State) (kind e cause : Nat) : State := s.logAdd kind e cause 0 3 0

/-- A snapshot of every counter is due at the end of the present tick, which it records (R444). -/
def State.snapshot (s : State) : State :=
  let due (i : Nat) (s : State) : State := { s with count := tput Counter.reset s.count i { s.ctr i with due := true } }
  (forBelow 56 due s).setPair F.CNT_SNAP_TIME_HI F.CNT_SNAP_TIME_LO s.time

/-- Trace unit u triggers (R332): its press time is stored, and the samples before it are counted. -/
def State.trigger (s : State) (u : Nat) : State :=
  let x := s.trace u
  let pre := s.f (F.TR_CTL_PRE u)
  let s := s.setFs [(F.TR_STATUS_STATE u, 2), (F.TR_STATUS_PREVALID u, min x.rows.length pre)]
  let s := s.setPair (F.TR_TTIME_HI u) (F.TR_TTIME_LO u) s.time
  s.setTrace u { x with rows := x.rows.take pre, left := 8192 - pre }

/-- Trigger the armed trace units of MODE 0 that name an event (R332); a trigger in the tick of the ARM write is ignored. -/
def traceTriggers (e : Nat) (s : State) : State :=
  forBelow 4 (fun u s =>
    if decide (s.f (F.TR_STATUS_STATE u) = 1) && decide (s.f (F.TR_TRIG_MODE u) = 0) && decide (s.f (F.TR_TRIG_EVENT u) = e)
        && decide ((s.trace u).armAt < s.time) then s.trigger u else s) s

/-- The bookkeeping of a raising at a level (R377–R379, R384): cause, time, count, counters, pending bit and vector, mallet
broadcast, keeper log, snapshot. -/
def State.post (s : State) (e cause lvl : Nat) : State :=
  let s := ((s.setF (F.EVT_E_CAUSE e) cause).setF (F.EVT_E_TIME e) (lo32 s.time)).addF (F.EVT_E_COUNT e) 1
  let s := (s.tally (0x300 + e) 1).tally 0x005 1
  let s := if 1 ≤ lvl then s.tally (0x22F + lvl) 1 else s
  let was := bitOf (s.f (F.EVT_PEND (e / 32))) (e % 32)
  let s := s.setBitF (F.EVT_PEND (e / 32)) (e % 32) true
  let s := if s.on (F.EVT_E_CFG_HOST_EN e) ∧ was = false then s.sendMsix (s.f (F.EVT_E_CFG_VEC e)) else s
  let s := if s.on (F.EVT_E_CFG_BCAST e) then broadcastTo e 36 s else s
  let s := if s.on (F.EVT_E_CFG_KEEP e) then s.logRaise e cause lvl else s
  let s := if s.on F.CNT_CTL_SNAP_EV_EN ∧ s.f F.CNT_CTL_SNAP_EV = e then s.snapshot else s
  traceTriggers e s

/-! ## Marks on frames (R383) -/

/-- Whether a frame is in progress: begun and neither finished nor abandoned. -/
def Frame.inProgress (x : Frame) : Bool := x.begun && decide (x.state = 1)

/-- Change the first frame that satisfies a test. -/
def mapFirst (p : Frame → Bool) (g : Frame → Frame) : List Frame → List Frame
  | [] => []
  | x :: r => if p x then g x :: r else x :: mapFirst p g r

/-- Change station n's frame in progress. -/
def State.mapCurrent (s : State) (n : Nat) (g : Frame → Frame) : State :=
  let x := s.station n
  s.setStation n { x with frames := mapFirst Frame.inProgress g x.frames }

/-- Mark the frame in progress at station n DEGRADED; a mark never changes its REASON (R383). -/
def State.degrade (s : State) (n : Nat) : State := s.mapCurrent n fun x => { x with degraded := true }

/-- Mark the frames in progress at every armed station. -/
def State.degradeAll (s : State) : State := forBelow 8 (fun n s => if s.armed n then s.degrade n else s) s

/-- Which frames a raising acts on (R382, R383): those of its cause field; those its rule marks at G1 (`frames`); those its rule
marks or spoils by itself at any level (`own`); or those in progress at listed stations. -/
inductive Names where
  | byEvent | frames | own | stations (l : List Nat)
deriving DecidableEq, Repr

/-- The G1 marks of a raising (R383). -/
def State.markG1 (s : State) (e cause lvl : Nat) (nm : Names) : State :=
  if lvl = 1 then
    match nm with
    | .frames => s
    | .own => s
    | .stations l => l.foldl (fun s n => s.degrade n) s
    | .byEvent =>
      match evStation s e cause with
      | some n => s.degrade n
      | none => if (evDef e).level = 0 then s.degradeAll else s
  else s

/-! ## Levels (R381–R386) -/

/-- The next allowed level above l, up to G3 (R385). -/
def nextLevel (allow l : Nat) : Option Nat :=
  (lowestBit allow (l + 1) (3 - l))

/-- The calendar in 1/32,768 s (R425). -/
def State.calNow (s : State) : Nat := 32768 * s.calSec + s.calFrac

/-- The class of a stop (R395): C where the event's level stands above its default or the raising escalated, else the event's class. -/
def State.stopClass (s : State) (e cause lvl : Nat) (stated esc : Bool) : Nat :=
  if esc || (!stated && decide ((evDef e).level < lvl)) then 2 else evClass s e cause

/-- Whether a G4 action runs or has run (R20, R23): no later, lower level acts any more. -/
def State.g4 (s : State) : Bool := s.on F.EVT_GONG_G4 || s.gong.g4Want

/-- The G3 and G4 marks of a raising (R386, R388, R395): the state that stands at once; the rows G3_STOP and G4 carry the actions
out. Under G4 a G3 changes only LAST_EVT (R20); EVT_GONG.G4, the stop's record and the keeper's records wait for the flush (R22, R388). -/
def State.markStop (s : State) (e lvl cls : Nat) : State :=
  if lvl = 3 then
    let s' := s.setF F.EVT_GONG_LAST_EVT e
    if s.on F.EVT_GONG_G3 || s.g4 then s'
    else
      let s' := s'.setF F.EVT_GONG_G3 1
      { s' with gong := { s'.gong with
        g3At := s.time, v0 := s.webVel, cls := cls, g3Want := true, failed := false, stopTimed := false, kaHvOff := false } }
  else if lvl = 4 then
    let s' := s.setF F.EVT_GONG_LAST_EVT e
    if s.on F.EVT_GONG_G4 then s'
    else
      let x : Stop := ⟨4, e, cls, s.calNow, 0⟩
      { s' with gong := { s'.gong with g4Want := true, g4Stop := some (s.gong.g4Stop.getD x) } }
  else s

/-- Step 3 of R388: G4 is reported to the keeper, with the records that waited for the flush, and EVT_GONG.G4 is set. -/
def State.reportG4 (s : State) : State :=
  let rs := s.gong.g4Recs
  let s := { s with
    stopOpen := if s.stopOpen.isSome then s.stopOpen else s.gong.g4Stop
    gong := { s.gong with g4Want := false, g4Recs := [], g4Stop := none } }
  (rs.foldl State.logPut s).setF F.EVT_GONG_G4 1

/-- The raisings of e that still count toward REPN, with this one (R385). -/
def State.repeats (s : State) (e : Nat) : List Nat :=
  s.time :: (tget [] s.gong.times e).filter fun t => decide (s.time < t + 6000000 * s.f (F.EVT_E_CFG_REPWIN e))

/-- The level a raising takes and whether it escalates (R384, R385). -/
def State.levelOf (s : State) (e : Nat) (stated : Option Nat) : Nat × Bool :=
  let l := s.f (F.EVT_E_CFG_LEVEL e)
  match stated with
  | some l' => (l', false)
  | none =>
    let n := s.f (F.EVT_E_CFG_REPN e)
    if 2 ≤ n ∧ n ≤ (s.repeats e).length then
      match nextLevel (s.f (F.EVT_E_CFG_ALLOW e)) l with
      | some l' => (l', true)
      | none => (l, false)
    else (l, false)

/-- A raising with everything but a G2 action: routes, repeat escalation, G1 marks, and the G3 or G4 that stands. -/
def State.raiseCore (s : State) (e cause : Nat) (stated : Option Nat) (nm : Names) : State × Nat :=
  let (lvl, esc) := s.levelOf e stated
  let times := s.repeats e
  let keepN := s.f (F.EVT_E_CFG_REPN e)
  let s := { s with gong := { s.gong with times := tput [] s.gong.times e (if esc then [] else times.take keepN) } }
  let s := s.post e cause lvl
  let s := if esc then s.post EV.GONG_ESCALATE e (s.f (F.EVT_E_CFG_LEVEL EV.GONG_ESCALATE)) else s
  ((s.markG1 e cause lvl nm).markStop e lvl (s.stopClass e cause lvl stated.isSome esc), lvl)

/-- Raise an event whose allowed levels hold no G2. -/
def State.raiseLow (s : State) (e cause : Nat) : State := (s.raiseCore e cause none .byEvent).1

/-! ## The ledger (R247–R253) -/

/-- The 40-bit station record of R248. -/
def Rec.bits (r : Rec) : Nat := r.state % 4 + r.reason % 64 * 4 + r.emitted % 2 ^ 20 * 256 + min r.missed 4095 * 2 ^ 28

def Rec.notStarted (reason : Nat) : Rec := ⟨0, reason, 0, 0⟩

/-- The record an entry shows for station n (R250): the written one, NOT_STARTED with NOT_ARMED outside the set, and for a
record still open the one the writer of the entry gives. -/
def Entry.recOf (x : Entry) (still : Nat → Rec) (n : Nat) : Rec :=
  if bitOf x.have_ n then tget (Rec.notStarted 0) x.recs n
  else if bitOf x.stations n then still n
  else Rec.notStarted Reason.NOT_ARMED

/-- The 64 bytes of an entry (R247). -/
def Entry.bytes (x : Entry) (final : Bool) (still : Nat → Rec) : List Byte :=
  let tl := if x.tFirst = 0 then 0 else min ((x.tLast - x.tFirst) / 16) (2 ^ 32 - 1)
  toLE x.num 4 ++ toLE x.job 4 ++ toLE x.epoch 2 ++ toLE x.degraded 1 ++
  toLE (x.seq / 65536 % 128 + (if final then 128 else 0)) 1 ++ toLE x.tFirst 8 ++ toLE tl 4 ++
  ((upFrom 0 8).map fun n => toLE (x.recOf still n).bits 5).flatten

/-- Write an entry to its place in the ring (R252, R253). -/
def State.writeEntry (s : State) (x : Entry) (final : Bool) (still : Nat → Rec) : State :=
  let a := s.addr F.CHG_LED_BASE_HI F.CHG_LED_BASE_LO
  s.memWrite (a + x.seq % 65536 * 64) (x.bytes final still)

/-- The record of a frame still open at station n when its entry is flushed (R253): PARTIAL where the station is in the frame,
else NOT_STARTED; `reason` replaces the reason at a device stop. -/
def State.openRec (s : State) (x : Entry) (reason : Option Nat) (n : Nat) : Rec :=
  match findFirst (fun y => decide (y.job = x.job ∧ y.num = x.num)) (s.station n).frames with
  | some y => if y.begun then ⟨1, reason.getD y.reason, y.emitted, y.missed⟩ else Rec.notStarted (reason.getD 0)
  | none => Rec.notStarted (reason.getD 0)

/-- LEDF: the oldest entry not FINAL, or LEDW (R252). -/
def State.setLedf (s : State) : State :=
  let o := (s.ledger.filter fun x => !x.spilled).length
  let f := match s.ledger with
    | x :: _ => x.seq
    | [] => s.f F.CHG_LED_W
  (s.setF F.CHG_LED_F f).setF F.CHG_LED_OPEN o

/-- Write FINAL every entry whose stations have all written (R250), and free its place. -/
def State.finalize (s : State) : State :=
  let done (x : Entry) : Bool := decide (x.stations &&& x.have_ = x.stations)
  let go (s : State) (x : Entry) : State :=
    let bs := x.bytes true fun _ => Rec.notStarted 0
    let s := (s.writeEntry x true fun _ => Rec.notStarted 0).tally 0x192 1
    { s with finals := (bs :: s.finals).take 256 }
  let s := (s.ledger.filter done).foldl go s
  ({ s with ledger := s.ledger.filter fun x => !done x }).setLedf

/-- Give station n a NOT_STARTED record in an entry that lacks one. -/
def Entry.skip (x : Entry) (n reason : Nat) : Entry :=
  if bitOf x.stations n && !bitOf x.have_ n then
    { x with have_ := setBit x.have_ n, recs := tput (Rec.notStarted 0) x.recs n (Rec.notStarted reason) }
  else x

/-- Make room for one more open entry (R251): with 512 open, the oldest is written without FINAL and spilled. -/
def State.spill (s : State) (n : Nat) : State :=
  if 512 ≤ (s.ledger.filter fun x => !x.spilled).length then
    match findFirst (fun x => !x.spilled) s.ledger with
    | some x =>
      let s := s.writeEntry x false (s.openRec x none)
      let s := { s with ledger := s.ledger.map fun (y : Entry) => if y.seq = x.seq then { y with spilled := true } else y }
      (s.setF F.CHG_LED_STATUS_SPILL 1).raiseLow EV.LEDGER_SPILL n
    | none => s
  else s

/-- Open an entry for (job, num) at the record of station n (R250–R252). -/
def State.openEntry (s : State) (n job num : Nat) : State :=
  let s := s.spill n
  let w := s.f F.CHG_LED_W
  let x : Entry := ⟨w, job, num, s.f (F.CHG_S_STATUS_EPOCH n), 0, 0, 0, setBit s.armedMask n, 0, [], false⟩
  let w' := (w + 1) % 2 ^ 32
  let s := ({ s with ledger := s.ledger ++ [x] }).setF F.CHG_LED_W w'
  if 65536 < (w' + 2 ^ 32 - s.f F.CHG_LED_R) % 2 ^ 32 then
    ((s.setF F.CHG_LED_R (w' + 2 ^ 32 - 65536)).setF F.CHG_LED_STATUS_OVERRUN 1).raiseLow EV.LEDGER_OVERRUN n
  else s

/-- Write station n's record of (job, num) (R250); a spilled entry is reloaded into a place of its own (R251). -/
def State.record (s : State) (n job num : Nat) (r : Rec) (degraded : Bool) (tFirst tLast : Nat) : State :=
  let same (x : Entry) : Bool := decide (x.job = job ∧ x.num = num)
  let s := match findFirst same s.ledger with
    | some x => if x.spilled then s.spill n else s
    | none => s.openEntry n job num
  let at_ := match findFirst same s.ledger with
    | some x => x.seq
    | none => 0
  let upd (x : Entry) : Entry :=
    if same x then
      { x with
        stations := setBit x.stations n
        have_ := setBit x.have_ n
        recs := tput (Rec.notStarted 0) x.recs n r
        degraded := if degraded then setBit x.degraded n else x.degraded
        tFirst := if tFirst = 0 then x.tFirst else if x.tFirst = 0 then tFirst else min x.tFirst tFirst
        tLast := max x.tLast tLast
        spilled := false }
    else if x.job = job ∧ x.seq < at_ then x.skip n Reason.SEQ_GAP
    else x
  ({ s with ledger := s.ledger.map upd }).finalize

/-- Write all open entries to the ring without FINAL (R22, R253). -/
def State.flush (s : State) (reason : Option Nat) : State :=
  let s := (s.ledger.filter fun x => !x.spilled).foldl (fun s x => s.writeEntry x false (s.openRec x reason)) s
  s.setF F.CHG_LED_STATUS_FLUSHED 1

/-- HEAD of queue n: the oldest descriptor whose frame the station has neither finished nor abandoned (R108). -/
def State.passHead (s : State) (n : Nat) : State :=
  s.setF (F.FEED_Q_HEAD n) (match (s.station n).frames with
    | y :: _ => y.index
    | [] => (s.station n).nextFetch)

/-- Whether a pair still has an entry that is not final. -/
def State.entryOpen (s : State) (job num : Nat) : Bool := s.ledger.any fun y => decide (y.job = job ∧ y.num = num)

/-- The closed frames that a station keeps with one more: those that a row offset may still reach, at most 31 lines and so 31 frames back
(R157), and those whose entry a drop test may still mark (R195). -/
def State.keepPast (s : State) (x : Frame) (l : List Frame) : List Frame :=
  (x :: l.take 31) ++ (l.drop 31).filter fun y => s.entryOpen y.job y.num

/-- Write the record of a frame of station n and let HEAD pass it (R108, R250). -/
def State.closeFrame (s : State) (n : Nat) (x : Frame) : State :=
  let st := s.station n
  let s := s.setStation n { st with
    frames := st.frames.filter fun y => decide (y.index ≠ x.index)
    past := if x.begun then s.keepPast x st.past else st.past }
  let s := s.passHead n
  s.record n x.job x.num ⟨x.state, x.reason, x.emitted, x.missed⟩ x.degraded x.tFirst x.tLast

/-! ## Squash of staged effects (R232, R233, R296, R297) -/

/-- Squash codes of CAUSE (R297). -/
def Squash.SOFT : Nat := 0x20
def Squash.CONFIRM : Nat := 0x21
def Squash.XSCAN : Nat := 0x22
def Squash.BD_MISS : Nat := 0x23
def Squash.HELD : Nat := 0x24
def Squash.ABANDON : Nat := 0x25

/-- The state of a mallet that a checkpoint holds (R295). -/
def Mallet.checkpoint (x : Mallet) : Checkpoint := ⟨x.k, x.z, x.n, x.c, x.v, x.acc⟩

/-- The mallet with a checkpoint restored. -/
def Mallet.restore (x : Mallet) (c : Checkpoint) : Mallet := { x with k := c.k, z := c.z, n := c.n, c := c.c, v := c.v, acc := c.acc }

/-- A line marked squashed: it may be staged again (R236). -/
def squashLine (lpos : Int) (halted : Bool) (l : List Line) : List Line :=
  l.map fun x => if x.lpos = lpos ∧ x.phase = .staged then { x with phase := if halted then .lost else .squashed } else x

/-- A missed line in the frame that holds it (R248): counted, the first cause kept while the frame is not abandoned. -/
def Frame.addMissed (x : Frame) (k reason : Nat) : Frame :=
  { x with missed := x.missed + k, reason := if x.state = 3 ∨ x.reason ≠ 0 then x.reason else reason }

/-- Whether a line is one of a frame's image lines. -/
def Frame.holds (x : Frame) (l : Int) : Bool :=
  match x.start with
  | some a => decide (a ≤ l) && decide (l < a + x.lines)
  | none => false

/-- Whether a line lies in a frame's extent, gap included. -/
def Frame.spans (x : Frame) (l : Int) : Bool :=
  match x.start with
  | some a => decide (a ≤ l) && decide (l < a + x.lines + x.gap)
  | none => false

/-- Change the frame of station n that a line belongs to, where it is an image line: of the frames whose extents hold it, the
youngest (a new job's frame lies over what the old job leaves beyond its splice, R244). -/
def State.mapFrameAt (s : State) (n : Nat) (l : Int) (g : Frame → Frame) : State :=
  let x := s.station n
  let g' (y : Frame) : Frame := if y.holds l then g y else y
  s.setStation n { x with frames := (mapFirst (fun y => y.spans l) g' x.frames.reverse).reverse }

/-- What a squash does to one effect besides removing it: SPEC counter, station flag, and, for a halted mallet, a missed line
(R255, R269). -/
def State.squashEffect (s : State) (e : Eff) (halted : Bool) : State :=
  match e with
  | .line n l =>
    let s := (s.tally (0x168 + n) 1).setF (F.CHG_S_STATUS_SQUASH (n % 8)) 1
    let x := s.station n
    let s := s.setStation n { x with lines := squashLine l halted x.lines }
    if halted then s.mapFrameAt n l fun y => { y.addMissed 1 Reason.SQUASH_LATE with degraded := true } else s
  | .scan n l =>
    let s := ((s.tally (0x168 + n) 1).tally (0x144 + n) 1).setFs [(F.CHG_S_STATUS_SQUASH (n % 8), 1), (F.EPS_S_STATUS_SQUASH (n % 4), 1)]
    let x := s.epSt n
    s.setEp n { x with scans := x.scans.filter fun y => decide (y.lpos ≠ l) }
  | _ => s

/-- The station a line or scan effect belongs to. -/
def Eff.station? : Eff → Option Nat
  | .line n _ => some n
  | .scan n _ => some n
  | _ => none

/-- Remove effect number i and every younger effect of mallet m's region, restore the checkpoint, set CAUSE and resume at SQH two
ticks later (R233, R296, R297). A halted mallet loses effects but does not resume (R269). -/
def State.squashAt (s : State) (m i code : Nat) : State :=
  let x := s.mallet m
  let gone := x.region.effs.drop i
  let kept := x.region.effs.take i
  let s := gone.foldl (fun s e => s.squashEffect e.eff (decide (x.run ≠ .running))) s
  let x := s.mallet m
  let cp := match gone with
    | e :: _ => e.cp
    | [] => x.region.base
  let arg := match gone with
    | e :: _ => e.port
    | [] => 0
  let close := x.region.closing && kept.isEmpty
  let reg := { x.region with effs := kept, isOpen := x.region.isOpen && !close, closing := x.region.closing && !close }
  let x := if x.run = .running then
      { x.restore cp with
        region := reg, cause := BitVec.ofNat 32 (code + arg % 256 * 256), pc := x.sqh, wait := none, stall := .none,
        ready := s.time + 2, afterMac := false }
    else { x with region := reg }
  let s := (s.setMallet m x).tally 0x00B 1
  match gone with
  | e :: _ => match e.eff.station? with
    | some n => s.raiseLow EV.SPEC_SQUASH n
    | none => s
  | [] => s

/-- The index of the first effect that satisfies a test. -/
def effIndex (p : Eff → Bool) : List Effect → Nat → Option Nat
  | [], _ => none
  | e :: r, i => if p e.eff then some i else effIndex p r (i + 1)

/-- Squash, in every mallet below k, from the oldest effect that satisfies a test (R296). -/
def squashWhere (p : Eff → Bool) (code k : Nat) (s : State) : State :=
  forBelow k (fun m s =>
    match effIndex p (s.mallet m).region.effs 0 with
    | some i => s.squashAt m i code
    | none => s) s

/-- Whether a line lies before an end, where there is one. -/
def before (to_ : Option Int) (l : Int) : Bool := match to_ with
  | some b => decide (l < b)
  | none => true

/-- Whether an effect is a line of station n from one line on and before an end, or a scan whose lines lie there. -/
def Eff.ofStation (n : Nat) (from_ : Int) (to_ : Option Int) : Eff → Bool
  | .line k l => decide (k = n ∧ from_ ≤ l) && before to_ l
  | .scan k l => decide (k = n) && decide (from_ ≤ if to_.isSome then l else l + 7) && before to_ (l + 7)
  | _ => false

/-- The station abandons its staged lines from a line on, before an end where there is one: they are squashed with ABANDON (R296) and cannot
be staged again. A facet that also serves other lines is sent, its abandoned lines unlit (R216). -/
def State.abandonTo (s : State) (n : Nat) (from_ : Int) (to_ : Option Int) : State :=
  let s := squashWhere (Eff.ofStation n from_ to_) Squash.ABANDON 36 s
  let x := s.station n
  s.setStation n { x with lines := x.lines.map fun y =>
    if from_ ≤ y.lpos ∧ before to_ y.lpos ∧ y.phase ≠ .committed then { y with phase := .lost } else y }

/-- All staged lines of a station from a line on. -/
def State.abandon (s : State) (n : Nat) (from_ : Int) : State := s.abandonTo n from_ none

/-- The line after a frame's last image line. -/
def Frame.imageEnd (x : Frame) : Int := x.start.getD 0 + x.lines

/-- The staged lines of one frame from a line on. -/
def State.abandonIn (s : State) (n : Nat) (x : Frame) (from_ : Int) : State :=
  if from_ < x.imageEnd then s.abandonTo n (maxI from_ (x.start.getD 0)) (some x.imageEnd) else s

/-! ## Spoiling frames (R19, R382, R489) -/

/-- The line after the last committed line of station n, and after the line at its fire point (R19: the current line completes). -/
def State.nextFree (s : State) (n : Nat) : Int :=
  (s.station n).lines.foldl (fun a y => if y.phase = .committed then maxI a (y.lpos + 1) else a) (s.lineNow n + 1)

/-- Spoil a frame of station n from a line on: blank it from there, with a reason (R19). Lines already blanked stay blanked
(R20). -/
def Frame.spoil (x : Frame) (from_ : Int) (reason : Nat) : Frame :=
  if x.state = 3 then x
  else { x with state := 3, reason := reason, cut := some (match x.cut with
    | some c => if c < from_ then c else from_
    | none => from_) }

/-- Spoil the frame in progress at station n from a line on (R19), and abandon its staged lines there. -/
def State.spoilFrom (s : State) (n reason : Nat) (from_ : Int) : State :=
  match findFirst Frame.inProgress (s.station n).frames with
  | some y =>
    (s.mapCurrent n fun x => x.spoil from_ reason).abandonIn n y from_
  | none => s

/-- Spoil the frame in progress at station n from its next free line. -/
def State.spoil (s : State) (n reason : Nat) : State := s.spoilFrom n reason (s.nextFree n)

/-- Spoil the frames in progress at every armed station (R382). -/
def State.spoilAll (s : State) (reason : Nat) : State := forBelow 8 (fun n s => if s.armed n then s.spoil n reason else s) s

/-- The G2 action of a raising (R19, R22, R382): frames of the named stations, or of every armed station, are spoiled, and the
open entries are flushed. Under G4 nothing lower acts (R20). -/
def State.actG2 (s : State) (e cause : Nat) (nm : Names) : State :=
  if s.g4 then s
  else
    let named : State := match evStation s e cause with
      | some n => s.spoil n (reasonOf e)
      | none => s.spoilAll (reasonOf e)
    let s := match nm with
      | .own => s
      | .stations l => l.foldl (fun s n => s.spoil n (reasonOf e)) s
      | .byEvent => named
      | .frames => named
    s.flush none

/-- Raise an event (R377–R386): at its configured level, at the escalated level, or at a level that a rule states; `nm` says what
the raising's rule names. -/
def State.raiseAt (s : State) (e cause : Nat) (stated : Option Nat) (nm : Names) : State :=
  let (s, lvl) := s.raiseCore e cause stated nm
  if lvl = 2 then s.actG2 e cause nm else s

/-- Raise an event whose cause field decides which frames it names. -/
def State.raise (s : State) (e cause : Nat) : State := s.raiseAt e cause none .byEvent

/-- Raise an event whose rule marks the frames it names by itself at G1 (R383). -/
def State.raiseF (s : State) (e cause : Nat) : State := s.raiseAt e cause none .frames

/-- Raise an event whose rule spoils or marks the frames it names by itself. -/
def State.raiseOwn (s : State) (e cause : Nat) : State := s.raiseAt e cause none .own

/-- Raise an event whose chapter states no cause field: the cause is a free value (log entry 4), and it names no station. -/
def State.raiseU (s : State) (e : Nat) (stated : Option Nat) (nm : Names) : State :=
  let c := s.freeNow.toNat % 2 ^ 32
  s.draw.raiseAt e c stated nm

/-- Raise an event without a stated cause field at its configured level. -/
def State.raiseX (s : State) (e : Nat) : State := s.raiseU e none .byEvent

/-! ## Keepalives (R396, R397) -/

/-- Whether every HV channel's output is 0 (R397). -/
def State.hvAllOff (s : State) : Bool := (upFrom 0 16).all fun c => decide (s.f (F.EPS_HV_STATUS_OUT c) = 0)

/-- Whether keepalive i, by its bit of EVT_KA_STATUS, toggles. -/
def State.kaOn (s : State) (i : Nat) : Bool :=
  match i with
  | 0 => s.on F.EVT_KA_STATUS_HV
  | 5 => s.on F.EVT_KA_STATUS_DRIVE
  | 6 => s.on F.EVT_KA_STATUS_FUSER
  | 7 => s.on F.EVT_KA_STATUS_AUX
  | _ => bitOf (s.f F.EVT_KA_STATUS_LASER) (i - 1)

/-- A keepalive starts toggling at the first multiple of 600 ticks after its condition holds (R396). -/
def State.kaStart (s : State) (i : Nat) : State :=
  { s with gong := { s.gong with kaFrom := tput 0 s.gong.kaFrom i ((s.time / 600 + 1) * 600) } }

/-- The level of keepalive i (R396): a toggling one is high for 300 ticks and low for 300, its edges on multiples of 300; a static one is
low. -/
def State.kaLevel (s : State) (i : Nat) : Bool :=
  s.kaOn i && decide (tget 0 s.gong.kaFrom i ≤ s.time) && decide (s.time % 600 < 300)

/-- The conditions of KA_HV, KA_DRIVE, KA_FUSER and KA_AUX, each with its bit (R397). -/
def State.kaWant (s : State) : List (Nat × Field × Bool) :=
  let live := !s.g4
  let g3 := s.on F.EVT_GONG_G3
  [(0, F.EVT_KA_STATUS_HV, s.on F.EVT_KA_CTL_HV && live && (!g3 || (!s.hvAllOff && !s.gong.kaHvOff))),
    (5, F.EVT_KA_STATUS_DRIVE, s.on F.EVT_KA_CTL_DRIVE && live && !s.gong.driveDrop),
    (6, F.EVT_KA_STATUS_FUSER, s.on F.EVT_KA_CTL_FUSER && live && (s.on (F.EPS_FZ_CTL_EN 0) || s.on (F.EPS_FZ_CTL_EN 1))
      && !s.on (F.EPS_FZ_STATUS_CUT 0) && !s.on (F.EPS_FZ_STATUS_CUT 1) && !s.on (F.EPS_FZ_STATUS_ZC_LOST 0)
      && !s.on (F.EPS_FZ_STATUS_ZC_LOST 1)),
    (7, F.EVT_KA_STATUS_AUX, s.on F.EVT_KA_CTL_AUX && live && (!s.on F.EVT_KA_CTL_AUX_G3 || !g3))]

/-- A keepalive follows its condition; one that goes static counts under 0x234 (R397, R401). -/
def State.kaFollow (s : State) (x : Nat × Field × Bool) : State :=
  let was := s.on x.2.1
  let s := if was && !x.2.2 then s.tally 0x234 1 else if x.2.2 && !was then s.kaStart x.1 else s
  s.setB x.2.1 x.2.2

/-- The keepalives follow their conditions. -/
def State.keepalives (s : State) : State := s.kaWant.foldl State.kaFollow s

end Sys2Proof.Machine
end

