-- ==== Sys2Proof/Machine/Clocks.lean ====
section
/-!
DEFINITION. The clock tree, press time and the snares (R34–R63).
-/
namespace Sys2Proof.Machine

/-! ## The root ADPLL (R35–R43) -/

/-- Target frequency in units of 2^-24 MHz: 25 MHz * (96 + FCOMP / 2^24) (R34). -/
def State.rootTarget (s : State) : Nat := (25 * (96 * 2 ^ 24 + s.fs F.CLK_ADPLL_FCOMP_FCOMP)).toNat

/-- Whether a band contains a frequency given in 2^-24 MHz (R35). -/
def inBand (flo fhi t : Nat) : Bool := decide (flo * 2 ^ 24 ≤ t) && decide (t < fhi * 2 ^ 24)

/-- The lowest-numbered valid band of the root table that contains a frequency (R35). -/
def rootBand (s : State) (t : Nat) : Option Nat :=
  findFirst (fun k => s.on (F.CLK_BAND_ROOT_VALID k) && inBand (s.f (F.CLK_BAND_ROOT_FLO k)) (s.f (F.CLK_BAND_ROOT_FHI k)) t)
    (upFrom 0 8)

/-- Stop every divided clock; press time holds its value (R43). -/
def State.stopClocks (s : State) : State :=
  { s with clk := { s.clk with running := false } }

/-- R35: select a band and start acquisition, or NOBAND with EV_PLL_LOST; a running ADPLL keeps its band. -/
def State.adpllOn (s : State) : State :=
  let s := s.setF F.CLK_ADPLL_CTL_EN 1
  if s.clk.pll = .off then
    match rootBand s s.rootTarget with
    | some k => { s.setF F.CLK_ADPLL_STATUS_BAND k with clk := { s.clk with pll := .acquiring } }
    | none => (s.setF F.CLK_ADPLL_STATUS_NOBAND 1).raiseX EV.PLL_LOST
  else s

/-- R35. -/
def execAdpllEnable (s : State) : Out := .next s.adpllOn

/-- TIME_STATUS follows the clocks: counting, or holding once it has begun (R43, R63). -/
def State.showTime (s : State) : State :=
  s.setFs [(F.TIME_STATUS_RUNNING, b2n s.clk.running), (F.TIME_STATUS_HELD, b2n (s.clk.begun && !s.clk.running))]

/-- R43: EN cleared; the divided clocks stop and press time holds. The rule only forbids it to the user while a station is armed: the
clear is carried out then too (DESIGN CHOICE, log entry 40). -/
def execAdpllDisable (s : State) : Out :=
  let s := s.setFs [(F.CLK_ADPLL_CTL_EN, 0), (F.CLK_ADPLL_STATUS_LOCKED, 0), (F.CLK_ADPLL_STATUS_HOLDOVER, 0),
    (F.TIME_STATUS_RUNNING, 0), (F.TIME_STATUS_HELD, b2n s.clk.begun)]
  .next { s with clk := { s.clk with pll := .off, running := false } }

/-- R36, R37, R40: lock is declared; the dividers are released and press time counts from zero or goes on from its value. -/
def execPllLock (s : State) : Out :=
  if s.clk.pll = .acquiring ∨ (s.clk.refOk = true ∧ (s.clk.pll = .holdover ∨ s.clk.pll = .pulling)) then
    let s := s.setFs [(F.CLK_ADPLL_STATUS_LOCKED, 1), (F.CLK_ADPLL_STATUS_HOLDOVER, 0), (F.TIME_STATUS_RUNNING, 1),
      (F.TIME_STATUS_HELD, 0)]
    let s := { s with clk := { s.clk with pll := .locked, begun := true, running := true } }
    .next (s.raiseX EV.PLL_LOCK)
  else .next s

/-- Enter holdover (R38): press time goes on; the frames in progress at every armed station are DEGRADED. -/
def State.enterHoldover (s : State) : State :=
  let s := s.setFs [(F.CLK_ADPLL_STATUS_LOCKED, 0), (F.CLK_ADPLL_STATUS_HOLDOVER, 1)]
  let s := { s with clk := { s.clk with pll := .holdover, holdSince := s.time, lostRaised := false } }
  s.degradeAll.raiseU EV.PLL_HOLDOVER none .frames

/-- R36, R38: loss of lock. -/
def execPllLockLost (s : State) : Out :=
  if s.clk.pll = .locked then .next (s.setF F.CLK_ADPLL_STATUS_LOCK_LOST 1).enterHoldover else .next s

/-- R38: four reference periods without an edge; a running ADPLL that is not in holdover enters it, one that pulls back to lock (R40) or
still acquires among them. -/
def execRefLost (s : State) : Out :=
  let s := s.setF F.CLK_ADPLL_STATUS_REF_LOST 1
  let s := { s with clk := { s.clk with refOk := false } }
  if s.clk.pll = .off ∨ s.clk.pll = .holdover then .next s else .next s.enterHoldover

/-- R40: the reference has been present for 1 ms; the ADPLL pulls back to lock. HOLDOVER clears at lock. -/
def execRefReturn (s : State) : Out :=
  let s := { s with clk := { s.clk with refOk := true } }
  if s.clk.pll = .holdover then .next { s with clk := { s.clk with pll := .pulling } } else .next s

/-- R41: 100 ms of holdover without lock. -/
def execHoldoverTimeout (s : State) : Out :=
  if (s.clk.pll = .holdover ∨ s.clk.pll = .pulling) ∧ s.clk.lostRaised = false then
    let s := s.advanceTo (s.clk.holdSince + 60000000)
    .next ({ s with clk := { s.clk with lostRaised := true } }.raiseX EV.PLL_LOST)
  else .next s

/-! ## Temperature compensation (R44, R45) -/

/-- Linear interpolation in a 17-point table over -40 to +120 degrees at a temperature in 1/8 degree; the result is in 1/80 of the
table's unit, and the end values hold outside. -/
def interp17 (p : Nat → Int) (t8 : Int) : Int :=
  let u := clampI 0 1280 (t8 + 320)
  let k := (u / 80).toNat
  if 16 ≤ k then p 16 * 80 else p k * 80 + (p (k + 1) - p k) * (u % 80)

/-- 100 ms of the calendar's error e (R45): it accumulates, and the correction in use, of the opposite sign, is shown (log entry 41). -/
def State.calibrate (s : State) (e : Int) : State :=
  let s := s.setF F.CLK_CAL_COMP_PPM (ux 16 (roundDiv (-e) 80))
  { s with clk := { s.clk with calAcc := s.clk.calAcc + e, calErr := e } }

/-- R44–R46: the keeper's 100 ms reading of the sensor beside XIN, ODS0: FCOMP from XTAB and the calendar's error from CTAB. While the
sensor is broken both stand at their last value from a good reading; without VIN nothing is compensated. The calendar is compensated
whatever TCOMP_EN says (DESIGN CHOICE, log entry 41). -/
def execTcompUpdate (s : State) : Out :=
  if s.keeper.supplied = false then .next s
  else if s.on (F.HK_CH_STATUS_BROKEN 0) then
    let s := s.calibrate s.clk.calErr
    if s.clk.frozen then .next s
    else .next ({ s with clk := { s.clk with frozen := true } }.raiseX EV.TCOMP_FROZEN)
  else
    let t := s.fs (F.HK_CH_TEMP_VALUE 0)
    let s := { s with clk := { s.clk with frozen := false } }
    let e := interp17 (fun k => s.fs (F.CLK_XTAB_PPM k)) t
    let s := if s.on F.CLK_ADPLL_CTL_TCOMP_EN && decide (s.f F.MBX_STATUS_MODE ≠ 3) then
        s.setF F.CLK_ADPLL_FCOMP_FCOMP (ux 24 (roundDiv (-e * 96 * 2 ^ 24) (80 * 128 * 1000000)))
      else s
    .next (s.calibrate (interp17 (fun k => s.fs (F.CLK_CTAB_PPM k)) t))

/-- 1/32,768 s of error, in the units the accumulator adds every 100 ms: 1/80 of 1/128 ppm. -/
def calUnit : Int := 3125000

/-- R45, R46: the accumulated error has reached one count; the keeper withholds a count of a fast calendar and adds one to a slow one,
while VIN stands. -/
def execCalCompStep (s : State) : Out :=
  if s.keeper.supplied = false then .next s
  else if calUnit ≤ s.clk.calAcc then
    .next ({ s with clk := { s.clk with calAcc := s.clk.calAcc - calUnit } }.addCal (-1))
  else if s.clk.calAcc ≤ -calUnit then
    .next ({ s with clk := { s.clk with calAcc := s.clk.calAcc + calUnit } }.addCal 1)
  else .next s

/-! ## Pixel synthesisers (R49–R53) -/

/-- Frequency of a PIXF in 2^-24 MHz (R49). -/
def pixFreq (v : Nat) : Nat := 2400 * v

/-- R49: 100 to 320 MHz. -/
def pixInRange (v : Nat) : Bool := decide (100 * 2 ^ 24 ≤ pixFreq v) && decide (pixFreq v ≤ 320 * 2 ^ 24)

/-- The limits of R51 and R52 on a step from the value in use. -/
def State.pixStepOk (s : State) (n v : Nat) : Bool :=
  let used := s.f (F.CLK_MDLL_STATUS_PIXF_USED n)
  let far := if used < v then v - used else used - v
  decide (far * 5000 ≤ used)
    && (match (s.mdll n).last with
        | some t => decide (t + 6000 ≤ s.time)
        | none => true)
    && (match (s.mdll n).band with
        | some (lo, hi) => inBand lo hi (pixFreq v)
        | none => false)

/-- Apply a PIXF value, or refuse it: out of range (R49), or failing a test of R51 or R52, which sets STEP_REJ. -/
def State.applyPixf (s : State) (n v : Nat) : State :=
  if s.pixStepOk n v then
    if pixInRange v then
      (s.setF (F.CLK_MDLL_STATUS_PIXF_USED n) v).setMdll n { s.mdll n with pend := none, last := some s.time }
    else (s.setMdll n { s.mdll n with pend := none }).raiseX EV.CLK_STEP_REJECT
  else ((s.setF (F.CLK_MDLL_STATUS_STEP_REJ n) 1).setMdll n { s.mdll n with pend := none }).raiseX EV.CLK_STEP_REJECT

/-- R50, R211: a written PIXF waits for the next BD edge or is applied at once; while FOLLOW is 1 the write is ignored. -/
def execPixfWrite (n : Fin 4) (v : BitVec 24) (s : State) : Out :=
  if s.on (F.EPS_S_CFG_FOLLOW n.val) then .next (s.flam F.CLK_FLAM_COUNT 1)
  else
    let s := s.setF (F.CLK_MDLL_FREQ_PIXF n.val) v.toNat
    if s.on (F.CLK_MDLL_CTL_EN n.val) then
      if s.on (F.CLK_MDLL_CTL_APPLY n.val) then .next (s.setMdll n.val { s.mdll n.val with pend := some v.toNat })
      else .next (s.applyPixf n.val v.toNat)
    else .next s

/-- The lowest-numbered valid band of an MDLL's table that contains a frequency (R52). -/
def mdllBand (s : State) (n t : Nat) : Option Nat :=
  findFirst (fun k => s.on (F.CLK_MDLL_BAND_VALID n k) && inBand (s.f (F.CLK_MDLL_BAND_FLO n k)) (s.f (F.CLK_MDLL_BAND_FHI n k)) t)
    (upFrom 0 8)

/-- R52: EN set; the band is selected from the MDLL's own table and the pixel clock starts at the requested frequency. With
no valid band that contains it the MDLL does not start, and, the block having no flag or event for it, nothing shows it but LOCKED 0
(DESIGN CHOICE, log entry 42). -/
def execMdllEnable (n : Fin 4) (s : State) : Out :=
  let was := s.on (F.CLK_MDLL_CTL_EN n.val)
  let s := s.setF (F.CLK_MDLL_CTL_EN n.val) 1
  let v := s.f (F.CLK_MDLL_FREQ_PIXF n.val)
  if was ∧ (s.mdll n.val).band.isSome then .next s
  else if pixInRange v then
    match mdllBand s n.val (pixFreq v) with
    | some k =>
      let s := s.setMdll n.val ⟨none, none, some (s.f (F.CLK_MDLL_BAND_FLO n.val k), s.f (F.CLK_MDLL_BAND_FHI n.val k)), false, 0, false⟩
      .next (s.setFs [(F.CLK_MDLL_STATUS_PIXF_USED n.val, v), (F.CLK_MDLL_STATUS_LOCKED n.val, 1)])
    | none => .next s
  else .next (s.raiseX EV.CLK_STEP_REJECT)

/-- R53: lock lost; the beams of an armed station blank from the next scan. The second frame after the one of the loss ends at the third
frame boundary from now. -/
def execMdllUnlock (n : Fin 4) (s : State) : Out :=
  let s := s.setFs [(F.CLK_MDLL_STATUS_LOCKED n.val, 0), (F.CLK_MDLL_STATUS_UNLOCKED n.val, 1)]
  if s.armed n.val then
    let s := s.setMdll n.val { s.mdll n.val with lost := true, ahead := 3, again := false }
    let s := s.setEp n.val { s.epSt n.val with blank := true }
    .next (s.raise EV.MDLL_UNLOCK n.val)
  else .next s

/-- R53: a frame of station n ends: one less before the end of the second after the loss. -/
def State.unlockFrame (s : State) (n : Nat) : State :=
  let x := s.mdll n
  if x.lost then s.setMdll n { x with ahead := x.ahead - 1 } else s

/-- R53, R384: not relocked by the end of the second frame after the one of the loss; the second raising, once, takes G3. -/
def execMdllUnlockTimeout (n : Fin 4) (s : State) : Out :=
  let x := s.mdll n.val
  if x.lost && decide (x.ahead = 0) && !x.again && !s.on (F.CLK_MDLL_STATUS_LOCKED n.val) then
    .next ((s.setMdll n.val { x with again := true }).raiseAt EV.MDLL_UNLOCK (n.val + 2 ^ 31) (some 3) .byEvent)
  else .next s

/-! ## Press time and snares (R54–R60) -/

/-- A read of TIME_LO by any reader: the low word, with the high word latched for that reader (R54, R55). -/
def State.readTime (s : State) (reader : Nat) : State := s.latch reader F.TIME_HI.off (hi32 s.time)

/-- R54. -/
def execTimeLoRead (who : Reader) (s : State) : Out := .next ((s.readTime who.id).reply (lo32 s.time))

/-- R58: arm from the next tick on. -/
def State.armSnare (s : State) (n : Nat) : State :=
  let s := s.setFs [(F.SN_CTL_ARM n, 1), (F.SN_STATUS_ARMED n, 1)]
  { s with snare := tput 0 (tput 0 s.snare n (s.time + 1)) (64 + n) 0 }

/-- R58: disarm; an edge in this tick is still captured. -/
def State.disarmSnare (s : State) (n : Nat) : State :=
  let was := s.on (F.SN_STATUS_ARMED n)
  let s := s.setFs [(F.SN_CTL_ARM n, 0), (F.SN_STATUS_ARMED n, 0)]
  if was then { s with snare := tput 0 s.snare (32 + n) (s.time + 1) } else s

/-- R58. -/
def execSnareArm (n : Fin 32) (s : State) : Out := .next (s.armSnare n.val)

/-- R58. -/
def execSnareDisarm (n : Fin 32) (s : State) : Out := .next (s.disarmSnare n.val)

/-- Whether the observer runs: a publish is in effect and not stale (R27, R57). -/
def State.observing (s : State) : Bool := s.web.published && !s.on F.WEB_STATUS_STALE

/-- Whether snare n captures an edge of tick t (R58). -/
def State.snareTakes (s : State) (n t : Nat) : Bool :=
  decide (tget 0 s.snare n ≤ t) && (s.on (F.SN_STATUS_ARMED n) || decide (t < tget 0 s.snare (32 + n)))

/-- A capture finds the one before it unread and overwrites it (R59). -/
def State.snareOver (s : State) (n : Nat) : State := (s.setBitF F.TIME_SNARE_OVR n true).raiseX EV.SNARE_OVR

/-- The capture that stands is kept for a read in the tick of the next one (R60), and that tick is noted. -/
def State.keepCapture (s : State) (n : Nat) : State :=
  let t := tput 0 s.snare (96 + n) (s.time + 1)
  let t := tput 0 t (128 + n) (s.pair (F.SN_TIME_HI n) (F.SN_TIME_LO n))
  { s with snare := tput 0 t (160 + n) (s.pair (F.SN_WPOS_HI n) (F.SN_WPOS_LO n)) }

/-- Latch a capture (R56, R57, R59). -/
def State.capture (s : State) (n t : Nat) : State :=
  let s := (s.keepCapture n).setPair (F.SN_TIME_HI n) (F.SN_TIME_LO n) t
  let s := if s.observing then
      (s.setPairS (F.SN_WPOS_HI n) (F.SN_WPOS_LO n) (s.web.posAt t)).setF (F.SN_STATUS_NOPOS n) 0
    else (s.setPair (F.SN_WPOS_HI n) (F.SN_WPOS_LO n) (2 ^ 63)).setF (F.SN_STATUS_NOPOS n) 1
  let excess := s.on (F.SN_STATUS_UNREAD n)
  let s := (s.setF (F.SN_STATUS_UNREAD n) 1).setBitF F.TIME_SNARE_CAPT n true
  let s := { s with snare := tput 0 s.snare (64 + n) 1 }
  let s := (s.tally (0x020 + n) 1).raiseX EV.SNARE_CAPT
  if excess then s.snareOver n else s

/-- A one-shot snare disarms itself on capture (R59): no edge of an earlier tick is taken any more. -/
def State.oneShot (s : State) (n : Nat) : State :=
  let s := s.setFs [(F.SN_CTL_ARM n, 0), (F.SN_STATUS_ARMED n, 0)]
  { s with snare := tput 0 s.snare (32 + n) 0 }

/-- The axis whose home search runs snare n (R325). -/
def State.searcher (s : State) (n : Nat) : Option Nat :=
  findFirst (fun a => (s.axis a).searching && decide (s.f (F.AXS_A_HOMECFG_HSNARE a) = n)) (upFrom 0 24)

/-- R325: the AXS block takes a capture as it is made, with the axis's measured count; the last one before acceptance counts. -/
def State.homeCapture (s : State) (n a t : Nat) (count : Int) : State :=
  let s := ((s.setF (F.SN_STATUS_UNREAD n) 0).capture n t).setF (F.SN_STATUS_UNREAD n) 0
  let x := s.axis a
  if x.accepted.isNone then s.setAxis a { x with hcap := some count } else s

/-- The new level of an edge that FILT + 1 samples qualify: the newest filt + 1 samples are alike and the one before them is not (R56).
Samples stand newest first. -/
def edgeLevel (filt : Nat) : List Bool → Option Bool
  | [] => none
  | b :: r =>
    if (r.take filt).all (fun x => x == b) && (match r.drop filt with
        | x :: _ => x != b
        | [] => false) then some b else none

/-- Whether SNn_CTL selects edges to a level, and a source (R63). -/
def State.snareEdge (s : State) (n : Nat) (b : Bool) : Bool :=
  (match s.f (F.SN_CTL_EDGE n) with
    | 0 => b
    | 1 => !b
    | 2 => true
    | _ => false) && decide (s.f (F.SN_CTL_SRC n) ≤ 6)

/-- Snare n takes a qualified edge of tick t, whose axis, while one searches with it, then measures a count (R57–R59, R325). -/
def State.snareTake (s : State) (n t : Nat) (count : Int) : State :=
  match s.searcher n with
  | some a => s.homeCapture n a t count
  | none =>
    match s.f (F.SN_CTL_MODE n) with
    | 1 =>
      if s.snareTakes n t then (s.capture n t).oneShot n
      else if tget 0 s.snare (64 + n) = 1 then s.addF (F.SN_STATUS_MISS n) 1
      else s
    | 2 => if s.snareTakes n t then s.capture n t else s
    | _ => s

/-- Whether an edge to a level is one that snare n takes: EDGE selects it, or, while an axis searches with the snare, it is the active edge of
that axis's home input (R325). -/
def State.snareWants (s : State) (n : Nat) (b : Bool) : Bool :=
  match s.searcher n with
  | some a => b == s.on (F.AXS_A_SWCFG_HOME_POL a)
  | none => s.snareEdge n b

/-- R56–R59, R325: the snare has sampled its source on every tick up to this one, with these results, newest first: the source that SRC
names, or its ball in a home search. An edge that the snare takes and FILT + 1 samples qualify is captured, its time the tick of the first of
those samples; `count` is the measured count that a searching axis latches then. -/
def execSnareCapture (n : Fin 32) (samples : List Bool) (count : BitVec 64) (s : State) : Out :=
  let filt := s.f (F.SN_CTL_FILT n.val)
  match edgeLevel filt samples with
  | some b => if s.snareWants n.val b then .next (s.snareTake n.val (s.time - filt) count.toInt) else .next s
  | none => .next s

/-- Whether snare n made a capture in this tick, which a read in it does not return (R60). -/
def State.justCaptured (s : State) (n : Nat) : Bool := decide (tget 0 s.snare (96 + n) = s.time + 1)

/-- The press time and web position, as 64-bit words, that a read of snare n returns now (R60). -/
def State.captureOf (s : State) (n : Nat) : Nat × Nat :=
  if s.justCaptured n then (tget 0 s.snare (128 + n), tget 0 s.snare (160 + n))
  else (s.pair (F.SN_TIME_HI n) (F.SN_TIME_LO n), s.pair (F.SN_WPOS_HI n) (F.SN_WPOS_LO n))

/-- R60: a read of SNn_TIME_LO returns the capture, latches its other words for the reader and marks it read; a capture of the same tick
is not returned and counts as unread. -/
def State.readSnare (s : State) (reader n : Nat) : State :=
  let (t, w) := s.captureOf n
  let s := s.latch reader (F.SN_TIME_HI n).off (hi32 t)
  let s := s.latch reader (F.SN_WPOS_LO n).off (lo32 w)
  let s := s.latch reader (F.SN_WPOS_HI n).off (hi32 w)
  if s.justCaptured n then s else s.setF (F.SN_STATUS_UNREAD n) 0

/-- R60. -/
def execSnareRead (who : Reader) (n : Fin 32) (s : State) : Out :=
  .next ((s.readSnare who.id n.val).reply (lo32 (s.captureOf n.val).1))

end Sys2Proof.Machine
end

