-- ==== Sys2Proof/Machine/Inputs.lean ====
section
/-!
DEFINITION. The sensor inputs (R65–R67, R308, R339, R340): how an incremental input counts and what it checks, how an SSI frame is read, and
how a modulator's bits are filtered.
-/
namespace Sys2Proof.Machine

/-! ## Incremental inputs (R65, R66) -/

/-- One accepted level after one more sample: it changes after FILT + 1 samples at the new level (R65); beside it, the samples that differ
so far. -/
def acceptLevel (filt : Nat) (lev : Bool) (n : Nat) (p : Bool) : Bool × Nat :=
  if p = lev then (lev, 0) else if filt ≤ n then (p, 0) else (lev, n + 1)

/-- The counts of one change of the accepted levels: TYPE 0 quadrature, A leading B counting up; TYPE 1 step on A, up while the direction
level B is low (log entry 47). -/
def countStep (ty : Nat) (a b a' b' : Bool) : Int :=
  if ty = 1 then (if !a && a' then (if b' then -1 else 1) else 0)
  else if a != a' && b != b' then 0
  else if a != a' then (if a' != b then 1 else -1)
  else if b != b' then (if b' == a then 1 else -1)
  else 0

/-- Samples that must lie between two counts: 50 M counts/s with FILT ≤ 2, 37.5 M counts/s with FILT = 3 (R65). -/
def countGap (filt : Nat) : Nat := if filt ≤ 2 then 3 else 4

/-- One MCLK sample of an incremental input, bit 0 A, bit 1 B, bit 2 the index (R65, R66); beside its new state, the quadrature and the
index errors so far. -/
def Inc.step (filt ty ppr : Nat) (inv : Bool) (r : Inc × Nat × Nat) (p : BitVec 3) : Inc × Nat × Nat :=
  let x := r.1
  let (a, na) := acceptLevel filt x.a x.na (p.getLsbD 0)
  let (b, nb) := acceptLevel filt x.b x.nb (p.getLsbD 1)
  let (z, nz) := acceptLevel filt x.z x.nz (p.getLsbD 2)
  let d := countStep ty x.a x.b a b
  let gap := min (x.gap + 1) 8
  let both := decide (ty = 0) && x.a != a && x.b != b
  let fast := decide (d ≠ 0) && decide (gap < countGap filt)
  let count := x.count + (if inv then -d else d)
  let edge := !x.z && z
  let wrong := match x.index with
    | some i => edge && decide (ppr ≠ 0) && decide (1 < ((count - i).natAbs - (ppr : Int)).natAbs)
    | none => false
  ({ a := a, b := b, z := z, na := na, nb := nb, nz := nz, gap := if d = 0 then gap else 0, count := count,
     index := if edge then some count else x.index },
    r.2.1 + b2n (both || fast), r.2.2 + b2n wrong)

/-- The samples of one period, oldest first. -/
def Inc.run (x : Inc) (filt ty ppr : Nat) (inv : Bool) (pins : List (BitVec 3)) : Inc × Nat × Nat :=
  pins.foldl (Inc.step filt ty ppr inv) (x, 0, 0)

/-- Whether a pin stands low on k samples in a row. -/
def lowRun (k : Nat) (l : List Bool) : Bool :=
  (l.foldl (fun (r : Nat × Bool) high => if high then (0, r.2) else (r.1 + 1, r.2 || decide (k ≤ r.1 + 1))) (0, false)).2

/-! ## SSI inputs (R67) -/

/-- A number from its bits, highest first. -/
def ofBits (l : List Bool) : Nat := l.foldl (fun n b => 2 * n + b2n b) 0

/-- Gray-coded bits, highest first, as binary ones; `prev` is the binary bit above. -/
def fromGray (prev : Bool) : List Bool → List Bool
  | [] => []
  | b :: r => (prev != b) :: fromGray (prev != b) r

/-- CRC-6 with polynomial x^6 + x + 1, initial value 0 (log entry 48), over the bits as they are sent. -/
def crc6 (l : List Bool) : Nat :=
  l.foldl (fun c b => if (decide (c / 32 % 2 = 1)) != b then c * 2 % 64 ^^^ 3 else c * 2 % 64) 0

/-- A change of more than a quarter of an SSI range. The range is taken as a line, not as a circle: a change across its end is large
(DESIGN CHOICE, log entry 49). -/
def ssiLeaps (bits : Nat) (was now : Int) : Bool := decide ((2 ^ bits : Nat) < (now - was).natAbs * 4)

/-- The word of an SSI frame, and whether its check bits differ (R67). -/
def ssiWord (bits : Nat) (gray crc : Bool) (frame : List Bool) : Nat × Bool :=
  let data := frame.take bits
  (ofBits (if gray then fromGray false data else data), crc && decide (ofBits ((frame.drop bits).take 6) ≠ crc6 data))

/-! ## Sigma-delta inputs (R339, R340) -/

/-- OSR as it acts (R355): 0 taken as 256, values below 32 as 32. -/
def osrOf (v : Nat) : Nat := if v = 0 then 256 else max 32 v

/-- One modulator clock of a data input; the answer beside it says whether an output completed. The output of OSR clocks is the bits' third
integral over OSR^3, as Q15 of the modulator's full scale. -/
def Sinc.step (osr : Nat) (x : Sinc) (b : Bool) : Sinc × Bool :=
  let i1 := x.i1 + (if b then 1 else -1)
  let i2 := x.i2 + i1
  let i3 := x.i3 + i2
  let same := if b = x.lev then x.same + 1 else 0
  let y : Sinc := { x with i1 := i1, i2 := i2, i3 := i3, lev := b, same := same, stuck := x.stuck || decide (64 ≤ same) }
  if x.n + 1 < osr then ({ y with n := x.n + 1 }, false)
  else
    let c1 := i3 - x.d1
    let c2 := c1 - x.d2
    let c3 := c2 - x.d3
    ({ y with n := 0, d1 := i3, d2 := c1, d3 := c2, out := satS 16 (c3 * 32768 / (osr * osr * osr : Nat)) }, true)

/-- The bits of several clocks, oldest first. -/
def Sinc.run (osr : Nat) (x : Sinc) (bits : List Bool) : Sinc := bits.foldl (fun y b => (y.step osr b).1) x

/-- The filter after a sample of it has been taken. -/
def Sinc.taken (x : Sinc) : Sinc := { x with stuck := false }

/-! ## What an input gives at a latch -/

/-- What an input gives: its count, its quadrature and index errors since the last latch, an SSI frame error, the loss of a drive's
estimate (R80), and the front end it leaves. -/
structure Reading where
  count : Int
  qerrs : Nat
  idxerrs : Nat
  frame : Bool
  lost : Bool
  inc : Inc
deriving DecidableEq, Repr

/-- Whether a reading makes the sample invalid (R68, R80). -/
def Reading.bad (r : Reading) : Bool := decide (r.qerrs ≠ 0) || decide (r.idxerrs ≠ 0) || r.frame || r.lost

/-- The reading of an SSI input whose last word is `last`, once seen; without a frame it gives that word again. -/
def ssiReading (bits : Nat) (gray crc inv seen : Bool) (last : Int) (inc : Inc) (frame : List Bool) : Reading :=
  if frame.isEmpty then ⟨last, 0, 0, false, false, inc⟩
  else
    let (w, bad) := ssiWord bits gray crc frame
    let z : Int := if inv then -(w : Int) else w
    ⟨z, 0, 0, bad || (seen && ssiLeaps bits last z), false, inc⟩

/-- The reading of an incremental input. -/
def Inc.reading (x : Inc) (filt ty ppr : Nat) (inv : Bool) (pins : List (BitVec 3)) : Reading :=
  let (y, q, ix) := x.run filt ty ppr inv pins
  ⟨y.count, q, ix, false, false, y⟩

end Sys2Proof.Machine
end

