-- ==== Sys2Proof/Machine/Web.lean ====
section
/-!
DEFINITION. Web position and gearing (R64–R94): sources, the publish, reversal, coasting, scheduled ratio changes, jumps and their
absorption. The observer period itself stands in Observer.lean.
-/
namespace Sys2Proof.Machine

/-! ## Sources (R64–R69) -/

/-- SCALE of a source, 32.32 web units per count (R64). -/
def State.scale (s : State) (i : Nat) : Nat := s.pair (F.WEB_SRC_SCALE_HI i) (F.WEB_SRC_SCALE_LO i)

/-- A raw count in web units (R64). -/
def State.scaled (s : State) (i : Nat) (count : Int) : Int := count * (s.scale i : Int) / 2 ^ 32

/-- Whether a source takes an input type: 2 only for source 2; source 3 takes 3 and nothing else (R94). -/
def typeTaken (i ty : Nat) : Bool :=
  if i = 3 then decide (ty = 3) else if ty = 3 then false else if ty = 2 then decide (i = 2) else true

/-- Whether the SSI frame and its recovery time fit 6.0 microseconds, counted in half periods of 150 MHz (R67). -/
def ssiFits (bits clkdiv mono : Nat) (crc : Bool) (limit : Nat) : Bool :=
  decide ((bits + (if crc then 6 else 0)) * 2 * (clkdiv + 1) + mono * 15 ≤ limit)

/-- R67, R69, R94: a write of WEB_SRCs_CTL; an enable that breaks R67 or names a type the source does not take is refused. BITS outside
8–48 and CLKDIV below 7, which R67 names as ranges only, are taken (DESIGN CHOICE, log entry 49). -/
def execSourceEnable (n : Fin 4) (v : BitVec 32) (s : State) : Out :=
  let i := n.val
  let w := v.toNat
  let was := s.on (F.WEB_SRC_CTL_EN i)
  let s := s.setFs [(F.WEB_SRC_CTL_DIR i, w / 2 ^ 8), (F.WEB_SRC_CTL_FILT i, w / 2 ^ 6), (F.WEB_SRC_CTL_TYPE i, w / 2 ^ 4),
    (F.WEB_SRC_CTL_INPUT i, w)]
  if bitOf w 9 then
    let ty := s.f (F.WEB_SRC_CTL_TYPE i)
    let fits := ssiFits (s.f (F.WEB_SRC_SSI_BITS i)) (s.f (F.WEB_SRC_SSI_CLKDIV i)) (s.f (F.WEB_SRC_SSI_MONO i))
      (s.on (F.WEB_SRC_SSI_CRC_EN i)) 900
    if typeTaken i ty && (decide (ty ≠ 2) || fits) then
      let s := s.setFs [(F.WEB_SRC_CTL_EN i, 1), (F.WEB_SRC_STATUS_CFG_ERR i, 0)]
      if was then .next s
      else
        let x := s.source i
        .next (s.setSource i { Src.reset with inc := { x.inc with index := none }, valid := x.valid })
    else .next (s.setFs [(F.WEB_SRC_CTL_EN i, 0), (F.WEB_SRC_STATUS_CFG_ERR i, 1)])
  else
    let x := s.source i
    let s := if was && x.retry then s.logRetry 3 EV.WEB_TRANSIENT 0 else s
    .next ((s.setFs [(F.WEB_SRC_CTL_EN i, 0), (F.WEB_SRC_STATUS_QUALIFIED i, 0)]).setSource i { x with retry := false })

/-- WEB_CORR in whole web units (R85). -/
def State.corrUnits (s : State) : Int := s.web.corr / 1024

/-- The position of a source with a raw count, with the mean it carries, without WEB_CORR (R64, R69). -/
def State.srcPos (s : State) (i : Nat) (count : Int) : Int := s.scaled i count + (s.source i).carried

/-- The measured web position for a raw count of the source in use, and the state that keeps its highest value (R72). -/
def State.measured (s : State) (count : Int) : Int × State :=
  match s.web.inUse with
  | some i =>
    if s.on F.WEB_STATUS_COASTING then (s.webPos, s)
    else
      let p := s.srcPos i count + s.corrUnits
      let q := if s.anyArmed then maxI (s.web.high.getD p) p else p
      (q, { s with web := { s.web with high := some q } })
  | none => (s.webPos, s)

/-! ## Gearing (R75–R79) -/

/-- The registers of one scheduled ratio change: a station's or a geared axis's. -/
structure GearRegs where
  ratHi : Field
  ratLo : Field
  nextHi : Field
  nextLo : Field
  atHi : Field
  atLo : Field
  ofsHi : Field
  ofsLo : Field
  pend : Field
  rej : Field
  late : Field
  done : Field

def GearRegs.station (n : Nat) : GearRegs :=
  ⟨F.WEB_ST_RAT_HI n, F.WEB_ST_RAT_LO n, F.WEB_ST_RNEXT_HI n, F.WEB_ST_RNEXT_LO n, F.WEB_ST_RAT_AT_HI n, F.WEB_ST_RAT_AT_LO n,
    F.WEB_ST_OFS_HI n, F.WEB_ST_OFS_LO n, F.WEB_ST_GCTL_RPEND n, F.WEB_ST_STATUS_RAT_REJ n, F.WEB_ST_STATUS_RAT_LATE n,
    F.WEB_ST_STATUS_RAT_DONE n⟩

def GearRegs.axis (a : Nat) : GearRegs :=
  ⟨F.AXS_A_RAT_HI a, F.AXS_A_RAT_LO a, F.AXS_A_RNEXT_HI a, F.AXS_A_RNEXT_LO a, F.AXS_A_RAT_AT_HI a, F.AXS_A_RAT_AT_LO a,
    F.AXS_A_GOFS_HI a, F.AXS_A_GOFS_LO a, F.AXS_A_GCTL_RPEND a, F.AXS_A_GSTAT_RAT_REJ a, F.AXS_A_GSTAT_RAT_LATE a,
    F.AXS_A_GSTAT_RAT_DONE a⟩

def gearRegs : Geared → GearRegs
  | .station n => .station n.val
  | .axis a => .axis a.val

/-- Where the hidden gear state of a geared unit stands: stations 0–7, axes from 32. -/
def gearKey : Geared → Nat
  | .station n => n.val
  | .axis a => 32 + a.val

/-- The bias of a geared unit: WEB_STn_LBIAS, or the axis's own bias (R75, R320). -/
def State.biasOf (s : State) : Geared → Int
  | .station n => s.lbias n.val
  | .axis a => (s.gearOf (32 + a.val)).bias

def State.setBias (s : State) (g : Geared) (z : Int) : State :=
  match g with
  | .station n => s.setLbias n.val z
  | .axis a => s.setGear (32 + a.val) { s.gearOf (32 + a.val) with bias := wrap48 z }

/-- The outcomes of R78 as EV_AXS_GEAR names them (R320): the spec gives no code, so an axis's outcome is a free value. -/
def State.raiseGear (s : State) (g : Geared) (e : Nat) : State :=
  match g with
  | .station _ => s.raiseX e
  | .axis _ => s.raiseX EV.AXS_GEAR

/-- R77: a new ratio takes effect at web position w; the bias keeps the line position at w. -/
def State.newRatio (s : State) (g : Geared) (w : Int) (ratio : Nat) : State :=
  let r := gearRegs g
  let sw := w - s.pairS r.ofsHi r.ofsLo
  let b := s.biasOf g + lineProduct sw (s.pair r.ratHi r.ratLo) - lineProduct sw ratio
  (s.setBias g b).setPair r.ratHi r.ratLo ratio

/-- The scheduled change, as RPEND took it, takes effect at w (R78): RPEND clears, RAT_DONE is set and EV_GEAR_APPLIED raised. -/
def State.applyScheduled (s : State) (g : Geared) (w : Int) : State :=
  let r := gearRegs g
  let s := s.newRatio g w (s.gearOf (gearKey g)).next
  let s := (s.setFs [(r.pend, 0), (r.done, 1)]).tally 0x06B 1
  let s := s.setGear (gearKey g) { s.gearOf (gearKey g) with late := false, doneAt := some (w - s.pairS r.ofsHi r.ofsLo) }
  s.raiseGear g EV.GEAR_APPLIED

/-- Whether the unit is in use, so that the 1 % limit of R78 holds: an armed station, an enabled axis. -/
def State.gearLimited (s : State) : Geared → Bool
  | .station n => s.armed n.val
  | .axis a => s.on (F.AXS_A_CTL_EN a.val)

/-- Whether a ratio lies within 1 % of the ratio in use (R78). -/
def ratioNear (r r' : Nat) : Bool := decide (((r : Int) - r').natAbs * 100 ≤ r)

/-- The pending change of a geared unit is RNEXT at RAT_AT as they stand now (R78). -/
def State.holdChange (s : State) (g : Geared) (late : Bool) : State :=
  let r := gearRegs g
  s.setGear (gearKey g) { s.gearOf (gearKey g) with next := s.pair r.nextHi r.nextLo, at_ := s.pairS r.atHi r.atLo, late := late }

/-- R78: RPEND schedules RNEXT at RAT_AT, refuses a step above 1 %, or marks the change late. -/
def execRatioSchedule (g : Geared) (s : State) : Out :=
  let r := gearRegs g
  let new := s.pair r.nextHi r.nextLo
  if s.gearLimited g && !ratioNear (s.pair r.ratHi r.ratLo) new then
    .next (((s.setFs [(r.pend, 0), (r.rej, 1)]).setGear (gearKey g) { s.gearOf (gearKey g) with late := false }).raiseGear g EV.GEAR_REJECT)
  else
    let s := s.setF r.pend 1
    if s.pairS r.atHi r.atLo ≤ s.webPos then .next (((s.setF r.late 1).holdChange g true).raiseGear g EV.GEAR_LATE)
    else .next (s.holdChange g false)

/-- R78: RCANCEL drops the pending change. -/
def execRatioCancel (g : Geared) (s : State) : Out :=
  .next ((s.setF (gearRegs g).pend 0).setGear (gearKey g) { s.gearOf (gearKey g) with late := false })

/-- Bisection for the first tick after lo, up to hi, at which the kept web position reaches a target. -/
def firstTick (w : Web) (target : Int) : Nat → Nat → Nat → Nat
  | 0, _, hi => hi
  | k + 1, lo, hi =>
    if lo + 1 < hi then
      let mid := (lo + hi) / 2
      if target ≤ w.posAt mid then firstTick w target k lo mid else firstTick w target k mid hi
    else hi

/-- The tick, now or later, at which the extrapolated web position reaches a target; none where it stays below for 2^40 ticks. -/
def State.tickAtPos (s : State) (target : Int) : Option Nat :=
  if target ≤ s.webPos then some s.time
  else if s.web.posAt (s.time + 2 ^ 40) < target then none
  else some (firstTick s.web target 41 s.time (s.time + 2 ^ 40))

/-- R77, R78: the extrapolated web position reaches RAT_AT and the scheduled ratio takes effect there. -/
def execGearApplied (g : Geared) (s : State) : Out :=
  let w := (s.gearOf (gearKey g)).at_
  if s.on (gearRegs g).pend && !(s.gearOf (gearKey g)).late then
    match s.tickAtPos w with
    | some t => .next ((s.advanceTo t).applyScheduled g w)
    | none => .next s
  else .next s

/-- Late changes take effect at a publish (R78), at the present web position. -/
def State.applyLate (s : State) : State :=
  let go (g : Geared) (s : State) : State :=
    if (s.gearOf (gearKey g)).late && s.on (gearRegs g).pend then s.applyScheduled g s.webPos else s
  let s := (List.finRange 8).foldl (fun s n => go (.station n) s) s
  (List.finRange 24).foldl (fun s a => go (.axis a) s) s

/-! ## Jumps (R85, R86) -/

/-- Whether |J| times a ratio is larger than a threshold in 1/256 line (R86). -/
def jumpLarge (j : Int) (ratio thresh : Nat) : Bool := decide (thresh * 2 ^ 32 < j.natAbs * ratio * 256)

/-- A station's answer to a jump (R86): it follows the absorption, or holds. -/
def jumpAt (j : Int) (n : Nat) (s : State) : State :=
  if s.armed n then
    if s.on (F.WEB_ST_STATUS_HOLDING n) || jumpLarge j (s.ratio n) (s.f F.WEB_REPHASE_THRESH) then
      (s.setFs [(F.WEB_ST_STATUS_HOLDING n, 1), (F.WEB_ST_STATUS_ABSORB n, 0)]).degrade n
    else s.setB (F.WEB_ST_STATUS_ABSORB n) (decide (j ≠ 0))
  else s

/-- Whether an axis follows the web: enabled and in gear (R312, R320). AXS_An_STATUS.STATE is 4 in gear. -/
def State.axisGeared (s : State) (a : Nat) : Bool := s.on (F.AXS_A_CTL_EN a) && decide (s.f (F.AXS_A_STATUS_STATE a) = 4)

/-- The slew exponent of an axis (R312): 4 to 10, else 6. -/
def State.axSlew (s : State) (a : Nat) : Nat :=
  let k := s.f (F.AXS_A_REPH_SLEW_SH a)
  if 4 ≤ k ∧ k ≤ 10 then k else 6

/-- Whether axis a absorbs: a jump of its own (R312), or in gear what the web's correction still holds for it (R86, R312). -/
def State.axAbsorbs (s : State) (a : Nat) : Bool :=
  let x := s.axis a
  (decide (x.corr ≠ 0) && !x.hold) || (s.axisGeared a && !s.on (F.AXS_A_GSTAT_HOLDING a) && decide (s.web.corr + x.rel ≠ 0))

def State.showAbsorb (s : State) (a : Nat) : State := s.setB (F.AXS_A_GSTAT_ABSORB a) (s.axAbsorbs a)

/-- A geared axis's answer to a jump (R86, R87, R312): the drum axis of an armed station holds one larger than its THRESH in counts,
any other axis follows the absorption. -/
def axisJump (j : Int) (a : Nat) (s : State) : State :=
  if s.axisGeared a then
    if s.on (F.AXS_A_GSTAT_HOLDING a) || ((s.drumOf a).isSome
        && jumpLarge j (s.pair (F.AXS_A_RAT_HI a) (F.AXS_A_RAT_LO a)) (s.f (F.AXS_A_REPH_THRESH a) * 256)) then
      (s.setF (F.AXS_A_GSTAT_HOLDING a) 1).showAbsorb a
    else s.showAbsorb a
  else s

/-- Set WEB_CORR, its register and ABSORBING (R85). -/
def State.setCorr (s : State) (c : Int) : State :=
  let s := { s with web := { s.web with corr := c } }
  (s.setF F.WEB_CORR (ux 32 (c / 1024))).setB F.WEB_STATUS_ABSORBING (decide (c ≠ 0))

/-- EV_WEB_PHASE_JUMP with J in its cause field, and the stations' and axes' answers (R85, R86). -/
def State.jump (s : State) (j : Int) : State :=
  let s := forBelow 8 (jumpAt j) s
  let s := forBelow 24 (axisJump j) s
  s.raiseF EV.WEB_PHASE_JUMP (ux 32 j)

/-- The part d of J, in 2^-10 web units, that one period absorbed is added back into the line bias of a holding station (R86). -/
def addBack (d : Int) (n : Nat) (s : State) : State :=
  if s.on (F.WEB_ST_STATUS_HOLDING n) then
    let z := d * (s.ratio n : Int) / 2 ^ 26
    let s := s.setLbias n (s.lbias n + z)
    s.setF (F.WEB_ST_HOLD n) (ux 32 (s.fs (F.WEB_ST_HOLD n) + z))
  else s

/-- Part of a correction c, in 2^-10 web units, that a period with some travel absorbs: at most 1/2^k of the travel (R85). -/
def slewPart (travel : Int) (k : Nat) (c : Int) : Int :=
  let step : Int := if 0 < travel then travel * 2 ^ (10 - k) else 0
  clampI (-step) step c

/-- Geared axis a in a period in which the web absorbed d (R86, R87, R312): an axis that holds gets it back into its bias; another absorbs the
web's correction at the slew of its own REPH, and its bias takes the difference. -/
def axisAbsorb (d travel : Int) (a : Nat) (s : State) : State :=
  if s.axisGeared a then
    let x := s.axis a
    let part (z : Int) : Int := z * (s.pair (F.AXS_A_RAT_HI a) (F.AXS_A_RAT_LO a) : Int) / 2 ^ 26
    let move (z : Int) : State := s.setBias (.axis (Fin.ofNat 24 a)) ((s.gearOf (32 + a)).bias + z)
    if s.on (F.AXS_A_GSTAT_HOLDING a) then ((move (part d)).setAxis a { x with held := x.held + part d }).showHold a
    else
      let e := slewPart travel (s.axSlew a) (s.web.corr + d + x.rel)
      if d = e then s.showAbsorb a else ((move (part (d - e))).setAxis a { x with rel := x.rel + d - e }).showAbsorb a
  else s

/-- The absorption of one observer period (R85, R312). -/
def State.absorb (s : State) (travel : Int) : State :=
  let sh := s.f F.WEB_REPHASE_SLEW_SH
  let c := s.web.corr
  let d := slewPart travel (if 4 ≤ sh ∧ sh ≤ 10 then sh else 6) c
  let s := if c = 0 then s
    else
      let s := forBelow 8 (addBack d) ((s.setCorr (c - d)).tally 0x06A 1)
      if c = d then forBelow 8 (fun n s => s.setF (F.WEB_ST_STATUS_ABSORB n) 0) s else s
  forBelow 24 (axisAbsorb d travel) s

/-! ## Frames that fire while the observer coasts, runs sensorless or absorbs (R82, R86) -/

/-- Mark the frames of station n that satisfy a test DEGRADED. -/
def State.degradeWhere (s : State) (n : Nat) (p : Frame → Bool) : State :=
  let x := s.station n
  s.setStation n { x with frames := x.frames.map fun (y : Frame) => if p y then { y with degraded := true } else y }

/-- Whether a frame fires a line in the ticks from lo to hi. -/
def Frame.fires (x : Frame) (lo hi : Nat) : Bool := decide (x.tFirst ≠ 0) && decide (x.tFirst ≤ hi) && decide (lo ≤ x.lastFire)

/-- Marks for the ticks from t to now, by what stands now: frames that fire a line while COASTING or on source 3, at every armed station
(R82); frames that fire one in an absorption (R86); frames begun before the boundary that ends a hold (R86). -/
def State.marksSince (s : State) (t : Nat) : State :=
  let all := s.on F.WEB_STATUS_COASTING || decide (s.web.inUse = some 3)
  forBelow 8 (fun n s =>
    if s.armed n then
      let s := if all || s.on (F.WEB_ST_STATUS_ABSORB n) then s.degradeWhere n fun y => y.fires t s.time else s
      if s.on (F.WEB_ST_STATUS_HOLDING n) then s.degradeWhere n Frame.inProgress else s
    else s) s

/-! ## Coasting, publish, reversal (R70–R74, R80–R84) -/

/-- COASTING set from a tick (R82, R83). -/
def State.coastFrom (s : State) (t : Nat) : State :=
  if s.web.coastSince.isSome then s.setF F.WEB_STATUS_COASTING 1
  else
    let s := s.setF F.WEB_STATUS_COASTING 1
    { s with web := { s.web with coastSince := some t, expired := false } }

/-- Coasting ends (R82). -/
def State.coastEnd (s : State) : State :=
  let s := s.setF F.WEB_STATUS_COASTING 0
  { s with web := { s.web with coastSince := none, expired := false } }

/-- The published registers (R70). -/
def State.pubRegs (s : State) (p : Pub) : State :=
  ((s.setPairS F.WEB_POS_HI F.WEB_POS_LO p.p0).setFs [(F.WEB_VEL, ux 32 p.v), (F.WEB_ACC, ux 32 p.a)]).setPair
    F.WEB_OBS_T_HI F.WEB_OBS_T_LO p.t0

/-- The WEB block takes a publish (R70, R74): after STALE it clears STALE and COASTING and is a return whose jump is J = p(T0) - P0. The
first publish of all has no p to continue and forms no jump (DESIGN CHOICE, log entry 50). -/
def State.publish (s : State) (p0 v a : Int) (t0 : Nat) : State :=
  let stale := s.on F.WEB_STATUS_STALE
  let back := stale && s.web.published
  let j := if back then s.web.posAt t0 - p0 else 0
  let s := if stale then s.marksSince s.web.period else s
  let pub : Pub := ⟨p0 + j, v, a, t0⟩
  let s := if stale then (s.setCorr (s.web.corr + j * 1024)).setF F.WEB_STATUS_STALE 0 else s
  let s := if stale then s.coastEnd else s
  let s := { s with web := { s.web.rebase s.time s.anyArmed (s.on F.WEB_STATUS_REVERSE) pub with published := true, lastPub := s.time } }
  let s := s.pubRegs pub
  let s := { s with gong := { s.gong with
    zeroSince := if v = 0 then some (s.gong.zeroSince.getD s.time) else none } }
  let s := if back then s.jump j else s
  s.applyLate

/-- R70, R74, R78: an EMIT to the PUBLISH port. -/
def execObserverPublish (p : BitVec 64) (v a : BitVec 32) (t : BitVec 64) (s : State) : Out :=
  .next (s.publish p.toInt v.toInt a.toInt t.toNat)

/-- R73: the source in use reports backward motion at a raw count while a station is armed. -/
def execWebReverse (count : BitVec 64) (s : State) : Out :=
  match s.web.inUse with
  | some i =>
    let p := s.srcPos i count.toInt + s.corrUnits
    let high := s.web.high.getD p
    if s.anyArmed ∧ p < high then
      let was := s.on F.WEB_STATUS_REVERSE
      let s := s.setF F.WEB_STATUS_REVERSE 1
      let s := if was then s else s.rebaseWeb
      let s := if was then s else s.raiseX EV.WEB_REVERSE
      if (s.f F.WEB_REV_LIMIT_LIMIT : Int) < high - p ∧ s.web.revOver = false then
        .next (({ s with web := { s.web with revOver := true } }.setF F.WEB_STATUS_REV_LIM 1).raiseX EV.WEB_REVERSE_LIMIT)
      else .next s
    else .next s
  | none => .next s

/-- Counting resumes when forward travel has made up all reverse travel, or no station is armed (R73). -/
def State.reverseEnd (s : State) (p : Int) : State :=
  if s.on F.WEB_STATUS_REVERSE ∧ (s.web.high.getD p ≤ p ∨ s.anyArmed = false) then
    ({ s with web := { s.web with revOver := false } }.setF F.WEB_STATUS_REVERSE 0).rebaseWeb
  else s

/-- The start of the first observer period after the last publish (R74). -/
def State.firstMissed (s : State) : Nat :=
  s.web.lastPub + 4000 - (s.web.lastPub + 4000 - s.web.period % 4000) % 4000

/-- R74: 8 observer periods without a publish, of an observer that has never published too. -/
def execObsStale (s : State) : Out :=
  if s.on F.WEB_CTL_OBS_EN ∧ s.on F.WEB_STATUS_STALE = false then
    let s := s.advanceTo (s.web.lastPub + 32000)
    let s := (s.setF F.WEB_STATUS_STALE 1).coastFrom s.firstMissed
    .next (s.raiseX EV.OBS_STALE)
  else .next s

/-- The coast time in ticks (R83). -/
def State.coastTicks (s : State) : Nat := min 1000 (max 1 (s.f F.WEB_COAST_COAST_MS)) * 600000

/-- R83: coasting has lasted COAST_MS. -/
def execCoastExpired (s : State) : Out :=
  match s.web.coastSince with
  | some t =>
    if s.on F.WEB_STATUS_COASTING ∧ s.web.expired = false then
      let s := s.advanceTo (t + s.coastTicks)
      .next (({ s with web := { s.web with expired := true } }.setF F.WEB_STATUS_COAST_EXP 1).raiseX EV.WEB_COAST_EXPIRED)
    else .next s
  | none => .next s

/-- OBS_EN goes from 0 to 1: the observer periods begin, and with them the wait for a publish (R74). -/
def State.observerOn (s : State) : State := { s with web := { s.web with period := s.time, lastPub := s.time, lastPos := s.webPos } }

/-- R84: WEB_CTL.SWITCH; the next observer period takes MAIN into use where it is qualified, and counts the write otherwise. -/
def execWebSwitch (s : State) : Out := .next { s with web := { s.web with switchReq := true } }

end Sys2Proof.Machine
end

