-- ==== Sys2Proof/Machine/Frames.lean ====
section
/-!
DEFINITION. Device memory errors and page retirement, BAR2, frame queues, the placing of frames and the feed engines (R95–R116).
-/
namespace Sys2Proof.Machine

/-! ## Errors of device memory (R98–R101) -/

/-- A memory event: with the station that reads as its cause, or with a cause that the spec does not state (R125, R377). -/
def State.raiseMem (s : State) (e : Nat) (st : Option Nat) : State :=
  match st with
  | some n => s.raiseAt e n none (if e = EV.MEM_UNCORR then .own else .stations [n])
  | none => s.raiseU e none (if e = EV.MEM_UNCORR then .stations [] else .byEvent)

/-- R99, R101: the page that holds a failing block is taken for retirement, or left in place where no spare is free. -/
def State.retirePage (s : State) (p : Nat) (st : Option Nat) : State :=
  if s.mem.queue.any fun x => decide (x.1 = p) then s
  else
    let free := s.f F.FEED_MEM_SPARE_FREE
    let pages := s.f F.FEED_MEM_SPARE_PAGES
    if free = 0 then (s.setF F.FEED_MEM_STATUS_POOL_EMPTY 1).raiseMem EV.MEM_POOL_EMPTY st
    else
      let s := { s with mem := { s.mem with queue := s.mem.queue ++ [(p, st)] } }
      let s := s.setFs [(F.FEED_MEM_SPARE_FREE, free - 1), (F.FEED_MEM_STATUS_RETIRING, 1)]
      if (free - 1) * 8 ≤ pages ∧ pages < free * 8 then (s.setF F.FEED_MEM_STATUS_POOL_LOW 1).raiseMem EV.MEM_POOL_LOW st else s

/-- What the check code of a read starting at an address finds (R98), with the station that reads, if one does. -/
def State.ecc (s : State) (a : Nat) (x : Ecc) (st : Option Nat) : State :=
  let block (o : BitVec 32) : Nat := (a + o.toNat) / 64
  let at_ (s : State) (o : BitVec 32) : State := s.setPair F.FEED_MEM_ERR_HI F.FEED_MEM_ERR_LO (block o * 64)
  match x with
  | .clean => s
  | .transient o =>
    let s := (((at_ s o).addF F.FEED_MEM_TRANS 1).setF F.FEED_MEM_STATUS_ECC_T 1).tally 0x090 1
    (s.logRetry 1 EV.MEM_ECC_TRANSIENT 0).raiseMem EV.MEM_ECC_TRANSIENT st
  | .corrected o => ((at_ s o).logRetry 2 EV.MEM_ECC_TRANSIENT 0).retirePage (block o / 64) st
  | .uncorrectable o =>
    let s := ((at_ s o).setF F.FEED_MEM_STATUS_UNCORR 1).tally 0x092 1
    let s := { s with mem := { s.mem with poison := if s.mem.poison.contains (block o) then s.mem.poison else block o :: s.mem.poison } }
    ((s.logRetry 2 EV.MEM_ECC_TRANSIENT 0).raiseMem EV.MEM_UNCORR st).retirePage (block o / 64) st

/-- R99, R125: the copy of the page being retired completes, and the next queued retirement starts. -/
def execPageCopyDone (s : State) : Out :=
  match s.mem.queue with
  | (p, st) :: r =>
    let s := { s with mem := { s.mem with
      queue := r, retired := if s.mem.retired.contains p then s.mem.retired else p :: s.mem.retired } }
    let s := s.setFs [(F.FEED_MEM_STATUS_RETIRED, 1), (F.FEED_MEM_STATUS_RETIRING, b2n !r.isEmpty)]
    .next (((s.addF F.FEED_MEM_RETIRED 1).tally 0x091 1).raiseMem EV.MEM_PAGE_RETIRED st)
  | [] => .next s

/-! ## BAR2 (R31, R96, R115, R405) -/

/-- The offset in the PEEK window of a BAR2 address, where the window is active and holds it (R115). -/
def State.peekOff (s : State) (a : Nat) : Option Nat :=
  let b := 2 ^ 23 * s.f F.FEED_PEEK_WBASE
  if s.on F.FEED_PEEK_EN && decide (b ≤ a) && decide (a < b + 2 ^ 23) then some (a - b) else none

/-- The byte at an offset of the PEEK window (R24, R115). -/
def State.peekByte (s : State) (o : Nat) : Byte :=
  let n := s.f F.FEED_PEEK_STATION
  if o < 3276800 then tget 0 s.lst (0x320000 * n + o)
  else if 0x400000 ≤ o ∧ o < 0x400000 + 1835008 ∧ n < 4 then tget 0 s.scan (0x1C0000 * n + o - 0x400000)
  else 0

/-- The byte of a BAR2 read: the window's, zero at or above U, or memory's. -/
def State.bar2Byte (s : State) (a i : Nat) : Byte :=
  match s.peekOff (a + i) with
  | some o => s.peekByte o
  | none => if s.usable ≤ a + i then 0 else tget 0 s.mem.bytes (a + i)

/-- An access at or above U (R96). -/
def State.memRange (s : State) : State := (s.setF F.FEED_MEM_STATUS_OOR 1).raiseX EV.MEM_RANGE

/-- Whether some byte of an access lies at or above U outside the PEEK window. -/
def State.outside (s : State) (a n : Nat) : Bool := (upFrom a n).any fun x => (s.peekOff x).isNone && decide (s.usable ≤ x)

/-- R96, R98, R115: a host read through BAR2; out of service it returns zeros (R405, R411). -/
def execBar2Read (a : BitVec 36) (n : BitVec 12) (ecc : Ecc) (s : State) : Out :=
  let k := n.toNat
  if s.d3hot then .next s
  else if s.inService = false then .next { s with answer := .bytes (List.replicate k 0) false }
  else
    let out := s.outside a.toNat k
    let s := if out then s.memRange else s
    let s := s.ecc a.toNat ecc none
    let bs := (upFrom 0 k).map (s.bar2Byte a.toNat)
    let bad := (upFrom a.toNat k).any fun x => (s.peekOff x).isNone && decide (x < s.usable) && s.poisoned x 1
    .next { s with answer := .bytes bs bad }

/-- Write the bytes block by block, dropping those in the PEEK window and those at or above U. -/
def bar2Go (s : State) (a : Nat) (bs : List Byte) : Nat → State
  | 0 => s
  | k + 1 =>
    match bs with
    | [] => s
    | _ =>
      let room := 64 - a % 64
      let s := if (s.peekOff a).isSome || decide (s.usable ≤ a) then s else s.memWriteBlock a (bs.take room)
      bar2Go s (a + room) (bs.drop room) k

/-- R96, R115: a host write through BAR2; dropped out of service (R405, R411). -/
def execBar2Write (a : BitVec 36) (bs : List (BitVec 8)) (s : State) : Out :=
  let k := bs.length
  if s.d3hot || !s.inService then .next s
  else
    let win := (upFrom a.toNat k).any fun x => (s.peekOff x).isSome
    let out := s.outside a.toNat k
    let s := bar2Go s a.toNat bs (k / 64 + 2)
    let s := if win then s.flam F.FEED_FLAM_COUNT 1 else s
    let s := if out then s.memRange else s
    .next (s.tallyUnits 0x093 k 64)

/-! ## Frame queues (R106–R110) -/

/-- Occupancy of queue n (R108). -/
def State.occupancy (s : State) (n : Nat) : Nat := (s.f (F.FEED_Q_TAIL n) + 65536 - s.f (F.FEED_Q_HEAD n)) % 65536

/-- A write of FQn_TAIL by whichever window (R108). -/
def State.ringTail (s : State) (n tail : Nat) : State :=
  let new := (tail + 65536 - s.f (F.FEED_Q_HEAD n)) % 65536
  if 2 ^ s.f (F.FEED_Q_CTL_LOG2SIZE n) - 1 < new ∨ new < s.occupancy n then
    (s.setF (F.FEED_Q_STATUS_OVERFLOW n) 1).raise EV.FQ_OVERFLOW n
  else
    let s := s.setF (F.FEED_Q_TAIL n) tail
    if s.occupancy n = 0 then s else s.setF (F.FEED_Q_STATUS_EMPTY n) 0

/-- R108. -/
def execFqTailWrite (n : Fin 8) (tail : BitVec 16) (s : State) : Out := .next (s.ringTail n.val tail.toNat)

/-- Station resolution: 0 is 600 dpi, 1 is 1,200 dpi. -/
def State.resOf (s : State) (n : Nat) : Nat := s.f (F.SCR_CFG_RES n)

/-- Station lines of a number of raster lines (R107, R131): doubled, equal, or halved and rounded up. -/
def stationLines (stRes res rl : Nat) : Nat := if stRes = 1 ∧ res = 0 then rl * 2 else if stRes = 0 ∧ res = 1 then (rl + 1) / 2 else rl

/-- Nozzles that one sample serves (R131); the check of R107 refuses a raster finer than the station. -/
def upscale (stRes res : Nat) : Nat := if stRes = 1 ∧ res = 0 then 2 else 1

/-- The frame that 64 descriptor bytes name (R106), not yet placed. -/
def frameOfBytes (bs : List Byte) (index stRes : Nat) : Frame :=
  let w (o n : Nat) : Nat := ofLE ((bs.drop o).take n)
  let c := w 0x14 4
  let rl := w 0x1C 4
  let res := bitsOf c 18 18
  { index := index, num := w 0 4, job := w 4 4, plane := w 8 8, stride := w 0x10 4, width := bitsOf c 15 0, form := bitsOf c 17 16,
    res := res, x0 := w 0x18 2, rlines := rl, len := w 0x20 4, gap := w 0x24 4,
    anchor := if bitOf c 19 then some (sx 32 (w 0x28 4)) else none, lines := stationLines stRes res rl, start := none, prior := none, prov := none,
    bare := none, entered := false, reached := false, held := 0, begun := false, cut := none, state := 0, reason := 0, emitted := 0, missed := 0,
    degraded := false, descErr := false, yrlErr := false, underErr := false, tFirst := 0, tLast := 0, lastFire := 0, dropJ := none, dropK := 0 }

/-- Whether the YRL header of a plane matches its descriptor (R103, R107). -/
def State.yrlHeaderOk (s : State) (x : Frame) : Bool :=
  decide (s.memNat x.plane 4 = 0x314C5259) && decide (s.memNat (x.plane + 4) 2 = 1) && decide (s.memNat (x.plane + 6) 2 = x.res)
    && decide (s.memNat (x.plane + 8) 4 = x.width) && decide (s.memNat (x.plane + 12) 4 = x.rlines)

/-- The check of R107. -/
def State.descOk (s : State) (n : Nat) (x : Frame) : Bool :=
  let sr := s.resOf n
  let line := if x.form = 2 then (x.width + 3) / 4 else x.width
  decide (x.form ≠ 3) && decide (x.width ≠ 0) && decide (x.rlines ≠ 0) && decide (x.res ≤ sr)
    && decide (x.x0 + x.width * upscale sr x.res ≤ s.f (F.SCR_CFG_WIDTH n))
    && (decide (x.form ≠ 2) || (!s.on (F.SCR_CFG_KIND n) && decide (x.res = sr)))
    && decide (x.plane % 64 = 0) && decide (x.plane + x.len ≤ s.usable)
    && (if x.form = 1 then s.yrlHeaderOk x
        else decide (x.stride % 64 = 0) && decide (line ≤ x.stride) && decide (x.stride * x.rlines ≤ x.len))

/-- The station lines a frame occupies (R131). -/
def Frame.extent (x : Frame) : Nat := x.lines + x.gap

/-- Whether a line lies within a frame's extent. -/
def Frame.covers (x : Frame) (l : Int) : Bool :=
  match x.start with
  | some a => decide (a ≤ l) && decide (l < a + x.extent)
  | none => false

/-- Whether a line is one the station needs screened codes for: within the extent, not among the lines of R87, and not blanked. -/
def Frame.wants (x : Frame) (l : Int) : Bool :=
  x.covers l && decide (x.start.getD 0 + x.held ≤ l) && x.bare.isNone && (match x.cut with
    | some c => decide (l < c)
    | none => true)

/-- The youngest frame of a station that covers a line. -/
def State.frameOf (s : State) (n : Nat) (l : Int) : Option Frame := findFirst (fun x => x.covers l) (s.station n).frames.reverse

/-- The first whole line at least the lead floor ahead of the fire point (R110). -/
def State.reach (s : State) (n : Nat) : Int := (s.lpos n + 65535) / 65536 + s.f (F.SCR_LEAD_FLOOR n)

/-- The place of a station's next frame, and whether it is a re-anchoring (R110). -/
def State.place (s : State) (n : Nat) (anchor : Option Int) : Int × Bool :=
  let st := s.station n
  let reach := s.reach n
  match anchor with
  | none =>
    match st.endLine with
    | some e => if st.ranEmpty then (reach, true) else (e, false)
    | none => (reach, true)
  | some a =>
    let c := if a < reach then reach else a
    let c := match st.lastImage with
      | some li => if a ≤ li then maxI c (li + 1) else c
      | none => c
    (c, decide (c ≠ a))

/-- Whether change-set slot q is pending at station n (R240). -/
def State.csOpen (s : State) (q n : Nat) : Bool :=
  decide (s.f (F.CHG_CS_STATE_STATE q) ≠ 0) && bitOf (s.f (F.CHG_CS_STATE_MASK q)) n
    && !bitOf (s.f (F.CHG_CS_DONE_APPLIED q)) n && !bitOf (s.f (F.CHG_CS_DONE_NOTAPP q)) n

def State.csSplice (s : State) (q : Nat) : Int := s.pairS (F.CHG_CS_SPLICE_HI q) (F.CHG_CS_SPLICE_LO q)

/-- The slots that satisfy a test, the lowest splice first (R240). -/
def State.csOrder (s : State) (p : Nat → Bool) : List Nat :=
  let ins (q : Nat) : List Nat → List Nat :=
    let rec go : List Nat → List Nat
      | [] => [q]
      | r :: t => if s.csSplice q < s.csSplice r then q :: r :: t else r :: go t
    go
  ((upFrom 0 4).filter p).foldl (fun l q => ins q l) []

/-- The pending change set of station n that names a job. -/
def State.csForJob (s : State) (n job : Nat) : Option Nat :=
  findFirst (fun q => decide (s.f (F.CHG_CS_JOB q) = job)) (s.csOrder fun q => s.csOpen q n)

/-- The splice line of a slot at station n (R242). -/
def State.spliceLine (s : State) (n q : Nat) : Int := (s.lposAtStation n (s.csSplice q) + 65535) / 65536

/-- Lines from a line on lose what was fetched or screened for them: requests are withdrawn (R114), slots freed, and the next
request starts there. -/
def State.dropFrom (s : State) (n : Nat) (from_ : Int) (p : Option Nat → Bool) : State :=
  let st := s.station n
  let hit (l : Int) (pv : Option Nat) : Bool := decide (from_ ≤ l) && p pv
  let reqs := (st.reqs.filter fun r => r.read || !hit r.lpos r.prov).map fun (r : FeedReq) => if hit r.lpos r.prov then { r with withdrawn := true } else r
  let next := match st.nextLine with
    | some c => if from_ < c then some from_ else some c
    | none => none
  let s := s.setStation n { st with reqs := reqs, nextLine := next }
  forBelow 256 (fun i s =>
    match s.slot n i with
    | some x => if hit x.lpos x.prov then s.setSlot n i none else s
    | none => s) s

/-- Append a frame at a place (R110): lines already fetched for what lay there are dropped (R114). -/
def State.addFrame (s : State) (n : Nat) (x : Frame) (start : Int) (re : Bool) : State :=
  let x := { x with start := some start, prior := (s.station n).lastImage }
  let s := if re then s.setF (F.FEED_Q_STATUS_REANCHOR n) 1 else s
  let s := match (s.station n).nextLine with
    | some c => if start < c then s.dropFrom n start fun _ => true else s
    | none => s
  let st := s.station n
  s.setStation n { st with
    frames := st.frames ++ [x], nextFetch := (x.index + 1) % 65536, endLine := some (start + x.extent),
    lastImage := some (start + x.lines - 1), ranEmpty := false }

/-- A frame taken from the ring: placed, checked, and provisional, ordinary or bare (R107, R109, R110, R244, R245). -/
def State.takeFrame (s : State) (n : Nat) (x : Frame) (cs : Option Nat) : State :=
  let st := s.station n
  let (p, re) := s.place n x.anchor
  let behind := decide (st.unscreened = some x.job)
  let prov := match cs with
    | some q => if behind && decide (p < s.spliceLine n q) then none else some (s.f (F.CHG_CS_STATE_EPOCH q), q)
    | none => none
  let ok := x.bare.isSome || s.descOk n x
  match prov with
  | some (e, q) =>
    let first := !(st.frames.any fun y => decide (y.prov = some e))
    let x := { x with prov := some e, bare := if ok then x.bare else some Reason.DESC_ERR, descErr := !ok }
    if first then s.addFrame n x (s.spliceLine n q) false else s.addFrame n x p re
  | none =>
    if x.bare.isSome then s.addFrame n x p re
    else if behind then s.addFrame n { x with bare := some Reason.BANK_NOT_READY, state := 3, reason := Reason.BANK_NOT_READY } p re
    else if ok then s.addFrame n x p re
    else
      let s := s.addFrame n { x with bare := some Reason.DESC_ERR, reason := Reason.DESC_ERR } p re
      (s.setF (F.FEED_Q_STATUS_DESC_ERR n) 1).raiseOwn EV.FRAME_DESC_ERR n

/-- The device address of ring entry i of queue n (R108). -/
def State.ringEntry (s : State) (n i : Nat) : Nat :=
  s.addr (F.FEED_Q_BASE_HI n) (F.FEED_Q_BASE_LO n) + i % 2 ^ s.f (F.FEED_Q_CTL_LOG2SIZE n) * 64

/-- R98: a frame whose descriptor was read poisoned is blank from its start, SPOILED with reason MEM_UNCORR; the device takes the fields as the
read gives them (log entry 57). -/
def Frame.spoiltBy (x : Frame) (poisoned : Bool) : Frame :=
  if poisoned then { x with bare := some Reason.MEM_UNCORR, state := 3, reason := Reason.MEM_UNCORR } else x

/-- R107–R110: the next descriptor is fetched, checked and placed, or waits for a change set that names its job. -/
def execDescFetch (n : Fin 8) (ecc : Ecc) (s : State) : Out :=
  let k := n.val
  let st := s.station k
  if s.on (F.FEED_Q_CTL_EN k) ∧ st.isArmed ∧ st.nextFetch ≠ s.f (F.FEED_Q_TAIL k) then
    let a := s.ringEntry k st.nextFetch
    let s := s.ecc a ecc (some k)
    let x := frameOfBytes (s.memRead a 64) st.nextFetch (s.resOf k)
    let x := x.spoiltBy (s.poisoned a 64 || (decide (x.form = 1) && s.poisoned x.plane 32))
    let cs := s.csForJob k x.job
    if x.job = s.f (F.CHG_S_JOB k) ∨ cs.isSome ∨ st.unscreened = some x.job then
      let s := s.setFs [(F.FEED_Q_STATUS_JOBWAIT k, 0), (F.FEED_Q_CUR_FRAME k, x.num), (F.FEED_Q_CUR_JOB k, x.job)]
      .next (s.takeFrame k x (if x.job = s.f (F.CHG_S_JOB k) then none else cs))
    else if s.on (F.FEED_Q_STATUS_JOBWAIT k) then .next s
    else .next ((s.setF (F.FEED_Q_STATUS_JOBWAIT k) 1).raise EV.FQ_JOBWAIT k)
  else .next s

/-! ## Lead (R141) -/

/-- Record the lead: LEADNOW.MIN, and LEAD_LOW with EV_LEAD_LOW once until the lead is back at TARGET (R141). -/
def State.noteLead (s : State) (n : Nat) : State :=
  let l := s.lead n
  let s := s.setF (F.SCR_LEADNOW_MIN n) (min (s.f (F.SCR_LEADNOW_MIN n)) l)
  let st := s.station n
  if st.isArmed ∧ l < s.f (F.SCR_LEAD_FLOOR n) ∧ st.leadLow = false then
    ((s.setStation n { st with leadLow := true }).setF (F.SCR_STATUS_LEAD_LOW n) 1).raise EV.LEAD_LOW n
  else if s.f (F.SCR_LEAD_TARGET n) ≤ l then s.setStation n { st with leadLow := false }
  else s

/-- R140. -/
def execLeadWrite (n : Fin 8) (floor target : BitVec 9) (s : State) : Out :=
  if 16 ≤ floor.toNat ∧ floor.toNat ≤ target.toNat ∧ target.toNat ≤ 256 then
    .next (s.setFs [(F.SCR_LEAD_FLOOR n.val, floor.toNat), (F.SCR_LEAD_TARGET n.val, target.toNat)])
  else .next (s.setF (F.SCR_STATUS_LEAD_CFG_REJ n.val) 1)

/-- The answer of SCRn_LEADNOW, and MIN set to the present lead (R141). -/
def State.readLeadnow (s : State) (n : Nat) : Nat × State :=
  let l := s.lead n
  (l + min (s.f (F.SCR_LEADNOW_MIN n)) l * 65536, s.setF (F.SCR_LEADNOW_MIN n) l)

/-- R141. -/
def execLeadnowRead (n : Fin 8) (s : State) : Out :=
  let (w, s) := s.readLeadnow n.val
  .next (s.reply w)

/-! ## Feed engines (R112–R114) -/

/-- The next line that station n's feed engine must fetch: the first wanted one from its pointer on, ahead of the line position. -/
def State.nextRequest (s : State) (n : Nat) : Option Int :=
  let st := s.station n
  let low := s.lineNow n + 1
  let c := match st.nextLine with
    | some c => maxI c low
    | none => low
  let wanted (l : Int) : Bool := match s.frameOf n l with
    | some x => x.wants l
    | none => false
  if wanted c then some c
  else
    let starts := st.frames.filterMap fun x => match x.start with
      | some a => if c < a && wanted a then some a else none
      | none => none
    match starts with
    | [] => none
    | a :: r => some (r.foldl (fun m b => if b < m then b else m) a)

/-- The largest row offset of a station's enabled heads (R157), among the first k. -/
def State.maxRow (s : State) (n : Nat) : Nat → Nat
  | 0 => 0
  | k + 1 => max (s.maxRow n k) (if s.on (F.INK_S_HD_MAP_EN n k) then s.f (F.INK_S_HD_CFG_ROWOFS n k) else 0)

/-- How far the line position must pass a line before its slot is reused (R157). -/
def State.rowKeep (s : State) (n : Nat) : Nat := if s.on (F.SCR_CFG_KIND n) then 0 else s.maxRow n 48 + 1

/-- Whether slot l mod 256 may take line l: no request holds it and its line has passed (R157) or is void. -/
def State.slotFree (s : State) (n : Nat) (l : Int) : Bool :=
  let i := (l % 256).toNat
  (match s.slot n i with
    | some x => decide (x.phase = .void) || decide (x.lpos + s.rowKeep n ≤ s.lineNow n)
    | none => true) && (s.station n).reqs.all fun r => decide ((r.lpos % 256).toNat ≠ i)

/-- Whether station n has a request waiting for its first read. -/
def State.waiting (s : State) (n : Nat) : Bool := (s.station n).reqs.any fun r => !r.read && !r.withdrawn

/-- The station whose request is served next (R112): the lowest lead among those below their floor, else in turn. -/
def State.nextServed (s : State) : Option Nat :=
  let urgent := (upFrom 0 8).filter fun n => s.waiting n && decide (s.lead n < s.f (F.SCR_LEAD_FLOOR n))
  match urgent with
  | n :: r => some (r.foldl (fun m k => if s.lead k < s.lead m then k else m) n)
  | [] => findFirst s.waiting ((upFrom 1 8).map fun i => (s.feedTurn + i) % 8)

/-- Mark the oldest waiting request read. -/
def readFirst : List FeedReq → List FeedReq
  | [] => []
  | r :: t => if r.read || r.withdrawn then r :: readFirst t else { r with read := true } :: t

/-- Serve the next request when none is being served (R112). -/
def State.serve (s : State) : State :=
  if (upFrom 0 8).any fun n => (s.station n).reqs.any fun r => r.read then s
  else match s.nextServed with
    | some n =>
      let st := s.station n
      { s.setStation n { st with reqs := readFirst st.reqs } with feedTurn := n }
    | none => s

/-- R112, R141: station n's feed engine issues a line-slot request. -/
def execFeedRequest (n : Fin 8) (s : State) : Out :=
  let k := n.val
  let s := s.noteLead k
  let st := s.station k
  if st.isArmed ∧ s.on (F.FEED_Q_CTL_EN k) ∧ s.lead k < s.f (F.SCR_LEAD_TARGET k) then
    match s.nextRequest k with
    | some l =>
      if l ≤ s.lineNow k + 256 ∧ s.slotFree k l then
        let prov := match s.frameOf k l with
          | some x => x.prov
          | none => none
        .next (s.setStation k { st with reqs := st.reqs ++ [⟨l, false, false, prov⟩], nextLine := some (l + 1) }).serve
      else .next s
    | none => .next s
  else .next s

/-- Index of the raster line that serves station line l of a frame (R131). -/
def Frame.rasterLine (x : Frame) (stRes : Nat) (l : Int) : Nat :=
  match x.start with
  | some a => (l - a).toNat / upscale stRes x.res
  | none => 0

/-- Bytes of a raster line of FORM 0 or 2. -/
def Frame.rasterBytes (x : Frame) : Nat := if x.form = 2 then (x.width + 3) / 4 else x.width

/-! ## Decoding (R102–R105) -/

/-- The samples of a YRL record from an address (R104): none where the line is in error (R105). The fuel bounds the runs. -/
def State.yrlRuns (s : State) (end_ : Nat) : Nat → Nat → Nat → Option (List Nat)
  | 0, _, _ => none
  | k + 1, a, w =>
    if w = 0 then some []
    else if end_ ≤ a then none
    else
      let b := s.memNat a 1
      if b < 0x80 then
        if w < b + 1 ∨ end_ < a + 2 + b then none
        else (s.yrlRuns end_ k (a + 2 + b) (w - (b + 1))).map fun r => ((s.memRead (a + 1) (b + 1)).map (·.toNat)) ++ r
      else if b < 0xFF then
        let c := b - 0x7E
        if w < c ∨ end_ < a + 2 then none
        else (s.yrlRuns end_ k (a + 2) (w - c)).map fun r => List.replicate c (s.memNat (a + 1) 1) ++ r
      else
        let c := s.memNat (a + 1) 2 + 1
        if end_ < a + 4 ∨ w < c then none
        else (s.yrlRuns end_ k (a + 4) (w - c)).map fun r => List.replicate c (s.memNat (a + 3) 1) ++ r

/-- The bytes that a YRL record covers from an address, as far as it can be read (R104). The fuel bounds the runs. -/
def State.yrlSpan (s : State) (end_ : Nat) : Nat → Nat → Nat → Nat
  | 0, _, _ => 0
  | k + 1, a, w =>
    if w = 0 ∨ end_ ≤ a then 0
    else
      let b := s.memNat a 1
      if b < 0x80 then b + 2 + s.yrlSpan end_ k (a + 2 + b) (w - (b + 1))
      else if b < 0xFF then 2 + s.yrlSpan end_ k (a + 2) (w - (b - 0x7E))
      else 4 + s.yrlSpan end_ k (a + 4) (w - (s.memNat (a + 1) 2 + 1))

/-- The address of the table entry of raster line i of a YRL plane (R103). -/
def State.yrlEntry (s : State) (x : Frame) (i : Nat) : Nat := x.plane + s.memNat (x.plane + 16) 4 + i * 4

/-- Whether a block that raster line i of a frame is drawn from is poisoned (R98). -/
def State.rowPoisoned (s : State) (x : Frame) (i : Nat) : Bool :=
  if x.form = 1 then
    let a := x.plane + s.memNat (s.yrlEntry x i) 4
    s.poisoned x.plane 32 || s.poisoned (s.yrlEntry x i) 4 || s.poisoned a (s.yrlSpan (x.plane + x.len) (x.width + 1) a x.width)
  else s.poisoned (x.plane + i * x.stride) x.rasterBytes

/-- The samples of raster line i of a frame (R102): none where a YRL line is in error (R105). -/
def State.rasterRow (s : State) (x : Frame) (i : Nat) : Option (List Nat) :=
  if x.form = 0 then some ((s.memRead (x.plane + i * x.stride) x.width).map (·.toNat))
  else if x.form = 1 then
    let end_ := x.plane + x.len
    let t := s.yrlEntry x i
    if end_ < t + 4 then none else s.yrlRuns end_ (x.width + 1) (x.plane + s.memNat t 4) x.width
  else some ((upFrom 0 x.width).map fun j => s.memNat (x.plane + i * x.stride + j / 4) 1 / 4 ^ (j % 4) % 4)

/-! ## What a feed engine fetched (R98, R112, R114) -/

/-- Where the bytes of the raster line that serves a line begin (R102, R103). -/
def State.rasterAddr (s : State) (n : Nat) (x : Frame) (l : Int) : Nat :=
  let i := x.rasterLine (s.resOf n) l
  if x.form = 1 then x.plane + s.memNat (s.yrlEntry x i) 4 else x.plane + i * x.stride

/-- Spoil the frame that covers a line from that line on (R98, R105, R151), whether it has begun or not. -/
def State.spoilAt (s : State) (n : Nat) (l : Int) (reason : Nat) : State :=
  let st := s.station n
  match s.frameOf n l with
  | some x =>
    let s := s.setStation n { st with frames := st.frames.map fun (y : Frame) => if x.index = y.index then y.spoil l reason else y }
    s.abandonIn n x l
  | none => s

/-- R98, R112, R114: the last burst of the request being served lands; the slot is filled, or VOID. -/
def execLineSlotFilled (n : Fin 8) (ecc : Ecc) (s : State) : Out :=
  let k := n.val
  let st := s.station k
  match findFirst (fun r => r.read) st.reqs with
  | some r =>
    let i := (r.lpos % 256).toNat
    let s := s.setStation k { st with reqs := st.reqs.filter fun q => decide (q.lpos ≠ r.lpos) || !q.read }
    let put (s : State) (p : SlotPhase) : State := s.setSlot k i (some ⟨r.lpos, p, r.prov, 0, 0, false⟩)
    let filled (s : State) : State := if r.prov.isNone then (put s .filled).tally (0x080 + k) 1 else put s .filled
    if r.withdrawn then
      .next ((put s .void).tally (if r.prov.isSome then 0x198 + k else 0x088 + k) 1).serve
    else
      match s.frameOf k r.lpos with
      | some x =>
        let image := match x.start with
          | some a => decide (r.lpos < a + x.lines)
          | none => false
        if image then
          let a := s.rasterAddr k x r.lpos
          let s := s.ecc a ecc (some k)
          if s.rowPoisoned x (x.rasterLine (s.resOf k) r.lpos) || (match ecc with
              | .uncorrectable _ => true
              | _ => false) then .next ((put s .void).spoilAt k r.lpos Reason.MEM_UNCORR).serve
          else .next (filled s).serve
        else .next (filled s).serve
      | none => .next (put s .void).serve
  | none => .next s

/-! ## Provisional frames (R109, R149, R241, R243, R245, R246) -/

/-- Discard station n's frames that wait for change sets satisfying a test: they leave the station, their descriptors stay in the
ring, their lines are dropped (R114, R149). -/
def State.discardProv (s : State) (n : Nat) (p : Nat → Bool) : State :=
  let hit (pv : Option Nat) : Bool := match pv with
    | some e => p e
    | none => false
  let st := s.station n
  match findFirst (fun (x : Frame) => hit x.prov) st.frames with
  | some x =>
    let from_ := x.start.getD 0
    let s := s.dropFrom n from_ hit
    let st := s.station n
    let s := s.setStation n { st with
      frames := st.frames.filter fun y => !hit y.prov, nextFetch := x.index, endLine := some from_, lastImage := some (from_ - 1) }
    s.abandon n from_
  | none => s

/-- The provisional lines and frames of an epoch become ordinary (R243 step 5); what their frames held back is set and raised
(R231), and their lines are counted (R153). -/
def State.commitProv (s : State) (n e : Nat) : State :=
  let mine (i : Nat) : Option Slot := match s.slot n i with
    | some x => if x.prov = some e then some x else none
    | none => none
  let have_ := (upFrom 0 256).filterMap mine
  let screened := (have_.filter fun x => decide (x.phase = .screened)).length
  let lost := (have_.map (·.lost)).sum
  let s := (((s.tally (0x080 + n) have_.length).tally (0x0B0 + n) screened).tallyUnits (0x0B8 + n) lost 4096).tally (0x0C0 + n)
    (have_.map (·.promoted)).sum
  let s := s.tally (0x0C8 + n) (have_.filter (·.low)).length
  let s := if lost = 0 then s else s.setF (F.SCR_STATUS_HIDE_LOST n) 1
  let s := forBelow 256 (fun i s => match s.slot n i with
    | some x => if x.prov = some e then s.setSlot n i (some { x with prov := none }) else s
    | none => s) s
  let st := s.station n
  let desc := (st.frames.filter fun x => decide (x.prov = some e) && x.descErr).length
  let yrl := (st.frames.filter fun x => decide (x.prov = some e) && x.yrlErr).length
  let under := (st.frames.filter fun x => decide (x.prov = some e) && x.underErr).length
  let s := s.setStation n { st with
    frames := st.frames.map fun (x : Frame) => if x.prov = some e then
      { x with prov := none, reason := if x.descErr then Reason.DESC_ERR else x.reason, descErr := false, yrlErr := false, underErr := false } else x
    reqs := st.reqs.map fun (r : FeedReq) => if r.prov = some e then { r with prov := none } else r }
  let s := (List.range desc).foldl (fun s _ => (s.setF (F.FEED_Q_STATUS_DESC_ERR n) 1).raiseOwn EV.FRAME_DESC_ERR n) s
  let s := (List.range yrl).foldl (fun s _ => (s.setF (F.FEED_Q_STATUS_YRL_ERR n) 1).raiseOwn EV.YRL_ERROR n) s
  (List.range under).foldl (fun s _ => (s.setF (F.FEED_Q_STATUS_UNDERRUN n) 1).raiseOwn EV.FEED_UNDERRUN n) s

end Sys2Proof.Machine
end

