-- ==== Sys2Proof/Machine/Screen.lean ====
section
/-!
DEFINITION. The screen engines: table banks, table commands, and the pipeline from raster line to codes (R102–R105, R129–R154).
-/
namespace Sys2Proof.Machine

/-! ## Table memory (R143–R148) -/

/-- Number of a bank: station, kind, bank. -/
def bankId (n kind bank : Nat) : Nat := (n * 3 + kind) * 2 + bank

/-- Key of a cell of table memory: curve point i of nozzle x at x * 16 + i; threshold (x, y) of matrix m at (m - 1) * 65536 + y * 256
+ x; weight k of row r at r * 4 + k; map byte of nozzle x at 64 + x. -/
def cellKey (id i : Nat) : Nat := 2 ^ 21 * id + i

/-- The default contents of a cell (R143). -/
def cellDefault (kind i : Nat) : Nat := if kind = 0 then 272 * (i % 16) else if kind = 1 then 1024 * (i / 65536 + 1) else 0

def State.cell (s : State) (n kind bank i : Nat) : Nat := tget (cellDefault kind i) s.tmem (cellKey (bankId n kind bank) i)

def State.setCell (s : State) (n kind bank i v : Nat) : State :=
  { s with tmem := tput (cellDefault kind i) s.tmem (cellKey (bankId n kind bank) i) v }

/-- A bank returned to its default contents, with no damaged word. -/
def State.clearBank (s : State) (n kind bank : Nat) : State :=
  let id := bankId n kind bank
  { s with
    tmem := s.tmem.filter fun kv => !(decide (kv.1 / 2 ^ 21 = id))
    tmemBad := s.tmemBad.filter fun b => decide (b.1 ≠ id) }

/-- Write the cells from i on. -/
def State.putCells (s : State) (n kind bank : Nat) (i : Nat) : List Nat → State
  | [] => s
  | v :: r => (s.setCell n kind bank i v).putCells n kind bank (i + 1) r

/-- Both banks of each kind hold default contents, bank 0 active and both IDLE (R143). -/
def State.defaultTables (s : State) (n : Nat) : State :=
  let s := forBelow 3 (fun k s => (s.clearBank n k 0).clearBank n k 1) s
  s.setFs [(F.SCR_TSTAT_CRV n, 0), (F.SCR_TSTAT_THR n, 0), (F.SCR_TSTAT_HID n, 0)]

/-- The state byte of a kind in SCRn_TSTAT. -/
def bankField (n kind : Nat) : Field := if kind = 0 then F.SCR_TSTAT_CRV n else if kind = 1 then F.SCR_TSTAT_THR n else F.SCR_TSTAT_HID n

def Bank.IDLE : Nat := 0
def Bank.BUSY : Nat := 1
def Bank.EDIT : Nat := 2
def Bank.READY : Nat := 3

/-- State of the inactive bank (R146). -/
def State.bankState (s : State) (n kind : Nat) : Nat := bitsOf (s.f (bankField n kind)) 2 1

def State.bankActive (s : State) (n kind : Nat) : Nat := bitsOf (s.f (bankField n kind)) 0 0

def State.bankEngaged (s : State) (n kind : Nat) : Bool := bitOf (s.f (bankField n kind)) 3

def State.bankDamaged (s : State) (n kind : Nat) : Bool := bitOf (s.f (bankField n kind)) 4

def State.bankPend (s : State) (n kind : Nat) : Bool := bitOf (s.f (bankField n kind)) 5

def State.inactive (s : State) (n kind : Nat) : Nat := 1 - s.bankActive n kind

/-- Set the STATE bits of a bank byte. -/
def withState (v z : Nat) : Nat := v - bitsOf v 2 1 * 2 + z * 2

def State.setBankState (s : State) (n kind z : Nat) : State := s.setF (bankField n kind) (withState (s.f (bankField n kind)) z)

def State.setBankBit (s : State) (n kind i : Nat) (b : Bool) : State := s.setBitF (bankField n kind) i b

/-- GO reads 1 while a command runs (R154). -/
def State.setTgo (s : State) (n : Nat) : State :=
  s.setB (F.SCR_TCMD_GO n) ((upFrom 0 3).any fun k => decide (s.bankState n k = Bank.BUSY))

/-- A table command fails with a code (R146, R147). -/
def State.tableErr (s : State) (n err : Nat) : State :=
  (s.setFs [(F.SCR_TSTAT_ERR n, err), (F.SCR_STATUS_LOAD_ERR n, 1)]).raise EV.TBL_LOAD_ERR n

/-- Whether R146 lets a command act on a kind in one of the given states. -/
def State.tableMay (s : State) (n kind : Nat) (states : List Nat) : Bool :=
  decide (kind < 3) && !s.bankEngaged n kind && states.contains (s.bankState n kind)

/-- R146, R147: LOAD. -/
def execTableLoad (n : Fin 8) (kind : BitVec 2) (s : State) : Out :=
  let k := kind.toNat
  if s.tableMay n.val k [Bank.IDLE, Bank.READY] then
    let a := s.addr (F.SCR_TADDR_HI n.val) (F.SCR_TADDR_LO n.val)
    .next ({ s with loadAt := tput 0 s.loadAt (n.val * 4 + k) (a + 1) }.setBankState n.val k Bank.BUSY |>.setTgo n.val)
  else .next (s.tableErr n.val 6)

/-- R146: COPY, of KIND 2 only. -/
def execTableCopy (n : Fin 8) (kind : BitVec 2) (s : State) : Out :=
  if kind.toNat = 2 ∧ s.tableMay n.val 2 [Bank.IDLE, Bank.READY] then
    .next (({ s with loadAt := tput 0 s.loadAt (n.val * 4 + 2) 0 }.setBankState n.val 2 Bank.BUSY).setTgo n.val)
  else .next (s.tableErr n.val 6)

/-- R146: MARK. -/
def execTableMark (n : Fin 8) (kind : BitVec 2) (s : State) : Out :=
  if s.tableMay n.val kind.toNat [Bank.EDIT] then
    .next ((s.setBankState n.val kind.toNat Bank.READY).setF (F.SCR_TSTAT_ERR n.val) 0)
  else .next (s.tableErr n.val 6)

/-- R146: CLEAR. -/
def execTableClear (n : Fin 8) (kind : BitVec 2) (s : State) : Out :=
  if s.tableMay n.val kind.toNat [Bank.IDLE, Bank.EDIT, Bank.READY] then
    .next ((s.setBankState n.val kind.toNat Bank.IDLE).setF (F.SCR_TSTAT_ERR n.val) 0)
  else .next (s.tableErr n.val 6)

/-- R146: SWAP, in any state. -/
def execTableSwap (n : Fin 8) (kind : BitVec 2) (s : State) : Out :=
  if s.tableMay n.val kind.toNat [Bank.IDLE, Bank.BUSY, Bank.EDIT, Bank.READY] then
    .next ((s.setBankBit n.val kind.toNat 5 true).setF (F.SCR_TSTAT_ERR n.val) 0)
  else .next (s.tableErr n.val 6)

/-- Nozzles or pixel columns a bank of the station holds (R143). -/
def State.bankWidth (s : State) (n : Nat) : Nat := if s.on (F.SCR_CFG_KIND n) then 24576 else 51200

/-- Set the map bits of a nozzle in a bank. -/
def State.setMap (s : State) (n bank x v : Nat) : State := if x < s.bankWidth n then s.setCell n 2 bank (64 + x) v else s

/-- R148: a nozzle's MISSING and NOHELP bits in a bank under EDIT. -/
def execHidingEdit (n : Fin 8) (nozzle : BitVec 16) (missing nohelp : Bool) (s : State) : Out :=
  if s.bankState n.val 2 = Bank.EDIT then
    .next (s.setMap n.val (s.inactive n.val 2) nozzle.toNat (b2n missing + 2 * b2n nohelp))
  else .next (s.setF (F.SCR_TSTAT_ERR n.val) 6)

/-- Set MISSING of a nozzle in the inactive hiding bank. -/
def State.markIn (s : State) (n x : Nat) : State :=
  let b := s.inactive n 2
  s.setMap n b x (setBit (s.cell n 2 b (64 + x)) 0)

/-- The inactive hiding bank takes the contents of the active one (R146). -/
def State.copyHiding (s : State) (n : Nat) : State :=
  let a := bankId n 2 (s.bankActive n 2)
  let b := bankId n 2 (s.inactive n 2)
  let s := s.clearBank n 2 (s.inactive n 2)
  let mine := s.tmem.filter fun kv => decide (kv.1 / 2 ^ 21 = a)
  { s with tmem := mine.foldl (fun t kv => tput 0 t (2 ^ 21 * b + kv.1 % 2 ^ 21) kv.2) s.tmem }

/-- Drop detection marks a nozzle missing (R148). -/
def State.ddMark (s : State) (n x : Nat) : State :=
  let z := s.bankState n 2
  if z = Bank.BUSY then { s with dd := { s.dd with marks := s.dd.marks ++ [n * 65536 + x] } }
  else if z = Bank.IDLE then
    ((((s.copyHiding n).setBankState n 2 Bank.READY).markIn n x).setBankBit n 2 5 true)
  else s.markIn n x

/-- The marks held for station n's busy bank are applied (R148). -/
def State.heldMarks (s : State) (n : Nat) : State :=
  let mine := s.dd.marks.filter fun m => decide (m / 65536 = n)
  let s := { s with dd := { s.dd with marks := s.dd.marks.filter fun m => decide (m / 65536 ≠ n) } }
  mine.foldl (fun s m => s.ddMark n (m % 65536)) s

/-- R146: a COPY ends; held marks apply before the bank becomes EDIT. -/
def execTableCopyDone (n : Fin 8) (s : State) : Out :=
  let k := n.val
  if s.bankState k 2 = Bank.BUSY ∧ tget 0 s.loadAt (k * 4 + 2) = 0 then
    .next (((((s.copyHiding k).setBankState k 2 Bank.EDIT).heldMarks k).setF (F.SCR_TSTAT_ERR k) 0).setTgo k)
  else .next s

/-- The body length R145 gives a kind. -/
def bodySize (kind count : Nat) : Nat := if kind = 0 then count * 24 else if kind = 1 then 393216 else 64 + count

/-- Whether the bytes at an address can be read: in range and not poisoned. -/
def State.readable (s : State) (a n : Nat) : Bool := s.inMem a n && !s.poisoned a n

/-- The 12-bit points of one curve record (R145). -/
def curvePoints (bs : List Byte) : List Nat :=
  let v := ofLE bs
  (upFrom 0 16).map fun i => bitsOf v (12 * i + 11) (12 * i)

/-- The cells that a body holds (R145), at most `count` records. -/
def State.bodyCells (s : State) (kind a count : Nat) : List Nat :=
  if kind = 0 then ((upFrom 0 count).map fun x => curvePoints (s.memRead (a + x * 24) 24)).flatten
  else if kind = 1 then (upFrom 0 196608).map fun i => s.memNat (a + i * 2) 2 % 4096
  else (upFrom 0 (64 + count)).map fun i => s.memNat (a + i) 1

/-- Whether each cell of a threshold body satisfies R147's check: T1 ≥ 1, rising, and T1 ≤ 4,094 for an EP station. -/
def thresholdsOk (cells : List Nat) (ep : Bool) : Bool :=
  let m1 := cells.take 65536
  let m2 := (cells.drop 65536).take 65536
  let m3 := cells.drop 131072
  ((m1.zip (m2.zip m3)).all fun t => decide (1 ≤ t.1) && decide (t.1 ≤ t.2.1) && decide (t.2.1 ≤ t.2.2) && (!ep || decide (t.1 ≤ 4094)))

/-- Whether each weight row sums to at most 256 (R147). -/
def weightsOk (cells : List Nat) : Bool := (upFrom 0 16).all fun r => decide (((cells.drop (r * 4)).take 4).sum ≤ 256)

/-- The first error code of R147 that applies to the image at an address, or 0. -/
def State.imageErr (s : State) (n kind a : Nat) : Nat :=
  let count := s.memNat (a + 8) 4
  let len := s.memNat (a + 12) 4
  let cells := s.bodyCells kind (a + 64) count
  if !s.readable a 64 then 4
  else if s.memNat a 4 ≠ 0x42545359 ∨ s.memNat (a + 4) 2 ≠ kind ∨ s.memNat (a + 6) 2 ≠ 1 ∨ s.memNat (a + 20) 44 ≠ 0 then 1
  else if len ≠ bodySize kind count then 2
  else if count ≠ (if kind = 1 then 3 else s.f (F.SCR_CFG_WIDTH n)) then 3
  else if !s.readable (a + 64) len then 4
  else if crc32c (s.memRead (a + 64) len) ≠ s.memNat (a + 16) 4 then 5
  else if kind = 1 ∧ thresholdsOk cells (s.on (F.SCR_CFG_KIND n)) = false then 7
  else if kind = 2 ∧ weightsOk cells = false then 8
  else 0

/-- A LOAD of an inactive bank ends with an error code, or with the body's cells in the bank (R146, R147). -/
def State.finishTable (s : State) (k kd e : Nat) (cells : List Nat) : State :=
  if e = 0 then
    let s := (s.clearBank k kd (s.inactive k kd)).putCells k kd (s.inactive k kd) 0 cells
    let s := s.setBankState k kd Bank.READY
    let s := if kd = 2 then s.heldMarks k else s
    (s.setF (F.SCR_TSTAT_ERR k) 0).setTgo k
  else
    let s := s.setBankState k kd Bank.IDLE
    let s := if kd = 2 then s.heldMarks k else s
    (s.setTgo k).tableErr k e

/-- R143, R147: a LOAD ends. -/
def execTableLoadDone (n : Fin 8) (kind : BitVec 2) (ecc : Ecc) (s : State) : Out :=
  let k := n.val
  let kd := kind.toNat
  let at_ := tget 0 s.loadAt (k * 4 + kd)
  if kd < 3 ∧ s.bankState k kd = Bank.BUSY ∧ at_ ≠ 0 then
    let a := at_ - 1
    let s := (s.ecc a ecc none)
    let s := { s with loadAt := tput 0 s.loadAt (k * 4 + kd) 0 }
    .next (s.finishTable k kd (s.imageErr k kd a) (s.bodyCells kd (a + 64) (s.memNat (a + 8) 4)))
  else .next s

/-! ## Swaps (R149–R151) -/

/-- The inactive bank of a kind becomes active from a line on; the former active bank is IDLE, and PEND, ENGAGED and DAMAGED clear. A hiding
swap ends the DEGRADED marks of the nozzles it hides at that line (R195). -/
def State.swapBank (s : State) (n kind : Nat) (l : Int) : State :=
  let s := (s.setF (bankField n kind) (1 - s.bankActive n kind)).tally 0x0D1 1
  if kind = 2 then { s with dd := { s.dd with hide := s.dd.hide.map fun h => if h.1 = n ∧ h.2 = none then (n, some l) else h } } else s

/-- A swap deferred (R149, R150). -/
def State.bankLate (s : State) (n : Nat) : State := ((s.setF (F.SCR_STATUS_BANK_LATE n) 1).tally 0x0D2 1).raise EV.BANK_LATE n

/-- The epoch for which a bank is ENGAGED (R149). -/
def State.engagedFor (s : State) (n kind : Nat) : Nat := tget 0 s.engaged (n * 4 + kind)

/-- The boundary of a kind at the first line of an epoch's provisional work (R149): the bank is ENGAGED, or the swap is late. A bank that an
earlier change set has engaged stays that one's. -/
def State.engage (s : State) (n kind e : Nat) (required : Bool) : State :=
  if (s.bankPend n kind || required) && !s.bankEngaged n kind then
    if s.bankState n kind = Bank.READY then { s with engaged := tput 0 s.engaged (n * 4 + kind) e }.setBankBit n kind 3 true else s.bankLate n
  else s

/-- The boundary of a kind at a line that prints as it stands (R150). -/
def State.swapAt (s : State) (n kind : Nat) (l : Int) : State :=
  if s.bankPend n kind then (if s.bankState n kind = Bank.READY then s.swapBank n kind l else s.bankLate n) else s

/-- As change set e applies from a line on, its engaged banks become active, and so does a required bank that no line of its has read
(R149, R243). -/
def State.applyBanks (s : State) (n e req : Nat) (l : Int) : State :=
  forBelow 3 (fun k s =>
    if s.bankEngaged n k then (if s.engagedFor n k = e then s.swapBank n k l else s)
    else if bitOf req k && decide (s.bankState n k = Bank.READY) then s.swapBank n k l
    else s) s

/-- The banks that an epoch engaged return to READY (R149, R241). -/
def State.disengage (s : State) (n e : Nat) : State :=
  forBelow 3 (fun k s => if s.engagedFor n k = e then s.setBankBit n k 3 false else s) s

/-- A DAMAGED active bank is replaced at a frame boundary when its inactive bank is READY (R151). -/
def State.replaceDamaged (s : State) (n : Nat) (l : Int) : State :=
  forBelow 3 (fun k s =>
    if s.bankDamaged n k && decide (s.bankState n k = Bank.READY) && !s.bankEngaged n k then s.swapBank n k l else s) s

/-- Required banks of change-set slot q at station n (R238). -/
def State.csReq (s : State) (q n : Nat) : Nat := nthD 0 (tget CsExtra.reset s.cs q).reqs n

/-- Whether a bank of the lowest three kinds is READY for an epoch, or engaged for it. -/
def State.bankHeld (s : State) (n kind e : Nat) : Bool :=
  if s.bankEngaged n kind then decide (s.engagedFor n kind = e) else decide (s.bankState n kind = Bank.READY)

/-! ## The pipeline (R131–R139) -/

/-- What the pipeline sees of one line: the station, the bank of each kind, the row, its first nozzle, the upscaling, the width, and
the nozzles that damaged curve words and damaged map words cover (R151). -/
structure LineJob where
  n : Nat
  crv : Nat
  thr : Nat
  hid : Nat
  row : List Nat
  x0 : Nat
  up : Nat
  width : Nat
  lpos : Int
  bad : List (Nat × Nat × Nat)

/-- Whether a nozzle is covered by the raster (R131). -/
def LineJob.covered (j : LineJob) (x : Nat) : Bool :=
  decide (j.x0 ≤ x) && decide (x < j.x0 + j.row.length * j.up) && decide (x < j.width)

/-- The sample that serves a nozzle. -/
def LineJob.sample (j : LineJob) (x : Nat) : Nat := nthD 0 j.row ((x - j.x0) / j.up)

/-- Whether a damaged word of a kind covers a nozzle. -/
def LineJob.damaged (j : LineJob) (kind bank x : Nat) : Bool :=
  j.bad.any fun b => decide (b.1 = bankId j.n kind bank) && decide (b.2.1 ≤ x) && decide (x < b.2.1 + b.2.2)

/-- Whether a nozzle is missing (R133, R151). -/
def State.missing (s : State) (j : LineJob) (x : Nat) : Bool :=
  bitOf (s.cell j.n 2 j.hid (64 + x)) 0 || j.damaged 0 j.crv x || j.damaged 2 j.hid x

/-- The density of a contone through a nozzle's curve (R132); through a damaged curve it is a free value. -/
def State.density (s : State) (j : LineJob) (x c : Nat) : Nat :=
  if j.damaged 0 j.crv x then (Config.freeValue (s.free + x)).toNat % 4096
  else
    let p (i : Nat) : Int := s.cell j.n 0 j.crv (x * 16 + i)
    let i := c / 17
    if c = 255 then s.cell j.n 0 j.crv (x * 16 + 15)
    else (p i + (p (i + 1) - p i) * (c % 17 : Nat) / 17).toNat

/-- Whether a nozzle may receive hidden density (R133). -/
def State.available (s : State) (j : LineJob) (y : Int) : Bool :=
  decide (0 ≤ y) && j.covered y.toNat && !s.missing j y.toNat && !bitOf (s.cell j.n 2 j.hid (64 + y.toNat)) 1

/-- The neighbour offsets in the order of the weights (R133). -/
def helpOffsets : List Int := [-2, -1, 1, 2]

/-- The availability mask of a nozzle (R133). -/
def State.helpMask (s : State) (j : LineJob) (x : Nat) : Nat :=
  b2n (s.available j (x - 2)) + 2 * b2n (s.available j (x - 1)) + 4 * b2n (s.available j (x + 1)) + 8 * b2n (s.available j (x + 2))

/-- The share that missing nozzle m gives to its neighbour number k (R134). -/
def State.share (s : State) (j : LineJob) (m k : Nat) : Nat :=
  if j.covered m && s.missing j m && s.available j (m + nthD 0 helpOffsets k) then
    s.density j m (j.sample m) * s.cell j.n 2 j.hid (s.helpMask j m * 4 + k) / 256
  else 0

/-- The sum a nozzle holds after hiding (R134), before the cap. -/
def State.hidden (s : State) (j : LineJob) (x : Nat) : Nat :=
  s.density j x (j.sample x) + s.share j (x + 2) 0 + s.share j (x + 1) 1 + (if 1 ≤ x then s.share j (x - 1) 2 else 0)
    + (if 2 ≤ x then s.share j (x - 2) 3 else 0)

/-- The threshold of matrix m at a nozzle of the line (R137). -/
def State.threshold (s : State) (j : LineJob) (m x : Nat) : Nat :=
  let tx := (x + s.f (F.SCR_MOFS_XOFF j.n)) % 256
  let ty := ((j.lpos + s.f (F.SCR_MOFS_YOFF j.n)) % 256).toNat
  s.cell j.n 1 j.thr ((m - 1) * 65536 + ty * 256 + tx)

/-- The drop code of a density (R137). -/
def State.dropCode (s : State) (j : LineJob) (x v : Nat) : Nat :=
  if v < s.threshold j 1 x then 0 else if v < s.threshold j 2 x then 1 else if v < s.threshold j 3 x then 2 else 3

/-- The exposure code of a density (R138). -/
def State.exposureCode (s : State) (j : LineJob) (x v : Nat) : Nat := min 15 ((v * 15 + s.threshold j 1 x) / 4095)

/-- The code of one nozzle of a contone line, with the density lost at it and whether it was promoted (R134–R138). -/
def State.contoneCode (s : State) (j : LineJob) (ep : Bool) (x : Nat) : Nat × Nat × Bool :=
  if j.covered x then
    if ep then (if s.missing j x && j.damaged 0 j.crv x then (0, 0, false) else (s.exposureCode j x (s.density j x (j.sample x)), 0, false))
    else if s.missing j x then
      let d := s.density j x (j.sample x)
      (0, d - (s.share j x 0 + s.share j x 1 + s.share j x 2 + s.share j x 3), false)
    else
      let v := s.hidden j x
      if 4095 < v then (s.dropCode j x 4095, v - 4095, true) else (s.dropCode j x v, 0, false)
  else (0, 0, false)

/-- The neighbours tried for a missing nozzle's code, in order (R136). -/
def codeOffsets : List Int := [-1, 1, -2, 2]

/-- Code hiding of one missing nozzle (R136): the codes after it, and whether the code was lost. -/
def State.hideCode (s : State) (j : LineJob) (codes : List Nat) (x : Nat) : List Nat × Bool :=
  let c := nthD 0 codes x
  let codes := setNth codes x 0
  if c = 0 then (codes, false)
  else
    let cand := (codeOffsets.map fun o => (x : Int) + o).filter fun y => s.available j y
    match findFirst (fun (y : Int) => decide (nthD 0 codes y.toNat = 0)) cand with
    | some y => (setNth codes y.toNat c, false)
    | none =>
      match findFirst (fun (y : Int) => decide (nthD 0 codes y.toNat < c)) cand with
      | some y => (setNth codes y.toNat c, false)
      | none => (codes, true)

/-- The codes of a pre-screened line, and how many were lost (R136). -/
def State.codeLine (s : State) (j : LineJob) : List Nat × Nat :=
  let base := (upFrom 0 j.width).map fun x => if j.covered x then j.sample x else 0
  let gone := (upFrom 0 j.width).filter fun x => s.missing j x
  if s.on (F.SCR_CFG_PSHIDE j.n) then
    gone.foldl (fun a x =>
      let (codes, lost) := s.hideCode j a.1 x
      (codes, a.2 + b2n lost)) (base, 0)
  else (gone.foldl (fun a x => setNth a x 0) base, 0)

/-- Codes packed into bytes: four 2-bit codes or two 4-bit codes each (R139). -/
def packCodes (per : Nat) : Nat → List Nat → List Byte
  | 0, _ => []
  | k + 1, codes =>
    match codes with
    | [] => []
    | _ =>
      let w := 8 / per
      let v := (codes.take per).foldr (fun c a => c % 2 ^ w + 2 ^ w * a) 0
      BitVec.ofNat 8 v :: packCodes per k (codes.drop per)

/-- Where the slot of a line begins in the line store (R24, R139). -/
def slotAddr (n : Nat) (l : Int) (ep : Bool) : Nat := 0x320000 * n + (l % 256).toNat * (if ep then 12288 else 12800)

/-- The codes written to the line store (R139). -/
def State.writeCodes (s : State) (n : Nat) (l : Int) (codes : List Nat) : State :=
  let ep := s.on (F.SCR_CFG_KIND n)
  { s with lst := tputs 0 s.lst (slotAddr n l ep) (packCodes (if ep then 2 else 4) codes.length codes) }

/-- What table-memory errors do (R151): flags, events, and the nozzles or the frame they cost. -/
def State.tmemErr (s : State) (n : Nat) (l : Int) (bank : Nat → Nat) (e : TmemErr) : State :=
  let mark (s : State) : State := s.mapFrameAt n l fun x => { x with degraded := true }
  match e with
  | .none => s
  | .transient => (((s.setF (F.SCR_STATUS_TMEM_TRANS n) 1).tally 0x0D0 1).logRetry 1 EV.TMEM_TRANSIENT n).raise EV.TMEM_TRANSIENT n
  | .corrected kind stays =>
    let s := s.logRetry 2 EV.TMEM_TRANSIENT n
    if stays then ((s.setBankBit n kind.toNat 4 true).setF (F.SCR_STATUS_TMEM_DAMAGED n) 1).raise EV.TMEM_DAMAGED n else s
  | .nozzles kind first count =>
    let k := if kind.toNat = 0 then 0 else 2
    let s := { s.logRetry 2 EV.TMEM_TRANSIENT n with tmemBad := (bankId n k (bank k), first.toNat, count.toNat) :: s.tmemBad }
    (mark ((s.setBankBit n k 4 true).setF (F.SCR_STATUS_TMEM_DAMAGED n) 1)).raiseF EV.TMEM_DAMAGED n
  | .table kind =>
    let k := if kind.toNat = 1 then 1 else 2
    let s := ((s.logRetry 2 EV.TMEM_TRANSIENT n).setBankBit n k 4 true).setFs [(F.SCR_STATUS_TMEM_UNCORR n, 1), (F.SCR_STATUS_TMEM_DAMAGED n, 1)]
    (s.spoilAt n l Reason.TABLE_UNCORR).raiseOwn EV.TMEM_UNCORR n

/-- The oldest slot of station n that waits for screening. -/
def State.oldestFilled (s : State) (n : Nat) : Option (Nat × Slot) :=
  ((upFrom 0 256).filterMap fun i => match s.slot n i with
    | some x => if x.phase = .filled then some (i, x) else none
    | none => none).foldl (fun a y => match a with
      | some b => if y.2.lpos < b.2.lpos then some y else a
      | none => some y) none

/-- The pending change-set slot of station n with an epoch. -/
def State.csOfEpoch (s : State) (n e : Nat) : Option Nat :=
  findFirst (fun q => s.csOpen q n && decide (s.f (F.CHG_CS_STATE_EPOCH q) = e)) (upFrom 0 4)

/-- Whether a line is the first line of the first frame of an epoch at station n. -/
def State.firstOf (s : State) (n e : Nat) (l : Int) : Bool :=
  match findFirst (fun (x : Frame) => decide (x.prov = some e)) (s.station n).frames with
  | some x => decide (x.start = some l)
  | none => false

/-- Whether a line's work stands behind an engagement: it belongs to the change set that engaged, or to one with a later splice (R149). -/
def State.behind (s : State) (n engaged : Nat) (prov : Option Nat) : Bool :=
  match prov with
  | some e => decide (engaged = e) || (match (s.csOfEpoch n engaged).map s.csSplice, (s.csOfEpoch n e).map s.csSplice with
    | some a, some b => decide (a ≤ b)
    | _, _ => false)
  | none => false

/-- The bank a line reads for a kind: the engaged one for provisional lines of its change set or a later one, else the active one (R149). -/
def State.readBank (s : State) (n kind : Nat) (prov : Option Nat) : Nat :=
  if s.bankEngaged n kind && s.behind n (s.engagedFor n kind) prov then s.inactive n kind else s.bankActive n kind

/-- The boundary work of a line (R149–R151): the banks of the first line of a job, provisional or screened after its splice; the hiding bank and
DAMAGED banks at the first line of a frame. -/
def State.boundary (s : State) (n : Nat) (x : Slot) (req : Nat) (frameFirst : Bool) : State :=
  let s := if frameFirst then s.replaceDamaged n x.lpos else s
  let st := s.station n
  match x.prov with
  | some e =>
    let jobFirst := s.firstOf n e x.lpos
    let s := if jobFirst then
        ((s.setStation n { st with bounded := some e }).engage n 0 e (bitOf req 0)).engage n 1 e (bitOf req 1)
      else s
    if frameFirst then s.engage n 2 e (bitOf req 2 && jobFirst) else s
  | none =>
    let s := if st.newJob then ((s.setStation n { st with newJob := false }).swapAt n 0 x.lpos).swapAt n 1 x.lpos else s
    if frameFirst then s.swapAt n 2 x.lpos else s

/-- Whether the engine holds the line back (R149): the first line of a new job whose required bank is not READY. -/
def State.heldBack (s : State) (n : Nat) (x : Slot) (req : Nat) : Bool :=
  match x.prov with
  | some e => s.firstOf n e x.lpos && (upFrom 0 3).any fun k => bitOf req k && !s.bankHeld n k e
  | none => false

/-- R129–R139, R149–R151: the engine takes its oldest fetched line through the stages and writes it to the line store. -/
def execScreenLine (n : Fin 8) (err : TmemErr) (s : State) : Out :=
  let k := n.val
  if s.on F.EVT_GONG_G4 then .next s
  else
    match s.oldestFilled k with
    | none => .next s
    | some (i, x) =>
      let s := s.noteLead k
      let req := match x.prov with
        | some e => (match s.csOfEpoch k e with
          | some q => s.csReq q k
          | none => 0)
        | none => 0
      match s.frameOf k x.lpos with
      | none => .next (s.setSlot k i none)
      | some fr =>
        if s.heldBack k x req then .next s
        else
          let first := decide (fr.start = some x.lpos)
          let s := s.boundary k x req first
          let prov := x.prov.isSome
          let bank (kd : Nat) : Nat := s.readBank k kd x.prov
          let s := s.tmemErr k x.lpos bank err
          let dead := match err with
            | .table _ => true
            | _ => false
          let image := match fr.start with
            | some a => decide (x.lpos < a + fr.lines)
            | none => false
          let width := s.f (F.SCR_CFG_WIDTH k)
          let done (s : State) (codes : List Nat) (lost promoted : Nat) : State :=
            let s := s.writeCodes k x.lpos codes
            let low := decide (s.lead k < s.f (F.SCR_LEAD_FLOOR k))
            let s := if prov then s.tally (0x178 + k) 1
              else
                let s := ((s.tally (0x0B0 + k) 1).tallyUnits (0x0B8 + k) lost 4096).tally (0x0C0 + k) promoted
                let s := if low then s.tally (0x0C8 + k) 1 else s
                if lost = 0 then s else s.setF (F.SCR_STATUS_HIDE_LOST k) 1
            let keep (v : Nat) : Nat := if prov then v else 0
            (s.setSlot k i (some ⟨x.lpos, .screened, x.prov, keep lost, keep promoted, prov && low⟩)).noteLead k
          if dead then .next (s.setSlot k i (some { x with phase := .void }))
          else if image then
            match s.rasterRow fr (fr.rasterLine (s.resOf k) x.lpos) with
            | none =>
              let s := (s.setSlot k i (some { x with phase := .void })).spoilAt k x.lpos Reason.YRL_ERROR
              if prov then
                let st := s.station k
                .next (s.setStation k { st with
                  frames := st.frames.map fun (y : Frame) => if y.index = fr.index then { y with yrlErr := true } else y })
              else .next ((s.setF (F.FEED_Q_STATUS_YRL_ERR k) 1).raiseOwn EV.YRL_ERROR k)
            | some row =>
              let j : LineJob := ⟨k, bank 0, bank 1, bank 2, row, fr.x0, upscale (s.resOf k) fr.res, width, x.lpos, s.tmemBad⟩
              let hurt := s.tmemBad.any fun b => decide (b.1 = bankId k 0 j.crv) || decide (b.1 = bankId k 2 j.hid)
              let s := if hurt then { s.mapFrameAt k x.lpos (fun y => { y with degraded := true }) with free := s.free + width } else s
              if fr.form = 2 then
                let (codes, gone) := s.codeLine j
                .next (done (if gone = 0 then s else s.draw) codes (if gone = 0 then 0 else s.freeNow.toNat % 2 ^ 32 + 1) 0)
              else
                let out := (upFrom 0 width).map (s.contoneCode j (s.on (F.SCR_CFG_KIND k)))
                .next (done s (out.map (·.1)) (out.map (·.2.1)).sum (out.filter (·.2.2)).length)
          else .next (done s (List.replicate width 0) 0 0)

end Sys2Proof.Machine
end

