-- ==== Sys2Proof/Machine/Beam.lean ====
section
/-!
DEFINITION. What an EP station's beams send for a scan (R200–R204): the scan buffer, the symbols and their 8b/10b code.
-/
namespace Sys2Proof.Machine

/-- The 4-bit exposure code that the line store holds for a pixel of a line (R139); 0 where the line was not screened, or is blanked. -/
def State.exposure (s : State) (n : Nat) (l : Int) (x : Nat) : Nat :=
  let ok := match s.slot n (l % 256).toNat with
    | some z => decide (z.lpos = l ∧ z.phase = .screened)
    | none => false
  let shown := match s.frameOf n l with
    | some fr => fr.wants l
    | none => false
  if ok && shown then (tget 0 s.lst (slotAddr n l true + x / 2)).toNat / 16 ^ (x % 2) % 16 else 0

/-- The lit slots of an exposure code (R202): first and last; none for code 0 and for an entry with LAST below FIRST. -/
def State.pulse (s : State) (n c : Nat) : Option (Nat × Nat) :=
  let a := s.f (F.EPS_S_PTAB_FIRST n c)
  let b := s.f (F.EPS_S_PTAB_LAST n c)
  if c = 0 ∨ b < a then none else some (a, b)

/-- The line that beam b exposes for a facet of line m (R204). -/
def State.beamLine (s : State) (n : Nat) (m : Int) (b : Nat) : Int := m + (if s.on (F.EPS_S_CFG_BEAMREV n) then 7 - b else b)

/-- The j-th pixel of the scan of a line (R203). -/
def State.scanPixel (s : State) (n j : Nat) : Nat := if s.on (F.EPS_S_CFG_SCANDIR n) then s.f (F.SCR_CFG_WIDTH n) - 1 - j else j

/-! ## The scan buffer (R24, R115, R206) -/

/-- Bytes of a facet's symbols (R204). -/
def State.facetBytes (s : State) (n : Nat) : Nat := 8 * s.f (F.SCR_CFG_WIDTH n)

/-- Where the symbols of the facet of line m stand in scan buffer n: the facets take its places in turn (DESIGN CHOICE, log entry 60). -/
def State.scanPlace (s : State) (n : Nat) (m : Int) : Nat :=
  0x1C0000 * n + (m / 8 % (max 1 (0x1C0000 / max 1 (s.facetBytes n)) : Nat)).toNat * s.facetBytes n

/-- The symbol of one pixel as the buffer holds it, LAST and FIRST of its pulse, before the delay of its beam. -/
def State.pixelByte (s : State) (n : Nat) (l : Int) (j : Nat) : Byte :=
  match s.pulse n (s.exposure n l (s.scanPixel n j)) with
  | some (p, q) => BitVec.ofNat 8 (q * 16 + p)
  | none => 0x0F

/-- The codes of a facet's lines are assembled into symbols in the scan buffer as its scan is staged. -/
def State.fillScan (s : State) (n : Nat) (m : Int) : State :=
  let row (b : Nat) : List Byte := (upFrom 0 (s.f (F.SCR_CFG_WIDTH n))).map (s.pixelByte n (s.beamLine n m b))
  { s with scan := tputs 0 s.scan (s.scanPlace n m) ((upFrom 0 8).map row).flatten }

/-! ## Symbols (R201, R203) -/

/-- What a beam lane carries in one pixel-clock period. -/
inductive BeamSym where
  | idle | lit | start | stop | data (b : Byte)
deriving DecidableEq, Repr

/-- Whether a line of a staged facet is still to be exposed; a blanked one is sent unlit (R216). -/
def State.shows (s : State) (n : Nat) (l : Int) : Bool := match s.frameOf n l with
  | some x => x.holds l && x.wants l
  | none => false

/-- The lit slots, from 0 to 15, that pixel j of beam b puts into symbol i after SOS (R203). -/
def State.partIn (s : State) (n : Nat) (m : Int) (b i j : Nat) : Option (Nat × Nat) :=
  if j < s.f (F.SCR_CFG_WIDTH n) ∧ s.shows n (s.beamLine n m b) = true then
    let y := (tget 0 s.scan (s.scanPlace n m + b * s.f (F.SCR_CFG_WIDTH n) + j)).toNat
    if y / 16 < y % 16 then none
    else
      let d := 16 * j + s.f (F.EPS_S_BDLY n b)
      let lo := max (d + y % 16) (16 * i)
      let hi := min (d + y / 16) (16 * i + 15)
      if lo ≤ hi then some (lo - 16 * i, hi - 16 * i) else none
  else none

/-- The data byte of symbol i of beam b (R201, R203): the span over the parts that fall in it, or 0x0F for an unlit one. -/
def State.symbol (s : State) (n : Nat) (m : Int) (b i : Nat) : Byte :=
  let k := s.f (F.EPS_S_BDLY n b) / 16
  let early := if k + 1 ≤ i then s.partIn n m b i (i - k - 1) else none
  let late := if k ≤ i then s.partIn n m b i (i - k) else none
  match early, late with
  | some (p, _), some (_, q) => BitVec.ofNat 8 (q * 16 + p)
  | some (p, q), none => BitVec.ofNat 8 (q * 16 + p)
  | none, some (p, q) => BitVec.ofNat 8 (q * 16 + p)
  | none, none => 0x0F

/-- Drop the unlit symbols at the end of a list given last symbol first. -/
def dropUnlit : List Byte → List Byte
  | [] => []
  | b :: r => if b = 0x0F then dropUnlit r else b :: r

/-- The data bytes of one beam between K27.7 and K29.7: from pixel 0's to the last one lit (R203). -/
def State.beamBytes (s : State) (n : Nat) (m : Int) (b : Nat) : List Byte :=
  match (upFrom 0 (s.f (F.SCR_CFG_WIDTH n) + s.f (F.EPS_S_BDLY n b) / 16 + 1)).map (s.symbol n m b) with
  | [] => []
  | x :: r => x :: (dropUnlit r.reverse).reverse

/-- What beam b sends for the facet of line m, from K27.7 on: its scan, and for the beam whose turn it is the lighting of APC_LEN pixels, APC_OFS
pixels after the last pixel. -/
def State.beamStream (s : State) (n : Nat) (m : Int) (b : Nat) : List BeamSym :=
  let bs := s.beamBytes n m b
  let gap := s.f (F.SCR_CFG_WIDTH n) + s.f (F.EPS_S_APCWIN_APC_OFS n) - (bs.length + 1)
  [.start] ++ bs.map .data ++ [.stop] ++
    if (m / 8 % 8).toNat = b then List.replicate gap .idle ++ List.replicate (s.f (F.EPS_S_APCWIN_APC_LEN n)) .lit else []

/-! ## The 8b/10b code (R200)

The spec names the code of IEEE 802.3 Clause 36 and does not print its tables: PRESUMED, log entry 61. A symbol is written abcdei fghj, bit a
highest. -/

/-- The 6-bit blocks abcdei of D0.y to D31.y at negative running disparity. -/
def blocks6 : List Nat :=
  [39, 29, 45, 49, 53, 41, 25, 56, 57, 37, 21, 52, 13, 44, 28, 23, 27, 35, 19, 50, 11, 42, 26, 58, 51, 38, 22, 54, 14, 46, 30, 43]

/-- The 4-bit blocks fghj of Dx.0 to Dx.7 at negative running disparity. -/
def blocks4 : List Nat := [11, 9, 5, 12, 13, 10, 6, 14]

/-- The 6-bit block of x at a running disparity: unbalanced blocks and D7 are inverted at a positive one. -/
def block6 (plus : Bool) (x : Nat) : Nat :=
  let v := nthD 0 blocks6 x
  if plus ∧ (countBits v 6 ≠ 3 ∨ x = 7) then 63 - v else v

/-- The 4-bit block of y after x: y = 7 has its alternate form where the plain one would make a run of five. -/
def block4 (plus : Bool) (x y : Nat) : Nat :=
  let alt := decide (y = 7) && (if plus then [11, 13, 14].contains x else [17, 18, 20].contains x)
  let v := if alt then 7 else nthD 0 blocks4 y
  if plus ∧ (countBits v 4 ≠ 2 ∨ y = 3) then 15 - v else v

/-- A data byte's symbol. -/
def dataSymbol (plus : Bool) (b : Nat) : Nat :=
  let hi := block6 plus (b % 32)
  hi * 16 + block4 (plus != decide (countBits hi 6 ≠ 3)) (b % 32) (b / 32)

/-- A beam symbol at a running disparity: K28.5, K23.7, K27.7, K29.7 and data (R201). -/
def beamSymbol (plus : Bool) : BeamSym → Nat
  | .idle => if plus then 1023 - 250 else 250
  | .lit => if plus then 1023 - 936 else 936
  | .start => if plus then 1023 - 872 else 872
  | .stop => if plus then 1023 - 744 else 744
  | .data b => dataSymbol plus b.toNat

/-- A lane's stream coded from a running disparity; beside it, the disparity it ends with. -/
def codeStream (plus : Bool) : List BeamSym → List (BitVec 10) × Bool
  | [] => ([], plus)
  | x :: r =>
    let w := beamSymbol plus x
    let (ws, end_) := codeStream (plus != decide (countBits w 10 ≠ 5)) r
    (BitVec.ofNat 10 w :: ws, end_)

/-- The symbols of a scan leave, lane by lane (R200, R206). The idle symbols between two scans turn the running disparity at each pixel period;
their number is not modelled, so a lane begins with a free one (log entry 62). -/
def State.sendScan (s : State) (n : Nat) (m : Int) : State :=
  let z := s.freeNow.toNat
  let coded := (upFrom 0 8).map fun b => codeStream (bitOf z b) (s.beamStream n m b)
  let rd := ((upFrom 0 8).map fun b => if (nthD ([], false) coded b).2 then 2 ^ b else 0).sum
  let s := s.draw
  s.setEp n { s.epSt n with out := coded.map (·.1), rd := rd }

end Sys2Proof.Machine
end

