-- ==== Sys2Proof/Machine/Link.lean ====
section
/-!
DEFINITION. The Zwipor link of the device's side: line packets, messages and their acknowledgement, spares, and the failure of a
lane (R155–R180).
-/
namespace Sys2Proof.Machine

/-! ## Hubs, lanes and codes (R155–R157, R165) -/

/-- Whether some enabled head among the first k of station n hangs on a hub (0 A, 1 B). -/
def State.hubUsed (s : State) (n hub : Nat) : Nat → Bool
  | 0 => false
  | k + 1 => s.hubUsed n hub k || (s.on (F.INK_S_HD_MAP_EN n k) && decide (s.f (F.INK_S_HD_MAP_HUB n k) = hub))

/-- The lanes that station n uses (R155): 2n for hub A, 2n + 1 for hub B. -/
def State.lanesOf (s : State) (n : Nat) : List Nat :=
  (upFrom 0 2).filterMap fun h => if s.hubUsed n h 48 then some (2 * n + h) else none

/-- The bits of Line.fired that stand for the lanes a station uses. -/
def State.hubMask (s : State) (n : Nat) : Nat := b2n (s.hubUsed n 0 48) + 2 * b2n (s.hubUsed n 1 48)

/-- Whether messages for a hub have a path: its lane has not failed, or a spare carries it (R177, R179). -/
def State.laneOpen (s : State) (l : Nat) : Bool := !s.on (F.INK_L_STATUS_FAILED l) || s.on (F.INK_L_STATUS_SPARED l)

/-- The physical lane that carries a hub's traffic (R177). -/
def State.path (s : State) (l : Nat) : Nat := if s.on (F.INK_L_STATUS_SPARED l) then 16 + s.f (F.INK_L_STATUS_SPARE l) else l

/-- Whether a hub's lane may send: its inkjet station uses it and is not unarmed, and no G4 has put the outputs into their reset state (R19,
R26, R155, R182). Any other lane sends electrical idle. -/
def State.laneUsed (s : State) (l : Nat) : Bool :=
  !s.g4 && !s.on (F.SCR_CFG_KIND (l / 2)) && decide ((s.station (l / 2)).phase ≠ .unarmed) && (s.lanesOf (l / 2)).contains l

/-- Whether image lane l sends electrical idle (R26, R176, R177): a hub's lane that is unused or has failed, or a spare that no armed station
and no lane needs. -/
def State.electricalIdle (s : State) (l : Nat) : Bool :=
  if l < 16 then !s.laneUsed l || s.on (F.INK_L_STATUS_FAILED l)
  else s.g4 || !(s.on (F.INK_SP_STATUS_IN_USE (l - 16)) || (s.lane l).measuring.isSome || s.on (F.INK_SP_CTL_EN (l - 16)) &&
    (upFrom 0 16).any fun k => bitOf (s.f (F.INK_SP_CTL_MAP (l - 16))) k && s.armed (k / 2))

/-- ILSs_SEL (R163, R176, R177): the lane that the spare serves, the lane whose path is being measured, and else PARK; low under G4. -/
def State.ilsSel (s : State) (sp : Nat) : Nat :=
  if s.g4 then 0
  else if s.on (F.INK_SP_STATUS_IN_USE sp) then s.f (F.INK_SP_STATUS_FOR_LANE sp)
  else (s.lane (16 + sp)).measuring.getD (s.f (F.INK_SP_CTL_PARK sp))

/-- The frame that covers line l of station n, the frames closed last included (R157). -/
def State.lineFrame (s : State) (n : Nat) (l : Int) : Option Frame :=
  match s.frameOf n l with
  | some x => some x
  | none => findFirst (fun (x : Frame) => x.spans l) (s.station n).past

/-- The 2-bit code that the line store holds for a nozzle of a line; 0 where the line was not screened, or is blanked. -/
def State.storedCode (s : State) (n : Nat) (l : Int) (x : Nat) : Nat :=
  let ok := match s.slot n (l % 256).toNat with
    | some z => decide (z.lpos = l ∧ z.phase = .screened)
    | none => false
  let shown := match s.lineFrame n l with
    | some fr => fr.wants l
    | none => false
  if ok && shown then (tget 0 s.lst (slotAddr n l false + x / 4)).toNat / 4 ^ (x % 4) % 4 else 0

/-- The code a head nozzle fires on line l (R156, R157), with a gap-mode test nozzle's code replaced (R196). -/
def State.headCode (s : State) (n h : Nat) (l : Int) (test : Option (Nat × Nat)) (i : Nat) : Nat :=
  let c := s.f (F.INK_S_HD_CFG_COUNT n h)
  let x := s.f (F.INK_S_HD_MAP_FIRST n h) + (if s.on (F.INK_S_HD_MAP_REV n h) then c - 1 - i else i)
  match test with
  | some (y, d) => if y = x then d else s.storedCode n (l - s.f (F.INK_S_HD_CFG_ROWOFS n h)) x
  | none => s.storedCode n (l - s.f (F.INK_S_HD_CFG_ROWOFS n h)) x

/-- The heads of a hub in ascending PORT order (R165). -/
def State.headsOf (s : State) (n hub : Nat) : List Nat :=
  ((upFrom 0 32).map fun p => (upFrom 0 48).filter fun h =>
    s.on (F.INK_S_HD_MAP_EN n h) && decide (s.f (F.INK_S_HD_MAP_HUB n h) = hub) && decide (s.f (F.INK_S_HD_MAP_PORT n h) = p)).flatten

/-- The nozzle codes of a line for one hub, head by head, each head on a byte boundary (R165). -/
def State.hubCodes (s : State) (n hub : Nat) (l : Int) (test : Option (Nat × Nat)) : List Byte :=
  ((s.headsOf n hub).map fun h =>
    let c := s.f (F.INK_S_HD_CFG_COUNT n h)
    packCodes 4 (c / 4 + 1) ((upFrom 0 c).map (s.headCode n h l test))).flatten

/-! ## Messages (R159–R162, R166, R173) -/

/-- TYPE of a message (R162). -/
def LaneMsg.type : LaneMsg → Nat
  | .tb _ => 0x01
  | .line _ _ _ _ _ _ _ _ => 0x02
  | .commit _ _ _ => 0x03
  | .revise _ _ _ => 0x04
  | .scale _ _ _ _ => 0x05
  | .wave _ _ _ => 0x06
  | .assign _ => 0x07
  | .echo => 0x08
  | .switch => 0x09
  | .cap => 0x0A
  | .sbReq _ _ _ _ _ _ => 0x0B
  | .ack _ _ => 0x10
  | .nack _ _ _ => 0x11

/-- The body of a message (R162, R165), its fields in the order of the tables, little-endian. R175 lists the parts of SB_REQ without a
layout: one byte each for PORT, the address, write and the length, two for the register address (DESIGN CHOICE, log entry 64). -/
def LaneMsg.body : LaneMsg → List Byte
  | .tb t => toLE t 8
  | .line l f seg _ _ _ _ codes => (if seg = 0 then toLE (ux 32 l) 4 ++ toLE f 8 ++ toLE 0 4 else []) ++ codes
  | .commit q rev l => toLE q 2 ++ toLE rev 1 ++ toLE 0 1 ++ toLE (ux 32 l) 4
  | .revise q rev f => toLE q 2 ++ toLE rev 1 ++ toLE 0 5 ++ toLE f 8
  | .scale port s0 s l => toLE port 1 ++ toLE 0 1 ++ toLE s0 2 ++ toLE s 2 ++ toLE 0 2 ++ toLE (ux 32 l) 4
  | .wave bank part bs => toLE bank 1 ++ toLE part 1 ++ toLE 0 6 ++ bs
  | .assign h => toLE h 1
  | .echo => []
  | .switch => []
  | .cap => []
  | .sbReq w port addr reg len bs =>
    toLE port 1 ++ toLE addr 1 ++ toLE reg 2 ++ toLE (b2n w) 1 ++ toLE len 1 ++ (if w then bs.take len else [])
  | .ack q seg => toLE q 2 ++ toLE seg 1
  | .nack q seg c => toLE q 2 ++ toLE seg 1 ++ toLE c 1

/-- LAST, TEST, COMMITTED and WSET of a header (R160). -/
def LaneMsg.flags : LaneMsg → Nat
  | .line _ _ _ last test committed wset _ => b2n last + 2 * b2n test + 4 * b2n committed + 8 * (wset % 2)
  | .tb _ => 0
  | .commit _ _ _ => 0
  | .revise _ _ _ => 0
  | .scale _ _ _ _ => 0
  | .wave _ _ _ => 0
  | .assign _ => 0
  | .echo => 0
  | .switch => 0
  | .cap => 0
  | .sbReq _ _ _ _ _ _ => 0
  | .ack _ _ => 0
  | .nack _ _ _ => 0

/-- The header of a message (R160). -/
def Sent.header (x : Sent) : Nat :=
  x.msg.type + x.hub % 32 * 2 ^ 8 + x.msg.flags * 2 ^ 16 + x.msg.body.length % 4096 * 2 ^ 20 + x.seq % 65536 * 2 ^ 32 + x.seg % 256 * 2 ^ 48

/-- The bytes of a message (R159): header, body, CRC-32C over both, and zero padding to whole blocks of 8. -/
def Sent.bytes (x : Sent) : List Byte :=
  let m := toLE x.header 8 ++ x.msg.body
  let m := m ++ toLE (crc32c m) 4
  m ++ toLE 0 ((8 - m.length % 8) % 8)

/-- A block of a lane (R159): the control blocks of Clause 49 that a message begins and ends with, and a data block. -/
inductive LaneBlock where
  | start | data (bs : List Byte) | terminate
deriving DecidableEq, Repr

/-- A list in runs of eight. -/
def inBlocks : Nat → List Byte → List LaneBlock
  | 0, _ => []
  | k + 1, bs => .data (bs.take 8) :: inBlocks k (bs.drop 8)

/-- The blocks of a message on its lane (R159). -/
def Sent.blocks (x : Sent) : List LaneBlock := [.start] ++ inBlocks (x.bytes.length / 8) x.bytes ++ [.terminate]

/-- Whether a message is a priority message of the device (R161). -/
def LaneMsg.priority : LaneMsg → Bool
  | .tb _ => true
  | .commit _ _ _ => true
  | .revise _ _ _ => true
  | .switch => true
  | .cap => true
  | .line _ _ _ _ _ _ _ _ => false
  | .scale _ _ _ _ => false
  | .wave _ _ _ => false
  | .assign _ => false
  | .echo => false
  | .sbReq _ _ _ _ _ _ => false
  | .ack _ _ => false
  | .nack _ _ _ => false

/-- Whether a message is acknowledged by ACK or STATUS (R162). -/
def LaneMsg.acked : LaneMsg → Bool
  | .line _ _ _ _ _ _ _ _ => true
  | .commit _ _ _ => true
  | .revise _ _ _ => true
  | .scale _ _ _ _ => true
  | .wave _ _ _ => true
  | .assign _ => true
  | .switch => true
  | .cap => true
  | .tb _ => false
  | .echo => false
  | .sbReq _ _ _ _ _ _ => false
  | .ack _ _ => false
  | .nack _ _ _ => false

def LaneMsg.isWave (m : LaneMsg) : Bool := decide (m.type = 0x06)

/-- The 1/25 ticks that a message takes on its lane (R159: 10 Gbit/s, 12 of them a byte). -/
def LaneMsg.takes (m : LaneMsg) : Nat := (m.body.length + 12 + 7) / 8 * 8 * 12

/-- The 1/25 tick at which a message put on a lane now starts (R161): a priority message waits only for the priority messages before it. -/
def Lane.starts (x : Lane) (now : Nat) (m : LaneMsg) : Nat := if m.priority then max x.prio now else max x.busy now

/-- The 1/25 tick at which the last block of a message put on a physical lane now leaves. -/
def State.leaves (s : State) (p : Nat) (m : LaneMsg) : Nat := (s.lane p).starts (s.time * 25) m + m.takes

/-- Put a message on a physical lane. -/
def State.transmitOn (s : State) (p : Nat) (m : Sent) : State :=
  let x := s.lane p
  let e := s.leaves p m.msg
  s.setLane p { x with
    busy := if m.msg.priority then max x.busy (x.starts (s.time * 25) m.msg) + m.msg.takes else e
    prio := if m.msg.priority then e else x.prio
    sent := m :: x.sent }

/-- The messages of a lane that a priority message interrupts leave later by its length (R161). -/
def Lane.interrupt (x : Lane) (start d : Nat) : Lane :=
  { x with out := x.out.map fun o => if !o.msg.priority && decide (start < o.leftAt) then { o with leftAt := o.leftAt + d } else o }

/-- Put a message for hub l on its path; the answer is the 1/25 tick its last block leaves. A lane that may not send stays idle (R26). -/
def State.transmit (s : State) (l seq seg : Nat) (m : LaneMsg) : State × Nat :=
  let p := s.path l
  let e := s.leaves p m
  if s.laneUsed l then
    let s := if m.priority then s.setLane l ((s.lane l).interrupt (e - m.takes) m.takes) else s
    (s.transmitOn p ⟨l, seq, seg, m⟩, e)
  else (s, e)

/-- Send a message to hub l under a sequence number, and hold it for its acknowledgement (R173). -/
def State.sendAs (s : State) (l seq seg : Nat) (m : LaneMsg) : State :=
  let (s, e) := s.transmit l seq seg m
  if m.acked then
    let x := s.lane l
    s.setLane l { x with out := x.out ++ [⟨seq, seg, m, e, false⟩] }
  else s

/-- Take the next sequence number of a lane (R160). -/
def State.nextSeq (s : State) (l : Nat) : Nat × State :=
  let x := s.lane l
  (x.seq, s.setLane l { x with seq := (x.seq + 1) % 65536 })

/-- Whether a hub's messages have a path now. -/
def State.reachable (s : State) (l : Nat) : Bool := s.laneOpen l && s.laneUsed l

/-- Send a message to hub l: an acknowledged one with the next sequence number; the SEQ field of any other, for which R160 gives no value, is
a free value (log entry 65). -/
def State.send (s : State) (l : Nat) (m : LaneMsg) : State :=
  if s.reachable l then
    if m.acked then
      let (q, s) := s.nextSeq l
      s.sendAs l q 0 m
    else s.draw.sendAs l (s.freeNow.toNat % 65536) 0 m
  else s

/-- The segments of a line's codes: at most 512 bytes each, header, line header and CRC included (R161, R165). -/
def segments (bs : List Byte) : List (List Byte) :=
  let rec go : Nat → List Byte → List (List Byte)
    | 0, _ => []
    | k + 1, bs => match bs with
      | [] => []
      | _ => bs.take 500 :: go k (bs.drop 500)
  bs.take 484 :: go (bs.length / 500 + 1) (bs.drop 484)

/-- The LINE messages of a line for one hub. -/
def lineMsgs (l : Int) (f wset : Nat) (committed test : Bool) (codes : List Byte) : List (Nat × LaneMsg) :=
  let ss := segments codes
  ((upFrom 0 ss.length).zip ss).map fun (i, bs) => (i, .line l f i (decide (i + 1 = ss.length)) test committed wset bs)

/-- The tick in which the last block of a run of LINE messages would leave. -/
def State.lineLeaves (s : State) (l : Nat) (ms : List (Nat × LaneMsg)) : Nat :=
  (max (s.lane (s.path l)).busy (s.time * 25) + (ms.map fun m => m.2.takes).sum + 24) / 25

/-- Whether every hub's LINE messages can leave by 1,200 ticks before the fire time (R166). -/
def State.lineFits (s : State) (f : Nat) (l : List (Nat × List (Nat × LaneMsg))) : Bool :=
  l.all fun x => decide (s.lineLeaves x.1 x.2 + 1200 ≤ f)

/-- The LINE messages of line l of station n for each hub that has a path. -/
def State.linePackets (s : State) (n : Nat) (l : Int) (f wset : Nat) (committed test : Bool) (nozzle : Option (Nat × Nat)) :
    List (Nat × List (Nat × LaneMsg)) :=
  ((s.lanesOf n).filter s.reachable).map fun la => (la, lineMsgs l f wset committed test (s.hubCodes n (la % 2) l nozzle))

/-- Send the LINE messages of a line; the answer holds the LSEQ on each hub's lane. -/
def State.sendPackets (s : State) (ps : List (Nat × List (Nat × LaneMsg))) : Nat × Nat × State :=
  ps.foldl (fun a p =>
    let (qa, qb, s) := a
    let (q, s) := s.nextSeq p.1
    let s := p.2.foldl (fun s m => s.sendAs p.1 q m.1 m.2) s
    if p.1 % 2 = 0 then (q, qb, s) else (qa, q, s)) (0, 0, s)

/-- LSEQ of a line on a hub's lane. -/
def Line.lseqOn (x : Line) (l : Nat) : Nat := if l % 2 = 0 then x.lseq else x.lseqB

/-- Send a COMMIT or REVISE of a line to hub l, and keep it with the line until it has fired (R177). -/
def State.sendOf (s : State) (l : Nat) (lpos : Int) (m : LaneMsg) : State :=
  if s.reachable l then
    let q := (s.lane l).seq
    let s := s.send l m
    let x := s.station (l / 2)
    s.setStation (l / 2) { x with lines := x.lines.map fun y => if y.lpos = lpos then { y with msgs := y.msgs ++ [(l, q, m)] } else y }
  else s

/-- Send COMMIT of a line to each hub (R162, R234). -/
def State.sendCommit (s : State) (n : Nat) (x : Line) : State :=
  (s.lanesOf n).foldl (fun s la => s.sendOf la x.lpos (.commit (x.lseqOn la) x.rev x.lpos)) s

/-- Send REVISE of a line to each hub (R162, R236). -/
def State.sendRevise (s : State) (n : Nat) (x : Line) : State :=
  (s.lanesOf n).foldl (fun s la => s.sendOf la x.lpos (.revise (x.lseqOn la) x.rev x.fire)) s

/-! ## Lines given up -/

def State.lineAt (s : State) (n : Nat) (l : Int) : Option Line := findFirst (fun x => decide (x.lpos = l)) (s.station n).lines

/-- Change the line of station n at a position. -/
def State.mapLine (s : State) (n : Nat) (l : Int) (g : Line → Line) : State :=
  let x := s.station n
  s.setStation n { x with lines := x.lines.map fun y => if y.lpos = l then g y else y }

/-- A line counts as missed with a reason and its frame is DEGRADED; a committed line no longer counts as emitted. -/
def State.missLine (s : State) (n : Nat) (l : Int) (reason : Nat) (committed : Bool) : State :=
  s.mapFrameAt n l fun y =>
    let y := y.addMissed 1 reason
    { y with degraded := true, emitted := if committed then y.emitted - 1 else y.emitted }

/-- R166: a line whose packet cannot leave in time is missed, with reason LATE_PACKET. -/
def State.latePacket (s : State) (n : Nat) (l : Int) : State :=
  let was := match s.lineAt n l with
    | some x => decide (x.phase = .committed)
    | none => false
  let s := (s.mapLine n l fun x => { x with phase := .lost, miss := true }).missLine n l Reason.LATE_PACKET was
  (s.setF (F.INK_S_STATUS_LATE_PKT n) 1).raiseF EV.LATE_PACKET n

/-! ## Spares and the failure of a lane (R176–R180) -/

/-- Whether a spare may be given to some lane (R176, R179): enabled, not in use, not failed. -/
def State.spareFree (s : State) (sp : Nat) : Bool :=
  s.on (F.INK_SP_CTL_EN sp) && !s.on (F.INK_SP_STATUS_IN_USE sp) && !s.on (F.INK_SP_STATUS_FAIL sp)

/-- Whether a spare may be given to lane l (R163, R176). -/
def State.spareFor (s : State) (l sp : Nat) : Bool :=
  s.spareFree sp && bitOf (s.f (F.INK_SP_CTL_MAP sp)) l && bitOf (s.lane l).measured sp
    && !s.on (if sp = 0 then F.INK_L_STATUS_NOSPARE0 l else F.INK_L_STATUS_NOSPARE1 l)

/-- The lines of a station in order of fire time. -/
def byFire (l : List Line) : List Line :=
  let rec ins (x : Line) : List Line → List Line
    | [] => [x]
    | y :: r => if x.fire < y.fire then x :: y :: r else y :: ins x r
  l.foldl (fun a x => ins x a) []

/-- The line of a LINE message that can no longer leave 1,200 ticks before its fire time (R166). -/
def State.tooLate (s : State) (l : Nat) (m : LaneMsg) : Option Int :=
  match m with
  | .line lp f _ _ _ _ _ _ =>
    let fire := match s.lineAt (l / 2) lp with
      | some x => x.fire
      | none => f
    if fire * 25 < s.leaves (s.path l) m + 30000 then some lp else none
  | _ => none

/-- A line whose packet can no longer leave in time is given up once (R166), and its messages to hub l are not awaited. -/
def State.giveUp (s : State) (l seq : Nat) (lp : Int) : State :=
  let s := s.setLane l { s.lane l with out := (s.lane l).out.filter fun y => decide (y.seq ≠ seq) }
  match s.lineAt (l / 2) lp with
  | some z => if z.phase = .lost ∨ z.miss then s else s.latePacket (l / 2) lp
  | none => s

/-- Send an outstanding message on the present path, its one resend still to come; a LINE segment only where it can leave in time (R166). -/
def State.moved (s : State) (l : Nat) (o : OutMsg) : State :=
  match s.tooLate l o.msg with
  | some lp => s.giveUp l o.seq lp
  | none => s.sendAs l o.seq o.seg o.msg

/-- R177 step 2: what a hub needs is sent on the spare: in order of fire time every REVISE and COMMIT of lines not yet fired, as they were
sent, and then every other message not yet acknowledged. One that is already acknowledged is not awaited again. -/
def State.refill (s : State) (l : Nat) : State :=
  let old := (s.lane l).out
  let s := s.setLane l { s.lane l with out := [] }
  let ls := byFire ((s.station (l / 2)).lines.filter fun x => decide (s.time < x.fire) && decide (x.phase ≠ .lost))
  let ms := (ls.map fun x => x.msgs.filter fun m => decide (m.1 = l)).flatten
  let s := ms.foldl (fun s m =>
    if old.any fun o => decide (o.seq = m.2.1) then s.sendAs l m.2.1 0 m.2.2 else (s.transmit l m.2.1 0 m.2.2).1) s
  (old.filter fun o => !ms.any fun m => decide (m.2.1 = o.seq)).foldl (fun s o => s.moved l o) s

/-- Whether the timeouts of lane l are held (R177): from the select of its spare until ULOCK, for 1,200 ticks at most. -/
def State.laneHeld (s : State) (l : Nat) : Bool := match (s.lane l).held with
  | some t => decide (s.time < t + 1200)
  | none => false

/-- R177: a spare is given to lane l. -/
def State.giveSpare (s : State) (l sp : Nat) : State :=
  let s := s.setFs [(F.INK_SP_STATUS_FOR_LANE sp, l), (F.INK_SP_STATUS_IN_USE sp, 1), (F.INK_SP_STATUS_ULOCK sp, 0),
    (F.INK_L_STATUS_SPARED l, 1), (F.INK_L_STATUS_SPARE l, sp)]
  let s := s.setLane l { s.lane l with held := some s.time, fresh := true, due := false, badStatus := 0, badTelem := 0 }
  let s := s.setLane (16 + sp) { s.lane (16 + sp) with measuring := none }
  let old := (s.lane l).out
  let s := ((s.setLane l { s.lane l with out := [] }).send l .switch)
  let sw := (s.lane l).out
  let s := (s.setLane l { s.lane l with out := old }).refill l
  let s := s.setLane l { s.lane l with out := sw ++ (s.lane l).out }
  ((s.tally 0x122 1).degrade (l / 2)).raiseF EV.LANE_SPARE_IN l

/-- EV_LANE_NO_SPARE (R179): at G2 the frame in progress is SPOILED with reason LANE_FAILED, and printing goes on. -/
def State.noSpare (s : State) (l : Nat) : State :=
  let s := s.raiseOwn EV.LANE_NO_SPARE l
  if s.f (F.EVT_E_CFG_LEVEL EV.LANE_NO_SPARE) = 2 then
    s.mapCurrent (l / 2) fun x => { x with state := 3, reason := Reason.LANE_FAILED }
  else s

/-- A spare fails (R179). -/
def State.spareFails (s : State) (sp : Nat) : State :=
  (s.setFs [(F.INK_SP_STATUS_FAIL sp, 1), (F.INK_SP_STATUS_IN_USE sp, 0), (F.INK_SP_STATUS_ULOCK sp, 0)]).raise
    EV.LANE_SPARE_FAIL (16 + sp)

/-- R173, R174, R177, R179: the lane of hub l is declared failed. Where no spare is given only its WAVE messages stay open: a download that
they belong to is not acknowledged (R186). -/
def State.failLane (s : State) (l : Nat) : State :=
  let s := s.logRetry 2 EV.LANE_TRANSIENT l
  let s := if s.on (F.INK_L_STATUS_SPARED l) then
      (s.setF (F.INK_L_STATUS_SPARED l) 0).spareFails (s.f (F.INK_L_STATUS_SPARE l))
    else s
  let s := s.setFs [(F.INK_L_STATUS_FAILED l, 1), (F.INK_L_STATUS_TBLOCK l, 0)]
  match findFirst (s.spareFor l) [0, 1] with
  | some sp => s.giveSpare l sp
  | none =>
    let x := s.lane l
    (s.setLane l { x with out := x.out.filter fun o => o.msg.isWave, due := false, badStatus := 0 }).noSpare l

/-! ## Acknowledgements (R171–R174) -/

/-- Whether a sequence number lies below the cumulative acknowledgement (R172). -/
def seqBelow (seq ack : Nat) : Bool := decide ((ack + 65536 - seq - 1) % 65536 < 32768)

/-- A message is acknowledged; an acknowledged resend is transient (R173). -/
def State.ackMsg (s : State) (l : Nat) (o : OutMsg) : State :=
  if o.resent then ((s.addF (F.INK_L_TRANS l) 1).logRetry 1 EV.LANE_TRANSIENT l).raise EV.LANE_TRANSIENT l else s

/-- Drop the outstanding messages that a test takes, as acknowledged. -/
def State.ackWhere (s : State) (l : Nat) (p : OutMsg → Bool) : State :=
  let x := s.lane l
  let s := s.setLane l { x with out := x.out.filter fun o => !p o }
  (x.out.filter p).foldl (fun s o => s.ackMsg l o) s

/-- R173: resend a message once, or declare the lane failed; a LINE segment that can no longer leave in time is given up (R166). -/
def State.resend (s : State) (l : Nat) (o : OutMsg) : State :=
  if o.resent then s.failLane l
  else match s.tooLate l o.msg with
    | some lp => s.giveUp l o.seq lp
    | none =>
      let p := s.path l
      let same (y : OutMsg) : Bool := decide (y.seq = o.seq ∧ y.seg = o.seg)
      let (s, e) := s.transmit l o.seq o.seg o.msg
      let x := s.lane l
      (s.setLane l { x with out := x.out.map fun y => if same y then { y with leftAt := e, resent := true } else y }).tally (0x110 + p) 1

/-- R173: an ACK. -/
def execAck (l : Fin 16) (seq : BitVec 16) (seg : BitVec 8) (s : State) : Out :=
  .next (s.ackWhere l.val fun o => decide (o.seq = seq.toNat ∧ o.seg = seg.toNat))

/-- R173: a NACK. -/
def execNack (l : Fin 16) (seq : BitVec 16) (seg _cause : BitVec 8) (s : State) : Out :=
  let s := s.setF (F.INK_L_STATUS_NACK_SEEN l.val) 1
  match findFirst (fun o => decide (o.seq = seq.toNat ∧ o.seg = seg.toNat)) (s.lane l.val).out with
  | some o => if s.reachable l.val then .next (s.resend l.val o) else .next s
  | none => .next s

/-- The outstanding message that left first. -/
def oldestOut : List OutMsg → Option OutMsg
  | [] => none
  | o :: r => match oldestOut r with
    | some y => if y.leftAt < o.leftAt then some y else some o
    | none => some o

/-- R173: 540 ticks pass after a message left without its acknowledgement. While a spare locks the timeout is held, for 1,200 ticks at most
(R177). -/
def execAckTimeout (l : Fin 16) (s : State) : Out :=
  let x := s.lane l.val
  match oldestOut x.out with
  | some o =>
    if s.reachable l.val then
      let due := (o.leftAt + 24) / 25 + 540
      let at_ := match x.held with
        | some t => max due (t + 1200)
        | none => due
      .next (((s.advanceTo at_).setF (F.INK_L_STATUS_TIMEOUT l.val) 1).resend l.val o)
    else .next s
  | none => .next s

/-- R177: a spare's upstream locks, and held timeouts resume. -/
def execSpareUlock (sp : Fin 2) (s : State) : Out :=
  if s.on (F.INK_SP_STATUS_IN_USE sp.val) then
    let l := s.f (F.INK_SP_STATUS_FOR_LANE sp.val)
    let s := s.setF (F.INK_SP_STATUS_ULOCK sp.val) 1
    .next (s.setLane l { s.lane l with held := none })
  else .next (s.setF (F.INK_SP_STATUS_ULOCK sp.val) 1)

/-- R159, INK_Ll_STATUS.UP: a lane's receiver gains or loses block lock. -/
def execLaneBlockLock (l : Fin 18) (up : Bool) (s : State) : Out := .next (s.setB (F.INK_L_STATUS_UP l.val) up)

/-- The device answers a hub's MISSED or SB_RSP (R174): NACK, with a cause that the spec does not list, on a CRC error or a gap in SEQ, and
ACK else. The answer tells whether the message is one that the device did not hold before. -/
def State.answerHub (s : State) (l : Nat) (intact : Bool) (seq : Nat) : State × Bool :=
  let x := s.lane l
  let first := match x.hubSeq with
    | none => true
    | some e => decide (seq = e)
  let again := match x.hubSeq with
    | none => false
    | some e => decide (seq ≠ e) && seqBelow seq e
  if intact && first then ((s.setLane l { x with hubSeq := some ((seq + 1) % 65536) }).send l (.ack seq 0), true)
  else if intact && again then (s.send l (.ack seq 0), false)
  else (s.draw.send l (.nack seq 0 (s.freeNow.toNat % 256)), false)

end Sys2Proof.Machine
end

