-- ==== Sys2Proof/Machine/Roles.lean ====
section
/-!
DEFINITION. Roles, images, the carillon, pins, effects that leave a region, exceptions and halts of the mallets (R257–R281,
R291–R298).
-/
namespace Sys2Proof.Machine

/-! ## Registers of a mallet -/

/-- General register n. -/
def Mallet.kr (x : Mallet) (n : Nat) : Word := x.k.toArray.getD n 0

/-- The mallet with general register n set. -/
def Mallet.setK (x : Mallet) (n : Nat) (v : Word) : Mallet := { x with k := x.k.setIfInBounds n v }

/-- The 64-bit value of a register pair. -/
def Mallet.pair (x : Mallet) (n : Nat) : Nat := 2 ^ 32 * (x.kr (n + 1)).toNat + (x.kr n).toNat

/-- The mallet with a register pair set. -/
def Mallet.setPair (x : Mallet) (n v : Nat) : Mallet := (x.setK n (BitVec.ofNat 32 v)).setK (n + 1) (BitVec.ofNat 32 (v / 2 ^ 32))

/-- Apply a change to mallet m. -/
def State.mapMallet (s : State) (m : Nat) (g : Mallet → Mallet) : State := s.setMallet m (g (s.mallet m))

/-- The station that mallet m's role is bound to. -/
def State.boundStation (s : State) (m : Nat) : Option Nat :=
  match (s.mallet m).role with
  | some r => (s.role r).station
  | none => none

/-- The power domain of mallet m (R267): MLA (bit 2) for an event mallet, MLB (bit 3) for a loop mallet. -/
def malletDomain (m : Nat) : Nat := if malletKind m = 1 then 3 else 2

/-- Whether a mallet is neither halted, running nor loading and holds no role. -/
def State.malletIdle (s : State) (m : Nat) : Bool := decide ((s.mallet m).run = .idle) && (s.mallet m).role.isNone

/-- The effective privilege bits of mallet m (R277). -/
def State.priv (s : State) (m : Nat) : Nat :=
  match (s.mallet m).role with
  | some r => (s.role r).priv &&& (s.f (F.MLT_ROLE_PRIV_PRIV r) + s.f (F.MLT_ROLE_PRIV_WRMASK r) * 1024)
  | none => 0

/-! ## Images (R278) -/

/-- A little-endian number in a list of bytes. -/
def numAt (bs : List Byte) (o n : Nat) : Nat := ofLE ((bs.drop o).take n)

def imgKind (bs : List Byte) : Nat := numAt bs 6 1
def imgObs (bs : List Byte) : Bool := bitOf (numAt bs 7 1) 0
def imgRole (bs : List Byte) : Nat := numAt bs 8 1
def imgStation (bs : List Byte) : Option Nat := if numAt bs 9 1 = 255 then none else some (numAt bs 9 1)
def imgKey (bs : List Byte) : Nat := numAt bs 10 2
def imgPriv (bs : List Byte) : Nat := numAt bs 12 4
def imgEntry (bs : List Byte) : Nat := numAt bs 16 4
def imgTake (bs : List Byte) : Nat := numAt bs 20 4
def imgIcount (bs : List Byte) : Nat := numAt bs 24 4
def imgDbytes (bs : List Byte) : Nat := numAt bs 28 4
def imgPcount (bs : List Byte) : Nat := numAt bs 32 2

/-- The port entries of an image: port number and binding. -/
def imgPorts (bs : List Byte) : List (Nat × Nat) :=
  let o := 64 + imgIcount bs * 4 + imgDbytes bs
  (upFrom 0 (imgPcount bs)).map fun i => (numAt bs (o + i * 8) 4, numAt bs (o + i * 8 + 4) 4)

/-- A port entry in MLT_Mm_PORTp (R265). -/
def State.setPort (s : State) (m p v : Nat) : State :=
  s.setFs [(F.MLT_M_PORT_TYPE m p, bitsOf v 31 28), (F.MLT_M_PORT_TARGET m p, bitsOf v 26 16), (F.MLT_M_PORT_ARG m p, bitsOf v 15 0)]

/-- Copy an image into mallet m (R278): what the image does not name is zero, or NONE. -/
def State.loadImage (s : State) (m : Nat) (bs : List Byte) : State :=
  let ic := imgIcount bs
  let keep (sz : Nat) (t : Tbl Byte) : Tbl Byte := t.filter fun kv => decide (kv.1 / sz ≠ m)
  let words : List Word := (upFrom 0 ic).map fun i => BitVec.ofNat 32 (numAt bs (64 + i * 4) 4)
  let s := { s with
    imem := tputs 0 (s.imem.filter fun kv => decide (kv.1 / 16384 ≠ m)) (16384 * m) words
    dmem := tputs 0 (keep 16384 s.dmem) (16384 * m) ((bs.drop (64 + ic * 4)).take (imgDbytes bs))
    mltPoison := s.mltPoison.filter fun w => decide (w / 4096 ≠ m ∨ 2 ^ 20 ≤ w) }
  let s := forBelow 256 (fun p s => s.setPort m p 0) s
  (imgPorts bs).foldl (fun s p => s.setPort m p.1 p.2) s

/-! ## The carillon (R270–R273, R419) -/

/-- The present epoch of a role: 0 for the host, the keeper and an unassigned role. -/
def State.epochOf (s : State) (r : Nat) : Nat :=
  if 62 ≤ r then 0 else match (s.role r).holder with
    | some _ => (s.role r).epoch
    | none => 0

/-- Fields of a message header (R270). -/
def Msg.epoch (x : Msg) : Nat := bitsOf x.w0.toNat 15 0
def Msg.drole (x : Msg) : Nat := bitsOf x.w0.toNat 21 16
def Msg.tag (x : Msg) : Nat := bitsOf x.w0.toNat 31 24

/-- A header word. -/
def header (epoch role why tag : Nat) : Word := BitVec.ofNat 32 (epoch % 65536 + role % 64 * 65536 + why % 4 * 2 ^ 22 + tag % 256 * 2 ^ 24)

/-- A message set out on the carillon. -/
def State.fly (s : State) (from_ : Nat) (mallet : Option Nat) (m : Msg) : State :=
  { s with flights := s.flights ++ [⟨from_, s.epochOf from_, mallet, m⟩] }

/-- Return a message to its sender with a reason (R272): 1 EPOCH_STALE, 2 QFULL, 3 NO_ROLE. -/
def State.bounce (s : State) (f : Flight) (why : Nat) : State :=
  let r := f.msg.drole
  let b : Msg := { f.msg with w0 := header (s.epochOf r) r why f.msg.tag }
  let s := s.tally 0x009 1
  match f.mallet with
  | some m =>
    let s := s.raise EV.MLT_BOUNCE m
    let x := s.mallet m
    if x.bounce.length < 16 then s.setMallet m { x with bounce := x.bounce ++ [b] }
    else (s.setF (F.MLT_M_STATUS_BOUNCE_LOST m) 1).raise EV.MLT_BOUNCE_LOST m
  | none =>
    let s := s.raiseX EV.MLT_BOUNCE
    if f.from_ = 62 then
      if s.hostRx.length < 64 then { s with hostRx := s.hostRx ++ [(true, b)] } else s.flam F.MLT_FLAM_COUNT 1
    else s.note 0

/-- The message as its receiver gets it (R270): EPOCH and DROLE are the sender's. -/
def Flight.delivered (f : Flight) : Msg := { f.msg with w0 := header f.epoch f.from_ 0 f.msg.tag }

/-- Replies of the keeper to a carillon command (R419): one message for each pair of response words. -/
def keeperReplies (req : Msg) (result : Nat) (rsp : List Nat) : List Msg :=
  let n := if result ≠ 0 ∨ rsp.isEmpty then 1 else (rsp.length + 1) / 2
  (upFrom 0 n).map fun p =>
    let w (i : Nat) : Word := BitVec.ofNat 32 (if result = 0 then nthD 0 rsp i else 0)
    ⟨header req.epoch req.drole 0 req.tag, BitVec.ofNat 32 (result + p * 256 + n * 65536), w (2 * p), w (2 * p + 1)⟩

/-- The keeper answers a carillon command. -/
def State.keeperReply (s : State) (req : Msg) (result : Nat) (rsp : List Nat) : State :=
  (keeperReplies req result rsp).foldl (fun s m => s.fly 63 none m) s

/-- Commands that the carillon carries (R419): GET_INFO, CAL_SET and MARGIN_RUN. -/
def carillonOps : List Nat := [0x01, 0x05, 0x32]

/-- The first flight of a sender, and the rest. -/
def takeFlight (from_ : Nat) : List Flight → Option (Flight × List Flight)
  | [] => none
  | f :: r => if f.from_ = from_ then some (f, r)
    else match takeFlight from_ r with
      | some (g, r') => some (g, f :: r')
      | none => none

/-- R271, R272: the oldest message of a sender is delivered, or bounced. -/
def execCarillonDeliver (from_ : BitVec 6) (s : State) : Out :=
  match takeFlight from_.toNat s.flights with
  | none => .next s
  | some (f, rest) =>
    let s := { s with flights := rest }
    let r := f.msg.drole
    let d := f.delivered
    if r = 62 then
      if f.msg.epoch ≠ 0 then .next (s.bounce f 1)
      else if 64 ≤ s.hostRx.length then .next (s.bounce f 2)
      else .next (({ s with hostRx := s.hostRx ++ [(false, d)] }.tally 0x008 1).raiseX EV.MLT_HOST_MSG)
    else if r = 63 then
      if f.msg.epoch ≠ 0 then .next (s.bounce f 1)
      else
        let s := s.tally 0x008 1
        if carillonOps.contains d.tag then .next { s with keeperRx := s.keeperRx ++ [d] } else .next (s.keeperReply d 1 [])
    else match (s.role r).holder with
      | none => .next (s.bounce f 3)
      | some m =>
        if f.msg.epoch ≠ (s.role r).epoch then .next (s.bounce f 1)
        else
          let x := s.mallet m
          if x.inq.length < 64 then .next ((s.setMallet m { x with inq := x.inq ++ [d] }).tally 0x008 1)
          else .next (s.bounce f 2)

/-- Bounce a message that stood delivered in a faulty mallet's queue (R268 step 3): its header names its sender. -/
def State.returnMsg (s : State) (r : Nat) (x : Msg) : State :=
  let from_ := x.drole
  let m : Option Nat := if 62 ≤ from_ then none else (s.role from_).holder
  if 62 ≤ from_ ∨ m.isSome then s.bounce ⟨from_, x.epoch, m, { x with w0 := header 0 r 0 x.tag }⟩ 1 else s

/-! ## Starting in a role (R267, R273, R289, R302) -/

/-- The next epoch of a role, and every view of it zeroed where the count wraps (R267, R273). -/
def State.bumpEpoch (s : State) (r : Nat) : State :=
  let x := s.role r
  if x.epoch = 65535 then
    forBelow 36 (fun m s => s.mapMallet m fun y => { y with view := tput 0 y.view r 0 }) (s.setRole r { x with epoch := 1 })
  else s.setRole r { x with epoch := x.epoch + 1 }

/-- Every role's present epoch, as a view table. -/
def viewNow (s : State) : Nat → Tbl Nat
  | 0 => []
  | n + 1 => tput 0 (viewNow s n) n (s.epochOf n)

/-- Mallet m starts in its role at an instruction index. -/
def State.startMallet (s : State) (m pc : Nat) : State :=
  let v := viewNow s 62
  s.mapMallet m fun x => { x with
    run := .running, why := 0, pc := pc % 16384, acc := 0, pend := 0, view := v, wait := none, stall := .none, ready := s.time,
    lastWait := s.time, lastSend := none, afterMac := false, timerAt := none,
    region := { x.region with isOpen := false, closing := false } }

/-- Role r is assigned to mallet m (R267). -/
def State.assign (s : State) (r m : Nat) : State :=
  let s := s.bumpEpoch r
  let s := s.setRole r { s.role r with holder := some m }
  s.mapMallet m fun x => { x with role := some r }

/-! ## Pins, events and messages that leave (R265, R266, R290, R299) -/

/-- A pin action at the present tick (R265): low, high, toggle, or a pulse that ends after its width. -/
def State.pinAct (s : State) (g action width : Nat) : State :=
  let level := tget 0 s.gpio g
  let put (s : State) (v : Nat) : State := { s with gpio := tput 0 s.gpio g v }
  if action = 0 then put s 0
  else if action = 1 then put s 1
  else if action = 2 then put s (1 - level)
  else { put s 1 with timed := s.timed ++ [(s.time + width, g, 0, 0)] }

/-- R290: the earliest timed pin action reaches its tick. -/
def execTimedPinAction (s : State) : Out :=
  let first := s.timed.foldl (fun (a : Option (Nat × Nat × Nat × Nat)) x => match a with
    | some y => if x.1 < y.1 then some x else a
    | none => some x) none
  match first with
  | some (t, g, action, width) =>
    let s := s.advanceTo t
    .next ({ s with timed := s.timed.erase (t, g, action, width) }.pinAct g action width)
  | none => .next s

/-- A pin action waits for its tick. -/
def State.pinAt (s : State) (t g action width : Nat) : State := { s with timed := s.timed ++ [(t, g, action, width)] }

/-- What acts at its target in the tick after the present one (R258): press time itself does not move. -/
def State.inNext (s : State) (g : State → State) : State := { g { s with time := s.time + 1 } with time := s.time }

/-- An EVENT port's raising (R266): two in one tick raise the event once, with the cause field of the lower-numbered role. -/
def State.portEvent (s : State) (m e cause : Nat) : State :=
  let r := ((s.mallet m).role).getD 63
  let was := tget 0 s.eventPort e
  if was ≠ 0 ∧ (was - 1) / 64 = s.time then
    if r < (was - 1) % 64 then { s with eventPort := tput 0 s.eventPort e (s.time * 64 + r + 1) }.setF (F.EVT_E_CAUSE e) cause else s
  else { s with eventPort := tput 0 s.eventPort e (s.time * 64 + r + 1) }.raise e cause

/-- A message leaves mallet m. -/
def State.mailOut (s : State) (m : Nat) (x : Msg) : State := s.fly (((s.mallet m).role).getD 63) (some m) x

/-! ## Lines and scans that leave (R234, R237, R250) -/

/-- Whether coasting, the drive estimate, a correction or holdover degrades what is committed now (R41, R82, R83, R86). -/
def State.marksNow (s : State) (n : Nat) : Bool :=
  s.on F.WEB_STATUS_COASTING || decide (s.web.inUse = some 3) || s.on (F.WEB_ST_STATUS_ABSORB n) || s.on (F.WEB_ST_STATUS_HOLDING n)
    || decide (s.clk.pll = .holdover)

/-- An emitted line in the frame that holds it (R247, R248). -/
def Frame.emit (x : Frame) (fire : Nat) (degraded : Bool) : Frame :=
  { x with
    emitted := x.emitted + 1, begun := true, state := if x.state = 0 then 1 else x.state, degraded := x.degraded || degraded
    tFirst := if x.tFirst = 0 then fire else x.tFirst, tLast := max x.tLast fire, lastFire := max x.lastFire fire }

/-- Whether a line fires between a drop test's first finding and the boundary at which the nozzle is hidden (R195). -/
def State.ddMarks (s : State) (n : Nat) (l : Int) : Bool :=
  s.dd.hide.any fun h => decide (h.1 = n) && (match h.2 with
    | some b => decide (l < b)
    | none => true)

/-- A line of station n counts as committed (R16, R255, R427). -/
def State.countLine (s : State) (n : Nat) (l : Int) (fire : Nat) : State :=
  let d := s.marksNow n || s.ddMarks n l
  (((s.mapFrameAt n l fun x => x.emit fire d).tally (0x180 + n) 1).tally 0x004 1).lived n 1

/-- An inkjet line leaves: COMMIT goes out with its latest revision (R234). -/
def State.commitLine (s : State) (n : Nat) (l : Int) : State :=
  match s.lineAt n l with
  | some x => if x.phase = .staged then
      let s := (s.mapLine n l fun y => { y with phase := .committed }).sendCommit n x
      s.countLine n l x.fire
    else s
  | none => s

/-- A frame that fires while a fuser zone of its station stands outside its band is DEGRADED, with EV_FUSER_TEMP (R222), once. -/
def State.fuserCheck (s : State) (n : Nat) (x : Frame) : State :=
  forBelow 2 (fun z s =>
    if s.on (F.EPS_FZ_CTL_EN z) && decide (s.f (F.EPS_FZ_CTL_STATION z) = n) && !s.on (F.EPS_FZ_STATUS_IN_BAND z)
        && decide ((s.zone z).told ≠ x.index + 1) then
      let s := (s.setZone z { s.zone z with told := x.index + 1 }).setF (F.EPS_FZ_STATUS_TEMP_OUT z) 1
      (match x.start with
        | some a => s.mapFrameAt n a fun y => { y with degraded := true }
        | none => s).raiseF EV.FUSER_TEMP z
    else s) s

/-- A scan leaves (R206): its symbols go out, and its lines that are not blanked count as committed. While the station's beams are blank (R53,
R208) nothing is exposed, and the facet's lines are lost. -/
def State.leaveScan (s : State) (n : Nat) (l : Int) : State :=
  let x := s.epSt n
  let dark := x.blank || x.dead
  let s := s.setEp n { x with scans := x.scans.filter fun y => decide (y.lpos ≠ l), out := if dark then [] else x.out }
  let s := (if dark then s else s.sendScan n l).tally (0x140 + n) 1
  ((upFrom 0 8).map fun (i : Nat) => l + i).foldl (fun s l =>
    match s.frameOf n l with
    | some fr =>
      if fr.wants l && fr.holds l then
        (if dark then s.missLine n l (if x.dead then Reason.BD_MISS else Reason.PIX_UNLOCK) false else (s.countLine n l s.time).fuserCheck n fr)
      else s
    | none => s) s

/-- An effect leaves its region (R293). What an EMIT or a SIGNAL would do acts in the tick after it leaves (R258, R292). -/
def State.act (s : State) (m : Nat) (e : Eff) : State :=
  match e with
  | .line n l => s.commitLine n l
  | .scan n l => s.leaveScan n l
  | .pin g a w at_ => s.pinAt (max (s.time + 1) (at_.getD 0)) g a w
  | .event e c => s.inNext fun s => s.portEvent m e c.toNat
  | .send x => s.mailOut m x

/-- Whether a line's COMMIT would leave later than 1,800 ticks before its fire time (R234, R293). -/
def State.tooLateFor (s : State) (e : Eff) : Bool := match e with
  | .line n l => match s.lineAt n l with
    | some x => decide (x.phase = .staged ∧ x.fire < s.time + 1800)
    | none => false
  | .scan _ _ => false
  | .pin _ _ _ _ => false
  | .event _ _ => false
  | .send _ => false

/-- Confirmed effects leave from the old end of mallet m's region while the oldest is confirmed (R293); a line that is held too long is
squashed instead (R234, R293); a closing region that is empty closes (R294). The count bounds the effects. -/
def leaveGo (m : Nat) : Nat → State → State
  | 0, s => s
  | k + 1, s =>
    let x := s.mallet m
    match x.region.effs with
    | e :: r =>
      if e.conf && s.tooLateFor e.eff then s.squashAt m 0 Squash.HELD
      else if e.conf then
        let left := { x.region with effs := r, isOpen := x.region.isOpen && !(x.region.closing && r.isEmpty),
                                     closing := x.region.closing && !r.isEmpty }
        leaveGo m k ((s.setMallet m { x with region := left }).act m e.eff)
      else s
    | [] => s

def State.leaveReady (s : State) (m : Nat) : State := leaveGo m ((s.mallet m).region.effs.length + 1) s

/-- Confirm the effects of mallet m's region that satisfy a test, and let the oldest leave; after G4 nothing leaves (R23). -/
def State.confirm (s : State) (m : Nat) (p : Eff → Bool) : State :=
  if s.g4 then s else
  let s := s.mapMallet m fun x =>
    { x with region := { x.region with effs := x.region.effs.map fun e => if p e.eff then { e with conf := true } else e } }
  s.leaveReady m

/-- Whether an effect is confirmed by hardware (R293). -/
def Eff.hardware : Eff → Bool
  | .line _ _ => true
  | .scan _ _ => true
  | .pin _ _ _ _ => false
  | .event _ _ => false
  | .send _ => false

/-! ## Halts, takeover and release (R267–R269, R276, R298) -/

/-- The spares of a kind, lowest first (R257). -/
def sparesOf (kind : Nat) : List Nat := if kind = 1 then [34, 35] else [24, 25]

/-- Whether a spare may be given to a role (R268). -/
def State.spareMallet (s : State) (m : Nat) : Bool := s.malletIdle m && s.powered (malletDomain m)

/-- At a halt the program effects not yet confirmed go, each alone; the rest leave in order (R298). -/
def State.haltEffects (s : State) (m : Nat) : State :=
  let x := s.mallet m
  let keep (e : Effect) : Bool := e.conf || e.eff.hardware
  let gone := (x.region.effs.filter fun e => !keep e).length
  let s := s.setMallet m { x with region := { x.region with effs := x.region.effs.filter keep, isOpen := false, closing := false } }
  (s.tally 0x00B gone).leaveReady m

/-- R268 steps 1–3: the role of a faulty mallet goes to the lowest free spare of its kind, which loads; or the role stays, with
EV_MLT_NO_SPARE. -/
def State.takeover (s : State) (m r : Nat) : State :=
  if s.on F.MLT_CTL_AUTOTAKE then
    match findFirst s.spareMallet (sparesOf (malletKind m)) with
    | some sp =>
      let old := (s.mallet m).inq
      let s := (s.mapMallet m fun x => { x with role := none, inq := [] }).assign r sp
      let s := s.mapMallet sp fun x => { x with run := .loading }
      old.foldl (fun s x => s.returnMsg r x) s
    | none => s.raise EV.MLT_NO_SPARE m
  else s.raise EV.MLT_NO_SPARE m

/-- Mallet m halts with a reason (R276). -/
def State.halt (s : State) (m why : Nat) : State :=
  let x := s.mallet m
  let s := s.setMallet m { x with run := .halted, why := why, wait := none, stall := .none }
  let s := s.haltEffects m
  match x.role with
  | some r =>
    let s := s.raise EV.MLT_HALT m
    if 3 ≤ why then s.takeover m r else s
  | none => s

/-- R268 steps 4 and 5: the image stands in the spare, which starts at TAKE. -/
def execTakeoverStart (m : Fin 36) (s : State) : Out :=
  let x := s.mallet m.val
  match x.run, x.role with
  | .loading, some r =>
    let s := match (s.role r).image with
      | some bs => s.loadImage m.val bs
      | none => s
    .next (((s.startMallet m.val (s.role r).take).tally 0x00C 1).raise EV.MLT_TAKEOVER m.val)
  | _, _ => .next s

/-- A role is released: its mallet halts and is idle, and holds no message of it (R267). -/
def State.release (s : State) (r : Nat) : State :=
  match (s.role r).holder with
  | some m =>
    let s := s.setRole r { s.role r with holder := none }
    let s := s.mapMallet m fun x => { x with run := .idle, why := 0, role := none, wait := none, stall := .none, inq := [] }
    s.haltEffects m
  | none => s

/-- Whether a role is bound to an armed station. -/
def State.roleArmed (s : State) (r : Nat) : Bool :=
  match (s.role r).holder, (s.role r).station with
  | some _, some n => s.armed n
  | _, _ => false

/-- Finish an MLT_ASSIGN command (R267). -/
def State.assignDone (s : State) (r err : Nat) : State :=
  s.setFs [(F.MLT_ASSIGN_RESULT_EPOCH, (s.role r).epoch), (F.MLT_ASSIGN_RESULT_ERR, err)]

/-- Whether mallet m is reserved for a staged image (R279). -/
def State.reserved (s : State) (m : Nat) : Bool :=
  (upFrom 0 62).any fun q => match (s.role q).staged with
    | some (k, _) => decide (k = m)
    | none => false

/-- R267: MLT_ASSIGN with OP = 1. The refusal shown is the first that applies in the order of the ERR codes, after the tests of the
mallet number. -/
def execRoleAssign (role mallet : BitVec 6) (s : State) : Out :=
  let r := role.toNat
  let m := mallet.toNat
  if 35 < m then .next (s.assignDone r 7)
  else if (s.mallet m).role.isSome ∨ s.reserved m then .next (s.assignDone r 1)
  else match (s.role r).image with
    | none => .next (s.assignDone r 3)
    | some bs =>
      if imgKind bs ≠ malletKind m then .next (s.assignDone r 2)
      else if s.roleArmed r then .next (s.assignDone r 4)
      else if malletSpare m = 1 then .next (s.assignDone r 5)
      else if !s.powered (malletDomain m) then .next (s.assignDone r 8)
      else
        let s := (((s.release r).assign r m).loadImage m bs).startMallet m (s.role r).entry
        .next (s.assignDone r 0)

/-- R267: MLT_ASSIGN with OP = 2. -/
def execRoleRelease (role : BitVec 6) (s : State) : Out :=
  let r := role.toNat
  if s.roleArmed r then .next (s.assignDone r 4) else .next ((s.release r).assignDone r 0)

/-- R276: MLT_Mm_CTL.HALT. -/
def execHostHalt (m : Fin 36) (s : State) : Out :=
  match (s.mallet m.val).run with
  | .running => .next (s.halt m.val 2)
  | .loading => .next (s.halt m.val 2)
  | .idle => .next s
  | .halted => .next s

/-! ## Host messages (R281) -/

/-- R270, MLT_HOST_TXCMD.GO: the host sends as role 62. -/
def execHostSend (s : State) : Out :=
  let w (i : Nat) : Word := BitVec.ofNat 32 (s.f (F.MLT_HOST_TX i))
  .next (s.fly 62 none ⟨w 0, w 1, w 2, w 3⟩)

/-- MLT_HOST_RXSTAT.POP. -/
def execHostRxPop (s : State) : Out := .next { s with hostRx := s.hostRx.drop 1 }

/-! ## Exceptions (R274, R275, R296) -/

/-- An exception with a code and an argument, taken at instruction index `at_` (R274): the open region is squashed from its oldest
effect and closes; with EXL set the mallet halts. -/
def State.exception (s : State) (m code arg at_ : Nat) : State :=
  let x := s.mallet m
  let s := (s.setF (F.MLT_M_STATUS_EXC m) 1).tally 0x00A 1
  if x.exl then (s.raise EV.MLT_EXC m).halt m (if code = 0x0D then 5 else 3)
  else
    let s := if x.region.isOpen then
        let s := s.squashAt m 0 Squash.SOFT
        s.mapMallet m fun y => { y with region := { y.region with isOpen := false, closing := false } }
      else s
    let s := s.mapMallet m fun y => { y with
      epc := at_ % 16384, cause := BitVec.ofNat 32 (code + arg % 256 * 256), exl := true, pc := y.evec % 16384, wait := none, stall := .none
      afterMac := false, ready := s.time + 1 }
    s.raise EV.MLT_EXC m

/-- R274, R275: no wait for MLT_Mm_WDOG ticks. -/
def execWdog (m : Fin 36) (s : State) : Out :=
  let x := s.mallet m.val
  let w := s.f (F.MLT_M_WDOG m.val)
  if x.run = .running ∧ x.wait = none ∧ w ≠ 0 then
    let s := s.advanceTo (x.lastWait + w)
    let s := s.exception m.val 0x0D 0 x.pc
    .next (s.mapMallet m.val fun y => { y with lastWait := s.time })
  else .next s

end Sys2Proof.Machine
end

