-- ==== Sys2Proof/Machine/Enter.lean ====
section
/-!
DEFINITION. What a station decides of a frame before its first line is staged, and what its boundary removes: held corrections, overspeed
and head-temperature holds (R86–R91, R191).
-/
namespace Sys2Proof.Machine

/-- Change the frame of station n with a ring index. -/
def State.mapFrame (s : State) (n index : Nat) (g : Frame → Frame) : State :=
  let x := s.station n
  s.setStation n { x with frames := x.frames.map fun (y : Frame) => if y.index = index then g y else y }

/-! ## Overspeed (R88–R91) -/

/-- A required rate in units of 2^-56 lines/s. -/
def State.rateNum (s : State) (n : Nat) (v : Int) : Int := v * s.ratio n * 600000000

/-- The fire limit in the same unit. -/
def State.limitNum (s : State) (n : Nat) : Int := s.f (F.WEB_ST_FLIM_LIMIT n) * 2 ^ 56

/-- k of R90 for a rate, where it exceeds the limit. -/
def State.overK (s : State) (n : Nat) (rate : Int) : Option Nat :=
  let l := s.limitNum n
  if l < rate then some (rate / (rate - l)).toNat else none

/-- DROPPING and DROPK of the frame that prints, and EV_OVERSPEED_DROP once in it (R90); DROPK saturates (R94). -/
def State.showDrop (s : State) (n k : Nat) : State :=
  let s := s.setFs [(F.WEB_ST_STATUS_DROPPING n, 1), (F.WEB_ST_STATUS_DROPK n, min k 65535)]
  let g := s.gearOf n
  if g.dropRaised then s else (s.setGear n { g with dropRaised := true }).raiseF EV.OVERSPEED_DROP n

/-- Station n skips lines with k, from a line of a frame on, or blanks the frame from there (R90, R91). The status follows the frame that
prints: a frame whose boundary has not come shows at its boundary. -/
def State.beginDrop (s : State) (n : Nat) (x : Frame) (k : Nat) (from_ : Int) : State :=
  if k < 8 then
    let s := s.mapFrame n x.index fun y => { y.spoil from_ Reason.OVERSPEED with begun := true }
    (s.abandonIn n x from_).raiseU EV.OVERSPEED_SPOIL none .own
  else
    let s := s.mapFrame n x.index fun y => { y with dropJ := some (from_ - y.start.getD 0).toNat, dropK := k, degraded := true }
    if x.reached then s.showDrop n k else s

/-- The velocity predicted when the web has moved on by a distance, from V and A (R90); the present one where the web stops before. -/
def predictedV (v a d : Int) : Int :=
  let q := v * v + 2 * a * d
  if 0 < q ∧ 0 ≤ v then isqrt q.toNat else v

/-- The overspeed state of a frame at its start, for its lines from one on (R90): k from the higher of the present rate and the rate
predicted at its end. -/
def State.enterSpeed (s : State) (n : Nat) (x : Frame) (from_ : Int) : State :=
  let v := s.webVel
  let d : Int := if s.ratio n = 0 then 0 else x.lines * 2 ^ 32 / s.ratio n
  match s.overK n (maxI (s.rateNum n v) (s.rateNum n (predictedV v s.web.pub.a d))) with
  | some k => s.beginDrop n x k from_
  | none => s

/-! ## Held corrections (R86, R87) -/

/-- What station n's bias still holds against a line, 32.16 (R86, R87): a frame whose boundary has not come prints with the hold removed,
so its lines are judged without it. -/
def State.heldFor (s : State) (n : Nat) (l : Int) : Int :=
  if s.on (F.WEB_ST_STATUS_HOLDING n) then match s.frameOf n l with
    | some x => if x.reached then 0 else s.fs (F.WEB_ST_HOLD n)
    | none => 0
  else 0

/-- First lines of a frame that the removal of a hold brings onto or behind the last line before it: those whose place, moved by the hold,
does not lie beyond that line (R87). -/
def Frame.overlap (x : Frame) (hold : Int) : Nat :=
  match x.prior, x.start with
  | some li, some a => min x.lines (((li - a) * 65536 - hold) / 65536 + 1).toNat
  | _, _ => 0

/-- A frame that begins while station n holds a correction does not fire the lines that its removal brings too early (R87). The held amount
at the frame's first staging decides (DESIGN CHOICE, log entry 30). -/
def State.enterHold (s : State) (n : Nat) (x : Frame) : State :=
  let k := if s.on (F.WEB_ST_STATUS_HOLDING n) then x.overlap (s.fs (F.WEB_ST_HOLD n)) else 0
  if k = 0 then s else s.mapFrame n x.index fun y => { y.addMissed k Reason.PHASE_HOLD with held := k, degraded := true }

/-- At a frame boundary of station n the hold leaves its line bias (R86). -/
def State.dropHold (s : State) (n : Nat) : State :=
  if s.on (F.WEB_ST_STATUS_HOLDING n) then
    (s.setLbias n (s.lbias n - s.fs (F.WEB_ST_HOLD n))).setFs [(F.WEB_ST_HOLD n, 0), (F.WEB_ST_STATUS_HOLDING n, 0)]
  else s

/-! ## Head temperature (R191) -/

/-- The enabled heads of station n whose T has reached TLIMIT since a frame last began, and that would come within 2 °C of it in a frame of
a number of lines (R191). -/
def State.headsHot (s : State) (n lines : Nat) : List Nat :=
  (upFrom 0 48).filter fun h => s.on (F.INK_S_HD_MAP_EN n h) && (s.head n h).hot
    && decide ((s.head n h).tlimit - 16 ≤ s.fs (F.INK_S_HD_TEMP_T n h) + s.fs (F.INK_S_HD_TEMP_S n h) * lines / 1000)

/-- A head's T at the first frame spoiled for it under R191 (R192). -/
def State.noteSpoil (s : State) (n h : Nat) : State :=
  let x := s.head n h
  if x.spoilT.isNone then s.setHead n h { x with spoilT := some (s.fs (F.INK_S_HD_TEMP_T n h)), since := 0 } else s

/-- A frame that the station may not begin is SPOILED with no line emitted; the first that it may begin ends the hold (R191). -/
def State.enterTemp (s : State) (n : Nat) (x : Frame) : State :=
  if s.on (F.SCR_CFG_KIND n) then s
  else match s.headsHot n x.lines with
    | [] =>
      forBelow 48 (fun h s => s.setHead n h { s.head n h with hot := false }) (s.setF (F.INK_S_STATUS_HEAD_HOT n) 0)
    | hs =>
      let s := s.mapFrame n x.index fun y => { y.spoil (y.start.getD 0) Reason.HEAD_TEMP with begun := true }
      hs.foldl (fun s h => s.noteSpoil n h) (s.setFs [(F.INK_S_STATUS_HEAD_HOT n, 1), (F.INK_S_STATUS_TEMP_LIMIT n, 1)])

/-- What is decided of a frame once, before its first line is staged: the lines of R87, k of R90, the head temperatures of R191. -/
def State.enterFrame (s : State) (n : Nat) (x : Frame) : State :=
  if x.entered then s
  else (((s.mapFrame n x.index fun y => { y with entered := true }).enterHold n x).enterSpeed n x (x.start.getD 0)).enterTemp n x

/-- The same for the frame that covers a line. -/
def State.enterAt (s : State) (n : Nat) (l : Int) : State :=
  match s.frameOf n l with
  | some x => if x.holds l && x.bare.isNone then s.enterFrame n x else s
  | none => s

end Sys2Proof.Machine
end

