-- ==== Sys2Proof/Machine/Spec.lean ====
section
/-!
DEFINITION. Staging and confirming lines, change sets, and what a station does at a splice (R231–R246, R255).
-/
namespace Sys2Proof.Machine

/-! ## Lost lines (R234, R236, R255) -/

/-- A line is lost (R234, R236): counted, its frame DEGRADED, its flag set, its event raised. -/
def State.loseLine (s : State) (n : Nat) (l : Int) (reason : Nat) : State :=
  let s := (s.mapLine n l fun x => { x with phase := .lost, miss := true }).missLine n l reason false
  let s := (s.addF (F.CHG_S_LOST n) 1).tally (0x188 + n) 1
  if reason = Reason.REV_LIMIT then (s.setF (F.CHG_S_STATUS_REVLIM n) 1).raiseF EV.REV_LIMIT n
  else (s.setF (F.CHG_S_STATUS_LOST n) 1).raiseF EV.SPEC_LOST n

/-- A line that is not staged and is remembered as given up. -/
def lostLine (l : Int) (f now m : Nat) : Line :=
  { lpos := l, fire := f, staged := now, rev := 0, mallet := m, lseq := 0, lseqB := 0, phase := .lost, miss := true, fired := 0, msgs := [] }

/-- Remember a line as given up before any packet of it was sent. -/
def State.dropLine (s : State) (n m : Nat) (l : Int) (f : Nat) : State :=
  let x := s.station n
  s.setStation n { x with lines := x.lines ++ [lostLine l f s.time m] }

/-! ## Staging a line (R113, R166, R183, R234, R236, R292) -/

/-- Whether the extrapolated web speed stands below inkjet station n's minimum print speed (R183). -/
def State.inkSlow (s : State) (n : Nat) : Bool := decide (speed10 s.webVel < s.f (F.INK_S_VMIN n))

/-- Whether a line's codes stand screened in the line store (R113). -/
def State.screened (s : State) (n : Nat) (l : Int) : Bool :=
  match s.slot n (l % 256).toNat with
  | some x => decide (x.lpos = l ∧ x.phase = .screened)
  | none => false

/-- Whether an overspeed skip takes the line with an index in its frame (R90). -/
def Frame.skips (x : Frame) (l : Int) : Bool :=
  match x.start, x.dropJ with
  | some a, some j0 =>
    let j := (l - a).toNat
    decide (j0 ≤ j) && decide (0 < x.dropK) && decide (j % x.dropK = x.dropK - 1)
  | _, _ => false

/-- A line whose codes are not in the line store blanks the rest of its frame, counted missed (R113); for provisional work flag and
event wait for the commit (R231). -/
def State.underrun (s : State) (n : Nat) (l : Int) (x : Frame) : State :=
  let last : Int := x.start.getD l + x.lines
  let miss := (last - l).toNat
  let s := s.mapFrameAt n l fun y => { y with missed := y.missed + miss }
  let s := s.spoilAt n l Reason.UNDERRUN
  if x.prov.isSome then s.mapFrameAt n l fun y => { y with underErr := true }
  else (s.setF (F.FEED_Q_STATUS_UNDERRUN n) 1).raiseOwn EV.FEED_UNDERRUN n

/-- The inactive waveform bank becomes active (R187). -/
def State.waveSwap (s : State) (n : Nat) : State :=
  s.setFs [(F.INK_S_WSTAT_ACTIVE n, 1 - s.f (F.INK_S_WSTAT_ACTIVE n)), (F.INK_S_WSTAT_STATE n, Bank.IDLE), (F.INK_S_WSTAT_PEND n, 0),
    (F.INK_S_WSTAT_ENGAGED n, 0), (F.INK_S_WSTAT_DAMAGED n, 0)]

/-- The first line of a job decides its waveform bank (R187): provisional work engages a READY bank that is pending or required; a job whose
first line is staged after its splice swaps there; a pending bank that is not READY is late. -/
def State.waveBegin (s : State) (n : Nat) (prov : Option Nat) (req : Nat) : State :=
  let st := s.station n
  let ready := decide (s.f (F.INK_S_WSTAT_STATE n) = Bank.READY)
  let pend := s.on (F.INK_S_WSTAT_PEND n)
  match prov with
  | some e =>
    if st.waved = some e then s
    else
      let s := s.setStation n { st with waved := some e }
      if s.on (F.INK_S_WSTAT_ENGAGED n) then s
      else if (pend || bitOf req 3) && ready then { s with engaged := tput 0 s.engaged (n * 4 + 3) e }.setF (F.INK_S_WSTAT_ENGAGED n) 1
      else if pend then s.raise EV.WAVE_LATE n
      else s
  | none =>
    if st.newWave then
      let s := s.setStation n { st with newWave := false }
      if pend then (if ready then s.waveSwap n else s.raise EV.WAVE_LATE n) else s
    else s

/-- The waveform bank of a line (R165, R187): the one its job prints with. -/
def State.waveFor (s : State) (n : Nat) (x : Option Frame) : Nat × State :=
  let prov := x.bind (·.prov)
  let req := match prov.bind (s.csOfEpoch n) with
    | some q => s.csReq q n
    | none => 0
  let s := s.waveBegin n prov req
  let a := s.f (F.INK_S_WSTAT_ACTIVE n)
  (if s.on (F.INK_S_WSTAT_ENGAGED n) && s.behind n (s.engagedFor n 3) prov then 1 - a else a, s)

/-- The nozzle and code that a gap-mode test puts into line l (R196). -/
def State.testNozzle (s : State) (n : Nat) (l : Int) : Option (Nat × Nat) :=
  if s.on F.INK_DD_CTL_EN && s.on F.INK_DD_CTL_MODE && decide (s.f F.INK_DD_CTL_STATION = n) && decide (s.dd.first ≤ l)
      && decide (l < s.dd.first + s.f F.INK_DD_CTL_BURST) then
    s.dd.test.map fun x => (x, s.f F.INK_DD_CTL_DSIZE)
  else none

/-- A frame begins with the first staging of one of its lines (R21, R183); behind a lane that has no path it is SPOILED (R179). -/
def State.beginFrame (s : State) (n : Nat) (l : Int) : State :=
  let silent := (s.lanesOf n).any fun la => !s.laneOpen la
  s.mapFrameAt n l fun x =>
    if x.begun then x
    else if silent then { x with begun := true, state := 3, reason := Reason.LANE_FAILED }
    else { x with begun := true, state := if x.state = 0 then 1 else x.state }

/-- A frame that may not begin, below the minimum print speed or under G3, never does: its extent stays blank (R21, R183, R213). -/
def State.barFrame (s : State) (n : Nat) (l : Int) (reason : Nat) : State := s.mapFrameAt n l fun x => { x with bare := some reason }

/-- The first staging of a line: its packets leave (R166), or it is given up; the answer says whether an effect is placed. Below the minimum
print speed the frame in progress ends at its first unstaged line (R183, R213, R21). -/
def State.stageFirst (s : State) (m n : Nat) (l : Int) (f : Nat) : State × Bool :=
  let s := s.enterAt n l
  let fr := s.frameOf n l
  let image := match fr with
    | some x => x.holds l
    | none => false
  let blank := match fr with
    | some x => !x.wants l
    | none => false
  let begun := match fr with
    | some x => x.begun
    | none => false
  if blank then (s.dropLine n m l f, false)
  else if f < s.time + 1800 then ((s.dropLine n m l f).loseLine n l Reason.STAGE_LATE, false)
  else if !begun && s.on F.EVT_GONG_G3 then ((s.barFrame n l Reason.PRESS_STOP).dropLine n m l f, false)
  else if s.inkSlow n then
    let s := s.setF (F.INK_S_STATUS_BELOW_VMIN n) 1
    if begun then
      let g3 := s.on F.EVT_GONG_G3
      let s := s.spoilAt n l (if g3 then Reason.PRESS_STOP else Reason.BELOW_VMIN)
      ((if g3 then s else s.raiseOwn EV.INK_BELOW_VMIN n).dropLine n m l f, false)
    else ((s.barFrame n l Reason.BELOW_VMIN).dropLine n m l f, false)
  else if (match fr with
      | some x => x.skips l
      | none => false) then
    let s := (s.dropLine n m l f).mapFrameAt n l fun y => { y.addMissed 1 Reason.OVERSPEED with degraded := true }
    (s.tally (0x070 + n) 1, false)
  else if image && !s.screened n l then
    match fr with
    | some x => ((s.beginFrame n l).underrun n l x, false)
    | none => (s, false)
  else
    let s := s.beginFrame n l
    let (w, s) := s.waveFor n fr
    let ps := s.linePackets n l f w false false (if image then none else s.testNozzle n l)
    if s.lineFits f ps then
      let (qa, qb, s) := s.sendPackets ps
      let x := s.station n
      let z : Line := { lpos := l, fire := f, staged := s.time, rev := 0, mallet := m, lseq := qa, lseqB := qb, phase := .staged, miss := false,
                        fired := 0, msgs := [] }
      ((s.setStation n { x with lines := x.lines ++ [z] }).tally (0x160 + n) 1, true)
    else ((s.dropLine n m l f).latePacket n l, false)

/-- A staging of a line again after its squash (R236). -/
def State.stageAgain (s : State) (m n : Nat) (x : Line) (f : Nat) : State × Bool :=
  if f < s.time + 1800 then (s.loseLine n x.lpos Reason.SQUASH_LATE, false)
  else if s.inkSlow n then
    let g3 := s.on F.EVT_GONG_G3
    let s := (s.setF (F.INK_S_STATUS_BELOW_VMIN n) 1).spoilAt n x.lpos (if g3 then Reason.PRESS_STOP else Reason.BELOW_VMIN)
    (if g3 then s else s.raiseOwn EV.INK_BELOW_VMIN n, false)
  else if f = x.fire then
    ((s.mapLine n x.lpos fun y => { y with phase := .staged, staged := s.time, mallet := m }).tally (0x160 + n) 1, true)
  else if x.rev = 15 then (s.loseLine n x.lpos Reason.REV_LIMIT, false)
  else
    let z := { x with phase := .staged, staged := s.time, mallet := m, fire := f, rev := x.rev + 1 }
    ((((s.mapLine n x.lpos fun _ => z).sendRevise n z).tally (0x170 + n) 1).tally (0x160 + n) 1, true)

/-- R292: the staging of line l of inkjet station n at fire time f by mallet m; whether it places an effect. A line that already stands
staged, committed or lost places none. -/
def State.stageLine (s : State) (m n : Nat) (l : Int) (f : Nat) : State × Bool :=
  if !s.armed n || s.on (F.SCR_CFG_KIND n) then (s, false)
  else match s.lineAt n l with
    | some x => if x.phase = .squashed then s.stageAgain m n x f else (s, false)
    | none => s.stageFirst m n l f

/-! ## Closing frames of an inkjet station (R170, R248, R250) -/

/-- The last line a frame emits or would emit: its last image line, or the line before the one it is cut at. -/
def Frame.lastLine (x : Frame) : Int :=
  let e := x.start.getD 0 + x.lines - 1
  match x.cut with
  | some c => if c ≤ e then c - 1 else e
  | none => e

/-- Whether every hub of the station has reported LAST_FIRED at or past the frame's last line (R170). A frame of which no line was committed
has nothing to report. -/
def State.reportedAll (s : State) (n : Nat) (x : Frame) : Bool :=
  (s.station n).lines.all (fun y => !(x.holds y.lpos) || decide (y.phase ≠ .committed))
    || (s.lanesOf n).all fun l => match (s.lane l).lastFired with
      | some f => decide (x.lastLine ≤ f)
      | none => false

/-- Whether the station has no more to stage of a frame: it is given up, or its last line is decided, or the web has passed it. -/
def State.frameOver (s : State) (n : Nat) (x : Frame) : Bool :=
  let last := x.lastLine
  let decided := match s.lineAt n last with
    | some y => decide (y.phase = .committed) || decide (y.phase = .lost)
    | none => false
  x.begun && x.prov.isNone && (decide (x.state = 3) && (s.station n).lines.all (fun y => !(x.holds y.lpos) || decide (y.phase ≠ .staged))
    || decided || decide (last < s.lineNow n))

/-- The image lines of a frame, up to its last, that the station never accounted for. -/
def Frame.leftOut (x : Frame) : Nat := (x.lastLine - x.start.getD 0 + 1).toNat - x.emitted - x.missed

/-- A finished frame as its record shows it: lines no program staged are missed with reason STAGE_LATE, and a frame not abandoned is
COMPLETE (R248). -/
def Frame.finish (x : Frame) : Frame :=
  let k := if x.state = 3 then 0 else x.leftOut
  let x := if k = 0 then x else { x.addMissed k Reason.STAGE_LATE with degraded := true }
  if x.state = 3 then x else { x with state := 2 }

/-- Whether a frame will never begin: taken without screening, its place reached, or passed by the web without a line staged. -/
def State.neverBegun (s : State) (n : Nat) (x : Frame) : Bool :=
  !x.begun && x.prov.isNone && x.reached && (x.bare.isSome || decide (x.start.getD 0 + x.extent ≤ s.lineNow n))

/-- The record of a frame that never began (R107, R183, R245, R249): its own reason, PRESS_STOP under G3, BELOW_VMIN below the minimum
print speed `slow` tells, and STAGE_LATE where no program staged it (log entry 31). -/
def State.closeUnbegunAs (s : State) (n : Nat) (x : Frame) (slow : Bool) : State :=
  let r := if x.reason ≠ 0 then x.reason
    else match x.bare with
      | some r => r
      | none => if s.on F.EVT_GONG_G3 then Reason.PRESS_STOP else if slow then Reason.BELOW_VMIN else Reason.STAGE_LATE
  s.closeFrame n { x with state := if x.state = 3 then 3 else 0, reason := r }

/-- Close a frame that never began. -/
def State.closeUnbegun (s : State) (n : Nat) (x : Frame) : State :=
  s.closeUnbegunAs n x (s.on (if s.on (F.SCR_CFG_KIND n) then F.EPS_S_STATUS_BELOW_VMIN n else F.INK_S_STATUS_BELOW_VMIN n))

/-- Close each finished frame of station n that a test admits, and each that will never begin, oldest first. -/
def closeDone (n : Nat) (p : Frame → Bool) : List Frame → State → State
  | [], s => s
  | x :: r, s =>
    if s.frameOver n x && p x then closeDone n p r (s.closeFrame n x.finish)
    else if s.neverBegun n x then closeDone n p r (s.closeUnbegun n x)
    else s

/-- R170: frames whose last line every hub has reported are recorded. -/
def State.closeReported (s : State) (n : Nat) : State :=
  let s := s.marksSince s.web.period
  closeDone n (fun x => s.reportedAll n x) (s.station n).frames s

/-! ## Change sets (R238–R246) -/

/-- The number of pending change sets, in CHG_STATUS.PEND. -/
def State.countPend (s : State) : State :=
  s.setF F.CHG_STATUS_PEND ((upFrom 0 4).filter fun q => decide (s.f (F.CHG_CS_STATE_STATE q) ≠ 0)).length

/-- A slot becomes free when every masked station has applied the change set or has not applied it (R240). -/
def State.freeSlot (s : State) (q : Nat) : State :=
  let m := s.f (F.CHG_CS_STATE_MASK q)
  let d := s.f (F.CHG_CS_DONE_APPLIED q) ||| s.f (F.CHG_CS_DONE_NOTAPP q)
  if m &&& d = m then (s.setF (F.CHG_CS_STATE_STATE q) 0).countPend else s

/-- A refused change-set command (R239, R241): REJ, CHG_STATUS.REJECTED and EV_CS_REJECT; no epoch stands behind a refused record, and
the cause of a refused cancel is the epoch it names. -/
def State.csReject (s : State) (rej epoch : Nat) : State :=
  (s.setFs [(F.CHG_CS_RESULT_REJ, rej), (F.CHG_STATUS_REJECTED, 1)]).raise EV.CS_REJECT epoch

/-- The stations of a mask. -/
def stationsOf (mask : Nat) : List Nat := (upFrom 0 8).filter fun n => bitOf mask n

/-- Whether the format of a change-set record is right (R238): MAGIC, VERSION, the reserved fields and the CRC. -/
def State.csFormat (s : State) (a : Nat) : Bool :=
  let zero (o n : Nat) : Bool := decide (s.memNat (a + o) n = 0)
  decide (s.memNat a 4 = 0x53435359) && decide (s.memNat (a + 4) 2 = 1) && zero 6 2 && zero 0x15 11 && zero 0xA8 20
    && ((stationsOf (s.memNat (a + 0x14) 1)).all fun n => zero (0x2A + n * 16) 6 && decide (s.memNat (a + 0x28 + n * 16) 1 < 32))
    && decide (crc32c (s.memRead a 0xBC) = s.memNat (a + 0xBC) 4)

/-- The first refusal code of R239 that applies to the record at an address, or 0. -/
def State.csRefusal (s : State) (a : Nat) : Nat :=
  let mask := s.memNat (a + 0x14) 1
  let ns := stationsOf mask
  let job := s.memNat (a + 0x10) 4
  let sp := sx 64 (s.memNat (a + 8) 8)
  let pend := (upFrom 0 4).filter fun q => decide (s.f (F.CHG_CS_STATE_STATE q) ≠ 0)
  if !s.inMem a 192 || s.poisoned a 192 then 10
  else if !s.csFormat a then 1
  else if mask = 0 ∨ ns.any (fun n => !s.armed n) then 7
  else if ns.any fun n => decide (s.memNat (a + 0x29 + n * 16) 1 ≠ s.f (F.SCR_CFG_KIND n)) then 5
  else if ns.any fun n => decide (job = s.f (F.CHG_S_JOB n)) then 6
  else if 4 ≤ pend.length then 2
  else if pend.any fun q => decide (sp ≤ s.csSplice q) then 3
  else if ns.any fun n => decide (s.lposAtStation n sp < s.lpos n + s.f (F.SCR_LEAD_FLOOR n) * 65536) then 4
  else 0

/-- The epoch after e: 1, 2, … 0xFFFF, 1 (R240). -/
def nextEpochOf (e : Nat) : Nat := if e = 0xFFFF then 1 else e + 1

/-- A free change-set slot, the lowest. -/
def State.csFree (s : State) : Option Nat := findFirst (fun q => decide (s.f (F.CHG_CS_STATE_STATE q) = 0)) (upFrom 0 4)

/-- The ratios and required banks of the record at an address (R238). -/
def State.csExtraAt (s : State) (a : Nat) : CsExtra :=
  ⟨(upFrom 0 8).map fun n => s.memNat (a + 0x20 + n * 16) 8, (upFrom 0 8).map fun n => s.memNat (a + 0x28 + n * 16) 1⟩

/-- Slot q takes the record at an address, with the next epoch (R240). -/
def State.csTake (s : State) (q a : Nat) : State :=
  let e := s.nextEpoch
  let s := s.setFs [(F.CHG_CS_STATE_EPOCH q, e), (F.CHG_CS_STATE_MASK q, s.memNat (a + 0x14) 1), (F.CHG_CS_STATE_STATE q, 1),
    (F.CHG_CS_DONE_APPLIED q, 0), (F.CHG_CS_DONE_NOTAPP q, 0), (F.CHG_CS_JOB q, s.memNat (a + 0x10) 4), (F.CHG_CS_RESULT_EPOCH, e),
    (F.CHG_CS_RESULT_REJ, 0)]
  let s := s.setPair (F.CHG_CS_SPLICE_HI q) (F.CHG_CS_SPLICE_LO q) (s.memNat (a + 8) 8)
  let s := { s with cs := tput CsExtra.reset s.cs q (s.csExtraAt a), nextEpoch := nextEpochOf e }
  s.countPend.raise EV.CS_QUEUED e

/-- R239, R240: CHG_CS_CMD with OP = 1 names the record at an address. -/
def State.csQueueAt (s : State) (a : Nat) : State :=
  match s.csFree with
  | some q => if s.csRefusal a ≠ 0 then s.csReject (s.csRefusal a) 0 else s.csTake q a
  | none => s.csReject (if s.csRefusal a = 0 then 2 else s.csRefusal a) 0

/-- R239, R240: CHG_CS_CMD with OP = 1. -/
def execCsQueue (ecc : Ecc) (s : State) : Out :=
  let a := s.addr F.CHG_CS_ADDR_HI F.CHG_CS_ADDR_LO
  .next ((if s.inMem a 192 then s.ecc a ecc none else s).csQueueAt a)

/-- Waveform, table and map banks engaged for an epoch's provisional work return to READY (R149, R187). -/
def State.disengageAll (s : State) (n e : Nat) : State :=
  let s := s.disengage n e
  if s.engagedFor n 3 = e then s.setF (F.INK_S_WSTAT_ENGAGED n) 0 else s

/-- A pending change set leaves station n without applying: its provisional frames go and its banks return to READY. -/
def State.unhook (s : State) (n q : Nat) : State :=
  let e := s.f (F.CHG_CS_STATE_EPOCH q)
  (s.discardProv n fun x => decide (x = e)).disengageAll n e

/-- Cancel one pending change set (R241). -/
def State.csCancel (s : State) (q : Nat) : State :=
  let e := s.f (F.CHG_CS_STATE_EPOCH q)
  let s := (stationsOf (s.f (F.CHG_CS_STATE_MASK q))).foldl (fun s n => s.unhook n q) s
  ((s.setFs [(F.CHG_CS_STATE_STATE q, 0), (F.CHG_STATUS_CANCELLED, 1)]).countPend).raise EV.CS_CANCELLED e

/-- R241: CHG_CS_CMD with OP = 2, the youngest of the cancelled change sets first. -/
def execCsCancel (s : State) : Out :=
  let e := s.f F.CHG_CS_CMD_EPOCH
  let order := s.csOrder fun q => decide (s.f (F.CHG_CS_STATE_STATE q) ≠ 0)
  match findFirst (fun q => decide (s.f (F.CHG_CS_STATE_EPOCH q) = e)) order with
  | none => .next (s.csReject 9 e)
  | some q =>
    if s.f (F.CHG_CS_DONE_APPLIED q) ≠ 0 then .next (s.csReject 8 e)
    else
      let later := order.filter fun r => decide (s.csSplice q ≤ s.csSplice r)
      .next (later.reverse.foldl (fun s r => s.csCancel r) (s.setFs [(F.CHG_CS_RESULT_EPOCH, e), (F.CHG_CS_RESULT_REJ, 0)]))

/-! ## At the splice (R242–R245) -/

/-- The roles below k with an image staged for station n (R243 step 3). -/
def State.stagedRoles (s : State) (n k : Nat) : List Nat :=
  (upFrom 0 k).filter fun r => match (s.role r).staged with
    | some (_, bs) => decide (imgStation bs = some n)
    | none => false

/-- Whether every bank and image named in REQn is READY (R243, R245). -/
def State.requiredReady (s : State) (n q : Nat) : Bool :=
  let req := s.csReq q n
  ((upFrom 0 3).all fun k => !bitOf req k || s.bankHeld n k (s.f (F.CHG_CS_STATE_EPOCH q)))
    && (!bitOf req 3 || s.on (F.SCR_CFG_KIND n) || decide (s.f (F.INK_S_WSTAT_STATE n) = Bank.READY))
    && (!bitOf req 4 || !(s.stagedRoles n 62).isEmpty)

/-- The base of the image store (R281). -/
def State.imageStore (s : State) : Nat := 2 ^ 32 * s.f F.MLT_IMGSTORE_HI + 2 ^ 23 * s.f F.MLT_IMGSTORE_LO

/-- A verified image becomes the one its role holds, with a copy in the image store (R278; the place of role r's copy, 128 KiB per role,
is the model's, log entry 35). -/
def State.installImage (s : State) (r : Nat) (bs : List Byte) : State :=
  let a := 131072 * r + s.imageStore
  let s := if s.inMem a bs.length then s.memWrite a bs else s
  s.setRole r { s.role r with
    station := imgStation bs, priv := imgPriv bs, obs := imgObs bs, kind := imgKind bs, entry := imgEntry bs, take := imgTake bs
    image := some bs }

/-- The staged image of role r takes the role over at the splice (R243 step 3, R279). -/
def State.takeStaged (s : State) (r : Nat) : State :=
  match (s.role r).staged with
  | some (m, bs) =>
    let s := (s.release r).installImage r bs
    let s := s.setRole r { s.role r with staged := none }
    (s.assign r m).startMallet m (imgEntry bs)
  | none => s

/-- The waveform bank as change set e applies (R187): the bank its first line engaged becomes active, or a required one that is READY where
none of its lines was staged. -/
def State.waveSplice (s : State) (n e req : Nat) : State :=
  if s.on (F.SCR_CFG_KIND n) then s
  else if s.on (F.INK_S_WSTAT_ENGAGED n) then (if s.engagedFor n 3 = e then s.waveSwap n else s)
  else if bitOf req 3 && decide (s.f (F.INK_S_WSTAT_STATE n) = Bank.READY) then s.waveSwap n
  else s

/-- A scheduled ratio change at the splice's own web position is superseded (R78). -/
def State.supersede (s : State) (n : Nat) (sp : Int) : State :=
  let g := gearRegs (.station (Fin.ofNat 8 n))
  let pend := s.on g.pend && decide ((s.gearOf n).at_ = sp + s.offset n)
  let done := decide ((s.gearOf n).doneAt = some sp)
  let s := if pend then (s.setF g.pend 0).setGear n { s.gearOf n with late := false } else s
  if pend || done then (s.setF (F.WEB_ST_STATUS_RAT_SUPER n) 1).raiseX EV.GEAR_SUPERSEDED else s

/-- What a splice does to one frame of the old job (R244). -/
def State.oldFrame (s : State) (n : Nat) (ls : Int) (x : Frame) : State :=
  if !x.begun then s.closeFrame n { x with state := if x.state = 3 then 3 else 0, reason := if x.state = 3 then x.reason else Reason.SPLICE }
  else
    let last : Int := x.start.getD 0 + x.lines - 1
    let blanked := match x.cut with
      | some c => decide (c ≤ ls)
      | none => false
    if decide (last < ls) || (decide (x.state = 3) && blanked) then s
    else
      let st := s.station n
      let s := s.setStation n { st with frames := st.frames.map fun (y : Frame) => if y.index = x.index then y.spoil ls Reason.SPLICE_CUT else y }
      (s.setF F.CHG_STATUS_SPLICE_CUT 1).raiseOwn EV.SPLICE_CUT n

/-- The frames of station n that a change set with an epoch does not bring. -/
def State.oldFrames (s : State) (n e : Nat) : List Frame := (s.station n).frames.filter fun x => decide (x.prov ≠ some e ∧ x.prov.isNone)

/-- The frames of the old job at a splice (R244), and the place of the first frame of the new job. -/
def State.endOldJob (s : State) (n : Nat) (ls : Int) (old : List Frame) : State :=
  let s := old.foldl (fun s x => s.oldFrame n ls x) s
  let st := s.station n
  if st.frames.any (fun x => match x.start with
      | some a => decide (ls ≤ a)
      | none => false) then s
  else s.setStation n { st with endLine := some ls, lastImage := some (ls - 1), ranEmpty := false }

/-- Whether an effect is a line of station n, from its splice line on, that no frame wants any more (R244). -/
def State.cutLine (s : State) (n : Nat) (ls l : Int) : Bool :=
  decide (ls ≤ l) && (match s.frameOf n l with
    | some x => x.holds l && !x.wants l
    | none => false)

/-- The staged lines of the old job that its cut frame no longer fires are squashed and not staged again (R244, R296). -/
def State.abandonCut (s : State) (n : Nat) (ls : Int) : State :=
  let hit (e : Eff) : Bool := match e with
    | .line k l => decide (k = n) && s.cutLine n ls l
    | .scan _ _ => false
    | .pin _ _ _ _ => false
    | .event _ _ => false
    | .send _ => false
  let cut := s.cutLine n ls
  let s := squashWhere hit Squash.ABANDON 36 s
  let x := s.station n
  s.setStation n { x with lines := x.lines.map fun y => if cut y.lpos ∧ y.phase ≠ .committed then { y with phase := .lost } else y }

/-- R243: change set q is applied at station n, whose splice line is ls. -/
def State.applyCs (s : State) (n q : Nat) (ls : Int) : State :=
  let e := s.f (F.CHG_CS_STATE_EPOCH q)
  let req := s.csReq q n
  let rat := nthD 0 (tget CsExtra.reset s.cs q).rats n
  let sp := s.csSplice q
  let old := s.oldFrames n e
  let s := if rat = 0 then s else (s.supersede n sp).newRatio (.station (Fin.ofNat 8 n)) (sp + s.offset n) rat
  let s := (s.applyBanks n e req ls).waveSplice n e req
  let s := if bitOf req 4 then (s.stagedRoles n 62).foldl (fun s r => s.takeStaged r) s else s
  let s := s.setFs [(F.CHG_S_JOB n, s.f (F.CHG_CS_JOB q)), (F.CHG_S_STATUS_EPOCH n, e), (F.CHG_S_STATUS_BEHIND n, 0),
    (F.FEED_Q_STATUS_JOBWAIT n, 0)]
  let st := s.station n
  let s := s.setStation n { st with unscreened := none, newJob := decide (st.bounded ≠ some e), newWave := decide (st.waved ≠ some e) }
  let s := s.commitProv n e
  let s := (s.endOldJob n ls old).abandonCut n ls
  let s := s.setFs [(F.CHG_CS_DONE_APPLIED q, setBit (s.f (F.CHG_CS_DONE_APPLIED q)) n), (F.CHG_CS_STATE_STATE q, 2)]
  ((s.freeSlot q).tally 0x190 1).raise EV.CS_APPLIED n

/-- R245: change set q is not applied at station n. -/
def State.notApplyCs (s : State) (n q : Nat) (ls : Int) : State :=
  let e := s.f (F.CHG_CS_STATE_EPOCH q)
  let job := s.f (F.CHG_CS_JOB q)
  let old := s.oldFrames n e
  let s := s.unhook n q
  let s := s.setStation n { s.station n with unscreened := some job }
  let s := (s.endOldJob n ls old).abandonCut n ls
  let s := s.setFs [(F.CHG_CS_DONE_NOTAPP q, setBit (s.f (F.CHG_CS_DONE_NOTAPP q)) n), (F.CHG_S_STATUS_NOTAPP n, 1), (F.CHG_STATUS_NOTAPP, 1),
    (F.CHG_S_STATUS_BEHIND n, 1), (F.FEED_Q_STATUS_JOBWAIT n, 0)]
  ((s.freeSlot q).tally 0x191 1).raiseOwn EV.CS_NOT_APPLIED n

/-- R242, R246: every pending change set of station n whose splice line lies at or below line l reaches the station, in epoch order. The
count bounds the slots. -/
def reachGo (n : Nat) (l : Int) : Nat → State → State
  | 0, s => s
  | k + 1, s =>
    match s.csOrder fun q => s.csOpen q n with
    | q :: _ =>
      let ls := s.spliceLine n q
      if ls ≤ l then reachGo n l k (if s.requiredReady n q then s.applyCs n q ls else s.notApplyCs n q ls) else s
    | [] => s

def State.reachSplice (s : State) (n : Nat) (l : Int) : State := reachGo n l 4 s

/-- R246: a pending change set does not reach station n: a disarm, or G3. -/
def State.csLeave (s : State) (n q : Nat) : State :=
  let s := s.unhook n q
  (s.setF (F.CHG_CS_DONE_NOTAPP q) (setBit (s.f (F.CHG_CS_DONE_NOTAPP q)) n)).freeSlot q

/-! ## The confirm check (R234, R235) -/

/-- CLEAD within its range. -/
def State.clead (s : State) (n : Nat) : Nat := min 30000 (max 1800 (s.f (F.CHG_S_CONF_CLEAD n)))

/-- CWIN within its range. -/
def State.cwin (s : State) (n : Nat) : Nat := min 128 (max 1 (s.f (F.CHG_S_CONF_CWIN n)))

/-- The error e of R234 in 2^-16 lines, from the measured position. -/
def State.confirmError (s : State) (n : Nat) (pm : Int) (x : Line) : Int :=
  let q := pm + s.web.pub.v * ((x.fire : Int) - s.time) / 2 ^ 24
  s.lposAtPos n q - s.heldFor n x.lpos - x.lpos * 65536

/-- The index of a line's effect in a mallet's region. -/
def lineEffect (n : Nat) (l : Int) (x : Mallet) : Option Nat :=
  effIndex (fun e => match e with
    | .line k p => decide (k = n ∧ p = l)
    | .scan _ _ => false
    | .pin _ _ _ _ => false
    | .event _ _ => false
    | .send _ => false) x.region.effs 0

/-- R234, R235, R242: the confirm check of a staged line against the raw count of the source in use. -/
def execConfirmCheck (n : Fin 8) (lpos : BitVec 32) (count : BitVec 64) (s : State) : Out :=
  let k := n.val
  let l := lpos.toInt
  match s.lineAt k l with
  | some x =>
    match lineEffect k l (s.mallet x.mallet) with
    | some i =>
      if x.phase = .staged then
        let s := s.advanceTo (max (x.fire - s.clead k) x.staged)
        let (pm, s) := s.measured count.toInt
        if s.on F.WEB_STATUS_COASTING ∨ (s.confirmError k pm x).natAbs ≤ s.cwin k * 256 then
          let s := s.reachSplice k l
          .next (s.confirm x.mallet fun e => match e with
            | .line a p => decide (a = k ∧ p = l)
            | .scan _ _ => false
            | .pin _ _ _ _ => false
            | .event _ _ => false
            | .send _ => false)
        else .next (s.squashAt x.mallet i Squash.CONFIRM)
      else .next s
    | none => .next s
  | none => .next s

/-- R293: a confirmed line still held behind an older effect 1,800 ticks before its fire time is squashed. -/
def execHeldSquash (n : Fin 8) (lpos : BitVec 32) (s : State) : Out :=
  let k := n.val
  let l := lpos.toInt
  match s.lineAt k l with
  | some x =>
    match lineEffect k l (s.mallet x.mallet) with
    | some i =>
      let held := match (s.mallet x.mallet).region.effs.drop i with
        | e :: _ => e.conf
        | [] => false
      if x.phase = .staged && held then .next ((s.advanceTo (x.fire - 1800)).squashAt x.mallet i Squash.HELD) else .next s
    | none => .next s
  | none => .next s

end Sys2Proof.Machine
end

