-- ==== Sys2Proof/Machine/Ink.lean ====
section
/-!
DEFINITION. Inkjet stations: the timebase, hub reports, head temperatures, the sideband, waveforms and drop detection (R155–R199).
-/
namespace Sys2Proof.Machine

/-! ## Timebase and delays (R163) -/

/-- Whether a station sends on its lanes: it is armed, disarming, or past the first steps of its arm. -/
def State.stationLive (s : State) (n : Nat) : Bool :=
  match (s.station n).phase with
  | .unarmed => false
  | .arming k => decide (2 ≤ k)
  | .armed => true
  | .disarming _ => true

/-- Whether hub l's traffic is running: its station is live, uses the lane, and the lane has not failed (R163, R182). -/
def State.laneLive (s : State) (l : Nat) : Bool :=
  s.stationLive (l / 2) && s.reachable l && (s.on (F.INK_L_STATUS_UP l) || s.on (F.INK_L_STATUS_SPARED l))

/-- TIME of a TB on a path with a delay in 1/16 tick, to the nearest tick. -/
def tbTime (t delay : Nat) : Nat := (t * 16 + delay + 8) / 16

/-- The spare-path delay of a lane in 1/16 tick. -/
def State.sdelay (s : State) (l sp : Nat) : Nat := s.f (if sp = 0 then F.INK_L_SDELAY_SP0 l else F.INK_L_SDELAY_SP1 l)

/-- Whether a spare carries TB: some armed station has a lane in its MAP (R176). -/
def State.spareLive (s : State) (sp : Nat) : Bool :=
  !s.g4 && s.on (F.INK_SP_CTL_EN sp) && (upFrom 0 16).any fun l => bitOf (s.f (F.INK_SP_CTL_MAP sp)) l && s.armed (l / 2)

/-- A missing or broken STATUS of hub l: the second in a row fails the lane (R173). -/
def State.statusFault (s : State) (l : Nat) : State :=
  let x := s.lane l
  let s := s.setLane l { x with badStatus := x.badStatus + 1, due := false }
  if 2 ≤ x.badStatus + 1 then s.failLane l else s

/-- A missing or broken STATUS of the hub parked on a spare: the second in a row fails the spare (R179). -/
def State.spareFault (s : State) (sp : Nat) : State :=
  let b := (tget ⟨0⟩ s.spares sp).bad + 1
  let s := { s with spares := tput ⟨0⟩ s.spares sp ⟨if 2 ≤ b then 0 else b⟩ }
  let x := s.lane (16 + sp)
  let s := s.setLane (16 + sp) { x with due := false }
  if 2 ≤ b then s.spareFails sp else s

/-- R163, R173: TB on every running lane and spare, after the STATUS due from the last one is judged. -/
def execTb (s : State) : Out :=
  let t := (s.time / 600 + 1) * 600
  let s := s.advanceTo t
  let s := forBelow 16 (fun l s =>
    if s.laneLive l then
      let s := if (s.lane l).due && !s.laneHeld l then s.statusFault l else s
      if s.laneLive l then
        let d := if s.on (F.INK_L_STATUS_SPARED l) then s.sdelay l (s.f (F.INK_L_STATUS_SPARE l)) else s.f (F.INK_L_DELAY l)
        let s := s.send l (.tb (tbTime t d))
        s.setLane l { s.lane l with due := true }
      else s
    else s) s
  .next (forBelow 2 (fun sp s =>
    if s.spareLive sp && !s.on (F.INK_SP_STATUS_IN_USE sp) && !s.on (F.INK_SP_STATUS_FAIL sp) then
      let s := if (s.lane (16 + sp)).due then s.spareFault sp else s
      let d := s.sdelay (s.f (F.INK_SP_CTL_PARK sp)) sp
      let s := s.draw.transmitOn (16 + sp) ⟨31, s.freeNow.toNat % 65536, 0, .tb (tbTime t d)⟩
      s.setLane (16 + sp) { s.lane (16 + sp) with due := true }
    else s) s)

/-- The first lane whose path through a spare is still to be measured (R163). -/
def State.toMeasure (s : State) (sp : Nat) : Option Nat :=
  findFirst (fun l => bitOf (s.f (F.INK_SP_CTL_MAP sp)) l && s.stationLive (l / 2) && (s.lanesOf (l / 2)).contains l
    && !bitOf (s.lane l).measured sp && !s.on (if sp = 0 then F.INK_L_STATUS_NOSPARE0 l else F.INK_L_STATUS_NOSPARE1 l)) (upFrom 0 16)

/-- A spare is not given to a lane until its next arm (R163). -/
def State.markNospare (s : State) (l sp : Nat) : State := s.setF (if sp = 0 then F.INK_L_STATUS_NOSPARE0 l else F.INK_L_STATUS_NOSPARE1 l) 1

/-- The next ECHO to a hub on a physical lane (R163). -/
def State.sendEcho (s : State) (p hub : Nat) : State := s.draw.transmitOn p ⟨hub, s.freeNow.toNat % 65536, 0, .echo⟩

/-- R163: the 64 ECHO exchanges for a lane's path through a free spare start; where they stay unanswered, the spare is not given to the
lane. -/
def execSpareDelayMeasure (sp : Fin 2) (answered : Bool) (s : State) : Out :=
  let p := sp.val
  let x := s.lane (16 + p)
  match x.measuring with
  | some l => if answered then .next s else .next ((s.setLane (16 + p) { x with measuring := none }).markNospare l p)
  | none =>
    if s.spareFree p then
      match s.toMeasure p with
      | some l =>
        if answered then .next ((s.setLane (16 + p) { x with measuring := some l, echoSum := 0, echoN := 0 }).sendEcho (16 + p) l)
        else .next (s.markNospare l p)
      | none => .next s
    else .next s

/-- One-way delay in 1/16 tick from the sum of 64 round trips less turnarounds: half the mean, to the nearest 1/16 tick. -/
def meanDelay (sum : Int) : Nat := (roundDiv sum 128).toNat

/-- R163: an ECHO reply: round trip and turnaround in 1/16 tick. The 64th gives the delay. -/
def execEcho (l : Fin 18) (trip turn : BitVec 16) (s : State) : Out :=
  let k := l.val
  let x := s.lane k
  let x := { x with echoSum := x.echoSum + trip.toNat - turn.toNat, echoN := x.echoN + 1 }
  if x.echoN < 64 then
    let s := s.setLane k x
    .next (if k < 16 then s.send k .echo else match x.measuring with
      | some t => s.sendEcho k t
      | none => s)
  else
    let d := meanDelay x.echoSum
    let s := s.setLane k { x with echoSum := 0, echoN := 0, measuring := none }
    if k < 16 then .next ((s.setF (F.INK_L_DELAY k) (min d 4095)).setLane k { s.lane k with measured := setBit (s.lane k).measured 2 })
    else
      let sp := k - 16
      match x.measuring with
      | some t =>
        let s := s.setF (if sp = 0 then F.INK_L_SDELAY_SP0 t else F.INK_L_SDELAY_SP1 t) (min d 4095)
        if 90 * 16 < d then .next (s.markNospare t sp)
        else .next (s.setLane t { s.lane t with measured := setBit (s.lane t).measured sp })
      | none => .next s

/-! ## Hub reports (R169, R170, R172–R174) -/

/-- Lines of station n up to a position are reported by the hub on lane l (R172), sled-mode test lines among them (R196, R198). -/
def State.reportFired (s : State) (l : Nat) (upTo : Int) : State :=
  let n := l / 2
  let bit := l % 2
  let all := s.hubMask n
  let x := s.station n
  let hit (y : Line) : Bool := decide (y.lpos ≤ upTo) && decide (y.phase = .committed) && !bitOf y.fired bit
  let done (y : Line) : Bool := hit y && decide (setBit y.fired bit &&& all = all) && !y.miss
  let k := (x.lines.filter done).length
  let mark (y : Line) : Line := if hit y then { y with fired := setBit y.fired bit } else y
  let s := s.setStation n { x with lines := x.lines.map mark }
  let mine := s.dd.sled.filter fun p => decide (p.1 = n)
  let shot := (mine.filter fun p => done p.2).length
  let open_ (p : Nat × Line) : Bool := decide (p.1 ≠ n) || decide ((mark p.2).fired &&& all ≠ all)
  let s := { s with dd := { s.dd with sled := (s.dd.sled.filter open_).map fun (p : Nat × Line) => if p.1 = n then (n, mark p.2) else p } }
  s.tally (0x100 + n) (k + shot)

/-- FAULT bits that go from 0 to 1 raise EV_HUB_FAULT, but for UNACKED (R197). -/
def State.hubFaults (s : State) (l old new : Nat) : State :=
  (upFrom 1 4).foldl (fun s b => if bitOf new b && !bitOf old b then s.raise EV.HUB_FAULT (l + b * 256) else s) s

/-- A good STATUS of hub l (R172–R174, R177): the first that shows UNACKED fails the lane. -/
def State.takeStatus (s : State) (l ack flags lastFired fault : Nat) : State :=
  let x := s.lane l
  let s := s.setLane l { x with due := false, badStatus := 0, faults := fault, lastFired := some (sx 32 lastFired) }
  let s := s.setF (F.INK_L_STATUS_TBLOCK l) (flags % 2)
  let s := s.ackWhere l fun o => seqBelow o.seq ack
  let s := if (s.lane l).fresh && !s.laneHeld l then
      let left := (s.lane l).out
      left.foldl (fun s o => s.resend l o) (s.setLane l { s.lane l with fresh := false })
    else s
  let s := s.reportFired l (sx 32 lastFired)
  let s := s.hubFaults l x.faults fault
  let s := if bitOf fault 0 && !bitOf x.faults 0 then s.failLane l else s
  s.closeReported (l / 2)

/-- R172–R174, R176: a STATUS arrives on a physical lane; `ok` tells whether its CRC holds. -/
def execStatus (l : Fin 18) (ok : Bool) (ackSeq flags : BitVec 16) (lastFired : BitVec 32) (fault : BitVec 16) (_drvFlt : BitVec 24) (s : State) : Out :=
  let k := l.val
  if k < 16 then
    if s.on (F.INK_L_STATUS_SPARED k) ∨ !s.laneOpen k then .next s
    else if ok then .next (s.takeStatus k ackSeq.toNat flags.toNat lastFired.toNat fault.toNat)
    else .next (s.statusFault k)
  else
    let sp := k - 16
    if s.on (F.INK_SP_STATUS_IN_USE sp) then
      let h := s.f (F.INK_SP_STATUS_FOR_LANE sp)
      if ok then .next (s.takeStatus h ackSeq.toNat flags.toNat lastFired.toNat fault.toNat) else .next (s.statusFault h)
    else if ok then
      let s := { s with spares := tput ⟨0⟩ s.spares sp ⟨0⟩ }
      .next (s.setLane k { s.lane k with due := false })
    else .next (s.spareFault sp)

/-- A committed line is reported MISSED (R169, R199). -/
def State.hubMissed (s : State) (n : Nat) : State :=
  (((s.addF (F.INK_S_MISSED n) 1).setF (F.INK_S_STATUS_MISSED n) 1).tally (0x108 + n) 1).raiseF EV.HUB_MISSED n

/-- R169, R174: a MISSED report; `intact` tells whether its CRC holds. A sled-mode test line, committed as it is sent, counts as one of no
frame (R196, R198). -/
def execMissed (l : Fin 16) (intact : Bool) (seq _lseq : BitVec 16) (_reason : BitVec 8) (lpos : BitVec 32) (s : State) : Out :=
  let k := l.val
  let n := k / 2
  let p := lpos.toInt
  match s.answerHub k intact seq.toNat with
  | (s, false) => .next s
  | (s, true) =>
    if s.dd.sled.any fun y => decide (y.1 = n ∧ y.2.lpos = p) && !y.2.miss then
      let s := { s with dd := { s.dd with sled := s.dd.sled.map fun (y : Nat × Line) => if y.1 = n ∧ y.2.lpos = p then (n, { y.2 with miss := true }) else y } }
      .next (s.hubMissed n)
    else match s.lineAt n p with
      | some x =>
        if x.phase = .committed && !x.miss then
          .next (((s.mapLine n p fun y => { y with miss := true }).missLine n p Reason.HUB_MISSED true).hubMissed n)
        else .next s
      | none => .next s

/-- The fire time of a frame's last line: of the line as announced, and else of the last line fired (R170). -/
def State.lastFireOf (s : State) (n : Nat) (x : Frame) : Nat := match s.lineAt n x.lastLine with
  | some y => y.fire
  | none => x.lastFire

/-- A frame is closed 20 µs after its last line's fire time, the lines not reported counted missed (R170). -/
def State.silentClose (s : State) (n : Nat) (x : Frame) : State :=
  let s := s.advanceTo (s.lastFireOf n x + 12000)
  let all := s.hubMask n
  let open_ (y : Line) : Bool := x.holds y.lpos && decide (y.phase = .committed) && decide (y.fired &&& all ≠ all)
  let lost := ((s.station n).lines.filter fun y => open_ y && !y.miss).length
  let st := s.station n
  let s := s.setStation n { st with
    lines := st.lines.map fun y => if open_ y then { y with fired := y.fired ||| all, miss := true } else y
    frames := st.frames.map fun (y : Frame) => if y.index = x.index && decide (0 < lost) then
      { y.addMissed lost Reason.HUB_SILENT with emitted := y.emitted - lost, degraded := true } else y }
  let s := s.marksSince s.web.period
  closeDone n (fun y => decide (y.index = x.index) || s.reportedAll n y) (s.station n).frames s

/-- R170: 20 µs after a frame's last line's fire time its entry is written, the lines not reported counted missed. -/
def execHubSilentTimeout (n : Fin 8) (s : State) : Out :=
  let k := n.val
  match findFirst (fun x => s.frameOver k x) (s.station k).frames with
  | some x => if s.reportedAll k x then .next (s.closeReported k) else .next (s.silentClose k x)
  | none => .next s

/-! ## Telemetry, amplitude and head temperature (R189–R192) -/

/-- The head of station n on a hub's port. -/
def State.headAt (s : State) (n hub port : Nat) : Option Nat :=
  findFirst (fun h => s.on (F.INK_S_HD_MAP_EN n h) && decide (s.f (F.INK_S_HD_MAP_HUB n h) = hub) && decide (s.f (F.INK_S_HD_MAP_PORT n h) = port))
    (upFrom 0 48)

/-- The scale s of R189 as Q2.14, truncated, within 0.5 to 1.5. -/
def scaleOf (rank : Nat) (tcoef tref t : Int) (age : Nat) : Nat :=
  (clampI 0x2000 0x6000 ((rank : Int) * age * (2 ^ 19 + tcoef * (t - tref)) / 2 ^ 33)).toNat

/-- USED moves toward a scale by at most 2^-6 (R189). -/
def scaleStep (used target : Nat) : Nat := if used < target then min target (used + 256) else max target (used - 256)

/-- R189: the head's scale, and SCALE to its hub. -/
def State.rescale (s : State) (n h : Nat) (t : Int) : State :=
  let x := s.head n h
  let u := scaleStep (s.f (F.INK_S_HD_SCALE_USED n h)) (scaleOf x.rank x.tcoef x.tref t (s.f (F.INK_S_HD_SCALE_AGE n h)))
  let s := s.setF (F.INK_S_HD_SCALE_USED n h) u
  s.send (2 * n + s.f (F.INK_S_HD_MAP_HUB n h)) (.scale (s.f (F.INK_S_HD_MAP_PORT n h)) x.rank u (s.lineNow n + 16))

/-- Predicted temperature after a number of lines (R191), in 1/8 °C. -/
def predictedT (t sRise : Int) (lines : Nat) : Int := t + sRise * lines / 1000

/-- R191: with T at or above TLIMIT the head is hot for the frames to come, and the frame in progress goes on only where the prediction at its end stays below the limit. -/
def State.headLimit (s : State) (n h : Nat) (t sRise : Int) : State :=
  let x := s.head n h
  if t < x.tlimit then s
  else
    let s := s.setHead n h { x with hot := true }
    match findFirst Frame.inProgress (s.station n).frames with
    | some fr =>
      let next := s.nextFree n
      let left := (fr.start.getD 0 + fr.lines - next).toNat
      if predictedT t sRise left < x.tlimit then s
      else
        let s := (s.spoilFrom n Reason.HEAD_TEMP next).setFs [(F.INK_S_STATUS_TEMP_LIMIT n, 1), (F.INK_S_STATUS_HEAD_HOT n, 1)]
        (s.noteSpoil n h).raiseOwn EV.HEAD_TEMP_LIMIT n
    | none => s

/-- What a head's reported temperature is taken as (R190, R360, R362): none while a first open or shorted reading awaits its retry. -/
def State.headSensor (s : State) (n h raw : Nat) : Option Int × State :=
  let x := s.head n h
  if x.bad = 2 then (some 2000, s)
  else if raw = 0x7FFF then
    if x.bad = 1 then
      let s := ((s.setHead n h { x with bad := 2 }).logRetry 2 EV.HK_SENSOR_TRANSIENT n).tally 0x223 1
      (some 2000, s.raiseU EV.HK_GUARD_LOST none .byEvent)
    else (none, s.setHead n h { x with bad := 1 })
  else if x.bad = 1 then
    let s := ((s.setHead n h { x with bad := 0 }).logRetry 1 EV.HK_SENSOR_TRANSIENT n).tally 0x222 1
    (some (sx 16 raw), s.raiseX EV.HK_SENSOR_TRANSIENT)
  else (some (sx 16 raw), s)

/-- One head's entry of a TELEMETRY message: port, T, S and actuations (R190). -/
def State.takeHead (s : State) (l : Nat) (e : HeadReport) : State :=
  let n := l / 2
  match s.headAt n (l % 2) e.port.toNat with
  | none => s
  | some h =>
    let s := (s.tallyUnits (0x128 + n) e.acts.toNat 65536).livedHead (2 ^ 128 + (s.head n h).typ * 2 ^ 64 + (s.head n h).serial) e.acts.toNat
    match s.headSensor n h e.t.toNat with
    | (none, s) => s
    | (some t, s) =>
      let s := s.setFs [(F.INK_S_HD_TEMP_T n h, ux 16 t), (F.INK_S_HD_TEMP_S n h, e.s.toNat)]
      let x := s.head n h
      let hot := decide (x.twarn ≤ t)
      let s := s.setHead n h { x with warned := hot }
      let s := if hot && !x.warned then s.raise EV.HEAD_TEMP_WARN n else s
      (s.rescale n h t).headLimit n h t (sx 16 e.s.toNat)

/-- R173, R189–R191: a TELEMETRY message; two in a row with a bad CRC fail the lane. -/
def execTelemetry (l : Fin 16) (ok : Bool) (heads : List HeadReport) (s : State) : Out :=
  let k := l.val
  if ok then
    let s := s.setLane k { s.lane k with badTelem := 0 }
    .next (heads.foldl (fun s e => s.takeHead k e) s)
  else
    let x := s.lane k
    let s := s.setLane k { x with badTelem := x.badTelem + 1 }
    if 2 ≤ x.badTelem + 1 then .next ((s.setLane k { s.lane k with badTelem := 0 }).failLane k) else .next s

/-! ## Sideband (R175) -/

/-- The data of INK_SB_DATA0–7. -/
def State.sbBytes (s : State) : List Byte := ((upFrom 0 8).map fun i => toLE (s.f (F.INK_SB_DATA i)) 4).flatten

/-- The request of the sideband registers. -/
def State.sbRequest (s : State) : LaneMsg :=
  .sbReq (s.on F.INK_SB_CMD_WRITE) (s.f F.INK_SB_CMD_PORT) (s.f F.INK_SB_CMD_ADDR) (s.f F.INK_SB_REG) (s.f F.INK_SB_CMD_LEN) s.sbBytes

/-- R175: INK_SB_CMD.GO. On a lane that may not send the request does not leave (R26), and no answer comes. -/
def execSidebandGo (s : State) : Out :=
  if s.on F.INK_SB_STATUS_BUSY then .next (s.flam F.INK_FLAM_COUNT 1)
  else
    let l := 2 * s.f F.INK_SB_CMD_STATION + s.f F.INK_SB_CMD_HUB
    let s := s.setFs [(F.INK_SB_CMD_GO, 1), (F.INK_SB_STATUS_BUSY, 1), (F.INK_SB_STATUS_RETRIED, 0)]
    .next ({ s with sb := ⟨false, l, s.time, some s.sbRequest, none⟩ }.send l s.sbRequest)

/-- The running request sent once more. -/
def State.sbAgain (s : State) : State := match s.sb.req with
  | some m => s.send s.sb.lane m
  | none => s

/-- A transaction that failed: its one retry, or the lasting fault (R175). RESULT holds the last result a hub returned; where none did,
the spec names no result and it is a free value. -/
def State.sbFail (s : State) : State :=
  if s.sb.retry then
    let n := s.sb.lane / 2
    let result := s.sb.res.getD (s.freeNow.toNat % 8)
    let s := if s.sb.res.isNone then s.draw else s
    let s := s.setFs [(F.INK_SB_CMD_GO, 0), (F.INK_SB_STATUS_BUSY, 0), (F.INK_SB_STATUS_RETRIED, 1), (F.INK_SB_STATUS_RESULT, result),
      (F.INK_S_STATUS_SB_FAIL n, 1)]
    (s.logRetry 2 EV.SIDEBAND_FAIL n).raise EV.SIDEBAND_FAIL n
  else { s with sb := { s.sb with retry := true, at_ := s.time } }.sbAgain

/-- Put read data into INK_SB_DATA0–7. -/
def State.sbData (s : State) (bs : List Byte) : State :=
  forBelow 8 (fun i s => s.setF (F.INK_SB_DATA i) (ofLE ((bs.drop (i * 4)).take 4))) s

/-- Read data of the running request: none for a write. -/
def State.sbTake (s : State) (data : List Byte) : State := match s.sb.req with
  | some (.sbReq false _ _ _ len _) => s.sbData (data.take len)
  | _ => s

/-- R174, R175: a hub's SB_RSP; `intact` tells whether its CRC holds. -/
def execSbRsp (l : Fin 16) (intact : Bool) (seq : BitVec 16) (result : BitVec 3) (data : List (BitVec 8)) (s : State) : Out :=
  let (s, new) := s.answerHub l.val intact seq.toNat
  if new && s.on F.INK_SB_STATUS_BUSY && decide (s.sb.lane = l.val) then
    if result.toNat = 0 then
      let s := s.sbTake data
      let s := s.setFs [(F.INK_SB_CMD_GO, 0), (F.INK_SB_STATUS_BUSY, 0), (F.INK_SB_STATUS_RESULT, 0), (F.INK_SB_STATUS_RETRIED, b2n s.sb.retry)]
      .next (if s.sb.retry then (s.tally 0x123 1).logRetry 1 EV.SIDEBAND_FAIL (s.sb.lane / 2) else s)
    else .next { s with sb := { s.sb with res := some result.toNat } }.sbFail
  else .next s

/-- R175: no SB_RSP within 500 µs. -/
def execSidebandTimeout (s : State) : Out :=
  if s.on F.INK_SB_STATUS_BUSY then .next (s.advanceTo (s.sb.at_ + 300000)).sbFail else .next s

/-! ## Waveforms (R185–R187) -/

/-- The byte at an offset of a station's waveform bank. -/
def waveKey (n bank i : Nat) : Nat := (n * 2 + bank) * 1024 + i

/-- The duration of a waveform of 8 strokes in 12.5 ns units: an all-zero stroke ends it (R185). -/
def waveTime : List Nat → Nat
  | [] => 0
  | w :: r => if w = 0 then 0 else bitsOf w 9 0 + bitsOf w 19 10 + bitsOf w 29 20 + bitsOf w 53 44 + waveTime r

/-- Whether every head's group of the image body at an address fits within 1/FMAX (R186). -/
def State.wavesFit (s : State) (n a : Nat) : Bool :=
  (upFrom 0 48).all fun h =>
    !s.on (F.INK_S_HD_MAP_EN n h) || (upFrom 0 4).all fun w =>
      let at_ := a + (s.f (F.INK_S_HD_CFG_GROUP n h) * 4 + w) * 64
      decide (waveTime ((upFrom 0 8).map fun i => s.memNat (at_ + i * 8) 8) * (s.head n h).fmax ≤ 80000000)

/-- The first error code that applies to the waveform image at an address (R147, R186), or 0. -/
def State.waveImageErr (s : State) (n a : Nat) : Nat :=
  if !s.readable a 64 then 4
  else if s.memNat a 4 ≠ 0x56575359 ∨ s.memNat (a + 4) 2 ≠ 3 ∨ s.memNat (a + 6) 2 ≠ 1 ∨ s.memNat (a + 20) 44 ≠ 0 then 1
  else if s.memNat (a + 12) 4 ≠ 1024 then 2
  else if s.memNat (a + 8) 4 ≠ 4 then 3
  else if !s.readable (a + 64) 1024 then 4
  else if crc32c (s.memRead (a + 64) 1024) ≠ s.memNat (a + 16) 4 then 5
  else if !s.wavesFit n (a + 64) then 9
  else 0

/-- A waveform command fails with a code (R186). -/
def State.waveErr (s : State) (n err : Nat) : State :=
  (s.setFs [(F.INK_S_WSTAT_ERR n, err), (F.INK_S_STATUS_WAVE_ERR n, 1)]).raise EV.WAVE_LOAD_ERR n

/-- Whether the inactive bank takes a command: not ENGAGED, and in one of the states (R146). -/
def State.waveMay (s : State) (n : Nat) (states : List Nat) : Bool :=
  !s.on (F.INK_S_WSTAT_ENGAGED n) && states.contains (s.f (F.INK_S_WSTAT_STATE n))

/-- A part of a waveform bank, 256 bytes. -/
def State.wavePart (s : State) (n bank part : Nat) : List Byte := (upFrom 0 256).map fun i => tget 0 s.waves (waveKey n bank (part * 256 + i))

/-- A WAVE message to hub l. Where its lane has no path, the message stays unacknowledged (R186). -/
def State.sendWave (s : State) (l : Nat) (m : LaneMsg) : State :=
  if s.reachable l then s.send l m
  else
    let (q, s) := s.nextSeq l
    s.setLane l { s.lane l with out := (s.lane l).out ++ [⟨q, 0, m, s.time * 25, false⟩] }

/-- The four WAVE messages of a bank to every hub of a station (R162, R186). -/
def State.sendWaves (s : State) (n bank : Nat) : State :=
  (s.lanesOf n).foldl (fun s l => (upFrom 0 4).foldl (fun s p => s.sendWave l (.wave bank p (s.wavePart n bank p))) s) s

/-- The inactive waveform bank takes a checked body, or an error code (R186, R187): at an armed station the hubs receive it before the
bank is READY. -/
def State.finishWave (s : State) (n e : Nat) (body : List Byte) : State :=
  if e = 0 then
    let b := 1 - s.f (F.INK_S_WSTAT_ACTIVE n)
    let s := { s with waves := tputs 0 s.waves (waveKey n b 0) body }
    let s := s.setF (F.INK_S_WSTAT_ERR n) 0
    if s.armed n then
      let s := s.setFs [(F.INK_S_WSTAT_STATE n, Bank.BUSY), (F.INK_S_WCMD_GO n, 1)]
      (s.setInk n { s.inkSt n with waveAt := some s.time }).sendWaves n b
    else s.setF (F.INK_S_WSTAT_STATE n) Bank.READY
  else (s.setF (F.INK_S_WSTAT_STATE n) Bank.IDLE).waveErr n e

/-- R186: LOAD of the image at an address, on behalf of the host or the keeper. -/
def State.loadWave (s : State) (n a : Nat) : State :=
  if s.waveMay n [Bank.IDLE, Bank.READY] then s.finishWave n (s.waveImageErr n a) (s.memRead (a + 64) 1024) else s.waveErr n 6

/-- R186: INK_Sn_WCMD with LOAD. -/
def execWaveLoad (n : Fin 8) (ecc : Ecc) (s : State) : Out :=
  let a := s.addr (F.INK_S_WADDR_HI n.val) (F.INK_S_WADDR_LO n.val)
  .next ((if s.waveMay n.val [Bank.IDLE, Bank.READY] then s.ecc a ecc none else s).loadWave n.val a)

/-- Whether some WAVE message to a hub of station n is not yet acknowledged. -/
def State.wavesOut (s : State) (n : Nat) : Bool :=
  (s.lanesOf n).any fun l => (s.lane l).out.any fun o => o.msg.isWave

/-- The WAVE messages still outstanding are forgotten. -/
def State.dropWaves (s : State) (n : Nat) : State :=
  (s.lanesOf n).foldl (fun s l => s.setLane l { s.lane l with out := (s.lane l).out.filter fun o => !o.msg.isWave }) s

/-- R186: both hubs have acknowledged every WAVE message. -/
def execWaveLoadDone (n : Fin 8) (s : State) : Out :=
  let k := n.val
  if s.f (F.INK_S_WSTAT_STATE k) = Bank.BUSY ∧ s.wavesOut k = false then
    .next ((s.setFs [(F.INK_S_WSTAT_STATE k, Bank.READY), (F.INK_S_WCMD_GO k, 0), (F.INK_S_WSTAT_ERR k, 0)]).setInk k { s.inkSt k with waveAt := none })
  else .next s

/-- R186: 2 ms after the first WAVE message left without every acknowledgement. -/
def execWaveLoadTimeout (n : Fin 8) (s : State) : Out :=
  let k := n.val
  match (s.inkSt k).waveAt with
  | some t =>
    if s.f (F.INK_S_WSTAT_STATE k) = Bank.BUSY ∧ s.wavesOut k then
      let s := ((s.advanceTo (t + 1200000)).dropWaves k).setFs [(F.INK_S_WSTAT_STATE k, Bank.IDLE), (F.INK_S_WCMD_GO k, 0)]
      .next ((s.setInk k { s.inkSt k with waveAt := none }).waveErr k 11)
    else .next s
  | none => .next s

/-- R146, R186: CLEAR. -/
def execWaveClear (n : Fin 8) (s : State) : Out :=
  if s.waveMay n.val [Bank.IDLE, Bank.EDIT, Bank.READY] then .next (s.setFs [(F.INK_S_WSTAT_STATE n.val, Bank.IDLE), (F.INK_S_WSTAT_ERR n.val, 0)])
  else .next (s.waveErr n.val 6)

/-- R146, R186: SWAP. -/
def execWaveSwap (n : Fin 8) (s : State) : Out :=
  if s.waveMay n.val [Bank.IDLE, Bank.BUSY, Bank.EDIT, Bank.READY] then .next (s.setFs [(F.INK_S_WSTAT_PEND n.val, 1), (F.INK_S_WSTAT_ERR n.val, 0)])
  else .next (s.waveErr n.val 6)

/-! ## Drop detection (R193–R196) -/

/-- The nozzle of the next test: a nozzle to retest, or the next of FIRST to LAST (R195, R196). -/
def State.ddNozzle (s : State) : Nat :=
  match s.dd.retest with
  | some x => x
  | none => match s.dd.next with
    | some x => if x < s.f F.INK_DD_RANGE_FIRST ∨ s.f F.INK_DD_RANGE_LAST < x then s.f F.INK_DD_RANGE_FIRST else x
    | none => s.f F.INK_DD_RANGE_FIRST

/-- Ticks after a drop until its extended window closes (R193). -/
def State.ddTail (s : State) : Nat := s.f F.INK_DD_TIME_FLIGHT + 4 * s.f F.INK_DD_TIME_WIN

/-- The first line behind every line a station has announced, and ahead of its position. -/
def State.firstUnstaged (s : State) (n : Nat) : Int := (s.station n).lines.foldl (fun a x => maxI a (x.lpos + 1)) (s.lineNow n + 1)

/-- The lines that pass while the windows of a test's last drop close. -/
def State.ddLines (s : State) (n : Nat) : Int := (lineRate s.web.pub.v (s.ratio n) * s.ddTail + 599999999) / 600000000

/-- The test lines of sled mode: sent COMMITTED with TEST = 1, their fire times PERIOD apart, from 6,000 ticks after the start (the model's
choice, log entry 12). -/
def State.sledLine (s : State) (n x i : Nat) : State :=
  let l := s.lineNow n + 1 + i
  let f := s.time + 6000 + i * s.f F.INK_DD_PERIOD
  let (qa, qb, s) := s.sendPackets (s.linePackets n l f (s.f (F.INK_S_WSTAT_ACTIVE n)) true true (some (x, s.f F.INK_DD_CTL_DSIZE)))
  let z : Line := { lpos := l, fire := f, staged := s.time, rev := 0, mallet := 0, lseq := qa, lseqB := qb, phase := .committed, miss := false,
                    fired := 0, msgs := [] }
  { s with dd := { s.dd with sled := s.dd.sled ++ [(n, z)] } }

/-- R193, R196: a test starts, in a slot or a gap that has room for it. -/
def execDdTestStart (s : State) : Out :=
  let n := s.f F.INK_DD_CTL_STATION
  let b := s.f F.INK_DD_CTL_BURST
  let x := s.ddNozzle
  let ready := s.on F.INK_DD_CTL_EN && s.dd.test.isNone && s.armed n && decide (s.dd.closes ≤ s.time)
  let go (first : Int) (closes : Nat) (s : State) : State :=
    { s with dd := { s.dd with test := some x, again := s.dd.retest.isSome, first := first, closes := closes, fire0 := s.time + 6000 } }
  if !ready then .next s
  else if s.on F.INK_DD_CTL_MODE then
    match s.dd.gapLine with
    | some g =>
      let l := s.firstUnstaged n
      let inGap := match s.frameOf n l with
        | some y => !y.holds l
        | none => true
      if inGap && decide (l + b - 1 + s.ddLines n ≤ g) then .next (go l 0 s) else .next s
    | none => .next s
  else if s.on (F.FEED_Q_STATUS_EMPTY n) && (s.station n).lines.all fun y => decide (y.phase ≠ .staged) then
    let closes := s.time + 6000 + (b - 1) * s.f F.INK_DD_PERIOD + s.ddTail
    .next (go (s.lineNow n + 1) closes ((upFrom 0 b).foldl (fun s i => s.sledLine n x i) s))
  else .next s

/-- Classes of R194: 0 good, 1 weak, 2 deviated, 3 missing, from the pulses on time, the sum of their widths, and the pulses in the
extended window. -/
def dropClass (burst weak onTime width ext : Nat) : Nat :=
  let half := (burst + 1) / 2
  if half ≤ onTime then (if weak * onTime ≤ width then 0 else 1)
  else if half ≤ ext then 2
  else 3

/-- A result enters the queue of 64; a full queue loses its oldest (R199). -/
def State.ddResult (s : State) (n x cls : Nat) (retest : Bool) : State :=
  let w : Word := BitVec.ofNat 32 (2 ^ 31 + cls * 2 ^ 29 + b2n retest * 2 ^ 28 + n * 2 ^ 25 + x)
  if s.ddResults.length < 64 then { s with ddResults := s.ddResults ++ [w] }
  else { s with ddResults := s.ddResults.drop 1 ++ [w] }.flam F.INK_FLAM_COUNT 1

/-- The head of station n that carries a nozzle. -/
def State.headOf (s : State) (n x : Nat) : Option Nat :=
  findFirst (fun h => s.on (F.INK_S_HD_MAP_EN n h) && decide (s.f (F.INK_S_HD_MAP_FIRST n h) ≤ x)
    && decide (x < s.f (F.INK_S_HD_MAP_FIRST n h) + s.f (F.INK_S_HD_CFG_COUNT n h))) (upFrom 0 48)

/-- Tests and weak results per head, for margin review (R195, R428). -/
def State.ddCount (s : State) (n x cls : Nat) : State :=
  match s.headOf n x with
  | some h =>
    let k := n * 128 + h * 2
    let c := tput 0 s.dd.counts k (tget 0 s.dd.counts k + 1)
    { s with dd := { s.dd with counts := if cls = 1 then tput 0 c (k + 1) (tget 0 c (k + 1) + 1) else c } }
  | none => s

/-- The open entry of a frame of station n is DEGRADED there too (R195). -/
def State.degradeEntry (s : State) (n : Nat) (x : Frame) : State :=
  { s with ledger := s.ledger.map fun (y : Entry) => if y.job = x.job ∧ y.num = x.num then { y with degraded := setBit y.degraded n } else y }

/-- A nozzle hidden by drop detection (R195): the frames that fired since its first test, closed ones among them, and those up to the
boundary, are DEGRADED. -/
def State.ddHide (s : State) (n x : Nat) : State :=
  let s := (s.ddMark n x).tally 0x126 1
  let st := s.station n
  let since := s.dd.since
  let hit (y : Frame) : Bool := y.begun && decide (since ≤ y.tLast)
  let s := s.setStation n { st with frames := st.frames.map fun (y : Frame) => if hit y then { y with degraded := true } else y }
  let s := (st.past.filter hit).foldl (fun s y => s.degradeEntry n y) s
  { s with dd := { s.dd with hide := (n, none) :: s.dd.hide } }.raiseF EV.DD_HIDDEN n

/-- R195: what the result of a retest does. -/
def State.ddJudge (s : State) (n x cls : Nat) : State :=
  if cls ≤ 1 then ((s.tally 0x125 1).logRetry 1 EV.DD_TRANSIENT n).raise EV.DD_TRANSIENT n
  else
    let s := s.logRetry 2 EV.DD_TRANSIENT n
    if cls = 3 ∨ s.on F.INK_DD_CTL_HIDE_DEV then s.ddHide n x else s.raise EV.DD_DEVIATED n

/-- When the windows of the running test close: as computed at its start, or from the fire time of its last gap line. -/
def State.ddCloses (s : State) (n : Nat) : Nat :=
  let last := s.dd.first + s.f F.INK_DD_CTL_BURST - 1
  if s.on F.INK_DD_CTL_MODE then match s.lineAt n last with
    | some x => x.fire + s.ddTail
    | none => s.time
  else s.dd.closes

/-- The fire times of the running test's drops (R193, R196): PERIOD apart in sled mode, those of its committed lines in gap mode. -/
def State.ddFires (s : State) (n : Nat) : List Nat :=
  if s.on F.INK_DD_CTL_MODE then
    ((s.station n).lines.filter fun y => decide (y.phase = .committed) && decide (s.dd.first ≤ y.lpos)
      && decide (y.lpos < s.dd.first + s.f F.INK_DD_CTL_BURST)).map Line.fire
  else (upFrom 0 (s.f F.INK_DD_CTL_BURST)).map fun i => s.dd.fire0 + i * s.f F.INK_DD_PERIOD

/-- The pulses of the gate under test within a distance of fire time + FLIGHT, over every drop's window (R193). A pulse stands at its
beginning, and one in the windows of two drops is recorded in both (DESIGN CHOICE, log entry 66). -/
def State.ddPulses (s : State) (n w : Nat) (ps : List DropPulse) : List DropPulse :=
  let near (f : Nat) (p : DropPulse) : Bool := decide (((p.at_.toNat : Int) - (f + s.f F.INK_DD_TIME_FLIGHT : Nat)).natAbs ≤ w)
  ((s.ddFires n).map fun f => ps.filter fun p => decide (p.gate = s.on F.INK_DD_CTL_GATE) && near f p).flatten

/-- The class of the running test from the gate's pulses (R193, R194). -/
def State.ddClass (s : State) (n : Nat) (ps : List DropPulse) : Nat :=
  let win := s.f F.INK_DD_TIME_WIN
  let onTime := s.ddPulses n win ps
  dropClass (s.f F.INK_DD_CTL_BURST) (s.f F.INK_DD_WEAK) onTime.length (onTime.map fun p => p.width.toNat).sum (s.ddPulses n (4 * win) ps).length

/-- R193–R195: the windows of a test close, with the pulses of the drop gates. -/
def execDdTestDone (pulses : List DropPulse) (s : State) : Out :=
  match s.dd.test with
  | some x =>
    let n := s.f F.INK_DD_CTL_STATION
    let cls := s.ddClass n pulses
    let s := s.advanceTo (s.ddCloses n)
    let again := s.dd.again
    let s := ((s.ddResult n x cls again).ddCount n x cls).tally 0x124 1
    let redo := !again && decide (2 ≤ cls)
    let nxt := if s.f F.INK_DD_RANGE_LAST ≤ x then s.f F.INK_DD_RANGE_FIRST else x + 1
    let s := { s with dd := { s.dd with
      test := none, again := false, closes := s.time, retest := if redo then some x else none
      next := if redo then s.dd.next else some nxt, since := if redo then s.time else s.dd.since } }
    let s := if cls = 1 then s.raise EV.DD_WEAK n else s
    .next (if again then s.ddJudge n x cls else s)
  | none => .next s

/-- R199: a read of INK_DD_RESULT. -/
def State.readDdResult (s : State) : Nat × State :=
  match s.ddResults with
  | w :: r => (w.toNat, { s with ddResults := r })
  | [] => (0, s)

/-- R199: a read of INK_DD_RESULT removes and returns the oldest result. -/
def execInkDdResultRead (s : State) : Out :=
  let (w, s) := s.readDdResult
  .next (s.reply w)

end Sys2Proof.Machine
end

