-- ==== Sys2Proof/Machine/Ep.lean ====
section
/-!
DEFINITION. EP stations: scans and beam detect, the pixel clock, beam power, high voltage and fuser zones (R200–R230).
-/
namespace Sys2Proof.Machine

/-! ## Speeds (R209–R214) -/

/-- Facets of station n's polygon. -/
def State.facets (s : State) (n : Nat) : Nat := s.f (F.EPS_S_POLY_FACETS n) + 1

/-- The pixel-clock band in use, in MHz: FLO and FHI (R52, R213). -/
def State.pixBand (s : State) (n : Nat) : Nat × Nat := (s.mdll n).band.getD (100, 320)

/-- The fire limit of an EP station in lines/s (R213). -/
def State.epLimit (s : State) (n : Nat) : Nat :=
  let rpm := s.f (F.EPS_S_POLY_RPM_MAX n) * s.facets n * 8 / 60
  let ppf := s.f (F.EPS_S_PPF n)
  let pix := if ppf = 0 then 63000 else 8 * min (s.pixBand n).2 320 * 1000000 * 65536 / ppf
  min 63000 (min rpm pix)

/-- Whether the extrapolated web speed stands below EP station n's minimum print speed: VMIN, or, where the pixel clock follows the web, the
speed at which R211 would take it down to FLO (R213). -/
def State.epSlow (s : State) (n : Nat) : Bool :=
  decide (speed10 s.webVel < s.f (F.EPS_S_VMIN n))
    || s.on (F.EPS_S_CFG_FOLLOW n) && decide (lineRate s.webVel (s.ratio n) * s.f (F.EPS_S_PPF n) * (2 ^ 24 + s.fs (F.EPS_S_MAG n))
      < ((s.pixBand n).1 * 1000000 * 8 * 65536 * 2 ^ 24 : Nat))

/-- Whether a station stands below its minimum print speed, by its kind (R21). -/
def State.slow (s : State) (n : Nat) : Bool := if s.on (F.SCR_CFG_KIND n) then s.epSlow n else s.inkSlow n

/-- The polygon's ratio (R209): the station's divided by 8, truncated. -/
def State.polyRatio (s : State) (n : Nat) : Nat := s.ratio n / 8

/-- The facet position, 32.16 (R209). -/
def State.facetPos (s : State) (n : Nat) : Int := s.lpos n / 8

/-- The facet period in ticks, from EPS_Sn_TFAC. -/
def State.facetTicks (s : State) (n : Nat) : Nat := s.f (F.EPS_S_TFAC n) / 256

/-- The facet period in ticks at the polygon's geared facet rate (R209, R225); 0 where the web does not move forward. -/
def State.gearedTicks (s : State) (n : Nat) : Nat :=
  let k := s.webVel * s.polyRatio n
  if 0 < k then (2 ^ 56 / k).toNat else 0

/-- Ticks of a number of pixel periods (R49). -/
def State.pixTicks (s : State) (n k : Nat) : Nat :=
  let p := s.f (F.CLK_MDLL_STATUS_PIXF_USED n)
  if p = 0 then 0 else k * 2 ^ 22 / p

/-! ## Staging a scan (R113, R207, R213, R216, R292) -/

/-- Image lines of the facet of line m that their frame still wants. -/
def State.scanLines (s : State) (n : Nat) (m : Int) : List Int :=
  ((upFrom 0 8).map fun (i : Nat) => m + i).filter fun l => match s.frameOf n l with
    | some x => x.holds l && x.wants l
    | none => false

/-- Lines of a facet count as missed (R207, R208). -/
def State.missScan (s : State) (n : Nat) (m : Int) (reason : Nat) : State :=
  (s.scanLines n m).foldl (fun s l => s.missLine n l reason false) s

/-- The frames of a facet's lines, for the rules that stop a staging: begun or not. -/
def State.facetLine (s : State) (n : Nat) (m : Int) (begun : Bool) : Option Int :=
  findFirst (fun l => match s.frameOf n l with
    | some x => decide (x.begun = begun)
    | none => false) (s.scanLines n m)

/-- Below the minimum print speed no scan is staged (R213): the frame in progress ends, and a frame not begun never begins. -/
def State.slowScan (s : State) (n : Nat) (m : Int) : State :=
  let g3 := s.on F.EVT_GONG_G3
  let s := (s.scanLines n m).foldl (fun s l => s.mapFrameAt n l fun x => if x.begun then x else { x with bare := some Reason.BELOW_VMIN })
    (s.setF (F.EPS_S_STATUS_BELOW_VMIN n) 1)
  match s.facetLine n m true with
  | some l =>
    let s := s.spoilAt n l (if g3 then Reason.PRESS_STOP else Reason.BELOW_VMIN)
    if g3 then s else s.raiseOwn EV.EP_BELOW_VMIN n
  | none => s

/-- Under G3 no frame begins (R21): the frames of a facet that have not begun stay blank. -/
def State.g3Scan (s : State) (n : Nat) (m : Int) : State :=
  if s.on F.EVT_GONG_G3 then
    (s.scanLines n m).foldl (fun s l => s.mapFrameAt n l fun x => if x.begun then x else { x with bare := some Reason.PRESS_STOP }) s
  else s

/-- R292: the staging of the facet of line m with its BD edge predicted at a tick; whether it places an effect. A line whose codes are not in
the line store leaves the rest of its frame unlit (R216); the facet is staged for the lines that stay. -/
def State.stageScan (s : State) (mallet n : Nat) (m : Int) (pred : Nat) : State × Bool :=
  let s := (s.scanLines n m).foldl (fun s l => s.enterAt n l) s
  let x := s.epSt n
  if !s.armed n || !s.on (F.SCR_CFG_KIND n) || x.dead || !s.on (F.EPS_S_STATUS_PHLOCK n) then (s, false)
  else if pred ≤ s.time ∨ x.scans.any (fun y => decide (m < y.lpos + 8)) then (s, false)
  else if s.epSlow n then (s.slowScan n m, false)
  else
    let s := s.g3Scan n m
    let s := match findFirst (fun l => !s.screened n l) (s.scanLines n m) with
      | some l => match s.frameOf n l with
        | some fr => (s.beginFrame n l).underrun n l fr
        | none => s
      | none => s
    let s := (s.scanLines n m).foldl (fun s l => s.beginFrame n l) s
    let x := s.epSt n
    (((s.fillScan n m).setEp n { x with scans := x.scans ++ [⟨m, pred, mallet⟩] }).tally (0x160 + n) 1, true)

/-! ## Beam detect (R205–R208, R210, R211) -/

/-- Close the finished frames of an EP station, oldest first (R250): those given up, those whose last image line a facet has decided, and
those the web has passed. -/
def State.closeEp (s : State) (n : Nat) : State :=
  let s := s.marksSince s.web.period
  let served := (s.epSt n).served
  let excess (x : Frame) : Bool :=
    let last : Int := x.start.getD 0 + x.lines - 1
    x.begun && x.prov.isNone && (decide (x.state = 3) || (match served with
      | some k => decide (last < k)
      | none => false) || decide (last + 8 < s.lineNow n))
  let rec go : List Frame → State → State
    | [], s => s
    | x :: r, s => if excess x then go r (s.closeFrame n x.finish) else if s.neverBegun n x then go r (s.closeUnbegun n x) else s
  go (s.station n).frames s

/-- The oldest staged scan whose facet an edge at the present tick serves. -/
def State.dueScan (s : State) (n : Nat) : Option Scan :=
  match (s.epSt n).scans with
  | y :: _ => if s.facetTicks n = 0 ∨ 2 * y.pred ≤ 2 * s.time + s.facetTicks n then some y else none
  | [] => none

/-- Whether an effect is the scan of station n at a line. -/
def Eff.isScan (n : Nat) (m : Int) : Eff → Bool
  | .scan k p => decide (k = n ∧ p = m)
  | .line _ _ => false
  | .pin _ _ _ _ => false
  | .event _ _ => false
  | .send _ => false

/-- Squash a staged scan and every younger effect of its region (R207, R208, R233). -/
def State.squashScan (s : State) (n : Nat) (y : Scan) (code : Nat) : State :=
  match effIndex (Eff.isScan n y.lpos) (s.mallet y.mallet).region.effs 0 with
  | some i => s.squashAt y.mallet i code
  | none =>
    let x := s.epSt n
    s.setEp n { x with scans := x.scans.filter fun z => decide (z.lpos ≠ y.lpos) }

/-- Lines between facets that no facet serves while the station drops lines (R214): skipped, under R90. -/
def State.skipBetween (s : State) (n : Nat) (m : Int) : State :=
  match (s.epSt n).served with
  | some k =>
    if s.on (F.WEB_ST_STATUS_DROPPING n) ∧ k < m then
      ((upFrom 0 (m - k).toNat).map fun (i : Nat) => k + i).foldl (fun s l =>
        match s.frameOf n l with
        | some x => if x.holds l && x.wants l then (s.missLine n l Reason.OVERSPEED false).tally (0x070 + n) 1 else s
        | none => s) s
    else s
  | none => s

/-- A facet has passed for the lines from m on (R214): the lines before it that no facet served were skipped, and the next facet's lines
follow its own. -/
def State.markServed (s : State) (n : Nat) (m : Int) : State :=
  let s := s.skipBetween n m
  let x := s.epSt n
  s.setEp n { x with served := some (match x.served with
    | some k => maxI k (m + 8)
    | none => m + 8) }

/-- A squash counts toward XMISS in each frame that the facet of line m serves (R207): at the limit the rest of the frame is blank. -/
def State.countSquash (s : State) (n : Nat) (m : Int) : State :=
  ((s.station n).frames.filter fun x => decide (x.start.getD 0 < m + 8) && decide (m < x.imageEnd) && x.start.isSome).foldl (fun s x =>
    let k := tget 0 (s.epSt n).squashes x.index + 1
    let s := s.setEp n { s.epSt n with squashes := tput 0 (s.epSt n).squashes x.index k }
    if max 1 (s.f (F.EPS_S_XWIN_XMISS n)) ≤ k ∧ x.state ≠ 3 then
      let s := (s.mapFrame n x.index fun y => y.spoil (m + 8) Reason.XSCAN).abandonIn n x (m + 8)
      (s.setF (F.EPS_S_STATUS_XSPOIL n) 1).raiseOwn EV.XSCAN_SPOIL n
    else s) s

/-- The first line of an EP station that no scan is staged for. -/
def State.scanNext (s : State) (n : Nat) : Int :=
  (s.epSt n).scans.foldl (fun a y => maxI a (y.lpos + 8)) (((s.epSt n).served).getD (s.lineNow n + 1))

/-- Spoil the frame in progress that has unstaged lines, from the first of them, where there is one (R183, R210, R213); the answer says whether
one was. -/
def State.spoilUnstaged (s : State) (n reason : Nat) (from_ : Int) : State × Bool :=
  match findFirst (fun x => x.inProgress && decide (from_ < x.imageEnd)) (s.station n).frames with
  | some x => ((s.mapFrame n x.index fun y => y.spoil (maxI from_ (x.start.getD 0)) reason).abandonIn n x from_, true)
  | none => (s, false)

/-- Phase lock of the polygon (R210) with the window in force. -/
def State.phaseLock (s : State) (n : Nat) (inTol : Bool) : State :=
  let x := s.epSt n
  if inTol then
    let s := s.setEp n { x with inTol := x.inTol + 1, outTol := 0 }
    if 256 ≤ x.inTol + 1 then s.setF (F.EPS_S_STATUS_PHLOCK n) 1 else s
  else
    let s := s.setEp n { x with inTol := 0, outTol := x.outTol + 1 }
    if 16 ≤ x.outTol + 1 ∧ s.on (F.EPS_S_STATUS_PHLOCK n) then
      let s := s.setF (F.EPS_S_STATUS_PHLOCK n) 0
      (s.spoilUnstaged n Reason.XSCAN (s.scanNext n)).1.raiseOwn EV.POLY_UNLOCK n
    else s

/-- The pixel clock that R211 asks for. -/
def State.followPixf (s : State) (n : Nat) : Nat :=
  let t := s.f (F.EPS_S_TFAC n)
  if t = 0 then s.f (F.CLK_MDLL_STATUS_PIXF_USED n)
  else (roundDiv ((s.f (F.EPS_S_PPF n) : Int) * 2 ^ 30 * (2 ^ 24 + s.fs (F.EPS_S_MAG n))) (2 ^ 40 * (t : Int))).toNat

/-- R211: the pixel clock follows the polygon at an edge, by at most 200 ppm. -/
def State.follow (s : State) (n : Nat) : State :=
  if s.on (F.EPS_S_CFG_FOLLOW n) && s.on (F.CLK_MDLL_CTL_EN n) then
    let used := s.f (F.CLK_MDLL_STATUS_PIXF_USED n)
    let v := s.followPixf n
    if v = used then s
    else
      let d := used / 5000
      let w := if used + d < v then used + d else if v + d < used then used - d else v
      let s := if w = v then s else (s.setF (F.EPS_S_STATUS_PIX_CLAMP n) 1).raise EV.PIX_CLAMP n
      s.applyPixf n w
  else match (s.mdll n).pend with
    | some v => s.applyPixf n v
    | none => s

/-- The bookkeeping of an edge: its time, the mean facet period, revolutions, lighting, a missing edge that was transient (R205, R208,
R211, R229). -/
def State.edgeTimes (s : State) (n : Nat) : State :=
  let x := s.epSt n
  let iv := match x.lastBd with
    | some t => if x.missing = 0 then ((s.time - t) :: x.intervals).take (s.facets n) else x.intervals
    | none => x.intervals
  let turn := decide (s.facets n ≤ x.edges + 1)
  let lost := decide (x.missing = 1)
  let s := s.setEp n { x with
    lastBd := some s.time, intervals := iv, edges := if turn then 0 else x.edges + 1, missing := 0, lit := false, run := x.run + 1 }
  let s := s.setPair (F.EPS_S_BDT_HI n) (F.EPS_S_BDT_LO n) s.time
  let s := s.setF (F.EPS_S_TFAC n) (if iv.isEmpty then 0 else iv.sum * 256 / iv.length)
  let s := s.setF (F.EPS_S_STATUS_BD_OK n) 1
  let s := if turn then (s.tally (0x14C + n) 1).lived (0x10 + n) 1 else s
  if lost then (s.logRetry 1 EV.BD_MISS n).raiseF EV.BD_MISS n else s

/-- R206: position, m and e of an edge, e in 2^-16 lines. -/
def State.edgeError (s : State) (n : Nat) (pm : Int) : Int × Int :=
  let held := match s.dueScan n with
    | some y => s.heldFor n y.lpos
    | none => 0
  let z := s.lposAtPos n pm - held - s.fs (F.EPS_S_XPHASE n)
  let m := roundDiv z 65536
  (m, z - m * 65536)

/-- The confirm window in 2^-16 lines: XTOL, or half a line while the required rate stands above the limit (R206, R214). -/
def State.scanWindow (s : State) (n : Nat) : Nat :=
  if s.on (F.WEB_ST_STATUS_DROPPING n) then 32768 else s.f (F.EPS_S_XWIN_XTOL n) * 256

/-- R206, R207, R237: the edge commits or squashes the scan staged for its facet. -/
def State.judgeScan (s : State) (n : Nat) (m e : Int) : State :=
  match s.dueScan n with
  | some y =>
    if e.natAbs ≤ s.scanWindow n ∧ m = y.lpos then
      let s := s.reachSplice n (m + 7)
      (s.confirm y.mallet (Eff.isScan n y.lpos)).markServed n m
    else
      let s := (s.missScan n y.lpos Reason.XSCAN).squashScan n y Squash.XSCAN
      ((s.raiseF EV.XSCAN_SQUASH n).countSquash n y.lpos).markServed n y.lpos
  | none => s

/-- R50, R53, R205–R208, R210, R211, R237: a qualified BD edge at a press time, with the raw count of the source in use and whether an
MDLL out of lock relocks on it. -/
def execBdEdge (n : Fin 4) (at_ : BitVec 64) (count : BitVec 64) (relock : Bool) (s : State) : Out :=
  let k := n.val
  let s := (s.advanceTo at_.toNat).edgeTimes k
  let s := if relock && !s.on (F.CLK_MDLL_STATUS_LOCKED k) then
      ((s.setF (F.CLK_MDLL_STATUS_LOCKED k) 1).setMdll k { s.mdll k with lost := false }).setEp k { s.epSt k with blank := false }
    else s
  let s := s.follow k
  let (pm, s) := s.measured count.toInt
  let (m, e) := s.edgeError k pm
  let s := s.setF (F.EPS_S_XERR k) (ux 16 (e / 256))
  let s := s.phaseLock k (decide (e.natAbs ≤ s.scanWindow k))
  .next ((s.judgeScan k m e).closeEp k)

/-- KA_LASERn goes static (R227, R396). -/
def State.laserStatic (s : State) (n : Nat) : State :=
  if bitOf (s.f F.EVT_KA_STATUS_LASER) n then (s.setBitF F.EVT_KA_STATUS_LASER n false).tally 0x234 1 else s

/-- The tick at which the absence of an edge is known (R208). -/
def State.missAt (s : State) (n t : Nat) : Nat := t + (s.epSt n).missing * s.facetTicks n + s.facetTicks n * 3 / 2

/-- The facet of a missing edge: its scan is missed and squashed (R208). -/
def State.missFacet (s : State) (n : Nat) : State :=
  match s.dueScan n with
  | some y => ((s.missScan n y.lpos Reason.BD_MISS).squashScan n y Squash.BD_MISS).markServed n y.lpos
  | none => s

/-- A second edge in a row is missing: the scans staged are squashed too, and the station's lasers go dark (R208). -/
def State.bdLost (s : State) (n : Nat) : State :=
  let s := (s.epSt n).scans.foldl (fun s y => ((s.missScan n y.lpos Reason.BD_MISS).squashScan n y Squash.BD_MISS).markServed n y.lpos) s
  let s := (s.setEp n { s.epSt n with dead := true, lit := false }).setF (F.EPS_S_STATUS_BD_LOST n) 1
  ((s.laserStatic n).logRetry 2 EV.BD_MISS n).raise EV.BD_LOST n

/-- R208: no BD edge within 1.5 facet periods. -/
def execBdMissing (n : Fin 4) (s : State) : Out :=
  let k := n.val
  match (s.epSt k).lastBd with
  | none => .next s
  | some t =>
    let s := (s.advanceTo (s.missAt k t)).missFacet k
    let x := s.epSt k
    let s := (s.setEp k { x with missing := x.missing + 1, run := 0 }).setFs [(F.EPS_S_STATUS_BD_MISS k, 1), (F.EPS_S_STATUS_BD_OK k, 0)]
    let s := s.tally (0x148 + k) 1
    .next ((if 1 ≤ x.missing ∧ x.dead = false then s.bdLost k else s).closeEp k)

/-- The predicted tick of the next BD edge (R205); while the station arms, from the polygon's geared facet rate (R225). -/
def State.nextEdge (s : State) (n : Nat) : Nat :=
  match (s.epSt n).scans, (s.epSt n).lastBd with
  | y :: _, _ => y.pred
  | [], some t => t + (if s.armed n || s.gearedTicks n = 0 then s.facetTicks n else s.gearedTicks n)
  | [], none => s.time

/-- Whether the station lights BDBEAM: armed, or arming from step 5 on (R205, R225), and BD not lost for good. -/
def State.bdLights (s : State) (n : Nat) : Bool :=
  !(s.epSt n).dead && !s.g4 && (match (s.station n).phase with
    | .armed => true
    | .arming k => decide (5 ≤ k)
    | .unarmed => false
    | .disarming _ => false)

/-- R205: LEAD pixel periods before the predicted edge, BDBEAM is lit. -/
def execBdLightStart (n : Fin 4) (s : State) : Out :=
  let k := n.val
  if s.bdLights k && !(s.epSt k).lit then
    let s := s.advanceTo (s.nextEdge k - s.pixTicks k (s.f (F.EPS_S_SCAN_LEAD k)))
    .next (s.setEp k { s.epSt k with lit := true, litAt := s.time })
  else .next s

/-- R205: no edge arrives within 2 × LEAD pixel periods. Before the first edge of an arm the lighting has no break (R225). -/
def execBdLightTimeout (n : Fin 4) (s : State) : Out :=
  let k := n.val
  let x := s.epSt k
  if x.lit && x.lastBd.isSome then
    let s := s.advanceTo (x.litAt + s.pixTicks k (2 * s.f (F.EPS_S_SCAN_LEAD k)))
    .next (s.setEp k { s.epSt k with lit := false })
  else .next s

/-! ## Beam power (R217, R218) -/

/-- The CRC-8 of a 32-bit sideband frame's bits [31:8] (R217). -/
def frameCrc (w : Nat) : Nat := crc8 [BitVec.ofNat 8 (w / 2 ^ 24), BitVec.ofNat 8 (w / 2 ^ 16), BitVec.ofNat 8 (w / 2 ^ 8)]

/-- The frame the device sends for an exchange (R217). -/
def apcFrame (x : Apc) : Nat :=
  let w := x.cmd % 16 * 2 ^ 28 + x.beam % 16 * 2 ^ 24 + x.data % 65536 * 2 ^ 8
  w + frameCrc w

/-- The SET_TARGET exchanges of changed targets (R218). -/
def State.changedTargets (s : State) (n : Nat) : List Apc :=
  (upFrom 0 8).filterMap fun b =>
    let t := s.f (F.EPS_S_APC_TARGET n b)
    if tget 0 (s.epSt n).targets b = t then none else some ⟨1, b, t, false⟩

/-- Changed targets are written as they are set, before the next scan, while the sideband is in use (R218). -/
def State.sendTargets (s : State) (n : Nat) : State :=
  if (s.epSt n).enabled = 0 then s
  else
    let ts := s.changedTargets n
    let x := s.epSt n
    s.setEp n { x with targets := ts.foldl (fun t a => tput 0 t a.beam a.data) x.targets, apc := x.apc ++ ts }

/-- R218: READ_STATUS, one READ_DRIVE, the beams in turn, and SET_TARGET for changed targets, 1 ms after the last poll. -/
def execApcPoll (n : Fin 4) (s : State) : Out :=
  let k := n.val
  let s := s.advanceTo ((s.epSt k).polledAt + 600000)
  let x := s.epSt k
  let s := s.setEp k { x with polledAt := s.time, beam := (x.beam + 1) % 8, apc := x.apc ++ [⟨3, 0, 0, false⟩, ⟨2, x.beam, 0, false⟩] }
  .next (s.sendTargets k)

/-- A modulator fault (R218, R227). -/
def State.beamFault (s : State) (n : Nat) : State := ((s.setF (F.EPS_S_STATUS_BEAM_FLT n) 1).laserStatic n).raise EV.BEAM_FAULT n

/-- What a good reply says (R218). -/
def State.apcGood (s : State) (n : Nat) (a : Apc) (status data : Nat) : State :=
  let s := if status = 3 ∨ (a.cmd = 3 ∧ data % 1024 ≠ 0) then s.beamFault n else s
  if a.cmd = 2 ∧ status = 0 then
    let s := s.setF (F.EPS_S_APC_DRIVE n a.beam) data
    let m := s.f (F.EPS_S_APC_CTL_DRIVE_MAX n)
    if m ≠ 0 ∧ m < data then s.raise EV.APC_DRIVE_HIGH n else s
  else s

/-- R217, R218: the modulator's reply to the oldest exchange. -/
def execApcReply (n : Fin 4) (frame : BitVec 32) (s : State) : Out :=
  let k := n.val
  let w := frame.toNat
  let x := s.epSt k
  match x.apc with
  | [] => .next s
  | a :: r =>
    let status := bitsOf w 31 28
    let bad := decide (frameCrc w ≠ w % 256) || decide (status = 1)
    if bad then
      if a.retried then
        let s := (s.setEp k { x with apc := r }).setF (F.EPS_S_STATUS_APC_ERR k) 1
        .next ((s.logRetry 2 EV.APC_TRANSIENT k).raise EV.APC_LINK k)
      else .next (s.setEp k { x with apc := { a with retried := true } :: r })
    else
      let s := s.setEp k { x with apc := r }
      let s := if a.retried then ((s.tally 0x150 1).logRetry 1 EV.APC_TRANSIENT k).raise EV.APC_TRANSIENT k else s
      .next (s.apcGood k a status (bitsOf w 23 8))

/-! ## High voltage (R219, R220) -/

/-- What the output of channel c moves toward: SET while enabled, else 0 (R219, R226, R387); after G4 the outputs stay in reset state (R19). -/
def State.hvTarget (s : State) (c : Nat) : Int :=
  if s.on (F.EPS_HV_CFG_EN c) && !(s.hvCh c).down && !s.on (F.EPS_HV_STATUS_ARC_LATCH c) && !s.g4 then s.fs (F.EPS_HV_SET c) else 0

/-- Ticks that a ramp from the present output to the target takes. -/
def State.hvRampTicks (s : State) (c : Nat) : Nat :=
  let d := (s.hvTarget c - s.fs (F.EPS_HV_STATUS_OUT c)).natAbs
  let r := s.f (F.EPS_HV_RAMP_RAMP c)
  if r = 0 then 0 else (d + r - 1) / r * 6000

/-- The ramp-down of a disarm (R226): transfer, then charge; developer bias DEVDLY after charge has reached 0, and then cleaning, after
which the polygon is commanded to zero speed. -/
def State.hvSequence (s : State) (n : Nat) : State :=
  let disarming := match (s.station n).phase with
    | .disarming _ => true
    | _ => false
  if disarming then
    let zero (c : Nat) (s : State) : Bool := decide (s.f (F.EPS_HV_STATUS_OUT c) = 0)
    let lower (c : Nat) (s : State) : State := s.setHv c { s.hvCh c with down := true }
    let charge := 4 * n
    let s := lower (charge + 2) s
    let s := if zero (charge + 2) s then lower charge s else s
    let s := if (s.hvCh charge).down && zero charge s && (s.hvCh charge).zeroAt.isNone then
        s.setHv charge { s.hvCh charge with zeroAt := some s.time }
      else s
    let s := match (s.hvCh charge).zeroAt with
      | some t => if t + s.f (F.EPS_S_DRUM_DEVDLY n) * 600000 ≤ s.time then lower (charge + 1) s else s
      | none => s
    if (s.hvCh (charge + 1)).down && zero (charge + 1) s && !(s.hvCh (charge + 3)).down then
      (lower (charge + 3) s).setF (F.MOT_C_SPD (s.f (F.EPS_S_POLY_CHAN n))) 0
    else s
  else s

/-- One step toward the target by at most RAMP counts. -/
def rampTo (out target : Int) (r : Nat) : Int :=
  if out < target then (if out + r < target then out + r else target) else if target < out - r then out - r else target

/-- R219: an enabled channel's output moves toward its target, 10 µs after its last step. -/
def execHvRampStep (c : Fin 16) (s : State) : Out :=
  let k := c.val
  let s := s.advanceTo ((s.hvCh k).stepAt + 6000)
  let x := s.hvCh k
  if x.holdAt.isSome then .next ((s.setHv k { x with stepAt := s.time }).hvSequence (k / 4))
  else
    let target := s.hvTarget k
    let out := s.fs (F.EPS_HV_STATUS_OUT k)
    let by_ := if out = target then x.rampBy else match x.rampBy with
      | some t => some t
      | none => some (s.time + s.hvRampTicks k + 12000000)
    let out' := rampTo out target (s.f (F.EPS_HV_RAMP_RAMP k))
    let s := s.setFs [(F.EPS_HV_STATUS_OUT k, ux 16 out'), (F.EPS_HV_STATUS_RAMPING k, b2n (decide (out' ≠ target)))]
    .next (((s.setHv k { x with stepAt := s.time, rampBy := by_, reached := x.reached && decide (out = target) }).hvSequence (k / 4)).keepalives)

/-- The monitor reading scaled into setpoint units by MGAIN, Q4.12 (R219). -/
def monOf (raw gain : Nat) : Int := min (raw * gain / 4096) 32767

/-- R220: an arc on channel c. -/
def State.hvArc (s : State) (c : Nat) : State :=
  let n := c / 4
  let x := s.hvCh c
  let s := s.setFs [(F.EPS_HV_STATUS_OUT c, 0), (F.EPS_HV_STATUS_ARC c, 1), (F.EPS_HV_STATUS_AT_SET c, 0), (F.EPS_S_STATUS_HV_ARC n, 1)]
  let s := (s.tally 0x151 1).keepalives
  let y := { x with fltRun := 0, arcRun := 0, holdAt := some s.time, reached := false, rampBy := none }
  match x.arcAt with
  | some _ =>
    let s := (s.setHv c { y with arcAt := none, spoiling := false }).setF (F.EPS_HV_STATUS_ARC_LATCH c) 1
    (s.logRetry 2 EV.HV_ARC c).raise EV.HV_ARC_LASTING c
  | none => (s.setHv c { y with arcAt := some s.time, spoiling := true }).spoil n Reason.HV_ARC

/-- R219, R220: a sample of a channel's monitor and fault input, 20 µs after the last. -/
def execHvMonitorSample (c : Fin 16) (raw : BitVec 12) (fltLow : Bool) (s : State) : Out :=
  let k := c.val
  let s := s.advanceTo ((s.hvCh k).monAt + 12000)
  let x := s.hvCh k
  let fitted := decide (s.f (F.EPS_HV_CFG_MON k) < 16)
  let s := if fitted then s.setF (F.EPS_HV_MON k) (ux 16 (monOf raw.toNat (s.f (F.EPS_HV_RAMP_MGAIN k)))) else s
  let diff := (s.fs (F.EPS_HV_MON k) - s.fs (F.EPS_HV_STATUS_OUT k)).natAbs
  let near := decide (diff ≤ s.f (F.EPS_HV_CFG_TOL k) * 16)
  let atSet := near && x.holdAt.isNone
  let flt := if fltLow then x.fltRun + 1 else 0
  let far := s.on (F.EPS_HV_CFG_ARCEN k) && x.reached && decide (s.f (F.EPS_HV_CFG_ARC_TOL k) * 16 < diff)
  let y := { x with
    monAt := s.time, fltRun := flt, arcRun := if far then x.arcRun + 1 else 0
    reached := x.reached || (atSet && decide (s.fs (F.EPS_HV_STATUS_OUT k) = s.hvTarget k))
    rampBy := if atSet then none else x.rampBy, spoiling := x.spoiling && !atSet, setAt := if near then some (x.setAt.getD s.time) else none }
  let s := (s.setHv k y).setB (F.EPS_HV_STATUS_AT_SET k) near
  let arc := decide (2 ≤ flt) || (far && decide (max 1 (s.f (F.EPS_HV_CFG_ARC_N k)) ≤ y.arcRun))
  if arc ∧ s.on (F.EPS_HV_STATUS_ARC_LATCH k) = false then .next (s.hvArc k) else .next s

/-- R220: 1 ms after an arc, the output re-ramps. -/
def execHvArcHoldEnd (c : Fin 16) (s : State) : Out :=
  let x := s.hvCh c.val
  match x.holdAt with
  | some t =>
    let s := s.advanceTo (t + 600000)
    .next (s.setHv c.val { s.hvCh c.val with holdAt := none })
  | none => .next s

/-- R220: 100 ms after an arc without a second one. -/
def execHvArcWindowEnd (c : Fin 16) (s : State) : Out :=
  let x := s.hvCh c.val
  match x.arcAt with
  | some t =>
    let s := s.advanceTo (t + 60000000)
    .next (((s.setHv c.val { s.hvCh c.val with arcAt := none }).logRetry 1 EV.HV_ARC c.val).raiseOwn EV.HV_ARC c.val)
  | none => .next s

/-- R220: a channel has not reached AT_SET within its ramp time plus 20 ms. -/
def execHvRampTimeout (c : Fin 16) (s : State) : Out :=
  match (s.hvCh c.val).rampBy with
  | some t =>
    if s.on (F.EPS_HV_STATUS_AT_SET c.val) then .next s
    else
      let s := s.advanceTo t
      .next ((s.setHv c.val { s.hvCh c.val with rampBy := none }).raise EV.HV_RAMP_FAIL c.val)
  | none => .next s

/-! ## Fuser zones (R221–R224) -/

/-- Whether the device holds a zone's output low (R222–R224, R366): its thermistor's declaration holds it, whatever SENS_BAD shows; so does G4
(R19). -/
def State.fuserHeld (s : State) (z : Nat) : Bool :=
  let t := s.fs (F.EPS_FZ_TEMP z)
  !s.on (F.EPS_FZ_CTL_EN z) || s.g4 || s.on (F.EPS_FZ_STATUS_CUT z) || s.on (F.HK_CH_STATUS_BROKEN (28 + s.f (F.EPS_FZ_CTL_TH z))) || s.on (F.EPS_FZ_STATUS_ZC_LOST z)
    || decide (s.fs (F.EPS_FZ_CTL_SETPT z) + 2 * 8 * s.f (F.EPS_FZ_CTL_BAND z) ≤ t)
    || (upFrom 0 44).any fun x => decide (s.f (F.HK_CH_STATUS_LEVEL x) = 3)

/-- One mains cycle of a zone (R221). -/
def State.fuserCycle (s : State) (z : Nat) : State :=
  let n := max 1 (s.f (F.EPS_FZ_DUTY_N z))
  let m := min n (s.f (F.EPS_FZ_DUTY_M z))
  let x := s.zone z
  let a := x.acc + m
  let on := decide (n ≤ a) && !s.fuserHeld z
  let s := (s.setZone z { x with acc := if n ≤ a then a - n else a, ssr := on }).setB (F.EPS_FZ_STATUS_HEAT z) on
  if on then (s.tally (0x152 + z) 1).lived (0x30 + z) 1 else s

/-- R221: a rising edge of ZC_IN. -/
def execZcEdge (s : State) : Out := .next ({ s with zcAt := s.time }.fuserCycle 0 |>.fuserCycle 1)

/-- A zone's output goes low. -/
def State.fuserOff (s : State) (z : Nat) : State := (s.setZone z { s.zone z with ssr := false }).setF (F.EPS_FZ_STATUS_HEAT z) 0

/-- R224: no ZC_IN edge for 40 ms while a zone is enabled. -/
def execZcLost (s : State) : Out :=
  if s.on (F.EPS_FZ_CTL_EN 0) ∨ s.on (F.EPS_FZ_CTL_EN 1) then
    let s := s.advanceTo (s.zcAt + 24000000)
    let s := ((s.fuserOff 0).fuserOff 1).setFs [(F.EPS_FZ_STATUS_ZC_LOST 0, 1), (F.EPS_FZ_STATUS_ZC_LOST 1, 1)]
    .next (s.keepalives.raiseX EV.FUSER_ZC_LOST)
  else .next s

/-- R223: the FUS_OTS input stays at or below CUT for 1 ms. -/
def execFuserCut (z : Fin 2) (s : State) : Out :=
  let k := z.val
  if s.f (F.EPS_FZ_CUT k) = 0 then .next s
  else .next ((((s.fuserOff k).setF (F.EPS_FZ_STATUS_CUT k) 1).keepalives).raise EV.FUSER_CUT k)

/-- R223: CUT is written 1; `above` tells whether the input has stayed above the threshold for 10 s. -/
def execFuserCutClear (z : Fin 2) (above : Bool) (s : State) : Out :=
  if above && !s.on (F.EPS_FZ_CTL_EN z.val) then .next (s.setF (F.EPS_FZ_STATUS_CUT z.val) 0).keepalives else .next s

end Sys2Proof.Machine
end

