-- ==== Sys2Proof/Machine/Trig.lean ====
section
/-!
DEFINITION. The sine that R314's default microstep table and the rotations of R341 and R342 use, by its power series in fixed point of
60 fraction bits.
-/
namespace Sys2Proof.Machine

/-- Half of pi, 60 fraction bits. -/
def halfPi : Int := 1811004864519280710

/-- The rest of the sine series after a term: n counts the terms taken. -/
def sinTerms (x2 : Int) : Nat → Nat → Int → Int
  | 0, _, _ => 0
  | k + 1, n, t =>
    let t' := (-(t * x2 / 2 ^ 60)) / ((2 * n + 2) * (2 * n + 3) : Nat)
    t' + sinTerms x2 k (n + 1) t'

/-- sin(90 degrees * k / 16,384) for k from 0 to 16,384, 60 fraction bits. -/
def sinQuarter (k : Nat) : Int :=
  let x : Int := k * halfPi / 16384
  x + sinTerms (x * x / 2 ^ 60) 12 0 x

/-- The sine of an angle in 1/65,536 of a turn, 60 fraction bits. -/
def sin16 (a : Nat) : Int :=
  let q := a % 65536 / 16384
  let r := a % 16384
  if q = 0 then sinQuarter r else if q = 1 then sinQuarter (16384 - r) else if q = 2 then -sinQuarter r else -sinQuarter (16384 - r)

/-- The cosine of an angle in 1/65,536 of a turn, 60 fraction bits. -/
def cos16 (a : Nat) : Int := sin16 (a + 16384)

/-- Entry i of the microstep banks after power-up (R314): round(32,767 * sin(90 degrees * i / 256)). -/
def microDefault (i : Nat) : Nat := (roundDiv (sinQuarter (i * 64) * 32767) (2 ^ 60)).toNat

end Sys2Proof.Machine
end

