-- ==== Sys2Proof/Machine/Axes.lean ====
section
/-!
DEFINITION. Motion axes: profile generators, commands, gear mode, groups, limits and homing (R315–R326).
-/
namespace Sys2Proof.Machine

/-! ## States of an axis (AXS_An_STATUS.STATE, R336) -/

def Ax.DISABLED : Nat := 0
def Ax.IDLE : Nat := 1
def Ax.MOVING : Nat := 2
def Ax.VEL : Nat := 3
def Ax.GEARED : Nat := 4
def Ax.HOMING : Nat := 5
def Ax.STOPPING : Nat := 6
def Ax.EDEC : Nat := 7
def Ax.GROUP : Nat := 8

def State.axState (s : State) (a : Nat) : Nat := s.f (F.AXS_A_STATUS_STATE a)
def State.setAxState (s : State) (a z : Nat) : State := s.setF (F.AXS_A_STATUS_STATE a) z

/-- One count in the units of a setpoint. -/
def oneCount : Int := 10 ^ 18

/-- The setpoint in whole counts. -/
def Axis.pos (x : Axis) : Int := x.x / oneCount

/-- Whether an axis has no feedback (R308): no main input, and no fallback in use. -/
def State.noFeedback (s : State) (a : Nat) : Bool := decide (s.f (F.AXS_A_CFG_FB a) = 31) && !s.on (F.AXS_A_STATUS_FBUSE a)

/-- AXS_An_POS and AXS_An_VEL follow the setpoint, and so does AXS_An_ACT of an axis without feedback (R308). -/
def State.showAxis (s : State) (a : Nat) : State :=
  let x := s.axis a
  let s := (s.setPairS (F.AXS_A_POS_HI a) (F.AXS_A_POS_LO a) x.pos).setF (F.AXS_A_VEL a) (ux 32 (x.v / 10 ^ 12))
  if s.noFeedback a then s.setPairS (F.AXS_A_ACT_HI a) (F.AXS_A_ACT_LO a) x.pos else s

/-! ## The profile (R316, R317; log entry 20) -/

/-- The limits of a motion, per update of 600 ticks: velocity, acceleration while the speed rises, while it falls, and jerk. -/
structure Limits where
  v : Int
  up : Int
  down : Int
  j : Int

/-- An axis's limits (R336): counts/s, 16 counts/s² and 4,096 counts/s³ in the units of Axis. -/
def State.axLimits (s : State) (a : Nat) : Limits :=
  ⟨s.f (F.AXS_A_VMAX a) * 10 ^ 12, s.f (F.AXS_A_AMAX a) * 16 * 10 ^ 6, s.f (F.AXS_A_DMAX a) * 16 * 10 ^ 6, s.f (F.AXS_A_JMAX a) * 4096⟩

/-- EDEC of an axis as a velocity step per update. -/
def State.axEdec (s : State) (a : Nat) : Int := s.f (F.AXS_A_EDEC a) * 16 * 10 ^ 6

/-- The acceleration of one update that brings velocity v with acceleration a toward w: within the limits, and such that the jerk
limit can take it back to zero without passing w. -/
def towardVel (l : Limits) (v a w : Int) : Int :=
  let e := w - v
  let m : Nat := e.natAbs
  let n : Nat := if l.j ≤ 0 then 0 else (isqrt (8 * m / l.j.toNat + 1) - 1) / 2
  let aim : Int := signOf e * ((m + l.j * n * (n + 1) / 2) / (n + 1))
  let lim := if 0 ≤ aim * v then l.up else l.down
  clampI (a - l.j) (a + l.j) (clampI (-lim) lim aim)

/-- A distance that suffices to stop from a forward velocity v with acceleration a. -/
def stopDist (l : Limits) (v a : Int) : Int :=
  if l.j ≤ 0 ∨ l.down ≤ 0 then (if v ≤ 0 then 0 else 2 ^ 200)
  else
    let t := (a.natAbs : Int) / l.j
    let v0 := v + a * a / (2 * l.j) + (if 0 ≤ a then a else 0)
    let lead := if 0 ≤ a then v * t + a * t * t / 2 + v0 else -(v0 * t - l.j * t * t * t / 6)
    let main := if v0 * l.j ≤ l.down * l.down then v0 * isqrt (v0.toNat / l.j.toNat + 1) else v0 * (v0 / l.down + l.down / l.j + 2) / 2
    maxI 0 (main + lead + 2 * v0)

/-- One update toward velocity w: position, velocity, acceleration. -/
def velUpdate (l : Limits) (x v a w : Int) : Int × Int × Int :=
  let a' := towardVel l v a w
  (x + v + a', v + a', a')

/-- One update toward position g: full speed toward it while the axis can still stop at or before it, else toward zero velocity
(R317). At rest within one count of it, the setpoint is g. -/
def moveUpdate (l : Limits) (x v a g : Int) : Int × Int × Int :=
  let r := g - x
  if v = 0 ∧ a = 0 ∧ -oneCount < r ∧ r < oneCount then (g, 0, 0)
  else
    let dir := signOf r
    let go := velUpdate l x v a (dir * l.v)
    if 0 ≤ dir * v ∧ dir * (go.1 - x) + stopDist l (dir * go.2.1) (dir * go.2.2) ≤ dir * r then go
    else velUpdate l x v a 0

/-- One update of a stop at EDEC, with jerk unlimited. -/
def hardUpdate (step x v : Int) : Int × Int × Int :=
  let v' := if 0 ≤ v then maxI 0 (v - step) else -maxI 0 (-v - step)
  (x + v', v', v' - v)

/-! ## Refusals (R318, R319) -/

/-- A refused command. -/
def State.axRefuse (s : State) (a rej : Nat) : State :=
  (s.setFs [(F.AXS_A_STATUS_REJ a, rej), (F.AXS_A_STATUS_CMD_REJ a, 1)]).tally 0x1DA 1

/-- A refusal under R318. -/
def State.axBehind (s : State) (a : Nat) : State :=
  ((s.axRefuse a 1).setF (F.AXS_A_STATUS_BEHIND a) 1).raise EV.AXS_TARGET_BEHIND a

/-- Whether motion in a direction would approach an active limit (R324). -/
def State.limited (s : State) (a : Nat) (dir : Int) : Bool :=
  (decide (0 < dir) && s.on (F.AXS_A_STATUS_LIMP_ACT a)) || (decide (dir < 0) && s.on (F.AXS_A_STATUS_LIMN_ACT a))

/-! ## Groups (R322) -/

/-- The members of a group. -/
def State.groupMask (s : State) (g : Nat) : Nat := s.f (F.AXS_G_CTL_MASK g)

def State.groupAxes (s : State) (g : Nat) : List Nat := (upFrom 0 24).filter fun a => bitOf (s.groupMask g) a

/-- The group an axis leads. -/
def State.leads (s : State) (a : Nat) : Option Nat :=
  findFirst (fun g => decide (s.f (F.AXS_G_CTL_LEADER g) = a ∧ s.groupMask g ≠ 0)) [0, 1, 2, 3]

/-- The moving group an axis is a member of. -/
def State.groupOf (s : State) (a : Nat) : Option Nat :=
  findFirst (fun g => decide (s.f (F.AXS_G_STATUS_STATE g) ≠ 0) && (s.group g).members.any fun m => decide (m.1 = a)) [0, 1, 2, 3]

/-- The least of the members' limits along the path (R322). -/
def pathLimit (f : Nat → Int) (len : Nat) (members : List (Nat × Int × Int)) : Int :=
  let each := (members.filter fun m => decide (m.2.2 ≠ 0)).map fun m => f m.1 * len / (m.2.2.natAbs : Int)
  match each with
  | [] => 0
  | x :: r => r.foldl (fun a b => if b < a then b else a) x

def State.groupLimits (s : State) (g : Nat) : Limits :=
  let x := s.group g
  let lim (f : Limits → Int) : Int := pathLimit (fun a => f (s.axLimits a)) x.len x.members
  ⟨lim Limits.v, lim Limits.up, lim Limits.down, lim Limits.j⟩

/-- A group starts from its members' setpoints toward their targets. -/
def State.groupStart (s : State) (g : Nat) : State :=
  let ms := (s.groupAxes g).map fun a =>
    let p := (s.axis a).pos
    (a, (s.axis a).x, s.pairS (F.AXS_A_TGT_HI a) (F.AXS_A_TGT_LO a) - p)
  let len := ms.foldl (fun l m => max l m.2.2.natAbs) 0
  let s := s.setGroup g ⟨0, 0, 0, len, ms⟩
  let s := s.setFs [(F.AXS_G_STATUS_STATE g, 1), (F.AXS_G_STATUS_REJ g, 0)]
  (s.groupAxes g).foldl (fun s a => s.setAxState a Ax.GROUP) s

/-- GROUP_MOVE on axis a (R322). -/
def State.groupMove (s : State) (a : Nat) : State :=
  match s.leads a with
  | none => s.axRefuse a 4
  | some g =>
    let ms := s.groupAxes g
    let dist (i : Nat) : Int := s.pairS (F.AXS_A_TGT_HI i) (F.AXS_A_TGT_LO i) - (s.axis i).pos
    let refuse (r : Nat) : State := (s.axRefuse a r).setF (F.AXS_G_STATUS_REJ g) r
    if ms.any fun i => decide (s.axState i ≠ Ax.IDLE) then refuse 4
    else if ms.any fun i => s.on (F.AXS_A_CFG_UNIDIR i) && decide (dist i < 0) then
      (s.axBehind a).setF (F.AXS_G_STATUS_REJ g) 1
    else if ms.any fun i => s.limited i (dist i) then refuse 2
    else s.groupStart g

/-- The members of a group end their motion. -/
def State.groupEnd (s : State) (g : Nat) : State :=
  let s := (s.group g).members.foldl (fun s m =>
    if s.axState m.1 = Ax.GROUP then (s.setAxis m.1 { s.axis m.1 with v := 0, a := 0 }).setAxState m.1 Ax.IDLE |>.showAxis m.1 else s) s
  s.setF (F.AXS_G_STATUS_STATE g) 0

/-! ## Commands (R315) -/

/-- The axis goes to a state with a change to its hidden state. -/
def State.axGo (s : State) (a z : Nat) (g : Axis → Axis) : State :=
  (s.setAxis a { g (s.axis a) with searching := false, matched := false }).setAxState a z |>.setF (F.AXS_A_STATUS_SYNC a) 0

/-- MOVE to a target: refused when R317 could reach it only by reversing a UNIDIR axis, or toward an active limit. -/
def State.axMove (s : State) (a : Nat) (tgt : Int) : State :=
  let x := s.axis a
  let r := tgt * oneCount - x.x
  let l := s.axLimits a
  if s.on (F.AXS_A_CFG_UNIDIR a) ∧ (r < 0 ∨ r < stopDist l x.v x.a ∧ 0 < x.v) then s.axBehind a
  else if s.limited a r then s.axRefuse a 2
  else (s.setPairS (F.AXS_A_TGT_HI a) (F.AXS_A_TGT_LO a) tgt).axGo a Ax.MOVING fun y => { y with goal := tgt * oneCount }

/-- The geared count of an axis at a web position (R320). -/
def State.gearedCount (s : State) (a : Nat) (p : Int) : Int :=
  wrap48 (lineProduct (p - s.pairS (F.AXS_A_GOFS_HI a) (F.AXS_A_GOFS_LO a)) (s.pair (F.AXS_A_RAT_HI a) (F.AXS_A_RAT_LO a))
    + (s.gearOf (32 + a)).bias)

/-- One 32.16 count unit in the units of a setpoint. -/
def gearUnit : Int := 15258789062500

/-- GEAR (R320): the bias is set so that the geared count equals the present setpoint. -/
def State.axGear (s : State) (a arg : Nat) : State :=
  if s.limited a 1 then s.axRefuse a 2
  else
    let x := s.axis a
    let z := x.x / gearUnit - s.gearedCount a s.webPos
    let s := s.setBias (.axis (Fin.ofNat 24 a)) ((s.gearOf (32 + a)).bias + z)
    let g := s.gearedCount a s.webPos
    (s.axGo a Ax.GEARED fun y => { y with toPhase := bitOf arg 0, gcount := g, rel := 0 }).showAbsorb a

/-- HOME (R325): the search starts. -/
def State.axHome (s : State) (a : Nat) (w : Int) : State :=
  if s.on (F.AXS_A_CFG_UNIDIR a) ∧ w < 0 then s.axBehind a
  else if s.limited a w then s.axRefuse a 2
  else
    let s := s.setFs [(F.AXS_A_CHATTER_COUNT a, 0), (F.AXS_A_STATUS_HOMED a, 0)]
    let s := s.axGo a Ax.HOMING fun y => { y with vel := w, hcap := none, accepted := none, edgeHeld := false }
    s.setAxis a { s.axis a with searching := true }

/-- DISABLE: the setpoint is frozen and EN clears. -/
def State.axDisable (s : State) (a : Nat) : State :=
  let s := s.axGo a Ax.DISABLED fun y => { y with v := 0, a := 0, accepted := none }
  (s.setFs [(F.AXS_A_CTL_EN a, 0), (F.AXS_A_STATUS_HOMED a, 0)]).showAxis a

/-- A group's path stops under R316 (a STOP to the leader) or at EDEC (a QSTOP or a limit at any member). -/
def State.groupStop (s : State) (g : Nat) (hard : Bool) : State :=
  let s := s.setF (F.AXS_G_STATUS_STATE g) 2
  if hard then (s.group g).members.foldl (fun s m => if s.axState m.1 = Ax.GROUP then s.setAxState m.1 Ax.EDEC else s) s else s

/-- Stop at EDEC (QSTOP, R324, R326). -/
def State.axHardStop (s : State) (a : Nat) : State :=
  match s.groupOf a with
  | some g => s.groupStop g true
  | none => s.axGo a Ax.EDEC id

/-- STOP along the profile. -/
def State.axStop (s : State) (a : Nat) : State :=
  match s.groupOf a with
  | some g => if s.f (F.AXS_G_CTL_LEADER g) = a then s.groupStop g false else s.axRefuse a 4
  | none => if s.axState a = Ax.IDLE then s else s.axGo a Ax.STOPPING id

/-- A command with its code and operand (R315–R320). The order of the refusals: an unknown code, a disabled axis or one that stops at
EDEC, a moving group, gear mode, then R318 and R324. -/
def State.axCommand (s : State) (a code : Nat) (arg : Int) : State :=
  let z := s.axState a
  if 8 < code then s.axRefuse a 6
  else if z = Ax.DISABLED ∨ (z = Ax.EDEC ∧ code ≠ 7) then s.axRefuse a 3
  else if (s.groupOf a).isSome ∧ code ≠ 0 ∧ code ≠ 5 ∧ code ≠ 7 then s.axRefuse a 4
  else if z = Ax.GEARED ∧ (code = 1 ∨ code = 2 ∨ code = 3 ∨ code = 6) then s.axRefuse a 5
  else match code with
    | 0 => s.axStop a
    | 1 => s.axMove a (s.pairS (F.AXS_A_TGT_HI a) (F.AXS_A_TGT_LO a))
    | 2 => s.axMove a ((if z = Ax.IDLE then (s.axis a).pos else s.pairS (F.AXS_A_TGT_HI a) (F.AXS_A_TGT_LO a)) + arg)
    | 3 =>
      let m : Int := s.f (F.AXS_A_VMAX a)
      let w := clampI (-m) m arg
      if s.on (F.AXS_A_CFG_UNIDIR a) ∧ arg < 0 then s.axBehind a
      else if s.limited a w then s.axRefuse a 2
      else s.axGo a Ax.VEL fun y => { y with vel := w }
    | 4 => s.axGear a (ux 32 arg)
    | 5 => s.axHardStop a
    | 6 => s.axHome a arg
    | 7 => s.axDisable a
    | _ => s.groupMove a

/-- R315, STOP. -/
def execStop (a : Fin 24) (s : State) : Out := .next (s.axCommand a.val 0 0)

/-- R315, R317, MOVE_ABS. -/
def execMoveAbs (a : Fin 24) (s : State) : Out := .next (s.axCommand a.val 1 0)

/-- R315, MOVE_REL. -/
def execMoveRel (a : Fin 24) (arg : BitVec 32) (s : State) : Out := .next (s.axCommand a.val 2 arg.toInt)

/-- R315, VEL. -/
def execVel (a : Fin 24) (arg : BitVec 32) (s : State) : Out := .next (s.axCommand a.val 3 arg.toInt)

/-- R320, GEAR. -/
def execGear (a : Fin 24) (arg : BitVec 32) (s : State) : Out := .next (s.axCommand a.val 4 arg.toInt)

/-- R315, QSTOP. -/
def execQstop (a : Fin 24) (s : State) : Out := .next (s.axCommand a.val 5 0)

/-- R325, HOME. -/
def execHome (a : Fin 24) (arg : BitVec 32) (s : State) : Out := .next (s.axCommand a.val 6 arg.toInt)

/-- R315, DISABLE. -/
def execDisable (a : Fin 24) (s : State) : Out := .next (s.axCommand a.val 7 0)

/-- R322, GROUP_MOVE. -/
def execGroupMove (a : Fin 24) (s : State) : Out := .next (s.axCommand a.val 8 0)

/-! ## Limits and homing (R323–R326) -/

/-- A limit input becomes active (R324, R326). -/
def State.limitActive (s : State) (a : Nat) (neg : Bool) : State :=
  let s := s.setFs [(if neg then F.AXS_A_STATUS_LIMN_ACT a else F.AXS_A_STATUS_LIMP_ACT a, 1), (F.AXS_A_STATUS_LIMIT a, 1)]
  let z := s.axState a
  let own := decide (s.f (if neg then F.AXS_A_SWCFG_LIMN a else F.AXS_A_SWCFG_LIMP a) = s.f (F.AXS_A_SWCFG_HOME a))
  let abort := decide (z = Ax.HOMING) && (s.axis a).searching && !own
  let s := if z = Ax.DISABLED ∨ z = Ax.IDLE ∨ (z = Ax.HOMING ∧ abort = false) then s else s.axHardStop a
  let s := s.raiseAt EV.AXS_LIMIT a (if (s.drumOf a).isSome then some 3 else none) .byEvent
  if abort then (s.setF (F.AXS_A_STATUS_HOME_ABORT a) 1).raise EV.HOME_ABORT a else s

/-- R324. -/
def execLimitActive (a : Fin 24) (neg : Bool) (s : State) : Out :=
  if s.on (if neg then F.AXS_A_STATUS_LIMN_ACT a.val else F.AXS_A_STATUS_LIMP_ACT a.val) then .next s
  else
    let x := s.axis a.val
    let s := s.setAxis a.val (if neg then { x with limN := ⟨true, 0⟩ } else { x with limP := ⟨true, 0⟩ })
    .next (s.limitActive a.val neg)

/-- One sample of a switch (R323): n equal samples accept a level. -/
def Switch.sample (w : Switch) (active : Bool) (n : Nat) : Switch :=
  if active = w.active then ⟨w.active, 0⟩ else if n ≤ w.run + 1 then ⟨active, 0⟩ else ⟨w.active, w.run + 1⟩

/-- Whether a general I/O shows its active level; 127 names none. -/
def inputActive (io : BitVec 64) (g pol : Nat) : Bool := decide (g < 64) && decide (b2n (io.getLsbD g) = pol)

/-- The home input's active level is accepted (R325): the last capture is the edge, and the axis stops under R316. -/
def State.homeAccept (s : State) (a : Nat) : State :=
  let x := s.axis a
  let s := match x.hcap with
    | some p => s.setPairS (F.AXS_A_HCAP_HI a) (F.AXS_A_HCAP_LO a) p
    | none => s
  s.setAxis a { s.axis a with accepted := some s.time, vel := 0 }

/-- Raw changes of a home input since the last sample count as chatter until the hold-off has ended (R325). The accepted edge itself does
not; since only acceptance tells which edge it is, one change of a search is held back. -/
def State.chatter (s : State) (a k : Nat) : State :=
  let x := s.axis a
  let open_ := match x.accepted with
    | some t => decide (s.time ≤ t + s.f (F.AXS_A_HOMECFG_HOLDOFF a) * 600)
    | none => x.searching
  if open_ && decide (k ≠ 0) then
    let first := x.accepted.isNone && !x.edgeHeld
    let j := if first then k - 1 else k
    let s := if first then s.setAxis a { x with edgeHeld := true } else s
    if j = 0 then s else (s.addF (F.AXS_A_CHATTER_COUNT a) j).tally 0x1D9 j
  else s

/-- The switch inputs of axis a at a sample (R323–R326): where a limit and the home input are accepted on one sample, the abort
applies. -/
def State.axInputs (s : State) (a : Nat) (io : BitVec 64) (changes : Nat) : State :=
  let s := s.chatter a changes
  let n := max 1 (s.f (F.AXS_A_SWCFG_QN a))
  let x := s.axis a
  let p := x.limP.sample (inputActive io (s.f (F.AXS_A_SWCFG_LIMP a)) (s.f (F.AXS_A_SWCFG_LIMP_POL a))) n
  let m := x.limN.sample (inputActive io (s.f (F.AXS_A_SWCFG_LIMN a)) (s.f (F.AXS_A_SWCFG_LIMN_POL a))) n
  let h := x.home.sample (inputActive io (s.f (F.AXS_A_SWCFG_HOME a)) (s.f (F.AXS_A_SWCFG_HOME_POL a))) n
  let s := s.setAxis a { x with limP := p, limN := m, home := h }
  let s := s.setFs [(F.AXS_A_STATUS_LIMP_ACT a, b2n p.active), (F.AXS_A_STATUS_LIMN_ACT a, b2n m.active)]
  let s := if p.active && !x.limP.active then s.limitActive a false else s
  let s := if m.active && !x.limN.active then s.limitActive a true else s
  if h.active && !x.home.active && (s.axis a).searching && (s.axis a).accepted.isNone then s.homeAccept a else s

/-- R325: at rest and the hold-off ended, homing completes or is unstable. -/
def execHomeHoldoffEnd (a : Fin 24) (s : State) : Out :=
  let n := a.val
  let x := s.axis n
  match x.accepted with
  | some t =>
    if s.axState n = Ax.HOMING ∧ x.v = 0 ∧ x.a = 0 then
      let s := s.advanceTo (t + s.f (F.AXS_A_HOMECFG_HOLDOFF n) * 600)
      let s := (s.setAxis n { x with searching := false, accepted := none }).setAxState n Ax.IDLE
      if s.f (F.AXS_A_CHATTER_COUNT n) ≤ s.f (F.AXS_A_CHATTER_CHAT_MAX n) then
        let d := s.pairS (F.AXS_A_HOMEPOS_HI n) (F.AXS_A_HOMEPOS_LO n) - s.pairS (F.AXS_A_HCAP_HI n) (F.AXS_A_HCAP_LO n)
        let y := s.axis n
        let s := s.setAxis n { y with
          x := y.x + d * oneCount, main := { y.main with off := y.main.off + d }, alt := { y.alt with off := y.alt.off + d }, posAt := y.posAt + d }
        let s := s.setPairS (F.AXS_A_ACT_HI n) (F.AXS_A_ACT_LO n) (s.pairS (F.AXS_A_ACT_HI n) (F.AXS_A_ACT_LO n) + d)
        .next (((s.showAxis n).setF (F.AXS_A_STATUS_HOMED n) 1).raise EV.HOME_DONE n)
      else .next ((s.setF (F.AXS_A_STATUS_HOME_UNSTABLE n) 1).raise EV.HOME_UNSTABLE n)
    else .next s
  | none => .next s

/-! ## The update (R315, R316, R320–R322) -/

/-- A geared axis (R320, R321): before the match, the velocity is brought to the geared one and the bias keeps what is gained or lost;
then the difference from GBIAS is closed at the slew; then the setpoint follows the count exactly. -/
def State.gearUpdate (s : State) (a : Nat) : State :=
  let x := s.axis a
  let g := s.gearedCount a s.webPos
  let d := sx 48 (ux 48 (g - x.gcount)) * gearUnit
  let vmax : Int := s.f (F.AXS_A_VMAX a) * 10 ^ 12
  let excess := decide (vmax < d.natAbs)
  let s := if excess && !x.excess then (s.setF (F.AXS_A_STATUS_GEAR_OVS a) 1).raise EV.AXS_GEAR_OVS a else s
  let unit := Geared.axis (Fin.ofNat 24 a)
  if x.matched then
    let bias := (s.gearOf (32 + a)).bias
    let gap := if x.toPhase then s.fs (F.AXS_A_GBIAS a) * 65536 - bias else 0
    let step : Int := ((g - x.gcount).natAbs : Int) / 2 ^ s.axSlew a
    let c := clampI (-step) step gap
    let s := s.setBias unit (bias + c)
    let y : Axis := { x with
      x := x.x + d + c * gearUnit, v := d, a := d - x.v, gcount := wrap48 (g + c), excess := excess, toPhase := x.toPhase && decide (c ≠ gap) }
    (s.setAxis a y).setB (F.AXS_A_STATUS_SYNC a) (!y.toPhase)
  else
    let u := velUpdate (s.axLimits a) x.x x.v x.a d
    let gain := (u.1 - (x.x + d)) / gearUnit
    let s := s.setBias unit ((s.gearOf (32 + a)).bias + gain)
    let y : Axis := { x with
      x := u.1, v := u.2.1, a := u.2.2, gcount := wrap48 (g + gain), excess := excess, matched := decide (u.2.1 = d) }
    (s.setAxis a y).setB (F.AXS_A_STATUS_SYNC a) (y.matched && !y.toPhase)

/-- The setpoint moves by an update; where it comes to rest the axis goes to a state. -/
def State.axPut (s : State) (a : Nat) (u : Int × Int × Int) (rest : Option Nat) : State :=
  let s := s.setAxis a { s.axis a with x := u.1, v := u.2.1, a := u.2.2 }
  match rest with
  | some z => if u.2.1 = 0 ∧ (u.2.2 = 0 ∨ z = Ax.IDLE) then (s.setAxis a { s.axis a with a := 0 }).setAxState a z else s
  | none => s

/-- A group's path advances, and its members with it (R322): start + trunc(D * s / L), the last update on the target. -/
def State.groupUpdate (s : State) (g : Nat) : State :=
  let x := s.group g
  let l := s.groupLimits g
  let end_ : Int := x.len * oneCount
  let hard := x.members.any fun m => decide (s.axState m.1 = Ax.EDEC)
  let u := if hard then hardUpdate (pathLimit s.axEdec x.len x.members) x.x x.v
    else if s.f (F.AXS_G_STATUS_STATE g) = 2 then velUpdate l x.x x.v x.a 0
    else moveUpdate l x.x x.v x.a end_
  let s := s.setGroup g { x with x := u.1, v := u.2.1, a := u.2.2 }
  let s := x.members.foldl (fun s m =>
    let y := s.axis m.1
    if s.axState m.1 = Ax.GROUP ∨ s.axState m.1 = Ax.EDEC then
      let p := m.2.1 + (if x.len = 0 then 0 else (m.2.2 * u.1).tdiv (x.len * oneCount) * oneCount)
      (s.setAxis m.1 { y with x := p, v := if x.len = 0 then 0 else m.2.2 * u.2.1 / x.len }).showAxis m.1
    else s) s
  if u.1 = end_ ∨ (u.2.1 = 0 ∧ u.2.2 = 0 ∧ s.f (F.AXS_G_STATUS_STATE g) = 2) ∨ (hard ∧ u.2.1 = 0) then
    let s := x.members.foldl (fun s m => if s.axState m.1 = Ax.EDEC then s.setAxState m.1 Ax.GROUP else s) s
    s.groupEnd g
  else s

/-- One update of axis a's setpoint. -/
def State.axUpdate (s : State) (a : Nat) : State :=
  let x := s.axis a
  let l := s.axLimits a
  let z := s.axState a
  if (s.groupOf a).isSome then s
  else
    let s := match z with
      | 2 =>
        let u := moveUpdate l x.x x.v x.a x.goal
        let s := s.axPut a u none
        if u.1 = x.goal ∧ u.2.1 = 0 ∧ u.2.2 = 0 then s.setAxState a Ax.IDLE else s
      | 3 => s.axPut a (velUpdate l x.x x.v x.a (x.vel * 10 ^ 12)) none
      | 4 => s.gearUpdate a
      | 5 => s.axPut a (velUpdate l x.x x.v x.a (clampI (-l.v) l.v (x.vel * 10 ^ 12))) none
      | 6 => s.axPut a (velUpdate l x.x x.v x.a 0) (some Ax.IDLE)
      | 7 => s.axPut a (hardUpdate (s.axEdec a) x.x x.v) (some Ax.IDLE)
      | _ => s
    s.showAxis a

/-- Where a setpoint stands still, and since when; a stepper's current returns to IRUN as it moves (R327). -/
def State.axStill (s : State) (a : Nat) (was : Int) : State :=
  let x := s.axis a
  let s := if x.pos = was ∧ x.v = 0 then s else s.setAxis a { x with stillAt := s.time }
  if x.pos = was then s
  else
    forBelow 12 (fun i s => if s.f (F.STP_CTL_AXIS i) = a then s.setF (F.STP_STATUS_HOLD i) 0 else s) s

/-- The raw changes that an operand lists for an axis. -/
def changesOf (l : List (Fin 24 × BitVec 8)) (a : Nat) : Nat :=
  match findFirst (fun c => decide (c.1.val = a)) l with
  | some c => c.2.toNat
  | none => 0

/-- R315–R317, R320–R326: the next update, on a tick that is a multiple of 600. -/
def execPgenUpdate (io : BitVec 64) (changes : List (Fin 24 × BitVec 8)) (s : State) : Out :=
  if s.powered 10 then
    let s := s.advanceTo ((s.pgenAt / 600 + 1) * 600)
    let s := { s with pgenAt := s.time / 600 * 600 }
    let s := forBelow 24 (fun a s => s.axInputs a io (changesOf changes a)) s
    let old := s
    let s := forBelow 24 (fun a s => s.axUpdate a) s
    let s := forBelow 4 (fun g s => if s.f (F.AXS_G_STATUS_STATE g) = 0 then s else s.groupUpdate g) s
    .next (forBelow 24 (fun a s => s.axStill a (old.axis a).pos) s)
  else .next s

end Sys2Proof.Machine
end

