-- ==== Sys2Proof/Machine/Loops.lean ====
section
/-!
DEFINITION. Loop timers, axis feedback and its model, and the position-indexed tables of axes and steppers (R305–R314).
-/
namespace Sys2Proof.Machine

/-! ## Enables (R305, R307, R308, R325) -/

/-- R307: a write of AXS_LTt_CTL with EN = 1. -/
def execLoopTimerEnable (t : Fin 16) (role : BitVec 6) (s : State) : Out :=
  let n := t.val
  let r := role.toNat
  if s.on (F.AXS_LT_CTL_EN n) then
    if s.f (F.AXS_LT_CTL_ROLE n) = r then .next s else .next (s.flam F.AXS_FLAM_COUNT 1)
  else
    let s := s.setF (F.AXS_LT_CTL_ROLE n) r
    let taken := (upFrom 0 16).any fun i => decide (i ≠ n) && s.on (F.AXS_LT_CTL_EN i) && decide (s.f (F.AXS_LT_CTL_ROLE i) = r)
    if r = 62 ∨ (r < 62 ∧ taken) then .next (s.setF (F.AXS_LT_STATUS_REFUSED n) 1)
    else .next ({ s with timers := tput 0 s.timers n s.time }.setFs [(F.AXS_LT_CTL_EN n, 1), (F.AXS_LT_STATUS_RUNNING n, 1)])

/-- An EN written 0 stops a timer. -/
def State.timerOff (s : State) (t : Nat) : State := s.setFs [(F.AXS_LT_CTL_EN t, 0), (F.AXS_LT_STATUS_RUNNING t, 0)]

/-- Whether an input code names an SSI input. -/
def isSsi (fb : Nat) : Bool := decide (16 ≤ fb) && decide (fb ≤ 19)

/-- Whether an input code names an incremental input. -/
def isInc (fb : Nat) : Bool := decide (fb ≤ 15)

/-- The inputs an axis claims: its main input, and its alternate when it is a fallback. -/
def State.axInputsUsed (s : State) (a : Nat) : List Nat :=
  (if isInc (s.f (F.AXS_A_CFG_FB a)) || isSsi (s.f (F.AXS_A_CFG_FB a)) then [s.f (F.AXS_A_CFG_FB a)] else []) ++
  (if s.on (F.AXS_A_CFG_ALT_EN a) && (isInc (s.f (F.AXS_A_CFG_ALT a)) || isSsi (s.f (F.AXS_A_CFG_ALT a))) then [s.f (F.AXS_A_CFG_ALT a)] else [])

/-- Whether a web source claims an input: source 0–3 with TYPE 0 or 1 an incremental input, source 2 with TYPE 2 its SSI input. -/
def State.webClaims (s : State) (i : Nat) : Bool :=
  (upFrom 0 4).any fun k => s.on (F.WEB_SRC_CTL_EN k) &&
    (if s.f (F.WEB_SRC_CTL_TYPE k) = 2 then decide (i = 16 + s.f (F.WEB_SRC_CTL_INPUT k) % 4)
     else decide (s.f (F.WEB_SRC_CTL_TYPE k) ≠ 3) && decide (i = s.f (F.WEB_SRC_CTL_INPUT k)))

/-- Whether an input's SSI frame and MONO fit the axis's timer period less 600 ticks (R308), in half periods of 150 MHz. -/
def State.axSsiFits (s : State) (a i : Nat) : Bool :=
  !isSsi i ||
    (let k := i - 16
     ssiFits (s.f (F.AXS_SSI_BITS k)) (s.f (F.AXS_SSI_CLKDIV k)) (s.f (F.AXS_SSI_MONO k)) (s.on (F.AXS_SSI_CRC_EN k))
       ((s.f (F.AXS_LT_PERIOD (s.f (F.AXS_A_CFG_TIMER a))) - 600) / 4))

/-- Whether HOME names the ball of the home snare (R325, R456), or no input. -/
def State.homeFits (s : State) (a : Nat) : Bool :=
  decide (s.f (F.AXS_A_SWCFG_HOME a) = 127) || decide (s.f (F.AXS_A_SWCFG_HOME a) = 32 + s.f (F.AXS_A_HOMECFG_HSNARE a))

/-- An input as an enable leaves it: no firing has judged it, and no frame was clocked for it. -/
def AxIn.fresh (x : AxIn) : AxIn := { x with valid := 0, framed := false }

/-- R25, R308, R325: EN written 1. An input or a three-phase channel that another user holds refuses it. -/
def execAxisEnable (a : Fin 24) (s : State) : Out :=
  let n := a.val
  if s.on (F.AXS_A_CTL_EN n) then .next s
  else
    let mine := s.axInputsUsed n
    let clash := mine.any fun i => s.webClaims i ||
      (upFrom 0 24).any fun b => decide (b ≠ n) && s.on (F.AXS_A_CTL_EN b) && (s.axInputsUsed b).contains i
    let driven := (s.axChannels n).any fun c => s.axChannelTaken n c
    if clash || driven || mine.any (fun i => !s.axSsiFits n i) || !s.homeFits n then .next (s.setF (F.AXS_A_STATUS_CFG_ERR n) 1)
    else
      let x := s.axis n
      let s := if x.retry then s.logRetry 3 EV.AXS_FB_TRANSIENT n else s
      let s := s.setAxis n { Axis.reset with
        x := x.x, posAt := x.pos, slsAt := x.slsAt, stillAt := s.time, main := x.main.fresh, alt := x.alt.fresh, limP := x.limP, limN := x.limN
        home := x.home }
      .next (s.setFs [(F.AXS_A_CTL_EN n, 1), (F.AXS_A_STATUS_CFG_ERR n, 0), (F.AXS_A_STATUS_STATE n, Ax.IDLE), (F.AXS_A_STATUS_FBUSE n, 0),
        (F.AXS_A_STATUS_COASTING n, 0), (F.AXS_A_STATUS_SYNC n, 0), (F.AXS_A_GSTAT_HOLDING n, 0), (F.AXS_A_GSTAT_ABSORB n, 0)])

/-- R311: SWITCH; the next firing takes the main input into use where it has been valid for 256 firings. -/
def execAxisSwitch (a : Fin 24) (s : State) : Out := .next (s.setAxis a.val { s.axis a.val with switchReq := true })

/-! ## Tables of axes and steppers (R313, R314) -/

/-- Number of the bank memory of a friction (kind 4) or microstep (kind 5) bank. -/
def axBankId (kind unit bank : Nat) : Nat := 100 + (kind - 4) * 100 + unit * 2 + bank

/-- What an unlisted entry holds (R314): zero, or the sine of the microstep default. -/
def axDefault (kind i : Nat) : Nat := if kind = 5 then microDefault i else 0

def State.axEntry (s : State) (kind unit bank i : Nat) : Nat := tget (axDefault kind i) s.tmem (cellKey (axBankId kind unit bank) i)

def State.putEntries (s : State) (kind unit bank : Nat) (i : Nat) : List Nat → State
  | [] => s
  | v :: r => { s with tmem := tput (axDefault kind i) s.tmem (cellKey (axBankId kind unit bank) i) v }.putEntries kind unit bank (i + 1) r

def axBankState (kind unit : Nat) : Field := if kind = 4 then F.AXS_A_TSTAT_STATE unit else F.STP_TSTAT_STATE unit
def axPend (kind unit : Nat) : Field := if kind = 4 then F.AXS_A_TSTAT_PEND unit else F.STP_TSTAT_PEND unit
def axActive (kind unit : Nat) : Field := if kind = 4 then F.AXS_A_TSTAT_ACTIVE unit else F.STP_TSTAT_ACTIVE unit

/-- Whether a kind and unit exist. -/
def axUnit (kind unit : Nat) : Bool := (decide (kind = 4) && decide (unit < 24)) || (decide (kind = 5) && decide (unit < 12))

/-- A table command fails (R314, R147). -/
def State.axTableErr (s : State) (unit err : Nat) : State := (s.setF F.AXS_TERR err).raise EV.AXS_TBL_LOAD_ERR unit

/-- Whether a command may act, and where not, its error: KIND other than 4 and 5 is ERR 1. -/
def State.axTable (s : State) (unit kind : Nat) (states : List Nat) (g : State → State) : State :=
  if kind ≠ 4 ∧ kind ≠ 5 then s.axTableErr unit 1
  else if axUnit kind unit && states.contains (s.f (axBankState kind unit)) then g s
  else s.axTableErr unit 6

/-- GO reads 1 while a command runs. -/
def State.setAxGo (s : State) : State :=
  s.setB F.AXS_TCMD_GO (((upFrom 0 24).any fun a => decide (s.f (F.AXS_A_TSTAT_STATE a) = Bank.BUSY))
    || (upFrom 0 12).any fun i => decide (s.f (F.STP_TSTAT_STATE i) = Bank.BUSY))

def axLoadKey (kind unit : Nat) : Nat := 128 + (kind - 4) * 32 + unit

/-- R314, R146: LOAD. -/
def execAxsTableLoad (unit : BitVec 5) (kind : BitVec 4) (s : State) : Out :=
  let u := unit.toNat
  let k := kind.toNat
  .next (s.axTable u k [Bank.IDLE, Bank.READY] fun s =>
    let at_ := s.addr F.AXS_TADDR_HI F.AXS_TADDR_LO
    ({ s with loadAt := tput 0 s.loadAt (axLoadKey k u) (at_ + 1) }.setF (axBankState k u) Bank.BUSY).setAxGo)

/-- The first error of R147 that the image at an address shows. -/
def State.axImageErr (s : State) (kind a : Nat) : Nat :=
  let count := if kind = 4 then 1024 else 256
  let len := s.memNat (a + 12) 4
  let entries := (upFrom 0 count).map fun i => s.memNat (a + 64 + i * 2) 2
  if !s.readable a 64 then 4
  else if s.memNat a 4 ≠ 0x42545359 ∨ s.memNat (a + 4) 2 ≠ kind ∨ s.memNat (a + 6) 2 ≠ 1 ∨ s.memNat (a + 20) 44 ≠ 0 then 1
  else if len ≠ count * 2 then 2
  else if s.memNat (a + 8) 4 ≠ count then 3
  else if !s.readable (a + 64) len then 4
  else if crc32c (s.memRead (a + 64) len) ≠ s.memNat (a + 16) 4 then 5
  else if kind = 5 ∧ (nthD 0 entries 0 ≠ 0 ∨ entries.any fun e => decide (32767 < e)) then 10
  else 0

/-- The entries of a table body in memory. -/
def State.axEntries (s : State) (k a : Nat) : List Nat := (upFrom 0 (if k = 4 then 1024 else 256)).map fun i => s.memNat (a + 64 + i * 2) 2

/-- A LOAD of an inactive axis bank ends with an error code, or with the entries in the bank (R314). -/
def State.finishAx (s : State) (u k e : Nat) (es : List Nat) : State :=
  if e = 0 then
    let s := s.putEntries k u (1 - s.f (axActive k u)) 0 es
    (s.setFs [(axBankState k u, Bank.READY), (F.AXS_TERR, 0)]).setAxGo
  else ((s.setF (axBankState k u) Bank.IDLE).setAxGo).axTableErr u e

/-- R314: a LOAD ends. -/
def execAxsTableLoadDone (unit : BitVec 5) (kind : BitVec 4) (ecc : Ecc) (s : State) : Out :=
  let u := unit.toNat
  let k := kind.toNat
  let at_ := tget 0 s.loadAt (axLoadKey k u)
  if axUnit k u && decide (s.f (axBankState k u) = Bank.BUSY) && decide (at_ ≠ 0) then
    let a := at_ - 1
    let s := (s.ecc a ecc none)
    let s := { s with loadAt := tput 0 s.loadAt (axLoadKey k u) 0 }
    .next (s.finishAx u k (s.axImageErr k a) (s.axEntries k a))
  else .next s

/-- R314, R146: CLEAR. -/
def execAxsTableClear (unit : BitVec 5) (kind : BitVec 4) (s : State) : Out :=
  .next (s.axTable unit.toNat kind.toNat [Bank.IDLE, Bank.EDIT, Bank.READY] fun s =>
    s.setFs [(axBankState kind.toNat unit.toNat, Bank.IDLE), (F.AXS_TERR, 0)])

/-- R314: SWAP. -/
def execAxsTableSwap (unit : BitVec 5) (kind : BitVec 4) (s : State) : Out :=
  .next (s.axTable unit.toNat kind.toNat [Bank.IDLE, Bank.BUSY, Bank.EDIT, Bank.READY] fun s =>
    s.setFs [(axPend kind.toNat unit.toNat, 1), (F.AXS_TERR, 0)])

/-- A swap boundary of a bank (R314). -/
def State.axBoundary (s : State) (kind unit : Nat) : State :=
  if s.on (axPend kind unit) then
    if s.f (axBankState kind unit) = Bank.READY then
      s.setFs [(axActive kind unit, 1 - s.f (axActive kind unit)), (axPend kind unit, 0), (axBankState kind unit, Bank.IDLE)]
    else (s.setF (if kind = 4 then F.AXS_A_STATUS_BANK_LATE unit else F.STP_STATUS_BANK_LATE unit) 1).raise EV.AXS_BANK_LATE unit
  else s

/-- R314: an index pulse of the axis's input in use. -/
def execIndexPulse (a : Fin 24) (s : State) : Out := .next (s.axBoundary 4 a.val)

/-- AXS_An_FF (R313). -/
def State.feedForward (s : State) (a : Nat) : Int :=
  let cpr := s.f (F.AXS_A_CPR a)
  if cpr = 0 then 0
  else
    let p := (s.pairS (F.AXS_A_ACT_HI a) (F.AXS_A_ACT_LO a)) % (cpr : Int)
    let x := (p * 1024 * 65536 / cpr).toNat
    let e (i : Nat) : Int := sx 16 (s.axEntry 4 a (s.f (F.AXS_A_TSTAT_ACTIVE a)) (i % 1024))
    let i := x / 65536
    e i + (e (i + 1) - e i) * (x % 65536 : Nat) / 65536

/-! ## Feedback (R306, R308–R312) -/

/-- FILT of an axis's incremental input: the spec gives an axis no FILT field, so the reset value of the web's is taken (PRESUMED, log
entry 55). -/
def axisFilt : Nat := 2

/-- What an axis's input gives at a firing (R306, R308): an incremental input its count, an SSI input the frame clocked now. -/
def State.axReading (s : State) (x : AxIn) (fb ppr : Nat) (m : Sample) : Reading :=
  if isSsi fb then
    let k := fb - 16
    ssiReading (s.f (F.AXS_SSI_BITS k)) (s.on (F.AXS_SSI_GRAY k)) (s.on (F.AXS_SSI_CRC_EN k)) false x.framed x.frame x.inc m.frame
  else x.inc.reading axisFilt 0 ppr false m.pins

/-- The sample of an input at a firing, whether it is invalid, and the input's new state (R308): of an SSI input the sample is the frame of
the firing before; where there was none the input keeps the count it had (log entry 56). -/
def AxIn.take (x : AxIn) (fb : Nat) (r : Reading) : Int × Bool × AxIn :=
  let v : Int := if isSsi fb then (if x.framed then x.frame else x.raw) else r.count
  let b := if isSsi fb then x.framed && x.frameBad else r.bad
  (v, b, { inc := r.inc, off := x.off, raw := v, valid := if b then 0 else min 256 (x.valid + 1), frame := r.count, frameBad := r.bad, framed := true })

/-- u of R309 at a firing: the last value emitted to the OUTPUT target, or the setpoint's increment. -/
def State.plantInput (s : State) (a : Nat) : Int :=
  let out := s.f (F.AXS_A_CFG_OUT a)
  if out = 0x7FF then (s.axis a).pos - (s.axis a).posAt else tget 0 s.outs out

/-- dh of R309. -/
def State.modelStep (s : State) (a : Nat) : Int :=
  (s.fs (F.AXS_A_MA1 a) * (s.axis a).d1 + s.fs (F.AXS_A_MA2 a) * (s.axis a).d2 + s.fs (F.AXS_A_MB a) * s.plantInput a) / 65536

/-- The input in use is declared down (R310): a flag and its event. -/
def State.axDown (s : State) (a : Nat) (flag : Field) (e : Nat) : State :=
  ((s.setAxis a { s.axis a with down := true }).setF flag 1).raise e a

/-- A firing of a coasting axis (R311): ACT advances by dh. -/
def State.axCoast (s : State) (a : Nat) (dh : Int) : State :=
  let x := s.axis a
  let p := s.pairS (F.AXS_A_ACT_HI a) (F.AXS_A_ACT_LO a) + dh
  let s := s.setAxis a { x with coastAt := some (x.coastAt.getD s.time), d1 := dh, d2 := x.d1 }
  ((s.setF (F.AXS_A_STATUS_COASTING a) 1).setPairS (F.AXS_A_ACT_HI a) (F.AXS_A_ACT_LO a) p).tally (0x1C0 + a) 1

/-- What is left of a correction after a firing whose input moved by d (R312): at most 1/2^SLEW of the travel goes. -/
def absorbed (corr d : Int) (k : Nat) : Int :=
  let step : Int := (d.natAbs : Int) / 2 ^ k
  corr - clampI (-step) step corr

/-- A firing with a good sample at position p (R309–R312); a correction taken at this very firing is not yet absorbed by it (R85). -/
def State.axMeasure (s : State) (a : Nat) (p dh : Int) (taken : Bool) : State :=
  let x := s.axis a
  let act := s.pairS (F.AXS_A_ACT_HI a) (F.AXS_A_ACT_LO a)
  let corr := if x.hold || taken then x.corr else absorbed x.corr (p + x.corr - act) (s.axSlew a)
  let d := p + corr - act
  let r := (d - dh).natAbs
  let lim := s.f (F.AXS_A_RLIM_RLIM a)
  let run := if lim ≠ 0 ∧ lim < r then x.implausible + 1 else 0
  let s := s.setAxis a { x with corr := corr, coastAt := none, expired := false, unchanged := 0, implausible := run, d1 := d, d2 := x.d1 }
  let s := (s.setF (F.AXS_A_STATUS_COASTING a) 0).setPairS (F.AXS_A_ACT_HI a) (F.AXS_A_ACT_LO a) (act + d)
  let s := (s.showAbsorb a).showHold a
  if max 1 (s.f (F.AXS_A_RLIM_RN a)) ≤ run then s.axDown a (F.AXS_A_STATUS_IMPLAUSIBLE a) EV.AXS_IMPLAUSIBLE else s

/-- An input is taken into use (R311, R312): J is absorbed, or held where the axis is the drum axis of an armed station and J is
larger than THRESH. -/
def State.axTake (s : State) (a use : Nat) (p dh : Int) : State :=
  let x := s.axis a
  let model := s.pairS (F.AXS_A_ACT_HI a) (F.AXS_A_ACT_LO a) + (if x.down then dh else 0)
  let j := model - p
  let hold := (s.drumOf a).isSome && decide (s.f (F.AXS_A_REPH_THRESH a) < j.natAbs)
  let s := if x.retry then s.logRetry 3 EV.AXS_FB_TRANSIENT a else s
  let s := s.setAxis a { x with corr := j, hold := hold, down := false, retry := false, unchanged := 0, implausible := 0, switchReq := false }
  let s := s.setFs [(F.AXS_A_STATUS_FBUSE a, use), (F.AXS_A_GSTAT_HOLDING a, b2n (hold || s.on (F.AXS_A_GSTAT_HOLDING a)))]
  (s.axMeasure a p dh true).raise EV.AXS_FB_SWITCH a

/-- The sample of the input in use at a firing, judged (R310). -/
def State.axJudge (s : State) (a : Nat) (p : Int) (bad same : Bool) (dh : Int) : State :=
  let x := s.axis a
  let retried := x.retry
  let s := s.setAxis a { x with retry := bad && !retried }
  let s := if retried && !bad then
      (((s.addF (F.AXS_A_TRANS a) 1).tally 0x1D8 1).logRetry 1 EV.AXS_FB_TRANSIENT a).raise EV.AXS_FB_TRANSIENT a
    else if retried && bad then (s.logRetry 2 EV.AXS_FB_TRANSIENT a).axDown a (F.AXS_A_STATUS_LOST a) EV.AXS_FB_LOST
    else s
  let stuck := same && decide (dh ≠ 0)
  let n := if stuck && !bad then x.unchanged + 1 else 0
  if bad || stuck then
    let s := (s.setAxis a { s.axis a with unchanged := n }).axCoast a dh
    if n = max 1 (s.f (F.AXS_A_COAST_FREEZE_N a)) then s.axDown a (F.AXS_A_STATUS_FROZEN a) EV.AXS_FB_FROZEN else s
  else s.axMeasure a p dh false

/-- A firing at axis a (R306). -/
def State.axFire (s : State) (a : Nat) (m : AxisSample) : State :=
  let x := s.axis a
  let fb := s.f (F.AXS_A_CFG_FB a)
  let altFb := s.f (F.AXS_A_CFG_ALT a)
  let ppr := s.f (F.AXS_A_PPR a)
  let use := s.f (F.AXS_A_STATUS_FBUSE a)
  let dh := s.modelStep a
  let (mv, mb, mi) := x.main.take fb (s.axReading x.main fb ppr m.main)
  let (av, ab, ai) := x.alt.take altFb (s.axReading x.alt altFb ppr m.alt)
  let sls := s.pairS (F.MOT_C_POS_HI (s.f (F.AXS_A_CFG_SLSCH a))) (F.MOT_C_POS_LO (s.f (F.AXS_A_CFG_SLSCH a)))
  let s := s.setAxis a { x with main := mi, alt := ai, switchReq := false, slsAt := sls }
  let s := if fb = 31 ∧ use = 0 then (s.setAxis a { s.axis a with d1 := x.pos - x.posAt, d2 := x.d1 }).showAxis a
    else if x.down then
      if s.on (F.AXS_A_CFG_ALT_EN a) && decide (use = 0) && decide (ai.valid = 256) then s.axTake a 1 (av + x.alt.off) dh
      else if s.on (F.AXS_A_CFG_SLS a) && decide (use ≠ 2) then s.axTake a 2 sls dh
      else if x.switchReq && decide (mi.valid = 256) then s.axTake a 0 (mv + x.main.off) dh
      else (if x.switchReq then s.flam F.AXS_FLAM_COUNT 1 else s).axCoast a dh
    else if x.switchReq && decide (mi.valid = 256) && decide (use ≠ 0) then s.axTake a 0 (mv + x.main.off) dh
    else
      let s := if x.switchReq && decide (mi.valid ≠ 256) then s.flam F.AXS_FLAM_COUNT 1 else s
      if use = 0 then s.axJudge a (mv + x.main.off) mb (decide (mv = x.main.raw)) dh
      else if use = 1 then s.axJudge a (av + x.alt.off) ab (decide (av = x.alt.raw)) dh
      else s.axJudge a sls false (decide (sls = x.slsAt)) dh
  let s := s.setAxis a { s.axis a with posAt := (s.axis a).pos }
  let s := s.setF (F.AXS_A_FF a) (ux 16 (s.feedForward a))
  let s := if (s.axis a).v = 0 then s.axBoundary 4 a else s
  if (s.axis a).v = 0 then forBelow 12 (fun i s => if s.f (F.STP_CTL_AXIS i) = a then s.axBoundary 5 i else s) s else s

/-- The sample an operand lists for an axis; the inputs of an axis without one show no change. -/
def sampleFor (l : List AxisSample) (a : Nat) : AxisSample :=
  (findFirst (fun (m : AxisSample) => decide (m.axis.val = a)) l).getD ⟨Fin.ofNat 24 a, ⟨[], [], false⟩, ⟨[], [], false⟩⟩

/-- Whether a mallet waits in a WAITE with TIMER set (R289). -/
def Mallet.waitsTimer (x : Mallet) : Bool :=
  match x.wait with
  | some (.event _ _ _ _ t) => t
  | some (.time _) => false
  | some (.pos _ _) => false
  | none => false

/-- The timer's role at a firing in tick c (R306, R307): its TIMER condition holds in tick c + 8, or the firing is late. -/
def State.signalRole (s : State) (t : Nat) : State :=
  let r := s.f (F.AXS_LT_CTL_ROLE t)
  let late (s : State) : State := s.addF (F.AXS_LT_STATUS_LATE t) 1
  if 62 ≤ r then s
  else match (s.role r).holder with
    | none => late s
    | some m =>
      let x := s.mallet m
      if x.run ≠ .running then late s
      else if x.waitsTimer then s.setMallet m { x with timerAt := some (s.time + 8) }
      else (late s).exception m 0x0E 0 x.pc

/-- The next firing after a tick (R305). -/
def State.nextFiring (s : State) (t : Nat) : Nat :=
  let p := max 4000 (s.f (F.AXS_LT_PERIOD t))
  let last := tget 0 s.timers t
  let ph := s.f (F.AXS_LT_PHASE t) % p
  last + (p - (last + p - ph) % p)

/-- R305, R306, R309–R314: the next firing of a timer, at every axis that names it, enabled or not. -/
def execLoopTimerFire (t : Fin 16) (samples : List AxisSample) (s : State) : Out :=
  let n := t.val
  if s.on (F.AXS_LT_CTL_EN n) then
    let c := s.nextFiring n
    let s := s.advanceTo c
    let s := ({ s with timers := tput 0 s.timers n c }).tally (0x1F0 + n) 1
    let s := forBelow 24 (fun a s =>
      if s.f (F.AXS_A_CFG_TIMER a) = n then s.axFire a (sampleFor samples a) else s) s
    .next (s.signalRole n)
  else .next s

/-- The coast time of an axis in ticks (R311), as WEB_COAST (R83). -/
def State.axCoastTicks (s : State) (a : Nat) : Nat := min 1000 (max 1 (s.f (F.AXS_A_COAST_COAST_MS a))) * 600000

/-- R311: the coast time ends without a fallback; HOMED clears (R326). -/
def execAxisCoastExpired (a : Fin 24) (s : State) : Out :=
  let n := a.val
  let x := s.axis n
  match x.coastAt with
  | some t =>
    if s.on (F.AXS_A_STATUS_COASTING n) ∧ x.expired = false then
      let s := s.advanceTo (t + s.axCoastTicks n)
      let s := s.setAxis n { x with expired := true }
      .next ((s.setFs [(F.AXS_A_STATUS_COAST_EXP n, 1), (F.AXS_A_STATUS_HOMED n, 0)]).raise EV.AXS_COAST_EXPIRED n)
    else .next s
  | none => .next s

end Sys2Proof.Machine
end

