-- ==== Sys2Proof/Machine/Steppers.lean ====
section
/-!
DEFINITION. Stepper channels (R327–R330) and the arming and reading of trace units (R332, R333).
-/
namespace Sys2Proof.Machine

/-! ## Steppers -/

/-- Entry i of a stepper's active microstep bank; T[256] is 32,767 (R327). -/
def State.micro (s : State) (k i : Nat) : Int := if i = 256 then 32767 else s.axEntry 5 k (s.f (F.STP_TSTAT_ACTIVE k)) i

/-- The setpoint a stepper follows. -/
def State.stepPos (s : State) (k : Nat) : Int := (s.axis (s.f (F.STP_CTL_AXIS k))).pos

/-- The phase targets at a setpoint, before the current (R327). -/
def State.phaseTargets (s : State) (k : Nat) (m : Int) : Int × Int :=
  let i := (m % 256).toNat
  let q := (m / 256 % 4).toNat
  let t := s.micro k i
  let c := s.micro k (256 - i)
  if q = 0 then (c, t) else if q = 1 then (-t, c) else if q = 2 then (-c, -t) else (t, -c)

/-- The current in use: IRUN, which an OUTPUT port replaces, or IHOLD (R327). -/
def State.stepCurrent (s : State) (k : Nat) : Nat := s.f (if s.on (F.STP_STATUS_HOLD k) then F.STP_CUR_IHOLD k else F.STP_CUR_IRUN k)

/-- The PI law of R328 on one phase: error in 1/4,096 of full scale, gains 1/16 and 1/256, duty in Q15 (log entry 22). -/
def phaseLaw (kp ki : Nat) (target cur sum : Int) : Int × Int :=
  let e := target - cur
  let sum := satS 24 (sum + e * ki)
  (satS 16 ((e * kp * 16 + sum) / 256 * 8), sum)

/-- A stepper's hidden state begins anew: a retry it awaited stays UNRESOLVED (R392), and the filters of its currents run on. -/
def State.stepClear (s : State) (k : Nat) : State :=
  let x := s.stepper k
  (if x.retry then s.logRetry 3 EV.MOT_ISENSE_TRANSIENT k else s).setStepper k { Stepper.reset with sa := x.sa, sb := x.sb, last := s.stepPos k, lastAt := s.time }

/-- Both bridges off (R328). -/
def State.stepOff (s : State) (k : Nat) : State := (s.stepClear k).setF (F.STP_CTL_EN k) 0

/-- The channel begins at its axis's setpoint; its first chopper period starts now. -/
def State.stepOn (s : State) (k : Nat) : State := (s.stepClear k).setF (F.STP_CTL_EN k) 1

/-- A trip of R328 or R340. -/
def State.stepTrip (s : State) (k : Nat) : State := ((s.stepOff k).setF (F.STP_STATUS_OVERCURRENT k) 1).raise EV.STEP_OVERCURRENT k

/-- A stall (R330): the setpoint stops at once, the current goes to IHOLD and HOMED clears. -/
def State.stepStall (s : State) (k : Nat) : State :=
  let a := s.f (F.STP_CTL_AXIS k)
  let s := if s.axState a = Ax.DISABLED then s else (match s.groupOf a with
    | some g => s.groupEnd g
    | none => s.axGo a Ax.IDLE fun x => { x with v := 0, a := 0 })
  let s := (s.showAxis a).setFs [(F.STP_STATUS_HOLD k, 1), (F.AXS_A_STATUS_HOMED a, 0), (F.STP_STATUS_STALL k, 1), (F.AXS_A_STATUS_STALL a, 1)]
  ((s.setStepper k { s.stepper k with stall := 0 }).tally 0x1EC 1).raise EV.STEP_STALL k

/-- The load angle that R329's estimate gives at a full step: the scales of its operands are not stated, so it is a free value (log
entry 4). -/
def State.loadAngle (s : State) : Nat := s.freeNow.toNat % 256

/-- One full step (R329, R330). -/
def State.fullStep (s : State) (k : Nat) : State :=
  let load := s.loadAngle
  let s := (s.draw.setF (F.STP_STATUS_LOAD k) load).tally (0x1E0 + k) 1
  let speed := (s.axis (s.f (F.STP_CTL_AXIS k))).v.natAbs / (256 * 10 ^ 12)
  let fast := s.on (F.STP_STALL_EN k) && decide (s.f (F.STP_STALL_VMIN k) ≤ speed)
  let run := if fast && decide (s.f (F.STP_STALL_ANG k) < load) then (s.stepper k).stall + 1 else 0
  let s := s.setStepper k { s.stepper k with stall := run }
  if fast && decide (max 1 (s.f (F.STP_STALL_STALL_N k)) ≤ run) then s.stepStall k else s

/-- Some full steps, one after the other. -/
def State.stepTimes (k : Nat) : Nat → State → State
  | 0, s => s
  | n + 1, s => (s.fullStep k).stepTimes k n

/-- The full steps since the last period. -/
def State.fullSteps (s : State) (k : Nat) (m : Int) : State :=
  let x := s.stepper k
  (s.setStepper k { x with last := m }).stepTimes k (m / 256 - x.last / 256).natAbs

/-- MOT_SD_CTL.OSR as it acts. -/
def State.osr (s : State) : Nat := osrOf (s.f F.MOT_SD_CTL_OSR)

/-- The two phase laws of a period (R327, R328), the currents Q15. -/
def State.stepLaws (s : State) (k : Nat) (ia ib : Int) : State :=
  let x := s.stepper k
  let t := s.phaseTargets k (s.stepPos k)
  let i : Int := s.stepCurrent k
  let kp := s.f (F.STP_CHOP_KP k)
  let ki := s.f (F.STP_CHOP_KI k)
  let pa := phaseLaw kp ki (t.1 * i / 32768) (ia / 8) x.intA
  let pb := phaseLaw kp ki (t.2 * i / 32768) (ib / 8) x.intB
  s.setStepper k { x with dutyA := pa.1, intA := pa.2, dutyB := pb.1, intB := pb.2 }

/-- A period with a valid sample of the currents (R327–R330). -/
def State.stepPeriod (s : State) (k : Nat) (ia ib : Int) : State :=
  let x := s.stepper k
  let lim := s.f (F.STP_IMAX k) * 8
  let high := decide (lim < ia.natAbs) || decide (lim < ib.natAbs)
  if high && decide (1 ≤ x.excess) then s.stepTrip k
  else
    let s := s.setStepper k { x with excess := if high then x.excess + 1 else 0 }
    (s.stepLaws k ia ib).fullSteps k (s.stepPos k)

/-- R327–R330, R339, R340: a chopper period ends, PER MCLK cycles after the last, with the modulator bits its two phase inputs gave in it. -/
def execStepperChopPeriod (k : Fin 12) (ia ib : List Bool) (s : State) : Out :=
  let n := k.val
  if s.on (F.STP_CTL_EN n) then
    let x := s.stepper n
    let s := s.advanceTo (x.lastAt + 4 * min 15000 (max 1500 (s.f (F.STP_CHOP_PER n))))
    let sa := x.sa.run s.osr ia
    let sb := x.sb.run s.osr ib
    let s := s.setStepper n { x with lastAt := s.time, sa := sa.taken, sb := sb.taken, retry := false }
    if sa.stuck || sb.stuck then
      if x.retry then .next ((s.logRetry 2 EV.MOT_ISENSE_TRANSIENT n).stepTrip n) else .next (s.setStepper n { s.stepper n with retry := true })
    else
      let s := if x.retry then ((s.tally 0x211 1).logRetry 1 EV.MOT_ISENSE_TRANSIENT n).raise EV.MOT_ISENSE_TRANSIENT n else s
      .next (s.stepPeriod n sa.out sb.out)
  else .next s

/-- R327: the setpoint has stood still for HOLD_MS. -/
def execStepperHoldTimeout (k : Fin 12) (s : State) : Out :=
  let n := k.val
  let x := s.axis (s.f (F.STP_CTL_AXIS n))
  if s.on (F.STP_CTL_EN n) ∧ x.v = 0 then
    let s := s.advanceTo (x.stillAt + s.f (F.STP_CUR_HOLD_MS n) * 600000)
    .next (s.setF (F.STP_STATUS_HOLD n) 1)
  else .next s

/-! ## Trace units (R331–R333) -/

/-- R332: ARM; ignored and counted while armed or triggered. -/
def execTraceArm (u : Fin 4) (s : State) : Out :=
  let n := u.val
  let z := s.f (F.TR_STATUS_STATE n)
  if z = 1 ∨ z = 2 then .next (s.flam F.AXS_FLAM_COUNT 1)
  else
    let s := s.setTrace n { Trace.reset with armAt := s.time, lastAt := s.time }
    .next (s.setFs [(F.TR_CTL_ARM n, 1), (F.TR_STATUS_STATE n, 1), (F.TR_STATUS_PREVALID n, 0)])

/-- R332: FORCE; a trigger in the tick of the ARM write is ignored. -/
def execTraceForce (u : Fin 4) (s : State) : Out :=
  if s.f (F.TR_STATUS_STATE u.val) = 1 ∧ (s.trace u.val).armAt < s.time then .next (s.trigger u.val) else .next s

/-- What TRu_RDDATA shows (R333): the sample at INDEX from the oldest, of channel CHAN; zero before DONE. -/
def State.traceWord (s : State) (u : Nat) : Nat :=
  if s.f (F.TR_STATUS_STATE u) = 3 then
    (nthD 0 (nthD [] (s.trace u).rows.reverse (s.f (F.TR_RDADDR_INDEX u))) (s.f (F.TR_RDADDR_CHAN u))).toNat
  else 0

/-- R333: the read adds one to INDEX. -/
def execTraceRead (u : Fin 4) (s : State) : Out :=
  let n := u.val
  let w := s.traceWord n
  .next ((s.setF (F.TR_RDADDR_INDEX n) (s.f (F.TR_RDADDR_INDEX n) + 1)).reply w)

end Sys2Proof.Machine
end

