-- ==== Sys2Proof/Machine/Motors.lean ====
section
/-!
DEFINITION. Three-phase motor channels and brake choppers (R337–R355).
-/
namespace Sys2Proof.Machine

/-! ## Channel states (MOT_Cc_STATUS.STATE) -/

def Mot.DISABLED : Nat := 0
def Mot.CATCHING : Nat := 1
def Mot.BRAKING : Nat := 2
def Mot.STARTING : Nat := 3
def Mot.RUNNING : Nat := 4

/-- Pole pairs of a channel (R343). -/
def State.poles (s : State) (c : Nat) : Nat := s.f (F.MOT_C_MOTOR_POLES c) + 1

/-- PER, taken at the nearest end outside 750 to 15,000 (R355). -/
def State.pwmPer (s : State) (c : Nat) : Nat := min 15000 (max 750 (s.f (F.MOT_C_PWM_PER c)))

/-- Retries of the current and of the angle that a channel awaits end UNRESOLVED (R392). -/
def State.motorDrop (s : State) (c : Nat) : State :=
  let x := s.motor c
  let s := if x.badI then s.logRetry 3 EV.MOT_ISENSE_TRANSIENT c else s
  let s := if x.badA then s.logRetry 3 EV.MOT_COMM_LOST c else s
  s.setMotor c { x with badI := false, badA := false }

/-- All six gates low, EN 0 (R338). -/
def State.motorOff (s : State) (c : Nat) : State :=
  let s := (s.motorDrop c).setFs [(F.MOT_C_CTL_EN c, 0), (F.MOT_C_STATUS_STATE c, 0), (F.MOT_C_STATUS_CATCHING c, 0),
    (F.MOT_C_STATUS_FBSLS c, 0), (F.MOT_C_STATUS_VCLAMP c, 0)]
  s.setMotor c { s.motor c with vd := 0, vq := 0, legs := [], legsWas := [], excess := 0, tripAt := none, lockFrom := none }

/-- A trip: the channel is off, a flag stands and an event is raised. -/
def State.motorTrip (s : State) (c : Nat) (flag : Field) (e : Nat) : State := ((s.motorOff c).setF flag 1).raise e c

/-- An overcurrent trip (R341); the rotor's lock is still judged in its period (R349). -/
def State.overcurrentTrip (s : State) (c : Nat) : State :=
  let from_ := (s.motor c).lockFrom
  let s := (s.tally 0x210 1).motorTrip c (F.MOT_C_STATUS_OVERCURRENT c) EV.MOT_OVERCURRENT
  s.setMotor c { s.motor c with tripAt := some s.time, lockFrom := from_ }

/-- Whether a bus holds its channels under REGLIM from enable on (R350, R351). -/
def State.noChopper (s : State) (b : Nat) : Bool := !s.on (F.MOT_BK_CTL_EN b) || s.on (F.MOT_BK_STATUS_BRK_FAULT b)

/-- Channels that a bus serves. -/
def State.onBus (s : State) (b c : Nat) : Bool := decide (s.f (F.MOT_C_CTL_BUS c) = b)

/-- An operation on every channel of a bus. -/
def State.eachOnBus (s : State) (b : Nat) (g : Nat → State → State) : State := forBelow 12 (fun c s => if s.onBus b c then g c s else s) s

/-! ## Modulation (R337, R338, R342)

A leg's compare value; `heldLow` and `heldHigh` hold it for a whole period. -/

/-- A compare value that the counter never reaches: the low side is on for the whole period. -/
def State.heldLow (s : State) (c : Nat) : Nat := s.pwmPer c + 1

/-- The square root of 3, 30 fraction bits. -/
def root3 : Int := 1859775393

/-- The compare value of a leg whose high side is to be on for `on_` MCLK cycles of the period (R337). -/
def State.legOf (s : State) (c on_ : Nat) : Nat :=
  if on_ < s.f (F.MOT_C_PWM_MINP c) then s.heldLow c
  else if 2 * s.pwmPer c < on_ + s.f (F.MOT_C_PWM_MINP c) then 0
  else s.pwmPer c - on_ / 2

/-- Phase voltages of a command (VD, VQ) at an angle, 90 fraction bits beside Q15 (R342). -/
def phaseVolts (vd vq : Int) (angle : Nat) : List Int :=
  let al := (vd * cos16 angle - vq * sin16 angle) * 2 ^ 30
  let be := (vd * sin16 angle + vq * cos16 angle) * root3
  [al, (-al + be) / 2, (-al - be) / 2]

/-- Legs in the linear region (R342): space-vector PWM whose two zero vectors are centred, so the phase voltages are shifted until the
greatest and the least lie equally far from the middle; 32,768 stands for the bus voltage divided by the square root of 3. -/
def State.linearLegs (s : State) (c : Nat) (v : List Int) : List Nat :=
  let off := -(v.foldl maxI (v.headD 0) + v.foldl (fun a b => if b < a then b else a) (v.headD 0)) / 2
  let full := root3 * 32768 * 2 ^ 60
  v.map fun x => s.legOf c ((2 * s.pwmPer c * (full + 2 * (x + off)) / (2 * full)).toNat)

/-- Legs of six-step operation (R342): the vector is held at the nearest vertex, so a leg is high while its phase voltage is positive. -/
def State.sixStep (s : State) (c : Nat) (v : List Int) : List Nat := v.map fun x => if 0 < x then 0 else s.heldLow c

/-- Legs in over-modulation: the spec names their bounds and not the compensated circle or the hold angle's course, so they are free
values (log entry 4). -/
def State.freeLegs (s : State) (c : Nat) : List Nat × State :=
  let leg (s : State) : Nat × State := (s.legOf c (s.freeNow.toNat % (2 * s.pwmPer c + 1)), s.draw)
  let u := leg s
  let v := leg u.2
  let w := leg v.2
  ([u.1, v.1, w.1], w.2)

/-- DIR = 1 reverses the phase order (R345). -/
def State.phaseOrder (s : State) (c : Nat) (l : List Nat) : List Nat :=
  if s.on (F.MOT_C_CTL_DIR c) then [nthD 0 l 0, nthD 0 l 2, nthD 0 l 1] else l

/-- The compare values of a new period, from the voltage vector and the angle in use (R338, R342). -/
def State.loadLegs (s : State) (c : Nat) : State :=
  let x := s.motor c
  let v := phaseVolts x.vd x.vq (s.f (F.MOT_C_ANGLE c))
  let (l, s) := if x.vd.natAbs * x.vd.natAbs + x.vq.natAbs * x.vq.natAbs ≤ 32768 * 32768 then (s.linearLegs c v, s)
    else if s.on (F.MOT_C_STATUS_VCLAMP c) && decide (2 ≤ s.f (F.MOT_C_CTL_OVM c)) then (s.sixStep c v, s)
    else s.freeLegs c
  s.setMotor c { x with legs := s.phaseOrder c l, legsWas := x.legs }

/-- A period that repeats the compare values of the one before (R340). -/
def State.repeatLegs (s : State) (c : Nat) : State := s.setMotor c { s.motor c with legsWas := (s.motor c).legs }

/-- Whether a leg's PWM asks for its high side at an MCLK cycle of the period, before the dead time (R337); cycles below 0 belong to the
period before. -/
def State.legWants (s : State) (c l : Nat) (k : Int) : Bool :=
  let x := s.motor c
  let per : Int := s.pwmPer c
  let legs := if k < 0 then x.legsWas else x.legs
  let k := if k < 0 then k + 2 * per else k
  decide (((nthD (s.heldLow c) legs l : Nat) : Int) ≤ if k ≤ per then k else 2 * per - k)

/-- Whether a channel drives its gates: enabled, and not measuring in catch-spin (R338, R348). -/
def State.gatesLive (s : State) (c : Nat) : Bool := s.on (F.MOT_C_CTL_EN c) && !decide (s.f (F.MOT_C_STATUS_STATE c) = Mot.CATCHING)

/-- The gate outputs of leg l (0 U, 1 V, 2 W) of a channel now, the high side first: each rising edge comes DT cycles late (R337), all are
low while the channel does not drive, and braking turns on every low side (R348). -/
def State.gates (s : State) (c l : Nat) : Bool × Bool :=
  let k : Int := ((s.time - (s.motor c).last) / 4 : Nat)
  let back := List.range (s.f (F.MOT_C_PWM_DT c) + 1)
  if !s.gatesLive c then (false, false)
  else if s.f (F.MOT_C_STATUS_STATE c) = Mot.BRAKING then (false, true)
  else (back.all fun j => s.legWants c l (k - j), back.all fun j => !s.legWants c l (k - j))

/-- The limit on M (R342), in 1/1,000 of 32,768. -/
def ovmLimit (ovm : Nat) : Nat := if ovm = 0 then 1000 else if ovm = 1 then 1049 else 1103

/-- A voltage command with its magnitude clamped (R342), and whether the clamp acts. -/
def clampV (ovm : Nat) (vd vq : Int) : Int × Int × Bool :=
  let m2 : Nat := vd.natAbs * vd.natAbs + vq.natAbs * vq.natAbs
  let lim := 32768 * ovmLimit ovm
  if lim * lim < m2 * 1000000 then
    let m := isqrt (m2 * 1000000)
    (vd * lim / m, vq * lim / m, true)
  else (vd, vq, false)

/-- VCLAMP follows the clamp, and EV_MOT_VCLAMP its rise (R342). -/
def State.vclamp (s : State) (c : Nat) (on : Bool) : State :=
  let was := s.on (F.MOT_C_STATUS_VCLAMP c)
  let s := s.setB (F.MOT_C_STATUS_VCLAMP c) on
  if on && !was then s.raise EV.MOT_VCLAMP c else s

/-- A clamped voltage vector takes effect (R342). -/
def State.applyV (s : State) (c : Nat) (v : Int × Int × Bool) : State :=
  ((s.setMotor c { s.motor c with vd := v.1, vq := v.2.1 }).vclamp c v.2.2).loadLegs c

/-- The voltage vector of VOLT mode (R345). -/
def State.voltMode (s : State) (c : Nat) : State :=
  s.applyV c (clampV (s.f (F.MOT_C_CTL_OVM c)) (s.fs (F.MOT_C_VCMD_VD c)) (s.fs (F.MOT_C_VCMD_VQ c)))

/-! ## Enable and catch-spin (R338, R347, R348) -/

/-- The channel starts normally: a sensorless one on its open-loop angle (R343). Its first compare values stand from the enable on; outside
VOLT mode they are those of no voltage. -/
def State.motorStart (s : State) (c : Nat) : State :=
  let sls := decide (s.f (F.MOT_C_CTL_SENSE c) = 2)
  let s := s.setMotor c { s.motor c with startAt := s.time, revs := 0, inc := 0, open_ := 0 }
  let s := s.setFs [(F.MOT_C_STATUS_STATE c, if sls then Mot.STARTING else Mot.RUNNING), (F.MOT_C_STATUS_CATCHING c, 0)]
  if s.f (F.MOT_C_CTL_MODE c) = 0 then s.voltMode c else s.applyV c (0, 0, false)

/-- A measuring window opens (R348). -/
def State.windowOpen (s : State) (c : Nat) : State :=
  let x := s.motor c
  s.setMotor c { x with windowAt := s.time, windowPos := s.pairS (F.MOT_C_POS_HI c) (F.MOT_C_POS_LO c), windowN := x.comms }

/-- Whether the enable of a channel is refused (R347). -/
def State.motorRefused (s : State) (c : Nat) : Bool :=
  decide (75000000 * 960 < s.poles c * s.f (F.MOT_C_SPDMAX c) * 8 * s.pwmPer c) ||
    decide ((s.busOf (s.f (F.MOT_C_CTL_BUS c))).written ≠ 7) || decide (s.f (F.MOT_C_CTL_SENSE c) = 1 ∧ s.f (F.MOT_C_CPR c) = 0)

/-- R347, R348: EN written 1. After G4 the gates stay low until the reset (R23, R398). -/
def execMotorEnable (c : Fin 12) (s : State) : Out :=
  let n := c.val
  if s.on (F.MOT_C_CTL_EN n) || s.on F.EVT_GONG_G4 then .next s
  else if s.motorRefused n then .next (s.setF (F.MOT_C_STATUS_CFG_ERR n) 1)
  else
    let x := s.motor n
    let s := s.setFs [(F.MOT_C_CTL_EN n, 1), (F.MOT_C_STATUS_REGLIM n, b2n (s.noChopper (s.f (F.MOT_C_CTL_BUS n))))]
    let s := s.setMotor n { Motor.reset with su := x.su, sv := x.sv, hall := x.hall, enc := x.enc, sector := x.sector, last := s.time }
    if s.on (F.MOT_C_CTL_CATCH_EN n) then .next ((s.windowOpen n).setF (F.MOT_C_STATUS_STATE n) Mot.CATCHING) else .next (s.motorStart n)

/-- What the comparators MTRc_ZU, ZV, ZW (bits 0 to 2) showed on MCLK samples (R348): the edges, the net edges forward, the samples before
the first edge and up to the last. Forward, a phase takes the level that the phase before it in order U, V, W has. -/
def zEdges (p : BitVec 3) : Nat → List (BitVec 3) → Nat × Int × Nat × Nat → Nat × Int × Nat × Nat
  | _, [], r => r
  | k, q :: l, (n, net, first, last) =>
    let ch := (List.range 3).filter fun i => p.getLsbD i != q.getLsbD i
    let d : Int := ch.foldl (fun a i => if q.getLsbD i = q.getLsbD ((i + 2) % 3) then a + 1 else a - 1) 0
    zEdges q (k + 1) l (if ch.isEmpty then (n, net, first, last) else (n + ch.length, net + d, if n = 0 then k else first, k))

/-- Commutation events and speed, signed in 1/16 rpm, of a measuring window (R348): a sensored channel's from the angle it has followed, a
sensorless one's from the edges of its comparators, 60 degrees each. -/
def State.windowSpeed (s : State) (c : Nat) (z : List (BitVec 3)) : Nat × Int :=
  let x := s.motor c
  let p : Int := s.poles c
  if s.f (F.MOT_C_CTL_SENSE c) = 2 then
    let (n, net, first, last) := zEdges (z.headD 0) 0 z (0, 0, 0, 0)
    let d : Int := if 0 < net then net - 1 else if net < 0 then net + 1 else 0
    (n, d * 150000000 * 960 / (6 * p * (max 1 (last - first) : Nat)))
  else (x.comms - x.windowN, (s.pairS (F.MOT_C_POS_HI c) (F.MOT_C_POS_LO c) - x.windowPos) * 480000 / (65536 * p))

/-- The channel runs from a measured speed (R348). -/
def State.synchronise (s : State) (c : Nat) (v : Int) : State :=
  let x := s.motor c
  let d := v * 65536 * (s.poles c : Int) * s.pwmPer c / (960 * 75000000)
  let s := (s.setMotor c { x with intS := v * 16, startAt := s.time, incs := List.replicate 16 d }).setFs
    [(F.MOT_C_STATUS_STATE c, Mot.RUNNING), (F.MOT_C_STATUS_CATCHING c, 0), (F.MOT_C_SPEED c, ux 32 v)]
  let s := if s.f (F.MOT_C_CTL_MODE c) = 0 then s.voltMode c else s.applyV c (0, 0, false)
  (s.tally 0x212 1).raise EV.MOT_CATCH c

/-- What follows a measuring window in which the rotor gave some events and turned at a speed (R348). -/
def State.windowEnd (s : State) (n events : Nat) (v : Int) : State :=
  let max_ : Int := s.f (F.MOT_C_CATCH_CATCH_MAX n) * 16
  if events < 2 ∨ v = 0 then s.motorStart n
  else if 0 < v then
    if v ≤ max_ then s.synchronise n v else (s.windowOpen n).setF (F.MOT_C_STATUS_CATCHING n) 1
  else if v < -(s.f (F.MOT_C_CATCH_REV_LIM n) * 16 : Int) then s.motorTrip n (F.MOT_C_STATUS_SPIN_REVERSE n) EV.MOT_SPIN_REVERSE
  else if (s.motor n).braked ∧ -v < max_ / 8 then s.motorStart n
  else
    (s.setMotor n { s.motor n with windowAt := s.time, braked := true }).setFs
      [(F.MOT_C_STATUS_STATE n, Mot.BRAKING), (F.MOT_C_STATUS_CATCHING n, 0)]

/-- R348: a measuring window of 2 ms ends; `z` is what the comparators of a sensorless channel showed in it. -/
def execCatchWindowEnd (c : Fin 12) (z : List (BitVec 3)) (s : State) : Out :=
  let n := c.val
  if s.on (F.MOT_C_CTL_EN n) ∧ s.f (F.MOT_C_STATUS_STATE n) = Mot.CATCHING then
    let s := s.advanceTo ((s.motor n).windowAt + 1200000)
    let w := s.windowSpeed n z
    let s := if s.f (F.MOT_C_CTL_SENSE n) = 2 then s.tally (0x200 + n) w.1 else s
    .next (s.windowEnd n w.1 w.2)
  else .next s

/-- R348: a braking cycle of 8 ms ends and a measuring window opens. -/
def execBrakeCycleEnd (c : Fin 12) (s : State) : Out :=
  let n := c.val
  if s.f (F.MOT_C_STATUS_STATE n) = Mot.BRAKING then
    let s := s.advanceTo ((s.motor n).windowAt + 4800000)
    .next ((s.windowOpen n).setF (F.MOT_C_STATUS_STATE n) Mot.CATCHING)
  else .next s

/-- R343: 2 s after a sensorless start. -/
def execSlsStartTimeout (c : Fin 12) (s : State) : Out :=
  let n := c.val
  if s.f (F.MOT_C_STATUS_STATE n) = Mot.STARTING then
    let s := s.advanceTo ((s.motor n).startAt + 1200000000)
    .next (s.motorTrip n (F.MOT_C_STATUS_SLS_FAIL n) EV.MOT_SLS_FAIL)
  else .next s

/-- R338: MCLK samples of the gate driver's fault input, oldest first. -/
def execGateFault (c : Fin 12) (samples : List Bool) (s : State) : Out :=
  if lowRun 2 samples then .next ((s.tally 0x210 1).motorTrip c.val (F.MOT_C_STATUS_GATE_FLT c.val) EV.MOT_GATE_FAULT) else .next s

/-- A channel that runs or starts: outside catch-spin (R348, R349). -/
def State.motorTurns (s : State) (c : Nat) : Bool :=
  s.on (F.MOT_C_CTL_EN c) && (decide (s.f (F.MOT_C_STATUS_STATE c) = Mot.RUNNING) || decide (s.f (F.MOT_C_STATUS_STATE c) = Mot.STARTING))

/-- R349: |IQ| has stood at or above LOCK_I for LOCK_MS with no commutation event. A trip that overcurrent caused earlier in the same period
does not take the place of this one. -/
def execLockedRotor (c : Fin 12) (s : State) : Out :=
  let n := c.val
  let x := s.motor n
  match x.lockFrom with
  | some t =>
    let due := t + s.f (F.MOT_C_LOCK_LOCK_MS n) * 600000
    let tripped := match x.tripAt with
      | some p => decide (due ≤ p + 8 * s.pwmPer n)
      | none => false
    if s.motorTurns n || tripped then .next ((s.advanceTo due).motorTrip n (F.MOT_C_STATUS_LOCKED n) EV.MOT_LOCKED) else .next s
  | none => .next s

/-- The lock is timed from the later of the tick at which |IQ| reached LOCK_I and the last commutation event (R349). -/
def State.lockTime (s : State) (c : Nat) : State :=
  let x := s.motor c
  if s.motorTurns c && decide (s.f (F.MOT_C_LOCK_LOCK_I c) * 8 ≤ (s.fs (F.MOT_C_IQ c)).natAbs) then
    s.setMotor c { x with lockFrom := some (x.lockFrom.getD s.time) }
  else s.setMotor c { x with lockFrom := none }

/-! ## The angle (R343, R344) -/

/-- Sector of a hall code (R343). -/
def State.hallSector (s : State) (c code : Nat) : Nat :=
  bitsOf (s.f (F.MOT_C_HALL_SECTORS c)) ((code - 1) * 3 + 2) ((code - 1) * 3)

/-- The hall angle: the sector's start, advanced at the rate of the last edge interval and held within the sector. -/
def State.hallAngle (s : State) (c : Nat) (x : Motor) : Nat :=
  let base := x.sector * 65536 / 6 + s.f (F.MOT_C_HALL_HOFS c) * 4
  let within := if x.interval = 0 then 0 else min 10922 ((s.time - x.edgeAt) * 10923 / x.interval)
  (base + (if x.fwd then within else 10922 - within)) % 65536

/-- The encoder angle (R343). -/
def State.encAngle (s : State) (c : Nat) (count : Int) : Nat :=
  ((count * (s.poles c : Int) * 65536 / (s.f (F.MOT_C_CPR c) : Int) + s.f (F.MOT_C_MOTOR_ELOFS c)) % 65536).toNat

/-- A hall edge moves the channel to another sector. -/
def hallEdge (x : Motor) (sector now : Nat) : Motor :=
  if sector = x.sector then x
  else { x with sector := sector, edgeAt := now, interval := now - x.edgeAt, fwd := decide (sector = (x.sector + 1) % 6) }

/-- One MCLK sample of the hall inputs at a tick (R343): each input is accepted after 4 equal samples, and a valid code that is accepted anew
is an edge. -/
def State.hallSample (s : State) (c : Nat) (x : Motor) (now : Nat) (p : BitVec 3) : Motor :=
  let r := (List.range 3).map fun i => acceptLevel 3 (x.hall.getLsbD i) (nthD 0 x.hallRun i) (p.getLsbD i)
  let code := r.reverse.foldl (fun n a => 2 * n + b2n a.1) 0
  let y := { x with hall := BitVec.ofNat 3 code, hallRun := r.map fun a => a.2 }
  if code = x.hall.toNat ∨ code = 0 ∨ code = 7 then y else hallEdge y (s.hallSector c code) now

/-- The hall samples of a period, oldest first, the last of them now. -/
def State.hallSamples (s : State) (c : Nat) (x : Motor) : List (BitVec 3) → Motor
  | [] => x
  | p :: r => s.hallSamples c (s.hallSample c x (s.time - 4 * r.length) p) r

/-- SLS_RAMP as an angle step per period and per period (R343), in 2^-32 of an angle count. -/
def State.rampStep (s : State) (c : Nat) : Nat :=
  let per := s.pwmPer c
  s.f (F.MOT_C_SLS_SLS_RAMP c) * s.poles c * 65536 * 2 ^ 32 * per * per / (60 * 75000000 * 75000000)

/-- What a period's samples of the inputs leave: the current filters, the hall inputs, and the encoder, which never claims its input and whose
FILT is 2 (R343; PRESUMED, log entry 55). Beside it, the encoder's quadrature errors. -/
def State.pwmInputs (s : State) (c : Nat) (m : PwmSample) : Motor × Nat :=
  let x := s.hallSamples c (s.motor c) m.hall
  let (e, q, _) := x.enc.run 2 0 0 false m.enc
  ({ x with su := x.su.run s.osr m.iu, sv := x.sv.run s.osr m.iv, enc := e }, q)

/-- The angle a channel takes from its source at a period boundary, with whether the sample is invalid and the hidden state; `q` counts the
encoder's quadrature errors in the period. -/
def State.sourceAngle (s : State) (c : Nat) (m : PwmSample) (q : Nat) : Nat × Bool × Motor :=
  let x := s.motor c
  if s.on (F.MOT_C_STATUS_FBSLS c) then (m.angle.toNat, false, x)
  else match s.f (F.MOT_C_CTL_SENSE c) with
    | 0 => (s.hallAngle c x, x.hall = 0 || x.hall = 7, x)
    | 1 => (s.encAngle c x.enc.count, decide (q ≠ 0), x)
    | _ =>
      if s.f (F.MOT_C_STATUS_STATE c) = Mot.STARTING then
        let w := x.revs * s.rampStep c
        let o := (x.open_ + w) % 2 ^ 48
        (o / 2 ^ 32, false, { x with open_ := o, revs := x.revs + 1 })
      else (m.angle.toNat, false, x)

/-- Boundaries of 60 degrees that an angle crosses on its way by d. -/
def crossings (angle : Nat) (d : Int) : Nat := (((angle : Int) + d) * 6 / 65536 - (angle : Int) * 6 / 65536).natAbs

/-- The angle in use moves (R343): POS accumulates it, SPEED is the mean of 16 increments, crossings of 60 degrees are commutation
events. The first angle after an enable forms no increment (DESIGN CHOICE, log entry 69). -/
def State.moveAngle (s : State) (c angle : Nat) : State :=
  let x := s.motor c
  if !x.inStep then (s.setMotor c { x with inStep := true }).setF (F.MOT_C_ANGLE c) angle
  else
    let old := s.f (F.MOT_C_ANGLE c)
    let d := sx 16 (ux 16 ((angle : Int) - old))
    let incs := (d :: x.incs).take 16
    let sum := incs.foldl (fun a b => a + b) 0
    let speed := sum * 60 * 75000000 / (65536 * (s.poles c : Int) * s.pwmPer c)
    let k := crossings old d
    let s := s.setMotor c { x with
      inc := d, incs := incs, comms := x.comms + k, lockFrom := if k = 0 then x.lockFrom else x.lockFrom.map fun _ => s.time }
    let s := s.tally (0x200 + c) k
    let p := s.pairS (F.MOT_C_POS_HI c) (F.MOT_C_POS_LO c) + d
    (s.setPairS (F.MOT_C_POS_HI c) (F.MOT_C_POS_LO c) p).setFs [(F.MOT_C_ANGLE c, angle), (F.MOT_C_SPEED c, ux 32 speed)]

/-- R344: the angle of the period, extrapolated where its sample is invalid; the second invalid sample in a row is a lasting fault. -/
def State.angleStep (s : State) (c : Nat) (m : PwmSample) (q : Nat) : State :=
  let (angle, bad, y) := s.sourceAngle c m q
  let was := (s.motor c).badA
  let s := s.setMotor c { y with badA := bad && !was }
  if bad then
    if was then
      let s := s.logRetry 2 EV.MOT_COMM_LOST c
      if s.on (F.MOT_C_CTL_SLS_FB c) && decide (s.f (F.MOT_C_SLS_SLS_VMIN c) * 16 ≤ (s.fs (F.MOT_C_SPEED c)).natAbs) then
        ((s.setF (F.MOT_C_STATUS_FBSLS c) 1).raise EV.MOT_COMM_SWITCH c).moveAngle c m.angle.toNat
      else s.motorTrip c (F.MOT_C_STATUS_COMM_LOST c) EV.MOT_COMM_LOST
    else s.moveAngle c (((s.f (F.MOT_C_ANGLE c) : Int) + y.inc) % 65536).toNat
  else
    let s := if was then (s.tally 0x211 1).logRetry 1 EV.MOT_COMM_LOST c else s
    s.moveAngle c angle

/-- R343: a sensorless start ends when the estimate has stayed at or above SLS_VMIN for 16 electrical revolutions; the periods of one
revolution at that speed are counted. -/
def State.slsTaken (s : State) (c : Nat) (m : PwmSample) : State :=
  if s.f (F.MOT_C_STATUS_STATE c) = Mot.STARTING then
    let x := s.motor c
    let v := m.speed.toInt.natAbs
    if v < s.f (F.MOT_C_SLS_SLS_VMIN c) * 16 ∨ v = 0 then s.setMotor c { x with sdiv := 0 }
    else
      let turned := x.sdiv + v * s.poles c * s.pwmPer c
      if 16 * 16 * 60 * 75000000 ≤ turned then (s.setMotor c { x with sdiv := 0 }).setF (F.MOT_C_STATUS_STATE c) Mot.RUNNING
      else s.setMotor c { x with sdiv := turned }
  else s

/-! ## Currents and laws (R340, R341, R345) -/

/-- ID and IQ of R341 from two phase currents at an angle, amplitude kept (log entry 23). -/
def park (iu iv : Int) (angle : Nat) : Int × Int :=
  let al := iu * 2 ^ 30
  let be := (iu + 2 * iv) * 619925131
  let c := cos16 angle
  let sn := sin16 angle
  (satS 16 ((al * c + be * sn) / 2 ^ 90), satS 16 ((be * c - al * sn) / 2 ^ 90))

/-- The current commands of the period: TORQUE takes ICMD, SPEED the PI law's IQ, a sensorless start ISTART; limited to ±ILIM, and
under REGLIM so that IQ times speed is not negative (R345, R351). -/
def State.currentCmd (s : State) (c : Nat) : Int × Int × State :=
  let lim : Int := s.f (F.MOT_C_LIM_ILIM c)
  let x := s.motor c
  let speed := s.fs (F.MOT_C_SPEED c)
  let guard (iq : Int) : Int := if s.on (F.MOT_C_STATUS_REGLIM c) ∧ iq * speed < 0 then 0 else iq
  if s.f (F.MOT_C_STATUS_STATE c) = Mot.STARTING then (0, guard (clampI (-lim) lim (sx 16 (s.f (F.MOT_C_ISTART c)))), s)
  else if s.f (F.MOT_C_CTL_MODE c) = 2 then
    let x := if x.sdiv = 0 then
        let m : Int := s.f (F.MOT_C_SPDMAX c)
        let e := clampI (-m) m (s.fs (F.MOT_C_SPD c)) - speed
        let sum := clampI (-lim * 16) (lim * 16) (x.intS + e * s.f (F.MOT_C_SGAIN_SKI c))
        { x with intS := sum, iq := clampI (-lim) lim ((e * s.f (F.MOT_C_SGAIN_SKP c) + sum) / 16), sdiv := s.f (F.MOT_C_SGAIN_SDIV c) }
      else { x with sdiv := x.sdiv - 1 }
    (0, guard x.iq, s.setMotor c x)
  else (clampI (-lim) lim (s.fs (F.MOT_C_ICMD_ID c)), guard (clampI (-lim) lim (s.fs (F.MOT_C_ICMD_IQ c))), s)

/-- The PI laws of the current loop for commanded currents (R342): their integrators hold while VCLAMP is set. -/
def State.currentLoop (s : State) (c : Nat) (id iq : Int) : State :=
  let x := s.motor c
  let ed := id - s.fs (F.MOT_C_ID c)
  let eq := iq - s.fs (F.MOT_C_IQ c)
  let ki : Int := s.f (F.MOT_C_CGAIN_CKI c)
  let kp : Int := s.f (F.MOT_C_CGAIN_CKP c)
  let held := s.on (F.MOT_C_STATUS_VCLAMP c)
  let sd := if held then x.intD else x.intD + ed * ki
  let sq := if held then x.intQ else x.intQ + eq * ki
  let s := s.setMotor c { x with intD := sd, intQ := sq }
  s.applyV c (clampV (s.f (F.MOT_C_CTL_OVM c)) ((ed * kp + sd) / 256) ((eq * kp + sq) / 256))

/-- The voltage vector of the period (R342, R345): VCMD in VOLT mode, else the PI laws. -/
def State.loopsRun (s : State) (c : Nat) : State :=
  if decide (s.f (F.MOT_C_CTL_MODE c) = 0) && !decide (s.f (F.MOT_C_STATUS_STATE c) = Mot.STARTING) then s.voltMode c
  else
    let p := s.currentCmd c
    p.2.2.currentLoop c p.1 p.2.1

/-- Whether any phase current's magnitude exceeds IMAX (R341). -/
def State.overcurrent (s : State) (c : Nat) (iu iv : Int) : Bool :=
  let lim := s.f (F.MOT_C_LIM_IMAX c)
  decide (lim < iu.natAbs) || decide (lim < iv.natAbs) || decide (lim < (iu + iv).natAbs)

/-- The current sample of the period (R340, R341): a stuck input makes it invalid, and the next period's is its one retry. -/
def State.currentStep (s : State) (c : Nat) : State :=
  let x := s.motor c
  if x.su.stuck || x.sv.stuck then
    if x.badI then ((s.setMotor c { x with badI := false }).logRetry 2 EV.MOT_ISENSE_TRANSIENT c).motorTrip c (F.MOT_C_STATUS_ISENSE_LOST c) EV.MOT_ISENSE_LOST
    else s.setMotor c { x with badI := true }
  else
    let s := if x.badI then (((s.setMotor c { x with badI := false }).tally 0x211 1).logRetry 1 EV.MOT_ISENSE_TRANSIENT c).raise EV.MOT_ISENSE_TRANSIENT c else s
    if s.overcurrent c x.su.out x.sv.out then
      if 1 ≤ x.excess then s.overcurrentTrip c else s.setMotor c { s.motor c with excess := 1 }
    else s.setMotor c { s.motor c with excess := 0 }

/-- ID and IQ of a valid sample at the angle in use (R341): phase W is -U - V, and DIR exchanges V and W. -/
def State.parkStep (s : State) (c : Nat) : State :=
  let x := s.motor c
  let v := if s.on (F.MOT_C_CTL_DIR c) then -x.su.out - x.sv.out else x.sv.out
  let dq := park x.su.out v (s.f (F.MOT_C_ANGLE c))
  s.setFs [(F.MOT_C_ID c, ux 32 dq.1), (F.MOT_C_IQ c, ux 32 dq.2)]

/-- Whether a channel follows an angle: in catch-spin only a sensored one does (R348). -/
def State.followsAngle (s : State) (c : Nat) : Bool := s.motorTurns c || decide (s.f (F.MOT_C_CTL_SENSE c) ≠ 2)

/-- The laws of the period act on a valid current sample, and an invalid one repeats the compare values (R340). -/
def State.lawsStep (s : State) (c : Nat) (m : PwmSample) : State :=
  if s.motorTurns c then
    let s := s.slsTaken c m
    if (s.motor c).badI then s.repeatLegs c else s.loopsRun c
  else s

/-- R338–R345: the next period boundary, 8 * PER ticks after the last (75 MHz / PER at 600 MHz). A trip ends the period. -/
def execPwmPeriod (c : Fin 12) (m : PwmSample) (s : State) : Out :=
  let n := c.val
  if s.on (F.MOT_C_CTL_EN n) then
    let s := s.advanceTo ((s.motor n).last + 8 * s.pwmPer n)
    let (x, q) := s.pwmInputs n m
    let s := (s.setMotor n { x with last := s.time }).currentStep n
    if s.on (F.MOT_C_CTL_EN n) then
      let s := if s.followsAngle n then s.angleStep n m q else s
      if s.on (F.MOT_C_CTL_EN n) then
        let s := if (s.motor n).badI then s else s.parkStep n
        let s := (s.lockTime n).lawsStep n m
        .next (s.setMotor n { s.motor n with su := (s.motor n).su.taken, sv := (s.motor n).sv.taken })
      else .next s
    else .next s
  else .next s

/-! ## Brake choppers (R340, R350–R352) -/

/-- DRVEN[b] is high while the register set is written and BUS_OV is 0 (R352); after G4 it stays low (R398). The set counts as written once
each of its three writable registers has been (DESIGN CHOICE, log entry 70). -/
def State.setDrven (s : State) (b : Nat) : State :=
  s.setB (F.MOT_BK_STATUS_DRVEN b) (decide ((s.busOf b).written = 7) && !s.on (F.MOT_BK_STATUS_BUS_OV b) && !s.on F.EVT_GONG_G4)

/-- Chopper register k of a bus (0 CTL, 1 VON, 2 VHARD) has been written. -/
def State.busWritten (s : State) (b k : Nat) : State :=
  (s.setBus b { s.busOf b with written := (s.busOf b).written ||| BitVec.ofNat 3 (2 ^ k) }).setDrven b

/-- R352: overvoltage; every channel on the bus coasts. -/
def State.busOv (s : State) (b : Nat) : State :=
  let s := s.eachOnBus b fun c s => if s.on (F.MOT_C_CTL_EN c) then s.motorOff c else s
  ((s.setF (F.MOT_BK_STATUS_BUS_OV b) 1).setDrven b).raise EV.BUS_OV b

/-- Every channel on a bus sets REGLIM (R350, R351). -/
def State.regLimit (s : State) (b : Nat) : State := s.eachOnBus b fun c s => s.setF (F.MOT_C_STATUS_REGLIM c) 1

/-- The chopper switch turns on or off at a tick (R350, R351); after G4 it stays off (R398). -/
def State.chopper (s : State) (b : Nat) (on : Bool) (t : Nat) : State :=
  let on := on && !s.on F.EVT_GONG_G4
  let was := s.on (F.MOT_BK_STATUS_BRK_ON b)
  let s := s.setB (F.MOT_BK_STATUS_BRK_ON b) on
  if on && !was then s.setBus b { s.busOf b with checkAt := some t, second := false, seen := false }
  else if on then s
  else (if (s.busOf b).second && (s.busOf b).checkAt.isSome then s.logRetry 3 EV.BRK_TRANSIENT b else s).setBus b
    { s.busOf b with checkAt := none, second := false }

/-- What a write of MOT_BKb_CTL does to the switch and to the channels (R350): without a chopper the switch is off and every enabled channel
on the bus is held under REGLIM. -/
def State.chopperFitted (s : State) (b : Nat) : State :=
  if s.on (F.MOT_BK_CTL_EN b) then s
  else (s.chopper b false s.time).eachOnBus b fun c s => if s.on (F.MOT_C_CTL_EN c) then s.setF (F.MOT_C_STATUS_REGLIM c) 1 else s

/-- The switch follows VBUS (R350). -/
def State.chopperRule (s : State) (b v t : Nat) : State :=
  if s.on (F.MOT_BK_CTL_EN b) then
    if s.f (F.MOT_BK_VON_VON b) ≤ v then s.chopper b true t else if v ≤ s.f (F.MOT_BK_VON_VOFF b) then s.chopper b false t else s
  else s.chopper b false t

/-- Current seen within the check window closes it (R351). -/
def State.brakeCurrent (s : State) (b t : Nat) : State :=
  let y := s.busOf b
  match y.checkAt with
  | some w =>
    if decide (s.f (F.MOT_BK_VHARD_IMIN b) ≤ y.si.out) && decide (t ≤ w + s.f (F.MOT_BK_CTL_CHK b) * 600) then
      let t := s.setBus b { y with seen := true, checkAt := none, second := false }
      if y.second then (t.logRetry 1 EV.BRK_TRANSIENT b).raise EV.BRK_TRANSIENT b else t
    else s
  | none => s

/-- The second output in a row at or above VHARD is an overvoltage (R352). -/
def State.hardRule (s : State) (b v : Nat) : State :=
  if s.f (F.MOT_BK_VHARD_VHARD b) ≤ v then
    let k := (s.busOf b).high + 1
    let s := s.setBus b { s.busOf b with high := k }
    if k = 2 then s.busOv b else s
  else s.setBus b { s.busOf b with high := 0 }

/-- A valid sinc3 output of BKb_V, Q15 of FS (R350–R352). -/
def State.busVolts (s : State) (b : Nat) (raw : Int) (t : Nat) : State :=
  let v := (maxI 0 (raw * s.f (F.MOT_BK_CTL_FS b) * 10 / 32768)).toNat
  let s := s.setF (F.MOT_BK_VBUS b) v
  let s := s.brakeCurrent b t
  (s.chopperRule b v t).hardRule b v

/-- A sinc3 output of BKb_V completes at a tick (R339, R340, R350): a stuck input makes it invalid, and the next output is the one
retry. -/
def State.busOutput (s : State) (b t : Nat) : State :=
  let x := s.busOf b
  let s := if s.on (F.MOT_BK_STATUS_BRK_ON b) then s.tallyUnits (0x20C + b) (t - x.sampleAt) 600 else s
  let s := s.setBus b { x with sampleAt := t, sv := x.sv.taken, retry := false }
  if x.sv.stuck then
    if x.retry then (s.logRetry 2 EV.MOT_ISENSE_TRANSIENT b).busOv b else s.setBus b { s.busOf b with retry := true }
  else
    let s := if x.retry then ((s.tally 0x211 1).logRetry 1 EV.MOT_ISENSE_TRANSIENT b).raise EV.MOT_ISENSE_TRANSIENT b else s
    s.busVolts b x.sv.out t

/-- One modulator clock of BKb_V and BKb_I. -/
def State.busBit (s : State) (b t : Nat) (p : Bool × Bool) : State :=
  let x := s.busOf b
  let v := x.sv.step s.osr p.1
  let s := s.setBus b { x with sv := v.1, si := (x.si.step s.osr p.2).1 }
  if v.2 then s.busOutput b t else s

/-- Modulator clocks of a bus, oldest first, `dt` ticks apart, the last of them now. -/
def State.busBits (b dt : Nat) : List (Bool × Bool) → State → State
  | [], s => s
  | p :: r, s => (s.busBit b (s.time - dt * r.length) p).busBits b dt r

/-- R339, R340, R350–R352: bits of BKb_V and BKb_I, oldest first, one each SDCLK period of 8 * (SDDIV + 1) ticks; every output they complete
is evaluated. -/
def execBusVoltageSample (b : Fin 4) (bits : List (Bool × Bool)) (s : State) : Out :=
  .next (s.busBits b.val (8 * (s.f F.MOT_SD_CTL_SDDIV + 1)) bits)

/-- R351: a check window of CHK microseconds ends without current. -/
def execBrakeCheckEnd (b : Fin 4) (s : State) : Out :=
  let n := b.val
  let x := s.busOf n
  match x.checkAt with
  | some t =>
    let s := s.advanceTo (t + s.f (F.MOT_BK_CTL_CHK n) * 600)
    if x.second then
      let s := ((s.setBus n { x with checkAt := none, second := false }).logRetry 2 EV.BRK_TRANSIENT n).regLimit n
      .next ((s.setF (F.MOT_BK_STATUS_BRK_FAULT n) 1).raise EV.BRK_FAULT n)
    else .next (s.setBus n { x with checkAt := some s.time, second := true })
  | none => .next s

/-- R351: a 1 written to BRK_FAULT; it clears only while the chopper's EN is 0, and REGLIM with it on every channel that R350 does not go on
holding for want of a chopper: those not enabled. -/
def execBrkFaultClear (b : Fin 4) (s : State) : Out :=
  let n := b.val
  if s.on (F.MOT_BK_CTL_EN n) then .next s
  else .next ((s.setF (F.MOT_BK_STATUS_BRK_FAULT n) 0).eachOnBus n fun c s => s.setB (F.MOT_C_STATUS_REGLIM c) (s.on (F.MOT_C_CTL_EN c)))

/-- R352: a 1 written to BUS_OV; ignored while VBUS is at or above VOFF. -/
def execBusOvClear (b : Fin 4) (s : State) : Out :=
  let n := b.val
  if s.f (F.MOT_BK_VON_VOFF n) ≤ s.f (F.MOT_BK_VBUS n) then .next s
  else .next ((s.setF (F.MOT_BK_STATUS_BUS_OV n) 0).setDrven n)

/-! ## OUTPUT ports (R265, R327, R346) -/

/-- A value emitted to an OUTPUT target: a channel's field, or a stepper's IRUN, whose 12 low bits it replaces. -/
def State.output (s : State) (target : Nat) (v : Word) : State :=
  let s := { s with outs := tput 0 s.outs target v.toInt }
  let c := target / 4
  if c < 12 then
    match target % 4 with
    | 0 => s.setF (F.MOT_C_VCMD_VQ c) v.toNat
    | 1 => s.setF (F.MOT_C_VCMD_VD c) v.toNat
    | 2 => s.setF (F.MOT_C_ICMD_IQ c) v.toNat
    | _ => s.setF (F.MOT_C_SPD c) v.toNat
  else if 0x100 ≤ target ∧ target < 0x10C then
    s.setF (F.STP_CUR_IRUN (target - 0x100)) (v.toNat % 4096)
  else s

end Sys2Proof.Machine
end

