-- ==== Sys2Proof/Machine/Thermal.lean ====
section
/-!
DEFINITION. Housekeeping channels, broken sensors, levels and throttling (R356–R375).
-/
namespace Sys2Proof.Machine

/-! ## Readings (R356, R357) -/

/-- Bits of the base-2 logarithm of a mantissa in [2^62, 2^63), from the highest. -/
def logBits : Nat → Nat → Nat
  | 0, _ => 0
  | k + 1, m =>
    let q := m * m / 2 ^ 62
    if 2 ^ 63 ≤ q then 2 ^ k + logBits k (q / 2) else logBits k q

/-- The number of the highest set bit of x below 2^k. -/
def topBit (x : Nat) : Nat → Nat
  | 0 => 0
  | k + 1 => if 2 ^ k ≤ x then k else topBit x k

/-- The base-2 logarithm of a number from 1 to 4,095, 48 fraction bits. -/
def log2Fix (x : Nat) : Nat := topBit x 12 * 2 ^ 48 + logBits 48 (x * 2 ^ (62 - topBit x 12))

/-- The natural logarithm of c / (4095 - c), 48 fraction bits. -/
def lnRatio (c : Nat) : Int := ((log2Fix c : Int) - log2Fix (4095 - c)) * 195103586505167 / 2 ^ 48

/-- R357: a thermistor code as a temperature in 1/8 °C; none where the formula gives no temperature. -/
def thermistor (c beta : Nat) : Option Int :=
  let den : Int := 100 * beta * 2 ^ 48 + 29815 * lnRatio c
  let num : Int := 29815 * beta * 2 ^ 48
  if 0 < den ∧ 0 < c ∧ c < 4095 ∧ 0 < beta then some (satS 16 (roundDiv (40 * num - 10926 * den) (5 * den))) else none

/-- A remote diode's reading (R356): the temperature an ideal diode would have had, divided as an absolute temperature by the ideality factor
in PARAM (PRESUMED, log entry 72: the law of the diode; with PARAM 0 the reading is open). -/
def diodeReading (value : Int) (param : Nat) : Option Int :=
  if param = 0 then none else some (satS 16 (roundDiv ((10 * value + 21852) * 16384 - 21852 * param) (10 * param)))

/-- Ticks between samples of a channel (R356, R358). -/
def State.hkInterval (s : State) (x : Nat) : Nat :=
  if s.on F.HK_STATUS_MODE then (if x < 12 then 30000 else if x < 44 then 120000 else 12000) else 6000000

/-- Whether a channel's sample is valid (R360): the converter's own check, and a thermistor code between its bounds. -/
def hkValid (x raw : Nat) (ok : Bool) : Bool :=
  if 44 ≤ x then true else if 28 ≤ x then decide (5 < raw) && decide (raw < 4090) else ok

/-! ## Zones and broken channels (R360–R365) -/

/-- A zone's channels among the first n that satisfy a test. -/
def State.zoneHas (s : State) (z : Nat) (p : Nat → Bool) : Bool :=
  (upFrom 0 44).any fun x => s.on (F.HK_CH_CFG_EN x) && decide (s.f (F.HK_CH_CFG_ZONE x) = z) && p x

/-- A zone's level (R365). -/
def State.zoneLevel (s : State) (z : Nat) : Nat :=
  (upFrom 0 44).foldl (fun a x =>
    if s.on (F.HK_CH_CFG_EN x) ∧ s.f (F.HK_CH_CFG_ZONE x) = z then max a (s.f (F.HK_CH_STATUS_LEVEL x)) else a) 0

/-- HK_ZONE_LVL follows the channels. -/
def State.showZones (s : State) : State :=
  s.setF F.HK_ZONE_LVL ((upFrom 0 16).foldl (fun a z => a + s.zoneLevel z * 4 ^ z) 0)

/-- LEVEL shows the highest level entered. -/
def levelOf3 (inside : Nat) : Nat := if bitOf inside 2 then 3 else if bitOf inside 1 then 2 else if bitOf inside 0 then 1 else 0

/-- The levels of a channel change: ENTERED, HK_STATUS.CRIT, counters and one event per entry (R365). -/
def State.setInside (s : State) (x inside : Nat) : State :=
  let was := (s.hkCh x).inside
  let s := (s.setHk x { s.hkCh x with inside := inside }).setF (F.HK_CH_STATUS_LEVEL x) (levelOf3 inside)
  let s := s.showZones
  let enter (i : Nat) (s : State) : State :=
    if bitOf inside i && !bitOf was i then
      let s := (s.setF (F.HK_CH_STATUS_ENTERED x) 1).tally (0x224 + i) 1
      let s := if i = 2 then s.setF F.HK_STATUS_CRIT 1 else s
      s.raise (EV.HK_WARN + i) x
    else s
  enter 2 (enter 1 (enter 0 s))

/-- Fuser zones that an enabled zone's thermistor names (R222). -/
def State.fuserOf (s : State) (x : Nat) : List Nat :=
  [0, 1].filter fun z => s.on (F.EPS_FZ_CTL_EN z) && decide (x = 28 + s.f (F.EPS_FZ_CTL_TH z))

/-- Set or clear channel x's bit in HK_BROKEN (R360). -/
def State.setBroken (s : State) (x : Nat) (b : Bool) : State :=
  let s := s.setB (F.HK_CH_STATUS_BROKEN x) b
  if x < 32 then s.setBitF F.HK_BROKEN_LO x b else s.setBitF F.HK_BROKEN_HI (x - 32) b

/-- Whether a throttling zone holds a channel that satisfies a test (R369). -/
def State.throttlers (s : State) (p : Nat → Bool) : Bool :=
  (upFrom 0 16).any fun z => bitOf (s.f F.HK_CTL_TZONES) z && s.zoneHas z p

/-- THERM and DEFER clear when A equals D (R371). -/
def State.throttleMet (s : State) : State :=
  if s.f F.HK_THLIM_A = s.f F.HK_THLIM_D then s.setFs [(F.WEB_SLOWDOWN_THERM, 0), (F.HK_STATUS_DEFER, 0)] else s

/-- R370: A falls to a lower D at once. -/
def State.throttleDown (s : State) : State :=
  if s.f F.HK_THLIM_D < s.f F.HK_THLIM_A then s.setF F.HK_THLIM_A (s.f F.HK_THLIM_D) |>.throttleMet else s.throttleMet

/-- R369: a broken channel of a throttling zone holds D at MAXSTEP. -/
def State.holdDemand (s : State) : State :=
  if s.throttlers fun x => s.on (F.HK_CH_STATUS_BROKEN x) then (s.setF F.HK_THLIM_D (s.f F.HK_THROT_MAXSTEP)).throttleDown else s

/-- A channel is declared broken (R360, R362, R363). -/
def State.breakSensor (s : State) (x : Nat) : State :=
  let z := s.f (F.HK_CH_CFG_ZONE x)
  let second := s.zoneHas z fun y => decide (y ≠ x) && s.on (F.HK_CH_STATUS_BROKEN y)
  let s := (s.setBroken x true).setFs [(F.HK_STATUS_BROKEN, 1), (F.HK_CH_TEMP_VALUE x, 0x07D0)]
  let s := (s.tally 0x223 1).logRetry 2 EV.HK_SENSOR_TRANSIENT x
  let s := s.setInside x ((s.hkCh x).inside ||| 3)
  let s := s.raise EV.HK_SENSOR_BROKEN x
  let s := if second then s.raise EV.HK_ZONE_BLIND x else s
  let fz := s.fuserOf x
  let s := fz.foldl (fun s k => ((s.setFs [(F.EPS_FZ_STATUS_SENS_BAD k, 1), (F.EPS_FZ_STATUS_IN_BAND k, 0), (F.EPS_FZ_TEMP k, 0x07D0)]).fuserOff k).raise
    EV.FUSER_SENSOR k) s
  let s := if s.on (F.HK_CH_CFG_GUARD x) && fz.isEmpty then s.raise EV.HK_GUARD_LOST x else s
  s.holdDemand

/-! ## Levels (R364, R367) -/

/-- The threshold of level i in 1/8 °C. -/
def State.hkThr (s : State) (x i : Nat) : Int :=
  8 * s.fs (if i = 0 then F.HK_CH_THR_WARN x else if i = 1 then F.HK_CH_THR_THROT x else F.HK_CH_THR_CRIT x)

/-- The counts toward entering and leaving level i with a reading. -/
def State.hkCount (s : State) (x : Nat) (t : Int) (i : Nat) : Nat × Nat :=
  let y := s.hkCh x
  let thr := s.hkThr x i
  (if thr < t then nthD 0 y.enter i + 1 else 0, if t < thr - 8 * s.f (F.HK_CH_CFG_HYST x) then nthD 0 y.leave i + 1 else 0)

/-- The levels a channel stands in after its counts: entering one enters those below it. -/
def insideAfter (n : Nat) (counts : List (Nat × Nat)) (was : Nat) : Nat :=
  let enters (i : Nat) : Bool := decide (n ≤ (nthD (0, 0) counts i).1)
  let leaves (i : Nat) : Bool := decide (n ≤ (nthD (0, 0) counts i).2)
  let stays (i : Nat) : Bool := bitOf was i && !leaves i
  b2n (stays 0 || enters 0 || enters 1 || enters 2) + 2 * b2n (stays 1 || enters 1 || enters 2) + 4 * b2n (stays 2 || enters 2)

/-- R427: a fall of 40 °C after a rise of 40 °C of an on-die channel counts one thermal cycle. -/
def State.thermalCycle (s : State) (x : Nat) (t : Int) : State :=
  let y := s.hkCh x
  let e := y.ext.getD t
  if 12 ≤ x then s
  else if y.risen then
    if t + 320 ≤ e then (s.setHk x { y with risen := false, ext := some t }).lived (0x50 + x) 1
    else s.setHk x { y with ext := some (maxI e t) }
  else if e + 320 ≤ t then s.setHk x { y with risen := true, ext := some t }
  else s.setHk x { y with ext := some (if t < e then t else e) }

/-- A valid reading of a temperature channel (R364, R366, R367). -/
def State.hkReading (s : State) (x : Nat) (t : Int) : State :=
  let s := s.thermalCycle x t
  let s := s.setF (F.HK_CH_TEMP_VALUE x) (ux 16 t)
  let n := max 1 (s.f (F.HK_CH_CFG_DWELL x))
  let counts := [0, 1, 2].map (s.hkCount x t)
  let y := s.hkCh x
  let inside := insideAfter n counts y.inside
  let s := s.setHk x { y with enter := counts.map (·.1), leave := counts.map (·.2) }
  let s := s.setInside x inside
  [0, 1].foldl (fun (s : State) z => if x = 28 + s.f (F.EPS_FZ_CTL_TH z) then
      let d := (t - s.fs (F.EPS_FZ_CTL_SETPT z)).natAbs
      let s := s.setFs [(F.EPS_FZ_TEMP z, ux 16 t), (F.EPS_FZ_STATUS_IN_BAND z, b2n (decide (d ≤ 8 * s.f (F.EPS_FZ_CTL_BAND z))))]
      if s.fuserHeld z then s.fuserOff z else s
    else s) s

/-- R367: the shutdown of an on-die channel sees every sample of it; two valid ones in a row above 140 °C raise EV_HK_TSD. No register gates
it: neither EN nor a broken state does. -/
def State.shutdownPath (s : State) (x : Nat) (t : Option Int) : State :=
  if x < 12 then
    let hot := match t with
      | some t => if 1120 < t then (s.hkCh x).hot + 1 else 0
      | none => 0
    let s := s.setHk x { s.hkCh x with hot := hot }
    if hot = 2 then ((s.setF F.HK_STATUS_TSD 1).tally 0x227 1).raise EV.HK_TSD x else s
  else s

/-- R358: SERVICE, once ANA is powered and every enabled channel has given a valid slow sample, outside recovery mode. -/
def State.toService (s : State) : State :=
  if !s.on F.HK_STATUS_MODE && s.powered 11 && decide (s.f F.MBX_STATUS_MODE ≠ 2)
      && (upFrom 0 60).all fun x => !s.on (F.HK_CH_CFG_EN x) || (s.hkCh x).slowOk then
    s.setFs [(F.HK_STATUS_MODE, 1), (F.HK_CTL_TEST, 0)]
  else s

/-- Sampling of a channel ends (R375): its levels and its broken state stay, a retry it awaited ends UNRESOLVED (R392), and its zone counts it
no more (DESIGN CHOICE, log entry 71). -/
def State.hkOff (s : State) (x : Nat) : State :=
  let y := s.hkCh x
  let s := if y.retry then s.logRetry 3 EV.HK_SENSOR_TRANSIENT x else s
  ((s.setHk x { y with retry := false }).setF (F.HK_CH_CFG_EN x) 0).showZones

/-- Sampling of a channel begins anew: its counts start at zero (log entry 71). -/
def State.hkOn (s : State) (x : Nat) : State :=
  let y := s.hkCh x
  let z : HkCh := { HkCh.reset with last := s.time, inside := y.inside, hot := y.hot, risen := y.risen, ext := y.ext }
  (((s.setHk x z).setF (F.HK_CH_CFG_EN x) 1).showZones).holdDemand

/-- R358: back to SLOW. -/
def State.toSlow (s : State) : State :=
  forBelow 60 (fun x s => s.setHk x { s.hkCh x with slowOk := false }) (s.setF F.HK_STATUS_MODE 0)

/-- R360, R361: an invalid sample is withheld; a second in a row is the lasting fault, and it restarts a re-qualification. -/
def State.hkInvalid (s : State) (x : Nat) : State :=
  let y := s.hkCh x
  if s.on (F.HK_CH_STATUS_BROKEN x) then s.setHk x { y with requal := 0 }
  else if y.retry then (s.setHk x { y with retry := false }).breakSensor x
  else s.setHk x { y with retry := true }

/-- A valid sample: a transient's retry, or a step of the re-qualification of a broken channel (R360, R361). -/
def State.hkGood (s : State) (x : Nat) (t : Int) : State :=
  let y := s.hkCh x
  let s := s.setHk x { y with slowOk := true }
  if s.on (F.HK_CH_STATUS_BROKEN x) then
    if s.on (F.HK_CH_STATUS_REQUAL x) then
      if 15 ≤ y.requal then
        ((s.setHk x { s.hkCh x with requal := 0 }).setBroken x false).setF (F.HK_CH_STATUS_REQUAL x) 0 |>.hkReading x t
      else s.setHk x { s.hkCh x with requal := y.requal + 1 }
    else s
  else
    let s := if y.retry then
        (((((s.setHk x { s.hkCh x with retry := false }).addF (F.HK_CH_STATUS_TRANS x) 1).tally 0x222 1).logRetry 1 EV.HK_SENSOR_TRANSIENT x).raise EV.HK_SENSOR_TRANSIENT x)
      else s
    s.hkReading x t

/-- The reading that a valid sample of a temperature channel gives (R356, R357); a free value where the spec gives none. `value` is what the
converter of an on-die sensor or a remote diode gives, in 1/8 °C. -/
def State.hkValue (s : State) (x raw : Nat) (value : Int) : Int × State :=
  let p := s.f (F.HK_CH_CFG_PARAM x)
  match if x < 12 then some value else if x < 28 then diodeReading value p else thermistor raw p with
  | some t => (t, s)
  | none => (sx 16 s.freeNow.toNat, s.draw)

/-- R356–R366: a sample of an enabled channel. -/
def State.hkSampled (s : State) (x raw : Nat) (value : Int) (ok : Bool) : State :=
  let s := s.setF (F.HK_CH_TEMP_RAW x) raw
  if 44 ≤ x then ((s.setF (F.HK_CH_TEMP_VALUE x) raw).setHk x { s.hkCh x with slowOk := true }).toService
  else if hkValid x raw ok then
    let r := s.hkValue x raw value
    (r.2.hkGood x r.1).toService
  else s.hkInvalid x

/-- R356–R367: a channel's next sample: the converter's code, the reading of an on-die sensor or a remote diode in 1/8 °C, and `ok` the
result of its check. -/
def execHkSample (x : Fin 60) (raw : BitVec 12) (value : BitVec 16) (ok : Bool) (s : State) : Out :=
  let n := x.val
  if s.on (F.HK_CH_CFG_EN n) || decide (n < 12) then
    let s := s.advanceTo ((s.hkCh n).last + s.hkInterval n)
    let s := (s.setHk n { s.hkCh n with last := s.time }).shutdownPath n (if ok then some value.toInt else none)
    .next (if s.on (F.HK_CH_CFG_EN n) then s.hkSampled n raw.toNat value.toInt ok else s)
  else .next s

/-- R361: REQUAL of a broken channel. -/
def execHkRequal (x : Fin 60) (s : State) : Out :=
  if s.on (F.HK_CH_STATUS_BROKEN x.val) then
    .next ((s.setF (F.HK_CH_STATUS_REQUAL x.val) 1).setHk x.val { s.hkCh x.val with requal := 0 })
  else .next s

/-- R358: HK_CTL.TEST; ignored and counted while a station is armed. -/
def execHkTest (s : State) : Out :=
  if s.anyArmed then .next (s.flam F.HK_FLAM_COUNT 1) else .next ((s.setF F.HK_CTL_TEST 1).toSlow)

/-! ## Throttling (R368–R372) -/

/-- The next throttle step is due STEP_INT milliseconds after the last (R369). -/
def State.toStep (s : State) : State :=
  let s := s.advanceTo (s.stepAt + max 1 (s.f F.HK_THROT_STEP_INT) * 600000)
  { s with stepAt := s.time }

/-- R369: every STEP_INT milliseconds D rises or falls by one. -/
def execThrottleDemandStep (s : State) : Out :=
  let s := s.toStep
  let d := s.f F.HK_THLIM_D
  let top := s.f F.HK_THROT_MAXSTEP
  if s.throttlers fun x => s.on (F.HK_CH_STATUS_BROKEN x) then .next ((s.setF F.HK_THLIM_D top).throttleDown)
  else if s.throttlers fun x => decide (2 ≤ s.f (F.HK_CH_STATUS_LEVEL x)) then
    .next ((if d < top then s.setF F.HK_THLIM_D (d + 1) else s).throttleDown)
  else .next ((s.setF F.HK_THLIM_D (d - 1)).throttleDown)

/-- LIMIT, taken at the nearest end outside 128 to 256 (R375). -/
def State.thLimit (s : State) : Nat := min 256 (max 128 (s.f F.HK_THLIM_LIMIT))

/-- Whether station n's projection from the applied step to a step exceeds LIMIT (R370). -/
def State.overProjected (s : State) (step n : Nat) : Bool :=
  s.armed n && decide (s.thLimit * sclkShare step < s.f (F.SCR_DEMAND_RATIO n) * sclkShare (s.f F.HK_THLIM_A))

/-- The next projection check is due a millisecond after the last (R370). -/
def State.toCheck (s : State) : State :=
  let s := s.advanceTo (s.checkAt + 600000)
  { s with checkAt := s.time }

/-- R370, R372: the projection check, once per millisecond. -/
def execThrottleApplyCheck (s : State) : Out :=
  let s := s.toCheck
  let a := s.f F.HK_THLIM_A
  if a < s.f F.HK_THLIM_D then
    if (upFrom 0 8).any (s.overProjected (a + 1)) then .next ((s.setF F.HK_STATUS_DEFER 1).tally 0x221 1)
    else .next (((s.setF F.HK_THLIM_A (a + 1)).setF F.HK_STATUS_DEFER 0).throttleMet)
  else .next s.throttleDown

/-- VMAX_T (R371): the highest web speed, in 0.1 m/min, at which every armed station's projection at step D is at most LIMIT. -/
def State.vmaxT (s : State) : Nat :=
  (upFrom 0 8).foldl (fun v n =>
    if s.armed n ∧ 0 < s.ratio n * s.f (F.SCR_CFG_WIDTH n) then
      min v (s.thLimit * sclkShare (s.f F.HK_THLIM_D) * 256 * 360000000 / (s.ratio n * s.f (F.SCR_CFG_WIDTH n)))
    else v) 65535

/-- R371: a frame boundary of station n while a step is deferred that its projection forbids. -/
def State.thermBoundary (s : State) (n : Nat) : State :=
  if s.on F.HK_STATUS_DEFER && s.overProjected (s.f F.HK_THLIM_A + 1) n then
    let was := s.on F.WEB_SLOWDOWN_THERM
    let s := s.setFs [(F.WEB_SLOWDOWN_THERM, 1), (F.HK_THROT_VMAX_T, s.vmaxT)]
    if was then s else s.raiseX EV.SLOWDOWN_REQ
  else s

end Sys2Proof.Machine
end

