-- ==== Sys2Proof/Machine/Stops.lean ====
section
/-!
DEFINITION. Gong stops, keepalives, host raises and event configuration (R376–R400): the rows of the EVT block.
-/
namespace Sys2Proof.Machine

/-! ## Outputs without their keepalives (R396, R398) -/

/-- Every keepalive static (R396); each that was toggling counts under 0x234. -/
def State.kaAllStatic (s : State) : State :=
  let k := s.f F.EVT_KA_STATUS_HV + countBits (s.f F.EVT_KA_STATUS_LASER) 4 + s.f F.EVT_KA_STATUS_DRIVE +
    s.f F.EVT_KA_STATUS_FUSER + s.f F.EVT_KA_STATUS_AUX
  (s.setFs [(F.EVT_KA_STATUS_HV, 0), (F.EVT_KA_STATUS_LASER, 0), (F.EVT_KA_STATUS_DRIVE, 0), (F.EVT_KA_STATUS_FUSER, 0),
    (F.EVT_KA_STATUS_AUX, 0)]).tally 0x234 k

/-- Every three-phase channel and stepper channel is disabled (R387). -/
def State.drivesOff (s : State) : State :=
  let s := forBelow 12 (fun c s => s.motorOff c) s
  forBelow 12 (fun k s => if s.on (F.STP_CTL_EN k) then s.stepOff k else s) s

/-- The outputs of R398 in their reset states: gates, bridges, brakes and DRVEN low, HV setpoint and fuser outputs low, image lanes and
beam lanes idle. -/
def State.outputsReset (s : State) : State :=
  let s := forBelow 4 (fun b s => (s.chopper b false s.time).setF (F.MOT_BK_STATUS_DRVEN b) 0) s.drivesOff
  let s := forBelow 16 (fun c s => s.setFs [(F.EPS_HV_STATUS_OUT c, 0), (F.EPS_HV_STATUS_RAMPING c, 0)]) s
  let s := forBelow 2 (fun z s => (s.setZone z { s.zone z with ssr := false }).setF (F.EPS_FZ_STATUS_HEAT z) 0) s
  let s := forBelow 18 (fun l s => s.setFs [(F.INK_L_STATUS_UP l, 0), (F.INK_L_STATUS_TBLOCK l, 0)]) s
  forBelow 4 (fun n s => s.setEp n { s.epSt n with lit := false }) s

/-- The ring pointers, the boot count and the press time, the open entries and the ring's last 256, as the keeper saves them in record 11 when
FCLK is lost (R389, R426); their order within the record is the model's (DESIGN CHOICE, log entry 37). -/
def State.saveLedger (s : State) : State :=
  let opens := (s.ledger.filter fun x => !x.spilled).map fun x => x.bytes false (s.openRec x (some Reason.DEVICE_STOP))
  let at_ := toLE (s.f F.CHG_LED_W) 4 ++ toLE (s.f F.CHG_LED_R) 4 ++ toLE (s.f F.CHG_LED_F) 4 ++ toLE s.boots 8 ++ toLE s.time 8
  { s with saved := at_ :: opens ++ s.finals }

/-- R42, R389: FCLK is missing; keepalives low, outputs in their reset states, the ledger to the life store, EV_FCLK_LOST. -/
def execFclkLost (s : State) : Out :=
  let s := (s.setFs [(F.TIME_STATUS_RUNNING, 0)]).stopClocks
  let s := s.kaAllStatic.outputsReset.saveLedger
  .next (s.raiseX EV.FCLK_LOST)

/-! ## The G3 stop (R386, R387) -/

/-- Every pending change set that has not reached every masked station is cancelled by G3 (R246): it leaves the stations that it has
not reached. -/
def State.csStop (s : State) : State :=
  (s.csOrder fun q => decide (s.f (F.CHG_CS_STATE_STATE q) ≠ 0)).foldl (fun s q =>
    let e := s.f (F.CHG_CS_STATE_EPOCH q)
    let ns := (upFrom 0 8).filter fun n => s.csOpen q n
    if ns.isEmpty then s else (ns.foldl (fun s n => s.csLeave n q) s).raise EV.CS_CANCELLED e) s

/-- R386 steps 1 and 2, R22: STOP to every enabled axis out of gear, pending change sets cancelled, the open entries flushed. -/
def execG3Stop (s : State) : Out :=
  if s.gong.g3Want then
    let s := { s with gong := { s.gong with g3Want := false } }
    if s.g4 then .next s
    else
    let s := s.csStop
    let s := forBelow 24 (fun a s => if s.on (F.AXS_A_CTL_EN a) && !s.axisGeared a then s.axCommand a 0 0 else s) s
    .next ((s.flush none).keepalives)
  else .next s

/-- The bound of R387 at the present tick, in 2^-24 web units per tick times 6e8², and the velocity in the same unit. -/
def State.decelOk (s : State) : Bool :=
  let dt : Int := (s.time : Int) - s.gong.g3At
  let k : Int := 600000000 * 600000000
  let bound := s.gong.v0 * k - s.f F.EVT_STOP_DECEL * 10 * dt * 2 ^ 40
  decide (s.webVel * k ≤ maxI 0 bound)

/-- The tick from which R387 checks. -/
def State.graceEnd (s : State) : Nat := s.gong.g3At + s.f F.EVT_STOP_GRACE * 600000

/-- EV_STOP_ENFORCED (R387, R400). -/
def State.enforced (s : State) (cause : Nat) : State := (s.setF F.EVT_GONG_ENFORCED 1).raise EV.STOP_ENFORCED cause

/-- R387: the check of an observer period from GRACE on; the first that fails gives QSTOP to the axes of EVT_STOP_AXES. -/
def execDecelCheck (s : State) : Out :=
  if s.on F.EVT_GONG_G3 && decide (s.f F.EVT_STOP_DECEL ≠ 0) && !s.gong.failed then
    let s := s.advanceTo s.graceEnd
    if s.decelOk then .next s
    else
      let s := { s with gong := { s.gong with failed := true } }
      let s := forBelow 24 (fun a s => if bitOf (s.f F.EVT_STOP_AXES) a then s.axCommand a 5 0 else s) s
      .next (s.enforced 1)
  else .next s

/-- STOPMAX in ticks (R387). -/
def State.stopMax (s : State) : Nat := max 1 (s.f F.EVT_STOP_STOPMAX) * 600000000

/-- R387: the stop is not complete STOPMAX after t0. -/
def execStopTimeout (s : State) : Out :=
  if s.on F.EVT_GONG_G3 && !s.gong.stopTimed then
    let s := s.advanceTo (s.gong.g3At + s.stopMax)
    let s := { s with gong := { s.gong with stopTimed := true, driveDrop := true } }
    .next (s.drivesOff.keepalives.enforced 2)
  else .next s

/-- Whether every axis is idle or disabled and every station disarmed (R386 step 5). -/
def State.stopped (s : State) : Bool :=
  (upFrom 0 24).all (fun a => decide (s.f (F.AXS_A_STATUS_STATE a) ≤ 1))
    && (upFrom 0 8).all fun n => decide ((s.station n).phase = .unarmed)

/-- A stop's record in the life store and the log (R395, R423, R426). -/
def State.stopDone (s : State) (x : Stop) : State :=
  let s := { s with stops := (x :: s.stops).take 4096 }
  s.logAdd 4 x.event 0 x.level x.cls (x.len % 65536)

/-- R386 step 5: the stop is complete. -/
def execStopDone (s : State) : Out :=
  match s.gong.zeroSince with
  | some z =>
    if s.on F.EVT_GONG_G3 && s.stopped && decide (s.gong.g3Want = false) then
      let s := s.advanceTo (max s.time (z + 60000000))
      let len := s.time - s.gong.g3At
      let e := s.f F.EVT_GONG_LAST_EVT
      let s := s.setFs [(F.EVT_GONG_G3, 0), (F.EVT_GONG_STOP_DONE, 1)]
      let s := { s with gong := { s.gong with driveDrop := false, kaHvOff := false } }
      let s := if s.gong.cls = 0 then s.tally 0x236 (len / 600000) else s
      let at_ := s.calNow - len * 32768 / 600000000
      .next ((s.keepalives.stopDone ⟨3, e, s.gong.cls, at_, len / 6000000⟩).raiseX EV.STOP_DONE)
    else .next s
  | none => .next s

/-! ## G4 (R388, R398) -/

/-- R388, in its order: keepalives static and outputs as in R398; mallets and screen engines stopped and the open entries flushed, or
saved by the keeper where FCLK has stopped (R389); then the report to the keeper. -/
def execG4 (s : State) : Out :=
  if s.gong.g4Want then
    let s := s.kaAllStatic.outputsReset
    let s := if s.clk.running then s.flush (some Reason.DEVICE_STOP) else s.saveLedger
    .next s.reportG4
  else .next s

/-- R397: 2 s after G3, KA_HV goes static though an HV output is not 0. -/
def execKaHvTimeout (s : State) : Out :=
  if s.on F.EVT_GONG_G3 then
    let s := s.advanceTo (s.gong.g3At + 1200000000)
    .next ({ s with gong := { s.gong with kaHvOff := true } }.keepalives)
  else .next s

/-! ## Host raises and event configuration (R379–R381) -/

/-- R380: EVT_RAISE.GO; only EV252–EV255 are raisable. -/
def execHostRaise (e : BitVec 8) (cause : BitVec 16) (s : State) : Out :=
  let s := s.setFs [(F.EVT_RAISE_EVENT, e.toNat), (F.EVT_RAISE_CAUSE, cause.toNat)]
  if 252 ≤ e.toNat then .next (s.raise e.toNat cause.toNat) else .next (s.flam F.EVT_FLAM_COUNT 1)

/-- R379, R8, R390: a host clear of EVT_PENDk; a bit that meets a raising stays set, is counted, and its vector is sent again. -/
def execPendClear (k : Fin 8) (mask met : BitVec 32) (s : State) : Out :=
  let clr (i : Nat) (s : State) : State :=
    if bitOf mask.toNat i && bitOf (s.f (F.EVT_PEND k.val)) i then
      if bitOf met.toNat i then
        let e := k.val * 32 + i
        let s := s.flam F.EVT_FLAM_COUNT 1
        if s.on (F.EVT_E_CFG_HOST_EN e) then s.sendMsix (s.f (F.EVT_E_CFG_VEC e)) else s
      else s.setBitF (F.EVT_PEND k.val) i false
    else s
  .next (forBelow 32 clr s)

/-- R376, R381: a write of EVT_Ee_CFG; a reserved event's is ignored, and a LEVEL outside ALLOW or under the lock is ignored. -/
def execEventConfigWrite (e : BitVec 8) (v : BitVec 32) (s : State) : Out :=
  let k := e.toNat
  let w := v.toNat
  if evNamed k = false then .next (s.flam F.EVT_FLAM_COUNT 1)
  else
    let lvl := bitsOf w 31 29
    let same := decide (lvl = s.f (F.EVT_E_CFG_LEVEL k))
    let ok := bitOf (s.f (F.EVT_E_CFG_ALLOW k)) lvl && !s.on F.EVT_LOCK_LOCK
    let s := if same then s else if ok then s.setF (F.EVT_E_CFG_LEVEL k) lvl else s.flam F.EVT_FLAM_COUNT 1
    .next (s.setFs [(F.EVT_E_CFG_BCAST k, w / 2 ^ 22), (F.EVT_E_CFG_HOST_EN k, w / 2 ^ 21), (F.EVT_E_CFG_REPN k, w / 2 ^ 16),
      (F.EVT_E_CFG_REPWIN k, w / 2 ^ 8), (F.EVT_E_CFG_VEC k, w)])

end Sys2Proof.Machine
end

