-- ==== Sys2Proof/Machine/Arm.lean ====
section
/-!
DEFINITION. Arming and disarming of stations (R24–R29, R180–R184, R225–R227, R246, R250).
-/
namespace Sys2Proof.Machine

/-! ## Refusals (R27–R29) -/

/-- EV_SLOT_REFUSED with the cause of R29. -/
def State.slotRefused (s : State) (n code detail : Nat) : State := s.raise EV.SLOT_REFUSED (n + code * 2 ^ 8 + detail * 2 ^ 16)

/-- The domains a station needs (R27 item 2), lowest first. -/
def armDomains (n : Nat) (ep : Bool) : List Nat :=
  [1, 2, 3] ++ [if n < 4 then 4 else 5] ++ [6, 7, 9] ++ (if ep then [10] else []) ++ [11]

/-- The shared three-phase channels, as polygons of armed EP stations, that station n finds given away (R25). -/
def State.polygonsOf (s : State) (n : Nat) : List Nat := ((upFrom 0 4).filter fun k => s.epInUse n k).map fun k => s.f (F.EPS_S_POLY_CHAN k)

/-- The first shared resource of EP station n that another user holds (R25, R28, R29): its polygon's channel, as the polygon of another
station or the channel of an enabled axis, or its drum axis. -/
def State.resourceTaken (s : State) (n : Nat) : Option Nat :=
  let poly := s.f (F.EPS_S_POLY_CHAN n)
  let drum := s.f (F.EPS_S_DRUM_AXIS n)
  if (s.polygonsOf n).contains poly || (upFrom 0 24).any (fun a => s.on (F.AXS_A_CTL_EN a) && (s.axChannels a).contains poly) then
    some (0x200 + poly)
  else if (upFrom 0 4).any fun k => s.epInUse n k && decide (s.f (F.EPS_S_DRUM_AXIS k) = drum) then some (0x300 + drum)
  else none

/-- Whether an event mallet holds a role bound to station n (R27 item 5). -/
def State.hasRole (s : State) (n : Nat) : Bool :=
  (upFrom 0 36).any fun m => decide (malletKind m = 0) && decide (s.boundStation m = some n)

/-- Whether a power-down of domain d was accepted in this tick (R460). -/
def State.downNow (s : State) (d : Nat) : Bool := decide (s.keeper.downs.1 = s.time) && s.keeper.downs.2.contains d

/-- The first condition of R27, R359, R387, R23, R411 and R460 that refuses an arm request of station n as kind ep: code and detail (R29).
A domain whose power-down was accepted in the same tick is refused last, with code 6. After G4 the code is 7, GONG, for which the table
names only G3 (DESIGN CHOICE, log entry 45). -/
def State.armRefusal (s : State) (n : Nat) (ep : Bool) : Option (Nat × Nat) :=
  if ep && decide (4 ≤ n) then some (1, 0)
  else match findFirst (fun d => !s.powered d && !s.downNow d) (armDomains n ep) with
    | some d => some (2, d)
    | none =>
      match if ep then s.resourceTaken n else none with
      | some r => some (3, r)
      | none =>
        if !s.observing then some (4, 0)
        else if !s.hasRole n then some (5, 0)
        else if !s.on F.HK_STATUS_MODE then some (9, 0)
        else if s.on F.EVT_GONG_G3 || s.g4 then some (7, 0)
        else if s.f F.MBX_STATUS_MODE = 2 then some (8, 0)
        else (findFirst (fun d => s.downNow d) (armDomains n ep)).map fun d => (6, d)

/-! ## Arming -/

/-- EPS_Sn_STATUS.STATE and STEP for a station's phase (R230). -/
def State.showPhase (s : State) (n : Nat) : State :=
  match (s.station n).phase with
  | .unarmed => s.setF (F.EPS_S_STATUS_STATE n) 0
  | .arming k => s.setFs [(F.EPS_S_STATUS_STATE n, 1), (F.EPS_S_STATUS_STEP n, min k 8)]
  | .armed => s.setF (F.EPS_S_STATUS_STATE n) 2
  | .disarming _ => s.setF (F.EPS_S_STATUS_STATE n) 3

/-- The station enters a phase. -/
def State.setPhase (s : State) (n : Nat) (p : Phase) : State :=
  let s := s.setStation n { s.station n with phase := p }
  if n < 4 then s.showPhase n else s

/-- A step of R181 begins. -/
def State.inkStepStart (s : State) (n k : Nat) : State := s.setPhase n (.arming k)

/-- A step of R225 begins. -/
def State.epStepStart (s : State) (n k : Nat) : State :=
  (s.setEp n { s.epSt n with stepAt := s.time }).setPhase n (.arming k)

/-- A spare is no longer given to a lane. -/
def State.freeSpare (s : State) (sp : Nat) : State := s.setFs [(F.INK_SP_STATUS_IN_USE sp, 0), (F.INK_SP_STATUS_ULOCK sp, 0)]

/-- Whether a spare stands given to lane l. -/
def State.serves (s : State) (l sp : Nat) : Bool := s.on (F.INK_SP_STATUS_IN_USE sp) && decide (s.f (F.INK_SP_STATUS_FOR_LANE sp) = l)

/-- The spares given to lane l become free. -/
def State.freeSparesOf (s : State) (l : Nat) : State := ((upFrom 0 2).filter (s.serves l)).foldl (fun s sp => s.freeSpare sp) s

/-- The lanes of an inkjet station start their arm: the primaries are trained again. A spare that serves a lane stays given to it until its
primary has trained (R180); one that serves a lane the station no longer uses becomes free. -/
def State.lanesFresh (s : State) (n : Nat) : State :=
  let s := ([2 * n, 2 * n + 1].filter fun l => !(s.lanesOf n).contains l).foldl (fun s l => s.freeSparesOf l) s
  (s.lanesOf n).foldl (fun s l =>
    let s := s.setFs [(F.INK_L_STATUS_SPARED l, 0), (F.INK_L_STATUS_FAILED l, 0), (F.INK_L_STATUS_NOSPARE0 l, 0),
      (F.INK_L_STATUS_NOSPARE1 l, 0), (F.INK_L_STATUS_TBLOCK l, 0)]
    s.setLane l { Lane.reset with seq := (s.lane l).seq, faults := (s.lane l).faults, sent := (s.lane l).sent }) s

/-- An arm request is accepted: the station takes its kind and begins its arm steps. -/
def State.armStart (s : State) (n : Nat) (ep : Bool) : State :=
  let s := s.setB (F.SCR_CFG_KIND n) ep
  if ep then
    let s := (upFrom 0 4).foldl (fun s i => s.setHv (4 * n + i) { s.hvCh (4 * n + i) with down := true, zeroAt := none }) s
    let s := s.setFs [(F.EPS_S_STATUS_PHLOCK n, 0), (F.EPS_S_STATUS_BD_OK n, 0)]
    (s.setEp n Ep.reset).epStepStart n 1
  else
    (((s.setInk n { s.inkSt n with armAt := s.time, capDue := none }).lanesFresh n).inkStepStart n 1)

/-- R27–R29: an arm request for the stations of a mask, with the kind of each, the lower number first. A station that is armed, arming
or disarming is left as it is. -/
def execArmRequest (mask kinds : BitVec 8) (s : State) : Out :=
  .next (forBelow 8 (fun n s =>
    if mask.getLsbD n && decide ((s.station n).phase = .unarmed) then
      match s.armRefusal n (kinds.getLsbD n) with
      | some (c, d) => s.slotRefused n c d
      | none => s.armStart n (kinds.getLsbD n)
    else s) s)

/-- The station is armed (R75, R110): its line bias is zero, and its first frame is placed as if the queue had run empty, from the ring's
HEAD. A G4 stop ends with the first arm accepted after the reset (R395). -/
def State.nowArmed (s : State) (n : Nat) : State :=
  let s := if s.anyArmed then s else { s with web := { s.web with high := none } }
  let s := forBelow 256 (fun i s => s.setSlot n i none) s
  let s := (s.setStation n { Station.reset with nextFetch := s.f (F.FEED_Q_HEAD n) }).setPhase n .armed
  let s := (s.setGear n { s.gearOf n with hot := false, above := false, dropRaised := false }).setLbias n 0
  let s := match s.stopOpen with
    | some x =>
      let len := s.calNow - x.at_
      let s := if x.cls = 0 then s.tally 0x236 (len * 1000 / 32768) else s
      ({ s with stopOpen := none }).stopDone { x with len := len * 100 / 32768 }
    | none => s
  s.rebaseWeb

/-! ## Disarm (R182, R226, R246, R250) -/

/-- Open entries get NOT_STARTED with NOT_ARMED for station n's missing records, but for the frames that it still closes (R250). -/
def State.skipOpen (s : State) (n : Nat) : State :=
  let still (x : Entry) : Bool := (s.station n).frames.any fun y => decide (y.job = x.job ∧ y.num = x.num)
  ({ s with ledger := s.ledger.map fun x => if still x then x else x.skip n Reason.NOT_ARMED }).finalize

/-- What every disarm does: pending change sets that name the station do not reach it, staged lines are given up, the frame in progress
ends at its first uncommitted line, frames not begun go back to the ring, and open entries are completed. -/
def State.leavePrint (s : State) (n : Nat) : State :=
  let s := s.marksSince s.web.period
  let s := (s.csOrder fun q => s.csOpen q n).foldl (fun s q => s.csLeave n q) s
  let from_ := s.nextFree n
  let st := s.station n
  let spoil (x : Frame) : Frame :=
    match x.start with
    | some a => if x.state ≤ 1 ∧ from_ < a + x.lines then x.spoil from_ Reason.NOT_ARMED else x
    | none => x
  let s := s.setStation n { st with frames := (st.frames.filter Frame.begun).map spoil, reqs := [], nextLine := none, unscreened := none }
  let s := s.abandon n from_
  let s := match findFirst (fun (x : Frame) => !x.begun) st.frames with
    | some x => s.setStation n { s.station n with nextFetch := x.index }
    | none => s
  let s := s.passHead n
  let s := s.setFs [(F.CHG_S_STATUS_BEHIND n, 0), (F.WEB_ST_STATUS_DROPPING n, 0), (F.WEB_ST_STATUS_HOLDING n, 0),
    (F.WEB_ST_STATUS_ABSORB n, 0), (F.WEB_ST_STATUS_OVS_WARN n, 0), (F.FEED_Q_STATUS_JOBWAIT n, 0)]
  let s := (s.setBitF F.WEB_SLOWDOWN_OVS n false).setF (F.WEB_ST_HOLD n) 0
  s.skipOpen n

/-- Retries that a disarm leaves open are UNRESOLVED (R392): resent messages, head sensors that wait for their next sample, and in gap mode
the retest of drop detection. -/
def State.lanesUnresolved (s : State) (n : Nat) : State :=
  let s := (s.lanesOf n).foldl (fun s l => (s.lane l).out.foldl (fun s o => if o.resent then s.logRetry 3 EV.LANE_TRANSIENT l else s) s) s
  let s := forBelow 48 (fun h s =>
    let x := s.head n h
    if x.bad = 1 then (s.setHead n h { x with bad := 0 }).logRetry 3 EV.HK_SENSOR_TRANSIENT n else s) s
  if s.dd.retest.isSome && s.on F.INK_DD_CTL_MODE && decide (s.f F.INK_DD_CTL_STATION = n) then
    { s with dd := { s.dd with retest := none } }.logRetry 3 EV.DD_TRANSIENT n
  else s

/-- R182: an armed inkjet station begins its disarm. -/
def State.inkDisarm (s : State) (n : Nat) : State :=
  let s := s.leavePrint n
  let last := (s.station n).lines.foldl (fun a y => if y.phase = .committed then max a y.fire else a) s.time
  (((s.setInk n { s.inkSt n with capDue := some (last + 12000) }).setPhase n (.disarming 1)).closeReported n).rebaseWeb

/-- A station ends its arm steps, or its disarm, unarmed. -/
def State.unarm (s : State) (n : Nat) : State :=
  (s.setStation n { Station.reset with nextFetch := s.f (F.FEED_Q_HEAD n) }).setPhase n .unarmed |>.rebaseWeb

/-- The lanes of a station send electrical idle (R26, R182). -/
def State.lanesIdle (s : State) (n : Nat) : State :=
  (s.lanesOf n).foldl (fun s l => (s.setF (F.INK_L_STATUS_TBLOCK l) 0).setLane l { s.lane l with
    out := [], due := false, held := none, fresh := false, badStatus := 0, badTelem := 0 }) s

/-- R182: a disarm of an inkjet station; during its arm steps it ends the arm. -/
def execInkDisarm (n : Fin 8) (s : State) : Out :=
  let k := n.val
  if s.on (F.SCR_CFG_KIND k) then .next s
  else match (s.station k).phase with
    | .armed => .next (s.inkDisarm k)
    | .arming _ => .next ((s.lanesUnresolved k).lanesIdle k |>.unarm k)
    | .unarmed => .next s
    | .disarming _ => .next s

/-- Close every frame that is left (R170). -/
def State.closeLeft (s : State) (n : Nat) : Nat → State
  | 0 => s
  | k + 1 =>
    match (s.station n).frames with
    | x :: _ => (s.silentClose n x).closeLeft n k
    | [] => s

/-- R182: CAP to each hub 20 µs after the last committed line; the lanes then idle and the station is unarmed. -/
def execCap (n : Fin 8) (s : State) : Out :=
  let k := n.val
  match (s.inkSt k).capDue, (s.station k).phase with
  | some t, .disarming _ =>
    let s := s.advanceTo t
    let s := s.closeLeft k (s.station k).frames.length
    let s := (s.station k).frames.foldl (fun s x => s.closeFrame k x.finish) s
    let s := (s.lanesOf k).foldl (fun s l => s.send l .cap) s
    let s := s.lanesUnresolved k
    .next (((s.setInk k { s.inkSt k with capDue := none }).lanesIdle k).unarm k)
  | _, _ => .next s

/-! ## Inkjet arm steps (R181, R184) -/

/-- The arm is refused in a step of R181 (R27, R29). -/
def State.inkRefuse (s : State) (n code detail : Nat) : State :=
  (((s.lanesUnresolved n).lanesIdle n).unarm n).slotRefused n code detail

/-- The spare that may be given to lane l at arm (R180, R181): the one it had, and else an enabled free one, in whose MAP the lane is and which
is block-locked. -/
def State.armSpare (s : State) (l : Nat) : Option Nat :=
  let may (sp : Nat) : Bool := s.on (F.INK_SP_CTL_EN sp) && !s.on (F.INK_SP_STATUS_FAIL sp) && bitOf (s.f (F.INK_SP_CTL_MAP sp)) l
    && s.on (F.INK_L_STATUS_UP (16 + sp))
  match findFirst (fun sp => s.serves l sp && may sp) [0, 1] with
  | some sp => some sp
  | none => findFirst (fun sp => s.spareFree sp && may sp) [0, 1]

/-- A used lane at the end of its training (R163, R180): block-locked it frees its spare, and else it takes one, whose path is then
measured. -/
def State.armLane (s : State) (l : Nat) : State :=
  if s.on (F.INK_L_STATUS_UP l) then s.freeSparesOf l
  else match s.armSpare l with
    | some sp =>
      let s := ((s.freeSparesOf l).setF (F.INK_L_STATUS_FAILED l) 1).giveSpare l sp
      (s.setLane (16 + sp) { s.lane (16 + sp) with measuring := some l, echoSum := 0, echoN := 0 }).sendEcho (16 + sp) l
    | none => s

/-- Step 2 begins: ASSIGN and the first ECHO on each used lane. -/
def State.assignLanes (s : State) (n : Nat) : State :=
  (s.lanesOf n).foldl (fun s l =>
    let s := s.send l (.assign l)
    let x := s.lane l
    (s.setLane l { x with echoSum := 0, echoN := 0, measured := clrBit x.measured 2 }).send l .echo) s

/-- Whether hub l has acknowledged its ASSIGN. -/
def State.assigned (s : State) (l : Nat) : Bool :=
  (s.lane l).out.all fun o => match o.msg with
    | .assign _ => false
    | _ => true

/-- Whether a lane's delay, or its spare's, has been measured, and lies within 90 ticks (R163). -/
def State.delayOk (s : State) (l : Nat) : Bool :=
  if s.on (F.INK_L_STATUS_SPARED l) then bitOf (s.lane l).measured (s.f (F.INK_L_STATUS_SPARE l))
  else bitOf (s.lane l).measured 2 && decide (s.f (F.INK_L_DELAY l) ≤ 1440)

/-- The fields of a head's memory (R184). -/
def headOfBytes (bs : List Byte) : Head :=
  { typ := numAt bs 4 4, serial := numAt bs 8 8, nozzles := numAt bs 16 2, fmax := numAt bs 18 4, rank := numAt bs 22 2,
    tref := sx 16 (numAt bs 24 2), tcoef := sx 16 (numAt bs 26 2), twarn := sx 16 (numAt bs 28 2), tlimit := sx 16 (numAt bs 30 2),
    warned := false, bad := 0, hot := false, spoilT := none, since := 0 }

/-- Whether a head's memory passes R184. -/
def State.headOk (s : State) (n h : Nat) (bs : List Byte) : Bool :=
  let x := headOfBytes bs
  decide (bs.length = 64) && decide (numAt bs 0 2 = 0x4D48) && decide (numAt bs 2 2 = 1) && decide (crc16 (bs.take 62) = numAt bs 62 2)
    && decide (x.nozzles = s.f (F.INK_S_HD_CFG_COUNT n h)) && decide (1000 ≤ x.fmax) && decide (0x2000 ≤ x.rank)
    && decide (x.rank ≤ 0x6000) && decide (x.twarn < x.tlimit)

/-- The enabled entries of a head table. -/
def State.headsOn (s : State) (n : Nat) : List Nat := (upFrom 0 48).filter fun h => s.on (F.INK_S_HD_MAP_EN n h)

/-- Step 5 begins: the 64 bytes of every enabled head's memory are asked for, 32 a transaction (R175, R184). Their answers are the operand of
the step (DESIGN CHOICE, log entry 67). -/
def State.readHeads (s : State) (n : Nat) : State :=
  (s.headsOn n).foldl (fun s h =>
    let ask (s : State) (r : Nat) : State :=
      s.send (2 * n + s.f (F.INK_S_HD_MAP_HUB n h)) (.sbReq false (s.f (F.INK_S_HD_MAP_PORT n h)) 0x50 r 32 [])
    ask (ask s 0) 32) s

/-- The head memories are taken in order up to the first that fails; the answer is the failing head. -/
def State.takeHeads (s : State) (n : Nat) : List Nat → List (List Byte) → State × Option Nat
  | [], _ => (s, none)
  | h :: _, [] => (s, some h)
  | h :: r, bs :: rest => if s.headOk n h bs then (s.setHead n h (headOfBytes bs)).takeHeads n r rest else (s, some h)

/-- Two entries break R156: their nozzles overlap, or they share a hub port. -/
def State.headsClash (s : State) (n h k : Nat) : Bool :=
  let a := s.f (F.INK_S_HD_MAP_FIRST n h)
  let b := s.f (F.INK_S_HD_MAP_FIRST n k)
  (decide (a < b + s.f (F.INK_S_HD_CFG_COUNT n k)) && decide (b < a + s.f (F.INK_S_HD_CFG_COUNT n h)))
    || (decide (s.f (F.INK_S_HD_MAP_HUB n h) = s.f (F.INK_S_HD_MAP_HUB n k)) && decide (s.f (F.INK_S_HD_MAP_PORT n h) = s.f (F.INK_S_HD_MAP_PORT n k)))

/-- The nozzles of the enabled heads on a hub. -/
def State.hubNozzles (s : State) (n hub : Nat) : Nat :=
  ((s.headsOn n).map fun h => if s.f (F.INK_S_HD_MAP_HUB n h) = hub then s.f (F.INK_S_HD_CFG_COUNT n h) else 0).sum

/-- The first entry of the head table that breaks R156, R157 or R158. -/
def State.badHead (s : State) (n : Nat) : Option Nat :=
  let hs := s.headsOn n
  let reach (h : Nat) : Bool := decide (s.f (F.SCR_CFG_WIDTH n) < s.f (F.INK_S_HD_MAP_FIRST n h) + s.f (F.INK_S_HD_CFG_COUNT n h))
  let d (h : Nat) : Nat := s.f (F.INK_S_HD_CFG_ROWOFS n h)
  let heavy (hub : Nat) : Bool := decide (4500000000 < s.hubNozzles n hub * s.f (F.WEB_ST_FLIM_LIMIT n))
  match findFirst (fun h => reach h || hs.any fun k => decide (k < h) && s.headsClash n h k) hs with
  | some h => some h
  | none =>
    match findFirst (fun h => decide (256 < s.f (F.SCR_LEAD_TARGET n) + d h)) hs with
    | some h => some h
    | none => findFirst (fun h => heavy (s.f (F.INK_S_HD_MAP_HUB n h))) hs

/-- The fire limit of an inkjet station (R88): 160,000 lines/s or the lowest FMAX of its heads. -/
def State.inkLimit (s : State) (n : Nat) : Nat := (s.headsOn n).foldl (fun a h => min a (s.head n h).fmax) 160000

/-- The WAVE step of R181 begins: the active bank, and a READY inactive one, go to the hubs. -/
def State.armWaves (s : State) (n : Nat) : State :=
  let a := s.f (F.INK_S_WSTAT_ACTIVE n)
  let s := s.sendWaves n a
  if s.f (F.INK_S_WSTAT_STATE n) = Bank.READY then s.sendWaves n (1 - a) else s

/-- The last steps of R181: FLIM is set and the head table checked. -/
def State.inkFinish (s : State) (n : Nat) : State :=
  let s := s.setF (F.WEB_ST_FLIM_LIMIT n) (s.inkLimit n)
  match s.badHead n with
  | some h => s.inkRefuse n 21 h
  | none => s.nowArmed n

/-- R181: the arm step in progress completes, so the next starts or the station arms, or its limit passes and the arm is refused. A limit
that passes while the condition holds completes the step. Where the time limit of the head memories passes, the refusal names the first
enabled head (DESIGN CHOICE, log entry 68). -/
def execInkArmStep (n : Fin 8) (r : InkStep) (s : State) : Out :=
  let k := n.val
  let t0 := (s.inkSt k).armAt
  let ls := s.lanesOf k
  let late (s : State) (t : Nat) : State := if r = .late then s.advanceTo (t0 + t) else s
  if s.g4 || s.on (F.SCR_CFG_KIND k) then .next s
  else match (s.station k).phase with
    | .arming 1 =>
      if ls.all fun l => s.on (F.INK_L_STATUS_UP l) then .next (((ls.foldl (fun s l => s.armLane l) s).inkStepStart k 2).assignLanes k)
      else if r = .late then
        let s := ls.foldl (fun s l => s.armLane l) (late s 60000)
        match findFirst (fun l => !s.on (F.INK_L_STATUS_UP l) && !s.on (F.INK_L_STATUS_SPARED l)) ls with
        | some l => .next (s.inkRefuse k 16 l)
        | none => .next ((s.inkStepStart k 2).assignLanes k)
      else .next s
    | .arming 2 =>
      match findFirst (fun l => !(s.assigned l && s.delayOk l)) ls with
      | none => .next (s.inkStepStart k 3)
      | some l => if r = .late then .next ((late s 120000).inkRefuse k 17 l) else .next s
    | .arming 3 =>
      match findFirst (fun l => !s.on (F.INK_L_STATUS_TBLOCK l)) ls with
      | none => .next (s.inkStepStart k 4)
      | some l => if r = .late then .next ((late s 180000).inkRefuse k 18 l) else .next s
    | .arming 4 =>
      let open_ := (upFrom 0 2).any fun sp => s.spareFree sp && match s.toMeasure sp with
        | some l => decide (l / 2 = k)
        | none => false
      if open_ && decide (r ≠ .late) then .next s else .next (((late s 1200000).inkStepStart k 5).readHeads k)
    | .arming 5 =>
      match r with
      | .check => .next s
      | .late => .next (((late s 7200000).raise EV.HEAD_ID_ERR k).inkRefuse k 19 ((s.headsOn k).headD 0))
      | .heads mem =>
        match s.takeHeads k (s.headsOn k) mem with
        | (s, some h) => .next ((s.raise EV.HEAD_ID_ERR k).inkRefuse k 19 h)
        | (s, none) => .next ((s.inkStepStart k 6).armWaves k)
    | .arming 6 =>
      if s.wavesOut k then
        if r = .late then .next ((late s 12000000).inkRefuse k 20 0) else .next s
      else .next (s.inkFinish k)
    | .arming _ => .next s
    | .unarmed => .next s
    | .armed => .next s
    | .disarming _ => .next s

/-! ## EP arm steps (R212, R215, R225) -/

/-- ENABLE with mask 0, KA_LASERn static, and the ramp-down of R226 begins. -/
def State.epLower (s : State) (n : Nat) : State :=
  let x := s.epSt n
  let s := s.setEp n { x with apc := [⟨4, 0, 0, false⟩], enabled := 0, lit := false }
  ((s.laserStatic n).setPhase n (.disarming 1)).hvSequence n

/-- Retries that a disarm leaves open are UNRESOLVED (R392): a missed edge, a repeated exchange, an arc's re-ramp. -/
def State.epUnresolved (s : State) (n : Nat) : State :=
  let x := s.epSt n
  let s := if x.missing = 1 ∧ x.dead = false then s.logRetry 3 EV.BD_MISS n else s
  let s := if x.apc.any Apc.retried then s.logRetry 3 EV.APC_TRANSIENT n else s
  (upFrom 0 4).foldl (fun s i =>
    let c := 4 * n + i
    if (s.hvCh c).arcAt.isSome then (s.setHv c { s.hvCh c with arcAt := none }).logRetry 3 EV.HV_ARC c else s) s

/-- R226: an armed EP station begins its disarm. -/
def State.epDisarm (s : State) (n : Nat) : State :=
  let s := (s.epUnresolved n).leavePrint n
  let s := s.setEp n { s.epSt n with scans := [] }
  ((s.epLower n).closeEp n).rebaseWeb

/-- The steps of R225 taken so far are undone in disarm order. -/
def State.epUndo (s : State) (n step : Nat) : State :=
  if 4 ≤ step then (s.epUnresolved n).epLower n
  else if step = 3 then (s.unarm n).setF (F.MOT_C_SPD (s.f (F.EPS_S_POLY_CHAN n))) 0
  else s.unarm n

/-- The arm is refused in a step of R225; the steps taken are undone in disarm order. -/
def State.epRefuse (s : State) (n step code detail : Nat) : State :=
  let s := s.epUndo n step
  (s.setF (F.EPS_S_STATUS_STEP n) (min step 8)).slotRefused n code detail

/-- R226: a disarm of an EP station; during its arm steps it undoes them. -/
def execEpDisarm (n : Fin 4) (s : State) : Out :=
  let k := n.val
  if s.on (F.SCR_CFG_KIND k) then
    match (s.station k).phase with
    | .armed => .next (s.epDisarm k)
    | .arming i => .next (s.epUndo k i)
    | .unarmed => .next s
    | .disarming _ => .next s
  else .next s

/-- Whether a channel's monitor lies within TOL × 16 of zero (R226). -/
def State.hvQuiet (s : State) (c : Nat) : Bool := decide ((s.fs (F.EPS_HV_MON c)).natAbs ≤ s.f (F.EPS_HV_CFG_TOL c) * 16)

/-- R226: every channel's monitor has come within TOL × 16 of 0 after its ramp; the disarm is complete. The channels stay at 0 until an arm step
lifts them, or EN is set anew (DESIGN CHOICE, log entry 63). -/
def execEpDisarmDone (n : Fin 4) (s : State) : Out :=
  let k := n.val
  let cs := (upFrom 0 4).map fun i => 4 * k + i
  match (s.station k).phase with
  | .disarming _ =>
    if s.on (F.SCR_CFG_KIND k) && (s.hvCh (4 * k + 3)).down && cs.all (fun c => s.hvQuiet c && decide (s.f (F.EPS_HV_STATUS_OUT c) = 0)) then
      let s := cs.foldl (fun s c => (s.setF (F.EPS_HV_STATUS_ARC_LATCH c) 0).setHv c { s.hvCh c with
        spoiling := false, zeroAt := none, rampBy := none }) s
      let s := (s.station k).frames.foldl (fun s x => s.closeFrame k x.finish) s
      .next ((s.setEp k { s.epSt k with apc := [] }).unarm k)
    else .next s
  | .unarmed => .next s
  | .arming _ => .next s
  | .armed => .next s

/-- The largest BDLY of a station, in 1/16 pixel. -/
def State.maxBdly (s : State) (n : Nat) : Nat := (upFrom 0 8).foldl (fun a b => max a (s.f (F.EPS_S_BDLY n b))) 0

/-- R215. -/
def State.scanFits (s : State) (n : Nat) : Bool :=
  let sum := s.f (F.EPS_S_SCAN_SOS n) + (s.maxBdly n + 15) / 16 + s.f (F.SCR_CFG_WIDTH n) + s.f (F.EPS_S_APCWIN_APC_OFS n)
    + s.f (F.EPS_S_APCWIN_APC_LEN n) + s.f (F.EPS_S_SCAN_LEAD n)
  decide (64 ≤ s.f (F.EPS_S_SCAN_SOS n)) && decide (sum ≤ s.f (F.EPS_S_PPF n) / 65536)

/-- R212. -/
def State.drumOk (s : State) (n : Nat) : Bool :=
  let a := s.f (F.EPS_S_DRUM_AXIS n)
  s.axisGeared a && s.on (F.AXS_A_CFG_UNIDIR a)

/-- The speed that the polygon must have in step 3, in 1/16 rpm: its geared speed, or that of the minimum print speed when slower. -/
def State.polyWant (s : State) (n : Nat) : Int :=
  let lines := lineRate s.webVel (s.ratio n)
  -- VMIN in 0.1 m/min as a velocity in 2^-24 web units per tick (R88's conversion).
  let vmin := lineRate ((s.f (F.EPS_S_VMIN n) : Int) * 2 ^ 40 / 360000000) (s.ratio n)
  let ppf := s.f (F.EPS_S_PPF n)
  let low : Int := if ppf = 0 then 0 else ((s.pixBand n).1 * 1000000 * 8 * 65536 / ppf : Nat)
  maxI lines (maxI vmin low) * 60 * 16 / (8 * s.facets n)

/-- Step 3 of R225. -/
def State.polySpun (s : State) (n : Nat) : Bool :=
  let w := s.polyWant n
  let v := s.fs (F.MOT_C_SPEED (s.f (F.EPS_S_POLY_CHAN n)))
  decide (((v - w).natAbs : Int) * 100 ≤ w)

/-- Step 4 of R225 begins: KA_LASERn toggles, and READ_STATUS, every target and ENABLE are sent. -/
def State.laserOn (s : State) (n : Nat) : State :=
  let s := (s.setBitF F.EVT_KA_STATUS_LASER n true).kaStart (n + 1)
  let targets := (upFrom 0 8).map fun b => s.f (F.EPS_S_APC_TARGET n b)
  let sets := (upFrom 0 8).map fun b => (⟨1, b, s.f (F.EPS_S_APC_TARGET n b), false⟩ : Apc)
  let t := (upFrom 0 8).foldl (fun t b => tput 0 t b (nthD 0 targets b)) []
  let s := s.setFs [(F.EPS_S_STATUS_BEAM_FLT n, 0), (F.EPS_S_STATUS_APC_ERR n, 0)]
  s.setEp n { s.epSt n with apc := [⟨3, 0, 0, false⟩] ++ sets ++ [⟨4, 0, 255, false⟩], targets := t, enabled := 255 }

/-- Whether the modulator has failed in step 4. -/
def State.apcFailed (s : State) (n : Nat) : Bool := s.on (F.EPS_S_STATUS_BEAM_FLT n) || s.on (F.EPS_S_STATUS_APC_ERR n)

/-- The beam of the exchange that step 4 waits for; beam 0 where none is outstanding. -/
def State.apcBeam (s : State) (n : Nat) : Nat := match (s.epSt n).apc with
  | a :: _ => a.beam
  | [] => 0

/-- Whether a channel stands at its setpoint with AT_SET (R219). -/
def State.hvAtSet (s : State) (c : Nat) : Bool :=
  !(s.hvCh c).down && s.on (F.EPS_HV_STATUS_AT_SET c) && decide (s.fs (F.EPS_HV_STATUS_OUT c) = s.hvTarget c)

/-- A channel may ramp. -/
def State.hvLift (s : State) (c : Nat) : State := s.setHv c { s.hvCh c with down := false }

/-- The HV step fails for a channel at its limit. -/
def State.hvLate (s : State) (n step c : Nat) : State :=
  let s := match (s.hvCh c).rampBy with
    | some t => s.advanceTo t
    | none => s
  s.epRefuse n step 40 c

/-- R225: the arm step in progress succeeds, so the next starts or the station arms, or it fails and the arm is refused. Phase 9 is the
transfer part of step 8. -/
def execEpArmStep (n : Fin 4) (r : EpStep) (s : State) : Out :=
  let k := n.val
  let x := s.epSt k
  let late (s : State) (t : Nat) : State := s.advanceTo (x.stepAt + t)
  if s.g4 || !s.on (F.SCR_CFG_KIND k) then .next s
  else match (s.station k).phase with
    | .arming 1 =>
      if !s.drumOk k then .next (s.epRefuse k 1 32 (s.f (F.EPS_S_DRUM_AXIS k)))
      else if !s.scanFits k then .next (s.epRefuse k 1 33 0)
      else match findFirst (fun z => decide (s.f (F.EPS_FZ_CTL_STATION z) = k) && s.on (F.EPS_FZ_CTL_EN z)
          && !s.on (F.EPS_FZ_STATUS_IN_BAND z)) [0, 1] with
        | some z => .next (s.epRefuse k 1 34 z)
        | none => .next (s.epStepStart k 2)
    | .arming 2 =>
      if s.on (F.CLK_MDLL_STATUS_LOCKED k) then .next (s.epStepStart k 3)
      else if r = .late then .next ((late s 600000).epRefuse k 2 35 0) else .next s
    | .arming 3 =>
      if s.polySpun k then .next ((s.epStepStart k 4).laserOn k)
      else if r = .late then
        .next ((late s (s.f (F.EPS_S_POLY_SPINUP k) * 60000000)).epRefuse k 3 36 (s.f (F.EPS_S_POLY_CHAN k)))
      else .next s
    | .arming 4 =>
      if s.apcFailed k then .next (s.epRefuse k 4 37 (s.apcBeam k))
      else if x.apc.isEmpty then .next ((s.setEp k { x with run := 0 }).epStepStart k 5)
      else if r = .late then .next ((late s 6000000).epRefuse k 4 37 (s.apcBeam k)) else .next s
    | .arming 5 =>
      if 2 * s.facets k ≤ x.run then .next (s.epStepStart k 6)
      else if r = .late then .next ((late s (4 * s.facets k * (if s.gearedTicks k = 0 then s.facetTicks k else s.gearedTicks k))).epRefuse k 5 38 0) else .next s
    | .arming 6 =>
      if s.epSlow k then .next (s.setEp k { x with stepAt := s.time })
      else if s.on (F.EPS_S_STATUS_PHLOCK k) then .next (((s.epStepStart k 7).hvLift (4 * k + 3)).hvLift (4 * k))
      else if r = .late then .next ((late s 600000000).epRefuse k 6 39 0) else .next s
    | .arming 7 =>
      match findFirst (fun c => !s.hvAtSet c) [4 * k + 3, 4 * k] with
      | none => .next (s.epStepStart k 8)
      | some c => if r = .late then .next (s.hvLate k 7 c) else .next s
    | .arming 8 =>
      let c := 4 * k + 1
      if (s.hvCh c).down then
        .next ((s.advanceTo ((s.hvCh (4 * k)).setAt.getD x.stepAt + s.f (F.EPS_S_DRUM_DEVDLY k) * 600000)).hvLift c)
      else if s.hvAtSet c then .next ((s.epStepStart k 9).hvLift (4 * k + 2))
      else if r = .late then .next (s.hvLate k 8 c) else .next s
    | .arming 9 =>
      let c := 4 * k + 2
      if s.hvAtSet c then .next ((s.setF (F.WEB_ST_FLIM_LIMIT k) (s.epLimit k)).nowArmed k)
      else if r = .late then .next (s.hvLate k 8 c) else .next s
    | .arming _ => .next s
    | .unarmed => .next s
    | .armed => .next s
    | .disarming _ => .next s

/-- A station disarms where G3 has brought the web below its minimum print speed (R182, R226, R386). -/
def State.disarmKind (s : State) (n : Nat) : State := if s.on (F.SCR_CFG_KIND n) then s.epDisarm n else s.inkDisarm n

end Sys2Proof.Machine
end

