-- ==== Sys2Proof/Machine/Observer.lean ====
section
/-!
DEFINITION. The observer period (R64–R91, R142): source checks, coasting and fallback, absorption, overspeed, minimum print speeds.
-/
namespace Sys2Proof.Machine

/-! ## Sources (R65–R69) -/

/-- The source that MAIN names (R94): 0 or 2. -/
def State.mainSrc (s : State) : Nat := if s.f F.WEB_CTL_MAIN = 1 then 2 else 0

/-- Whether a source is a fallback (R82). -/
def isFallback (i : Nat) : Bool := decide (i = 1 ∨ i = 3)

/-- Whether source i is qualified (R69). -/
def State.qualified (s : State) (i : Nat) : Bool :=
  let x := s.source i
  s.on (F.WEB_SRC_CTL_EN i) && decide (256 ≤ x.valid) && (!isFallback i || decide (256 ≤ x.tracked))

/-- What source i gives at this period (R65–R67): its incremental input, its SSI frame, or the position estimate of its three-phase
channel. -/
def State.reading (s : State) (i : Nat) (m : Sample) : Reading :=
  let x := s.source i
  let inv := s.on (F.WEB_SRC_CTL_DIR i)
  match s.f (F.WEB_SRC_CTL_TYPE i) with
  | 2 => ssiReading (s.f (F.WEB_SRC_SSI_BITS i)) (s.on (F.WEB_SRC_SSI_GRAY i)) (s.on (F.WEB_SRC_SSI_CRC_EN i)) inv x.seen x.last x.inc m.frame
  | 3 =>
    let c := s.f (F.WEB_SRC_CTL_INPUT i)
    let z := if c < 12 then s.pairS (F.MOT_C_POS_HI c) (F.MOT_C_POS_LO c) else 0
    ⟨if inv then -z else z, 0, 0, false, m.lost, x.inc⟩
  | ty => x.inc.reading (s.f (F.WEB_SRC_CTL_FILT i)) ty (s.f (F.WEB_SRC_PPR i)) inv m.pins

/-- A source is declared lost; one in use in WEB_STATUS too (R68, R80). -/
def State.declareLost (s : State) (i : Nat) : State :=
  let s := s.setF (F.WEB_SRC_STATUS_LOST i) 1
  if s.web.inUse = some i then ({ s with web := { s.web with down := true } }.setF F.WEB_STATUS_LOST 1).raiseX EV.WEB_SRC_LOST else s

/-- An invalid sample: the first awaits its retry, the second in a row is a lasting fault (R68); a lost drive estimate is not retried
(R80). -/
def State.badSample (s : State) (i : Nat) (lost : Bool) : State :=
  let x := s.source i
  let y := { x with valid := 0, tracked := 0, diffSum := 0 }
  if x.dead then s.setSource i y
  else if x.retry || lost then
    let s := s.setSource i { y with retry := false, dead := true }
    (if x.retry then s.logRetry 2 EV.WEB_TRANSIENT 0 else s).declareLost i
  else s.setSource i { y with retry := true }

/-- A valid sample; after an invalid one the fault was transient (R68). -/
def State.goodSample (s : State) (i : Nat) : State :=
  let x := s.source i
  let s := s.setSource i { x with valid := min 256 (x.valid + 1), retry := false, dead := false }
  if x.retry then (((s.addF (F.WEB_SRC_STATUS_TRANS i) 1).tally 0x067 1).logRetry 1 EV.WEB_TRANSIENT 0).raiseX EV.WEB_TRANSIENT else s

/-- The flags and counters of a reading's errors (R65–R67, R93). -/
def State.showErrs (s : State) (i : Nat) (r : Reading) : State :=
  let s := if r.qerrs = 0 then s else (s.setF (F.WEB_SRC_STATUS_QERR i) 1).tally (0x060 + i) r.qerrs
  let s := if r.idxerrs = 0 then s else (s.setF (F.WEB_SRC_STATUS_IDXERR i) 1).tally (0x063 + i) r.idxerrs
  if r.frame then (s.setF (F.WEB_SRC_STATUS_CRCERR i) 1).tally 0x066 1 else s

/-- A source's reading of the period: the count registers, the error flags and counters, and what it means for the source (R68). A
disabled source only grows older since its last invalid sample. -/
def State.sampleSource (s : State) (i : Nat) (r : Reading) : State :=
  if s.on (F.WEB_SRC_CTL_EN i) then
    let s := (s.setPair (F.WEB_SRC_CNT_HI i) (F.WEB_SRC_CNT_LO i) (ux 64 r.count)).showErrs i r
    let s := if r.bad then s.badSample i r.lost else s.goodSample i
    s.setSource i { s.source i with last := r.count, seen := true, inc := r.inc }
  else
    let x := s.source i
    s.setSource i { x with valid := min 256 (x.valid + 1), seen := false }

/-- R69: a fallback's difference to the main source in use. -/
def State.track (s : State) (i : Nat) (main count : Int) : State :=
  let x := s.source i
  s.setSource i { x with tracked := x.tracked + 1, diffSum := x.diffSum + (main - s.scaled i count) }

/-- The running mean of a fallback's difference (R69). -/
def Src.mean (x : Src) : Int := if x.tracked = 0 then 0 else x.diffSum / x.tracked

/-! ## Taking a source into use (R82–R85) -/

/-- Source i is taken into use with a raw count: a return with its jump, unless it is the first (R85). -/
def State.takeSource (s : State) (i : Nat) (count : Int) (e : Option Nat) : State :=
  let left := s.web.inUse
  let x := s.source i
  let s := s.setSource i { x with carried := if isFallback i then x.mean else 0, unchanged := 0 }
  let s := match left with
    | some k =>
      if k ≠ i ∧ (s.source k).retry then (s.setSource k { s.source k with retry := false }).logRetry 3 EV.WEB_TRANSIENT 0 else s
    | none => s
  let s := match left with
    | some k => s.setF (F.WEB_SRC_STATUS_IN_USE k) 0
    | none => s
  let s := s.setFs [(F.WEB_SRC_STATUS_IN_USE i, 1), (F.WEB_STATUS_SRC_IN_USE, i)]
  let s := { s with web := { s.web with inUse := some i, everUsed := true, down := false } }
  let s := if isFallback i then s
    else [1, 3].foldl (fun s k => s.setSource k { s.source k with tracked := 0, diffSum := 0 }) s
  if left.isNone then s.coastEnd
  else
    let j := s.webPos - s.srcPos i count
    let s := (if s.on F.WEB_STATUS_STALE then s else s.coastEnd).setCorr (j * 1024)
    let s := match e with
      | some e => s.raiseX e
      | none => s
    s.jump j

/-- The fallback that R82 takes, with its event. The rule speaks of a main source that goes down; a fallback in use that does is replaced
by the other one in the same way (DESIGN CHOICE, log entry 52). -/
def State.fallback (s : State) : Option (Nat × Nat) :=
  if s.on F.WEB_CTL_FB_SEC && s.qualified 1 && decide (s.web.inUse ≠ some 1) then some (1, EV.WEB_SWITCH_SEC)
  else if s.on F.WEB_CTL_FB_SLS && s.qualified 3 && decide (s.web.inUse ≠ some 3) then some (3, EV.WEB_SENSORLESS)
  else none

/-- The source that an observer period takes into use where no switch does it: a fallback of R82 for a source that went down in an earlier
period, the first source of all, or a MAIN changed while no station is armed. -/
def State.followMain (s : State) (count : Nat → Int) (wasDown : Bool) : State :=
  let m := s.mainSrc
  match s.web.inUse with
  | none => if s.qualified m then s.takeSource m (count m) none else s
  | some i =>
    if wasDown then match s.fallback with
      | some (k, e) => s.takeSource k (count k) (some e)
      | none => s
    else if !s.anyArmed && decide (i = 0 ∨ i = 2) && decide (i ≠ m) && s.qualified m then s.takeSource m (count m) none
    else s

/-- The source taken into use at this period, if one is (R82, R84): the switch asked for, which counts and has no other effect where MAIN
is not qualified. -/
def State.chooseSource (s : State) (count : Nat → Int) (wasDown : Bool) : State :=
  let m := s.mainSrc
  let sw := s.web.switchReq
  let s := { s with web := { s.web with switchReq := false } }
  if sw && s.qualified m then s.takeSource m (count m) none
  else (if sw then s.flam F.WEB_FLAM_COUNT 1 else s).followMain count wasDown

/-! ## The sample in use (R81, R82) -/

/-- Whether the model predicts at least one count of travel in a period (R81). The prediction is the present velocity's over 4,000 ticks;
the acceleration within the period is left out (DESIGN CHOICE, log entry 53). -/
def State.predictsCount (s : State) (i : Nat) : Bool := decide (s.scale i ≤ s.webVel.natAbs * 4000 * 256)

/-- An unchanged sample is withheld, and FREEZE_N of them in a row declare a freeze (R81). -/
def State.unchangedSample (s : State) (i : Nat) : State :=
  let x := s.source i
  let k := x.unchanged + 1
  let s := s.setSource i { x with unchanged := k }
  if max 1 (s.f F.WEB_COAST_FREEZE_N) ≤ k ∧ s.web.down = false then
    ({ s with web := { s.web with down := true } }.setFs [(F.WEB_STATUS_FROZEN, 1), (F.WEB_SRC_STATUS_FROZEN i, 1)]).raiseX EV.WEB_SRC_FROZEN
  else s

/-- The count latched for the observer program, with WEB_CORR (R74). -/
def State.latchPos (s : State) (i : Nat) (count : Int) : State := { s with web := { s.web with latch := s.srcPos i count + s.corrUnits } }

/-- What becomes of the in-use source's sample: withheld while invalid or unchanged, the observer then coasting (R81, R82); else latched for
the observer program with WEB_CORR (R74). A source in use that delivers again ends the coasting without a jump: it is not taken into use
anew (DESIGN CHOICE, log entry 54). -/
def State.judgeSample (s : State) (i : Nat) (valid stuck : Bool) (count : Int) : State :=
  let s := if stuck then s.unchangedSample i else s.setSource i { s.source i with unchanged := 0 }
  if !valid || stuck then (s.coastFrom s.time).tally 0x068 1
  else
    let s := if s.on F.WEB_STATUS_COASTING && !s.web.down && !s.on F.WEB_STATUS_STALE then s.coastEnd else s
    (s.measured count).2.latchPos i count

/-! ## Overspeed (R88–R91) -/

/-- R88, R90: station n's check of its required rate; k is computed anew when the rate crosses the limit. -/
def overspeedAt (n : Nat) (s : State) : State :=
  if s.armed n then
    let r := s.rateNum n s.webVel
    let l := s.limitNum n
    let s := if 95 * l ≤ 100 * r then s.setGear n { s.gearOf n with hot := true } else s
    let was := bitOf (s.f F.WEB_SLOWDOWN_OVS) n
    let s := if 97 * l ≤ 100 * r then
        let s := (s.setF (F.WEB_ST_STATUS_OVS_WARN n) 1).setBitF F.WEB_SLOWDOWN_OVS n true
        if was then s else s.raiseX EV.SLOWDOWN_REQ
      else s
    let k := s.overK n r
    let was := (s.gearOf n).above
    let s := s.setGear n { s.gearOf n with above := k.isSome }
    match k, findFirst (fun x => x.inProgress && x.reached) (s.station n).frames with
    | some k, some x => if was then s else s.beginDrop n x k (s.nextFree n)
    | _, _ => s
  else s

/-- WEB_SLOWDOWN.VMAX (R88). -/
def State.vmax (s : State) : Nat :=
  (upFrom 0 8).foldl (fun v n =>
    if s.armed n ∧ 0 < s.ratio n then min v (285 * s.f (F.WEB_ST_FLIM_LIMIT n) * 65536 / (500 * s.ratio n)) else v) 65535

/-! ## Minimum print speed (R21, R183, R213) -/

/-- The first line of station n that is not staged. -/
def State.unstaged (s : State) (n : Nat) : Int :=
  if s.on (F.SCR_CFG_KIND n) then s.scanNext n else s.firstUnstaged n

/-- Station n against its minimum print speed: the frame in progress ends at its first unstaged line, and under G3 the station disarms. -/
def vminAt (n : Nat) (s : State) : State :=
  if s.armed n then
    let ep := s.on (F.SCR_CFG_KIND n)
    let slow := s.slow n
    let s := s.setB (if ep then F.EPS_S_STATUS_BELOW_VMIN n else F.INK_S_STATUS_BELOW_VMIN n) slow
    if slow then
      let g3 := s.on F.EVT_GONG_G3
      let from_ := s.unstaged n
      let (s, hit) := s.spoilUnstaged n (if g3 then Reason.PRESS_STOP else Reason.BELOW_VMIN) from_
      let s := if hit && !g3 then s.raiseOwn (if ep then EV.EP_BELOW_VMIN else EV.INK_BELOW_VMIN) n else s
      if g3 then s.disarmKind n else s
    else s
  else s

/-- SCRn_DEMAND (R142): required dot rate against the capacity at the applied throttle step, to the nearest 1/256. -/
def demandAt (n : Nat) (s : State) : State :=
  let num : Int := s.webVel * s.ratio n * s.f (F.SCR_CFG_WIDTH n)
  let r := roundDiv (maxI 0 num) (2 ^ 48 * sclkShare (s.f F.HK_THLIM_A))
  s.setF (F.SCR_DEMAND_RATIO n) (min r.toNat 65535)

/-- The source that was in use, where it still is, is judged by its sample (R68, R81). -/
def State.judgeUsed (s : State) (used : Option Nat) (good stuck : Nat → Bool) (count : Nat → Int) : State :=
  match used with
  | some i => if s.web.inUse = some i then s.judgeSample i (good i) (good i && stuck i) (count i) else s
  | none => s

/-- The fallbacks track the main source while it is in use and its sample stands, neither invalid nor withheld (R69). -/
def State.trackMain (s : State) (good stuck : Nat → Bool) (count : Nat → Int) : State :=
  match s.web.inUse with
  | some i =>
    if !isFallback i && good i && !stuck i then
      [1, 3].foldl (fun s k => if good k then s.track k (s.srcPos i (count i)) (count k) else s) s
    else s
  | none => s

/-- A reversal ends where the source in use has come back (R73). -/
def State.reverseUsed (s : State) (count : Nat → Int) : State :=
  match s.web.inUse with
  | some i => s.reverseEnd (s.srcPos i (count i) + s.corrUnits)
  | none => s

/-- What stands for the sample of a source that does not exist. -/
def noSample : Sample := ⟨[], [], false⟩

/-- The source checks of a period and what follows from them (R65–R69, R80–R85). -/
def State.observe (s : State) (samples : List Sample) : State :=
  let before := s
  let read (i : Nat) : Reading := before.reading i (nthD noSample samples i)
  let count (i : Nat) : Int := (read i).count
  let good (i : Nat) : Bool := before.on (F.WEB_SRC_CTL_EN i) && !(read i).bad
  let stuck (i : Nat) : Bool := (before.source i).seen && decide ((before.source i).last = count i) && before.predictsCount i
  let s := forBelow 4 (fun i s => s.sampleSource i (read i)) s
  let used := s.web.inUse
  let s := s.chooseSource count before.web.down
  let s := s.judgeUsed used good stuck count
  let s := s.trackMain good stuck count
  let s := forBelow 4 (fun i s => s.setB (F.WEB_SRC_STATUS_QUALIFIED i) (s.qualified i)) s
  s.reverseUsed count

/-- R65–R69, R80–R91, R141, R142: one observer period, with what the input of each source showed in it. The part of WEB_CORR that its
travel absorbs goes before a source is taken into use, whose jump so stands whole in its own period (R85). -/
def execObserverPeriod (s0 s1 s2 s3 : Sample) (s : State) : Out :=
  if s.on F.WEB_CTL_OBS_EN then
    let t0 := s.web.period
    let s := s.advanceTo (t0 + 4000)
    let travel := s.webPos - s.web.lastPos
    let s := { s with web := { s.web with period := s.time, lastPos := s.webPos } }
    let s := (s.marksSince t0).absorb travel
    let s := s.observe [s0, s1, s2, s3]
    let s := if s.on F.WEB_STATUS_COASTING then s.tally 0x069 1 else s
    let s := s.marksSince s.time
    let s := forBelow 8 overspeedAt s
    let s := s.setF F.WEB_SLOWDOWN_VMAX s.vmax
    let s := forBelow 8 vminAt s
    let s := forBelow 8 demandAt s
    let s := forBelow 8 (fun n s => s.noteLead n) s
    .next (forBelow 8 (fun n s => if s.armed n then s.reachSplice n (s.lineNow n) else s) s)
  else .next s

end Sys2Proof.Machine
end

