-- ==== Sys2Proof/Machine/Boundary.lean ====
section
/-!
DEFINITION. Frame boundaries (R86–R88, R108, R110, R192, R195, R220, R312, R371): what happens when the line position reaches the
start of a frame.
-/
namespace Sys2Proof.Machine

/-- R192: each boundary ends a frame; at the end of the second after the one spoiled under R191 a head still hotter raises
EV_HEAD_TEMP_RUNAWAY. -/
def State.headRunaway (s : State) (n h : Nat) : State :=
  let x := s.head n h
  match x.spoilT with
  | none => s
  | some t =>
    if x.since < 2 then s.setHead n h { x with since := x.since + 1 }
    else
      let s := s.setHead n h { x with spoilT := none, since := 0 }
      if t < s.fs (F.INK_S_HD_TEMP_T n h) then s.raise EV.HEAD_TEMP_RUNAWAY n else s

/-- The held jumps of station n's drum axis are removed (R87, R312). -/
def State.drumRephase (s : State) (n : Nat) : State :=
  if s.on (F.SCR_CFG_KIND n) then
    let a := s.f (F.EPS_S_DRUM_AXIS n)
    if s.on (F.AXS_A_GSTAT_HOLDING a) then
      let x := s.axis a
      let s := s.setBias (.axis (Fin.ofNat 24 a)) ((s.gearOf (32 + a)).bias - x.held)
      let s := s.setAxis a { x with held := 0, corr := if x.hold then 0 else x.corr, hold := false }
      ((s.setF (F.AXS_A_GSTAT_HOLDING a) 0).showHold a).showAbsorb a
    else s
  else s

/-- A frame that starts while an arc's re-ramp has not brought AT_SET back is SPOILED (R220). -/
def State.arcFrame (s : State) (n : Nat) (x : Frame) : State :=
  if (upFrom 0 4).any fun i => (s.hvCh (4 * n + i)).spoiling then
    let s := s.mapFrame n x.index fun y => { y.spoil (maxI (s.nextFree n) (y.start.getD 0)) Reason.HV_ARC with begun := true }
    s.abandonIn n x (s.nextFree n)
  else s

/-- R88: the OVS bit clears when the rate has stayed below 95 % for one whole frame. -/
def State.ovsClear (s : State) (n : Nat) : State :=
  let g := s.gearOf n
  let s := if g.hot then s else (s.setBitF F.WEB_SLOWDOWN_OVS n false).setF (F.WEB_ST_STATUS_OVS_WARN n) 0
  s.setGear n { g with hot := false }

/-- Announced lines that no frame, report or test needs any more are dropped from the model's list. -/
def State.pruneLines (s : State) (n : Nat) : State :=
  let st := s.station n
  let kept (y : Line) : Bool :=
    decide (s.time < y.fire + 1200000) || decide (y.phase = .staged) || st.frames.any fun x => x.holds y.lpos
  s.setStation n { st with lines := st.lines.filter kept }

/-- The overspeed status at the start of a frame (R90): that of the frame, whose k is computed now where it had none. -/
def State.speedFrame (s : State) (n index : Nat) : State :=
  let s := (s.setGear n { s.gearOf n with dropRaised := false }).setFs [(F.WEB_ST_STATUS_DROPPING n, 0), (F.WEB_ST_STATUS_DROPK n, 0)]
  match findFirst (fun (x : Frame) => decide (x.index = index)) (s.station n).frames with
  | some x => if x.dropJ.isSome then s.showDrop n x.dropK else if x.bare.isSome || decide (x.state = 3) then s else s.enterSpeed n x (s.nextFree n)
  | none => s

/-- What every boundary of station n does, a frame's start or the end of the last one: the frame that was printing ends (R192). -/
def State.frameEnds (s : State) (n : Nat) : State :=
  let s := if (s.station n).printing then forBelow 48 (fun h s => s.headRunaway n h) s else s
  let s := s.setStation n { s.station n with printing := false }
  let s := s.dropHold n
  let s := if n < 4 then (s.drumRephase n).unlockFrame n else s
  let open_ (h : Nat × Option Int) : Bool := decide (h.1 ≠ n) || match h.2 with
    | some l => decide (s.lineNow n < l)
    | none => true
  let s := { s with dd := { s.dd with hide := s.dd.hide.filter open_ } }
  (s.ovsClear n).thermBoundary n

/-- The frames of station n that stand finished are closed, by its kind. -/
def State.closeKind (s : State) (n : Nat) : State := if s.on (F.SCR_CFG_KIND n) then s.closeEp n else s.closeReported n

/-- R110, R113: station n's line position reaches the start of its next frame, or the end of the last placed one. EMPTY is set where the queue
then holds no descriptor; a descriptor that still waits for its job is placed as after an empty queue (DESIGN CHOICE, log entry 58). -/
def execFrameBoundary (n : Fin 8) (s : State) : Out :=
  let k := n.val
  if s.armed k then
    match findFirst (fun (x : Frame) => !x.reached) (s.station k).frames with
    | some x =>
      match s.tickAtLpos k (x.start.getD 0 * 65536) with
      | some t =>
        let s := (s.advanceTo t).reachSplice k (x.start.getD 0)
        match findFirst (fun (y : Frame) => decide (y.index = x.index)) (s.station k).frames with
        | some x =>
          let s := s.mapFrame k x.index fun y => { y with reached := true }
          let s := if x.bare.isNone then s.enterFrame k x else s
          let s := if k < 4 && s.on (F.SCR_CFG_KIND k) then s.arcFrame k x else s
          let s := s.frameEnds k
          let s := s.setStation k { s.station k with printing := true }
          .next (((s.speedFrame k x.index).pruneLines k).closeKind k)
        | none => .next (s.frameEnds k)
      | none => .next s
    | none =>
      match (s.station k).endLine with
      | some e =>
        if (s.station k).ranEmpty then .next (s.closeKind k)
        else match s.tickAtLpos k (e * 65536) with
          | some t =>
            let s := ((s.advanceTo t).frameEnds k).setFs [(F.WEB_ST_STATUS_DROPPING k, 0), (F.WEB_ST_STATUS_DROPK k, 0)]
            let s := (s.setStation k { s.station k with ranEmpty := true }).closeKind k
            if (s.station k).nextFetch = s.f (F.FEED_Q_TAIL k) then .next ((s.setF (F.FEED_Q_STATUS_EMPTY k) 1).raise EV.FQ_EMPTY k) else .next s
          | none => .next s
      | none => .next s
  else .next s

end Sys2Proof.Machine
end

