-- ==== Sys2Proof/Machine/Dma.lean ====
section
/-!
DEFINITION. The DMA engine (R117–R124): descriptors, chains, aborts, drains, and completions of host reads.
-/
namespace Sys2Proof.Machine

/-- Base address of mallet shared memory as DMA sees it (R117). -/
def msmBase : Nat := 2 ^ 36

/-- Bytes of mallet shared memory (R117, R261). -/
def msmSize : Nat := 2 ^ 21

/-- Whether an address names host memory (R117). -/
def isHost (a : Nat) : Bool := !decide (a / 2 ^ 63 = 0)

/-- Whether n bytes at an address lie in one of the targets of R117. -/
def State.dmaRange (s : State) (a n : Nat) : Bool :=
  isHost a || s.inMem a n || (decide (msmBase ≤ a) && decide (a + n ≤ msmBase + msmSize))

/-- The bytes at a device-side address of R117. -/
def State.dmaRead (s : State) (a n : Nat) : List Byte :=
  if msmBase ≤ a then tgets 0 s.msm (a - msmBase) n else s.memRead a n

/-- A request to host memory leaves (R117, R124): Relaxed Ordering cleared, No Snoop as FEED_CTL.NOSNOOP says; bit 63 is not part of the host
address. -/
def State.hostReq (s : State) (write : Bool) (a n : Nat) (bs : List Byte) : State :=
  { s with hostOut := ⟨write, a % 2 ^ 63, n, bs, s.on F.FEED_CTL_NOSNOOP, false⟩ :: s.hostOut }

/-- The requests of a transfer: one for each burst of at most 4 KiB (R119). The count bounds the bursts. -/
def hostBursts (write : Bool) : Nat → Nat → Nat → List Byte → State → State
  | 0, _, _, _, s => s
  | k + 1, a, n, bs, s =>
    if n = 0 then s else hostBursts write k (a + 4096) (n - 4096) (bs.drop 4096) (s.hostReq write a (min n 4096) (bs.take 4096))

/-- A read of host memory is issued. -/
def State.hostRead (s : State) (a n : Nat) : State := hostBursts false (n / 4096 + 1) a n [] s

/-- Write bytes at an address of R117. -/
def State.dmaWrite (s : State) (a : Nat) (bs : List Byte) : State :=
  if isHost a then hostBursts true (bs.length / 4096 + 1) a bs.length bs s
  else if msmBase ≤ a then { s with msm := tputs 0 s.msm (a - msmBase) bs }
  else s.memWrite a bs

/-- Descriptor fields (R118). -/
structure DmaDesc where
  src : Nat
  dst : Nat
  len : Nat
  flags : Nat
  drain : Nat
  next : Nat
  reserved : Bool

/-- The descriptor that 64 bytes hold (R118). -/
def dmaDesc (bs : List Byte) : DmaDesc :=
  let w (o n : Nat) : Nat := ofLE ((bs.drop o).take n)
  ⟨w 0 8, w 8 8, w 0x10 4, w 0x14 4 % 16, w 0x18 8 % 2 ^ 36, w 0x20 8,
    decide (w 0x14 4 / 16 ≠ 0) || decide (w 0x18 8 / 2 ^ 36 ≠ 0) || decide (w 0x34 4 ≠ 0)⟩

/-- Address of the descriptor in progress. -/
def State.dmaCur (s : State) (c : Nat) : Nat := s.pair (F.DMA_CH_CUR_HI c) (F.DMA_CH_CUR_LO c)

/-- The channel goes idle. -/
def State.dmaIdle (s : State) (c : Nat) : State :=
  let s := s.setChan c { s.chan c with phase := .idle, reissued := false }
  (s.setFs [(F.DMA_CH_CTL_START c, 0), (F.DMA_CH_STATUS_BUSY c, 0)]).setBitF F.DMA_STATUS_BUSY c false

/-- A descriptor's own fetch or write-back failed, or NEXT names nothing: the channel stops (R121). -/
def State.dmaFetchErr (s : State) (c : Nat) : State :=
  ((s.dmaIdle c).setF (F.DMA_CH_STATUS_FETCH_ERR c) 1).raise EV.DMA_FETCH_ERR c

/-- Whether a store of one of the named mallets, issued before a number, still stands in its store buffer (R123). -/
def State.storesLeft (s : State) (mask before : Nat) : Bool :=
  (upFrom 0 36).any fun m => bitOf mask m && (s.mallet m).sb.any fun x => decide (x.seq < before)

/-- Whether channel c's descriptor can be written back: not onto poison (R98, R118). -/
def State.dmaBackOk (s : State) (c : Nat) : Bool := isHost (s.dmaCur c) || !s.poisoned (s.dmaCur c + 0x28) 12

/-- Write a descriptor back (R118): stored CRC, status, residue. -/
def State.dmaBack (s : State) (c : Nat) (crc err : Nat) (bad : Bool) (residue : Nat) : State :=
  let a := s.dmaCur c
  let st := (if bad then 2 else 1) + err * 4
  s.dmaWrite (a + 0x28) (toLE crc 4 ++ toLE st 4 ++ toLE residue 4)

/-- The descriptor's reads begin: a host source is asked for its bytes. A descriptor that fails before it moves anything reads nothing. -/
def State.dmaReads (s : State) (c : Nat) : State :=
  let x := s.chan c
  let s := s.setChan c { x with phase := .moving }
  if isHost x.src && !bitOf x.flags 4 && s.dmaRange x.dst x.len then s.hostRead x.src x.len else s

/-- Take the 64 bytes of the descriptor that DMA_CHc_CUR names (R118, R121, R123). A reserved bit set ends it with code 6 at DMA_DESC_DONE, as
does a range that is no target. -/
def State.dmaTake (s : State) (c : Nat) (bs : List Byte) : State :=
  let d := dmaDesc bs
  let x := s.chan c
  let crc := if d.flags / 2 % 2 = 1 then x.crc else 0xFFFFFFFF
  let x : Dma := { phase := .drain, crc := if d.flags % 2 = 1 then crc else x.crc, reissued := false, src := d.src, dst := d.dst, len := d.len,
                   flags := d.flags + (if d.reserved then 16 else 0), drainMask := d.drain, drainSeq := s.storeSeq, next := d.next }
  let s := (s.setChan c x).setFs [(F.DMA_CH_RESIDUE c, d.len), (F.DMA_CH_CRC c, x.crc ^^^ 0xFFFFFFFF)]
  if s.storesLeft d.drain s.storeSeq then s else s.dmaReads c

/-- Begin the descriptor at an address (R118, R119, R121): one in host memory is asked for, and its bytes come with the fetch or with a later
completion. -/
def State.dmaBegin (s : State) (c a : Nat) (x : Fetched) : State :=
  if a % 64 = 0 ∧ s.dmaRange a 64 then
    let s := s.setPair (F.DMA_CH_CUR_HI c) (F.DMA_CH_CUR_LO c) a
    if isHost a then
      let s := (s.setChan c { s.chan c with phase := .fetch, reissued := false }).hostRead a 64
      if x.host.length = 64 then s.dmaTake c x.host else s
    else
      let s := if a < msmBase then s.ecc a x.ecc none else s
      if a < msmBase ∧ s.poisoned a 64 then s.dmaFetchErr c else s.dmaTake c (s.dmaRead a 64)
  else s.dmaFetchErr c

/-- R119: START. -/
def execDmaStart (c : Fin 16) (first : Fetched) (s : State) : Out :=
  let k := c.val
  if s.on F.DMA_CTL_EN then
    if s.on (F.DMA_CH_STATUS_BUSY k) then .next (s.setF (F.DMA_CH_STATUS_START_IGN k) 1)
    else
      let s := (s.setFs [(F.DMA_CH_CTL_START k, 1), (F.DMA_CH_STATUS_BUSY k, 1)]).setBitF F.DMA_STATUS_BUSY k true
      .next (s.dmaBegin k (s.pair (F.DMA_CH_HEAD_HI k) (F.DMA_CH_HEAD_LO k)) first)
  else .next s

/-- R123: the stores named in DRAIN_MASK have left, and the descriptor begins its reads. -/
def execDmaDrainDone (c : Fin 16) (s : State) : Out :=
  let x := s.chan c.val
  if x.phase = .drain ∧ s.storesLeft x.drainMask x.drainSeq = false then .next (s.dmaReads c.val)
  else .next s

/-- Go on after a descriptor: the next one, or the end of the chain (R119). -/
def State.dmaNext (s : State) (c : Nat) (nextDesc : Fetched) : State :=
  let x := s.chan c
  if bitOf x.flags 3 then
    let s := (s.dmaIdle c).setF (F.DMA_CH_STATUS_DONE c) 1
    if s.on (F.DMA_CH_CTL_IRQ_CHAIN c) then s.raise EV.DMA_CHAIN_DONE c else s
  else s.dmaBegin c x.next nextDesc

/-- Move bytes to the destination: the CRC runs over them, and they are counted (R120, R126). -/
def State.dmaMove (s : State) (c : Nat) (bs : List Byte) : State :=
  let x := s.chan c
  let s := (s.dmaWrite x.dst bs).tallyUnits (0x0A0 + c) bs.length 64
  if bitOf x.flags 0 then
    let r := crc32Run x.crc bs
    (s.setChan c { x with crc := r }).setF (F.DMA_CH_CRC c) (r ^^^ 0xFFFFFFFF)
  else s

/-- The CRC a descriptor stores (R120). -/
def State.dmaStored (s : State) (c : Nat) : Nat := if bitOf (s.chan c).flags 0 then (s.chan c).crc ^^^ 0xFFFFFFFF else 0

/-- A descriptor fails with a code and a residue (R121). -/
def State.dmaBad (s : State) (c err residue : Nat) (nextDesc : Fetched) : State :=
  let s := s.setF (F.DMA_CH_RESIDUE c) residue
  let s := (s.addF (F.DMA_CH_STATUS_BADCNT c) 1).setFs [(F.DMA_CH_STATUS_ERR c, err), (F.DMA_CH_STATUS_BAD_SEEN c, 1)]
  let ok := s.dmaBackOk c
  let s := s.dmaBack c (s.dmaStored c) err true residue
  let s := s.raise EV.DMA_BAD c
  if ok then s.dmaNext c nextDesc else s.dmaFetchErr c

/-- A descriptor finishes (R119). -/
def State.dmaGood (s : State) (c : Nat) (nextDesc : Fetched) : State :=
  let s := s.setF (F.DMA_CH_RESIDUE c) 0
  let ok := s.dmaBackOk c
  let s := s.dmaBack c (s.dmaStored c) 0 false 0
  let s := if bitOf (s.chan c).flags 2 then s.raise EV.DMA_DESC_DONE c else s
  if ok then s.dmaNext c nextDesc else s.dmaFetchErr c

/-- The bytes that can be read from n bytes at a device address before a poisoned block (R98). -/
def State.cleanLen (s : State) (a n : Nat) : Nat :=
  match findFirst (fun i => s.poisoned (a + i) 1) (upFrom 0 n) with
  | some i => i
  | none => n

/-- All bytes of a descriptor are moved, or its first failure ends it (R98, R119–R121); `data` is what a host source gave. -/
def State.dmaRun (s : State) (c : Nat) (data : List Byte) (ecc : Ecc) (nextDesc : Fetched) : State :=
  let x := s.chan c
  if bitOf x.flags 4 then s.dmaBad c 6 x.len nextDesc
  else if x.len = 0 then s.dmaGood c nextDesc
  else if !(s.dmaRange x.src x.len && s.dmaRange x.dst x.len) then s.dmaBad c 4 x.len nextDesc
  else if isHost x.src then
    let bs := data.take x.len
    (s.dmaMove c (bs ++ List.replicate (x.len - bs.length) 0)).dmaGood c nextDesc
  else if msmBase ≤ x.src then (s.dmaMove c (s.dmaRead x.src x.len)).dmaGood c nextDesc
  else
    let s := s.ecc x.src ecc none
    let k := s.cleanLen x.src x.len
    let s := s.dmaMove c (s.dmaRead x.src k)
    if k = x.len then s.dmaGood c nextDesc else s.dmaBad c 3 (x.len - k) nextDesc

/-- R119–R121: the descriptor in progress ends. -/
def execDmaDescDone (c : Fin 16) (data : List (BitVec 8)) (ecc : Ecc) (nextDesc : Fetched) (s : State) : Out :=
  if (s.chan c.val).phase = .moving then .next (s.dmaRun c.val data ecc nextDesc) else .next s

/-- What an aborted descriptor has moved of `moved` bytes: none where it had not begun its reads or names no target, and from device memory none
beyond a poisoned block. -/
def State.abortMoves (s : State) (c moved : Nat) (data : List Byte) : List Byte :=
  let x := s.chan c
  let n := min moved x.len
  if x.phase = .moving && !bitOf x.flags 4 && s.dmaRange x.src x.len && s.dmaRange x.dst x.len then
    if isHost x.src then data.take n else s.dmaRead x.src (if msmBase ≤ x.src then n else s.cleanLen x.src n)
  else []

/-- R122: the current descriptor is written back with code 7, and the channel goes idle; STATUS and BADCNT count it as the BAD descriptor it is
(R128). A write-back that fails stops the channel as R121 says. -/
def State.dmaAborted (s : State) (c : Nat) (bs : List Byte) : State :=
  let x := s.chan c
  let s := if x.reissued then (s.setChan c { x with reissued := false }).logRetry 3 EV.PCIE_CPL_TRANSIENT c else s
  if x.phase = .fetch then ((s.dmaIdle c).setF (F.DMA_CH_STATUS_ABORTED c) 1).raise EV.DMA_ABORT c
  else
    let s := s.dmaMove c bs
    let left := x.len - bs.length
    let s := ((s.setF (F.DMA_CH_RESIDUE c) left).addF (F.DMA_CH_STATUS_BADCNT c) 1).setFs [(F.DMA_CH_STATUS_ERR c, 7), (F.DMA_CH_STATUS_BAD_SEEN c, 1)]
    let ok := s.dmaBackOk c
    let s := s.dmaBack c (s.dmaStored c) 7 true left
    let s := if ok then s.dmaIdle c else s.dmaFetchErr c
    (s.setF (F.DMA_CH_STATUS_ABORTED c) 1).raise EV.DMA_ABORT c

/-- R122: ABORT. `data` is what the bursts completed by then moved from a host source, `moved` how many bytes they moved, the burst in
progress among them; `last` says that the last burst of a LAST descriptor completes in the same cycle. -/
def execDmaAbort (c : Fin 16) (moved : BitVec 32) (data : List (BitVec 8)) (last : Bool) (s : State) : Out :=
  let k := c.val
  let x := s.chan k
  if s.on (F.DMA_CH_STATUS_BUSY k) then
    if last ∧ bitOf x.flags 3 ∧ x.phase = .moving then
      .next ((s.dmaRun k data .clean ⟨[], .clean⟩).setF (F.DMA_CH_STATUS_ABORT_LATE k) 1)
    else .next (s.dmaAborted k (s.abortMoves k moved.toNat data))
  else .next s

/-- A host read fails: it is reissued once; a failure on the reissue ends the descriptor with a code (R121, R392). `data` is what
was moved before it. -/
def State.hostReadFail (s : State) (c err : Nat) (data : List Byte) (nextDesc : Fetched) : State :=
  let x := s.chan c
  if x.reissued then
    let s := (s.setChan c { x with reissued := false }).logRetry 2 EV.PCIE_CPL_TRANSIENT c
    let bs := data.take x.len
    (s.dmaMove c bs).dmaBad c err (x.len - bs.length) nextDesc
  else (s.setChan c { x with reissued := true }).hostRead x.src x.len

/-- Whether channel c waits for a descriptor in host memory, and whether it reads data there. -/
def State.hostFetching (s : State) (c : Nat) : Bool := decide ((s.chan c).phase = .fetch)
def State.hostReading (s : State) (c : Nat) : Bool := decide ((s.chan c).phase = .moving) && isHost (s.chan c).src

/-- A reissued read of host memory succeeded: the fault was transient (R121). -/
def State.hostTransient (s : State) (c : Nat) : State :=
  if (s.chan c).reissued then
    (((s.setChan c { s.chan c with reissued := false }).tally 0x094 1).logRetry 1 EV.PCIE_CPL_TRANSIENT c).raise EV.PCIE_CPL_TRANSIENT c
  else s

/-- A descriptor's own fetch from host memory fails: it is reissued once, and a failure on the reissue stops the channel (R121). -/
def State.hostFetchFail (s : State) (c : Nat) : State :=
  if (s.chan c).reissued then (s.logRetry 2 EV.PCIE_CPL_TRANSIENT c).dmaFetchErr c
  else (s.setChan c { s.chan c with reissued := true }).hostRead (s.dmaCur c) 64

/-- R121: a completion of a device read of host memory, which brings data or the descriptor that the channel waits for. -/
def execPcieCompletion (c : Fin 16) (r : Completion) (data : List (BitVec 8)) (nextDesc : Fetched) (s : State) : Out :=
  let k := c.val
  if s.hostFetching k then
    match r with
    | .ok => .next (if data.length = 64 then (s.hostTransient k).dmaTake k data else s.hostTransient k)
    | .abort => .next (s.hostFetchFail k)
    | .poisoned => .next (s.hostFetchFail k)
  else if s.hostReading k then
    match r with
    | .ok => .next (s.hostTransient k)
    | .abort => .next (s.hostReadFail k 1 data nextDesc)
    | .poisoned => .next (s.hostReadFail k 5 data nextDesc)
  else .next s

/-- R121: a device read of host memory times out. -/
def execPcieCplTimeout (c : Fin 16) (data : List (BitVec 8)) (nextDesc : Fetched) (s : State) : Out :=
  let k := c.val
  if s.hostFetching k then .next (s.hostFetchFail k)
  else if s.hostReading k then .next (s.hostReadFail k 2 data nextDesc)
  else .next s

end Sys2Proof.Machine
end

