-- ==== Sys2Proof/Machine/Sign.lean ====
section
/-!
DEFINITION. The standards that R415–R417 and R278 name for keys and signatures: SHA-384 and ECDSA over P-384 with public keys in
uncompressed SEC 1 form. Their details stand in those standards, not in the specification (PRESUMED, log entry 32).
-/
namespace Sys2Proof.Machine

/-! ## SHA-384 -/

/-- The eight working words of a compression. -/
structure Sha where
  a : BitVec 64
  b : BitVec 64
  c : BitVec 64
  d : BitVec 64
  e : BitVec 64
  f : BitVec 64
  g : BitVec 64
  h : BitVec 64
deriving DecidableEq, Repr

/-- Round constants 0 to 19. -/
def shaK0 : List (BitVec 64) :=
  [0x428A2F98D728AE22, 0x7137449123EF65CD, 0xB5C0FBCFEC4D3B2F, 0xE9B5DBA58189DBBC,
   0x3956C25BF348B538, 0x59F111F1B605D019, 0x923F82A4AF194F9B, 0xAB1C5ED5DA6D8118,
   0xD807AA98A3030242, 0x12835B0145706FBE, 0x243185BE4EE4B28C, 0x550C7DC3D5FFB4E2,
   0x72BE5D74F27B896F, 0x80DEB1FE3B1696B1, 0x9BDC06A725C71235, 0xC19BF174CF692694,
   0xE49B69C19EF14AD2, 0xEFBE4786384F25E3, 0x0FC19DC68B8CD5B5, 0x240CA1CC77AC9C65]

/-- Round constants 20 to 39. -/
def shaK1 : List (BitVec 64) :=
  [0x2DE92C6F592B0275, 0x4A7484AA6EA6E483, 0x5CB0A9DCBD41FBD4, 0x76F988DA831153B5,
   0x983E5152EE66DFAB, 0xA831C66D2DB43210, 0xB00327C898FB213F, 0xBF597FC7BEEF0EE4,
   0xC6E00BF33DA88FC2, 0xD5A79147930AA725, 0x06CA6351E003826F, 0x142929670A0E6E70,
   0x27B70A8546D22FFC, 0x2E1B21385C26C926, 0x4D2C6DFC5AC42AED, 0x53380D139D95B3DF,
   0x650A73548BAF63DE, 0x766A0ABB3C77B2A8, 0x81C2C92E47EDAEE6, 0x92722C851482353B]

/-- Round constants 40 to 59. -/
def shaK2 : List (BitVec 64) :=
  [0xA2BFE8A14CF10364, 0xA81A664BBC423001, 0xC24B8B70D0F89791, 0xC76C51A30654BE30,
   0xD192E819D6EF5218, 0xD69906245565A910, 0xF40E35855771202A, 0x106AA07032BBD1B8,
   0x19A4C116B8D2D0C8, 0x1E376C085141AB53, 0x2748774CDF8EEB99, 0x34B0BCB5E19B48A8,
   0x391C0CB3C5C95A63, 0x4ED8AA4AE3418ACB, 0x5B9CCA4F7763E373, 0x682E6FF3D6B2B8A3,
   0x748F82EE5DEFB2FC, 0x78A5636F43172F60, 0x84C87814A1F0AB72, 0x8CC702081A6439EC]

/-- Round constants 60 to 79. -/
def shaK3 : List (BitVec 64) :=
  [0x90BEFFFA23631E28, 0xA4506CEBDE82BDE9, 0xBEF9A3F7B2C67915, 0xC67178F2E372532B,
   0xCA273ECEEA26619C, 0xD186B8C721C0C207, 0xEADA7DD6CDE0EB1E, 0xF57D4F7FEE6ED178,
   0x06F067AA72176FBA, 0x0A637DC5A2C898A6, 0x113F9804BEF90DAE, 0x1B710B35131C471B,
   0x28DB77F523047D84, 0x32CAAB7B40C72493, 0x3C9EBE0A15C9BEBC, 0x431D67C49C100D4C,
   0x4CC5D4BECB3E42B6, 0x597F299CFC657E2A, 0x5FCB6FAB3AD6FAEC, 0x6C44198C4A475817]

/-- The initial value of SHA-384. -/
def Sha.init : Sha :=
  ⟨0xCBBB9D5DC1059ED8, 0x629A292A367CD507, 0x9159015A3070DD17, 0x152FECD8F70E5939,
   0x67332667FFC00B31, 0x8EB44A8768581511, 0xDB0C2E0D64F98FA7, 0x47B5481DBEFA4FA4⟩

/-- The next word of the message schedule from the sixteen before it, newest first. -/
def shaWord (w : List (BitVec 64)) : BitVec 64 :=
  let s0 (x : BitVec 64) : BitVec 64 := x.rotateRight 1 ^^^ x.rotateRight 8 ^^^ x >>> 7
  let s1 (x : BitVec 64) : BitVec 64 := x.rotateRight 19 ^^^ x.rotateRight 61 ^^^ x >>> 6
  s1 (nthD 0 w 1) + nthD 0 w 6 + s0 (nthD 0 w 14) + nthD 0 w 15

/-- The message schedule, newest first, extended by n words. -/
def shaExtend : Nat → List (BitVec 64) → List (BitVec 64)
  | 0, w => w
  | n + 1, w => shaExtend n (shaWord w :: w)

/-- One round. -/
def Sha.round (x : Sha) (kw : BitVec 64 × BitVec 64) : Sha :=
  let t1 := x.h + (x.e.rotateRight 14 ^^^ x.e.rotateRight 18 ^^^ x.e.rotateRight 41) + (x.e &&& x.f ^^^ (~~~x.e &&& x.g)) + kw.1 + kw.2
  let t2 := (x.a.rotateRight 28 ^^^ x.a.rotateRight 34 ^^^ x.a.rotateRight 39) + (x.a &&& x.b ^^^ (x.a &&& x.c) ^^^ (x.b &&& x.c))
  ⟨t1 + t2, x.a, x.b, x.c, x.d + t1, x.e, x.f, x.g⟩

/-- The number that a list of bytes holds, highest first. -/
def ofBE (bs : List Byte) : Nat := bs.foldl (fun a b => a * 256 + b.toNat) 0

/-- n bytes of a number, highest first. -/
def toBE (v n : Nat) : List Byte := (toLE v n).reverse

/-- The compression of one block of 128 bytes. -/
def Sha.block (x : Sha) (bs : List Byte) : Sha :=
  let w := (upFrom 0 16).map fun i => BitVec.ofNat 64 (ofBE ((bs.drop (i * 8)).take 8))
  let y := ((shaK0 ++ shaK1 ++ shaK2 ++ shaK3).zip (shaExtend 64 w.reverse).reverse).foldl Sha.round x
  ⟨x.a + y.a, x.b + y.b, x.c + y.c, x.d + y.d, x.e + y.e, x.f + y.f, x.g + y.g, x.h + y.h⟩

/-- n blocks. -/
def Sha.blocks (x : Sha) (bs : List Byte) : Nat → Sha
  | 0 => x
  | n + 1 => (x.block (bs.take 128)).blocks (bs.drop 128) n

/-- SHA-384, as 48 bytes. -/
def sha384 (bs : List Byte) : List Byte :=
  let n := bs.length
  let pad := (239 - n % 128) % 128
  let all := bs ++ 0x80 :: List.replicate pad 0 ++ toBE (n * 8) 16
  let y := Sha.init.blocks all (all.length / 128)
  (([y.a, y.b, y.c, y.d, y.e, y.f]).map fun v => toBE v.toNat 8).flatten

/-! ## ECDSA over P-384 -/

/-- The prime of the field. -/
def P384.p : Nat := 2 ^ 384 - 2 ^ 128 - 2 ^ 96 + 2 ^ 32 - 1

/-- The order of the base point. -/
def P384.n : Nat := 0xFFFFFFFFFFFFFFFFFFFFFFFFFFFFFFFFFFFFFFFFFFFFFFFFC7634D81F4372DDF581A0DB248B0A77AECEC196ACCC52973

/-- The coefficient b of the curve y² = x³ - 3x + b. -/
def P384.b : Nat := 0xB3312FA7E23EE7E4988E056BE3F82D19181D9C6EFE8141120314088F5013875AC656398D8A2ED19D2A85C8EDD3EC2AEF

/-- The base point. -/
def P384.gx : Nat := 0xAA87CA22BE8B05378EB1C71EF320AD746E1D3B628BA79B9859F741E082542A385502F25DBF55296C3A545E3872760AB7
def P384.gy : Nat := 0x3617DE4A96262C6F5D9E98BF9292DC29F8F41DBD289A147CE9DA3113B5F0B8C00A60B1CE1D7E819D7A431D7C90EA0E5F

/-- The power b^e modulo m, over the low k bits of e. -/
def powMod (m b : Nat) : Nat → Nat → Nat
  | 0, _ => 1 % m
  | k + 1, e =>
    let h := powMod m b k (e / 2)
    if e % 2 = 1 then h * h % m * b % m else h * h % m

/-- The inverse modulo a prime of 384 bits. -/
def invMod (m v : Nat) : Nat := powMod m v 384 (m - 2)

/-- A point in Jacobian coordinates; z = 0 is the point at infinity. -/
structure Pt where
  x : Nat
  y : Nat
  z : Nat
deriving DecidableEq, Repr

/-- Subtraction in the field. -/
def subP (a b : Nat) : Nat := (a + P384.p - b % P384.p) % P384.p

/-- Twice a point. -/
def Pt.double (q : Pt) : Pt :=
  let p := P384.p
  if q.z = 0 ∨ q.y = 0 then ⟨1, 1, 0⟩
  else
    let zz := q.z * q.z % p
    let yy := q.y * q.y % p
    let s := 4 * q.x * yy % p
    let m := 3 * subP q.x zz * ((q.x + zz) % p) % p
    let x' := subP (m * m % p) (2 * s)
    ⟨x', subP (m * subP s x' % p) (8 * yy * yy), 2 * q.y * q.z % p⟩

/-- The sum of two points. -/
def Pt.add (u v : Pt) : Pt :=
  let p := P384.p
  if u.z = 0 then v
  else if v.z = 0 then u
  else
    let zu := u.z * u.z % p
    let zv := v.z * v.z % p
    let a := u.x * zv % p
    let b := v.x * zu % p
    let c := u.y * zv * v.z % p
    let d := v.y * zu * u.z % p
    if a = b then (if c = d then u.double else ⟨1, 1, 0⟩)
    else
      let h := subP b a
      let r := subP d c
      let hh := h * h % p
      let hhh := hh * h % p
      let w := a * hh % p
      let x' := subP (subP (r * r % p) hhh) (2 * w)
      ⟨x', subP (r * subP w x' % p) (c * hhh), u.z * v.z * h % p⟩

/-- The multiple of a point by the low k bits of e. -/
def Pt.mul (q : Pt) : Nat → Nat → Pt
  | 0, _ => ⟨1, 1, 0⟩
  | k + 1, e =>
    let h := (q.mul k (e / 2)).double
    if e % 2 = 1 then h.add q else h

/-- A public key in uncompressed SEC 1 form (97 bytes), where it is a point of the curve. -/
def keyPoint (key : List Byte) : Option Pt :=
  let x := ofBE ((key.drop 1).take 48)
  let y := ofBE ((key.drop 49).take 48)
  let p := P384.p
  if key.length = 97 ∧ key.headD 0 = 4 ∧ x < p ∧ y < p ∧ y * y % p = (x * x * x + (p - 3) * x + P384.b) % p then some ⟨x, y, 1⟩ else none

/-- Whether a signature of 96 bytes, r and then s, over a message verifies with a public key. -/
def ecdsaOk (key msg sig : List Byte) : Bool :=
  let r := ofBE (sig.take 48)
  let s := ofBE ((sig.drop 48).take 48)
  let n := P384.n
  match keyPoint key with
  | some q =>
    decide (sig.length = 96) && decide (1 ≤ r) && decide (r < n) && decide (1 ≤ s) && decide (s < n) &&
      (let w := invMod n s
       let e := ofBE (sha384 msg)
       let pt := (Pt.mul ⟨P384.gx, P384.gy, 1⟩ 384 (e * w % n)).add (q.mul 384 (r * w % n))
       let zi := invMod P384.p pt.z
       decide (pt.z ≠ 0) && decide (pt.x * zi % P384.p * zi % P384.p % n = r))
  | none => false

end Sys2Proof.Machine
end

