-- ==== Sys2Proof/Machine/Otp.lean ====
section
/-!
DEFINITION. The OTP, the customer keys and their verification (R406–R418, R434).
-/
namespace Sys2Proof.Machine

/-! ## Groups (R406–R411, R414) -/

/-- Word w of group g. -/
def State.otpWord (s : State) (g w : Nat) : Nat := tget 0 s.otp (g * 32 + w)

/-- Words of a group as little-endian bytes (R407). -/
def State.otpBytes (s : State) (g from_ n : Nat) : List Byte := ((upFrom from_ n).map fun w => toLE (s.otpWord g w) 4).flatten

/-- R407: at least 24 of the bits of word 31 are 1. -/
def State.otpLocked (s : State) (g : Nat) : Bool := decide (24 ≤ countBits (s.otpWord g 31) 32)

/-- R407: the CRC of words 0–29. -/
def State.otpCrcOk (s : State) (g : Nat) : Bool := decide (crc16 (s.otpBytes g 0 30) = bitsOf (s.otpWord g 30) 15 0)

def State.otpSuperseded (s : State) (g : Nat) : Bool := bitOf (s.otpWord g 30) 20

def State.otpSpare (s : State) (g : Nat) : Nat := bitsOf (s.otpWord g 30) 19 16

/-- R410: a supersede that names a group outside 4–15, itself, or a spare that is itself superseded. -/
def State.supersedeFails (s : State) (g : Nat) : Bool :=
  s.otpSuperseded g && (decide (s.otpSpare g < 4) || decide (s.otpSpare g = g) || s.otpSuperseded (s.otpSpare g))

/-- R409: 0 BLANK, 1 OPEN, 2 LOCKED, 3 BAD; a superseded group's CRC is not checked. -/
def State.groupState (s : State) (g : Nat) : Nat :=
  if (upFrom 0 32).all fun w => decide (s.otpWord g w = 0) then 0
  else if !s.otpLocked g then 1
  else if s.otpSuperseded g || s.otpCrcOk g then 2
  else 3

/-- The group that a reader of group g reads (R414). -/
def State.otpReader (s : State) (g : Nat) : Nat := if s.otpSuperseded g && !s.supersedeFails g then s.otpSpare g else g

/-- OTP_GSTAT and OTP_GSUP follow the words (R434). -/
def State.showOtp (s : State) : State :=
  let st := (upFrom 0 16).foldl (fun a g => a + s.groupState g * 4 ^ g) 0
  let sup := (upFrom 0 16).foldl (fun a g => a + b2n (s.otpSuperseded g) * 2 ^ g) 0
  s.setFs [(F.OTP_GSTAT, st), (F.OTP_GSUP_SUPERSEDED, sup)]

/-! ## Reading and programming (R408, R413) -/

/-- The keeper's state with a write of OTP_KEY no longer the last (R413). -/
def State.dropKey (s : State) : State := { s with keeper := { s.keeper with key := false } }

/-- R413: only the exact key, written immediately before, enables a programming command. -/
def execOtpKeyWrite (v : BitVec 32) (s : State) : Out :=
  .next { s with keeper := { s.keeper with key := decide (v.toNat = 0x4F545021) } }

/-- The reads of a word at both references (R408): 0 they agree, 1 the retry agrees, 2 the retry disagrees. -/
def otpVerdict (r : OtpRead) : Nat := if r.normal = r.tight then 0 else if r.normal2 = r.tight2 then 1 else 2

/-- The value returned (R408): where the reads differ, the retry's at the normal reference. -/
def otpValue (r : OtpRead) (w : Nat) : Nat := w ^^^ (if r.normal = r.tight then r.normal else r.normal2).toNat

/-- What a read at both references leaves behind (R408). -/
def State.otpMark (s : State) (r : OtpRead) : State :=
  match otpVerdict r with
  | 0 => s
  | 1 => (((s.setF F.OTP_STATUS_TRANSIENT 1).tally 0x243 1).logRetry 1 EV.OTP_TRANSIENT 0).raiseX EV.OTP_TRANSIENT
  | _ => ((s.setF F.OTP_STATUS_MARGINAL 1).logRetry 2 EV.OTP_TRANSIENT 0).raiseX EV.OTP_MARGINAL

/-- The command fields of OTP_CMD. -/
def State.otpCmd (s : State) (op g w : Nat) (follow : Bool) : State :=
  (s.setFs [(F.OTP_CMD_OP, op), (F.OTP_CMD_GROUP, g), (F.OTP_CMD_WORD, w)]).setB F.OTP_CMD_FOLLOW follow

/-- R408, R411, R414: OTP_CMD READ; an absent group reads 0 with ERR = ABSENT. -/
def execOtpRead (group : BitVec 4) (word : BitVec 5) (follow : Bool) (r : OtpRead) (s : State) : Out :=
  if s.on F.OTP_STATUS_BUSY then .next ((s.flam F.OTP_FLAM_COUNT 1).dropKey)
  else
    let g := group.toNat
    let s := ((s.otpCmd 1 g word.toNat follow).dropKey).tally 0x242 1
    if bitOf (s.f F.OTP_GSUP_ABSENT) g then .next (s.setFs [(F.OTP_RDATA, 0), (F.OTP_STATUS_ERR, 7)])
    else
      let v := s.otpWord (if follow then s.otpReader g else g) word.toNat
      .next ((s.setFs [(F.OTP_RDATA, otpValue r v), (F.OTP_STATUS_ERR, 0)]).otpMark r)

/-- ODS0 lies outside 0–85 °C or is broken (R413). -/
def State.otpTemp (s : State) : Bool :=
  s.on (F.HK_CH_STATUS_BROKEN 0) || decide (s.fs (F.HK_CH_TEMP_VALUE 0) < 0) || decide (680 < s.fs (F.HK_CH_TEMP_VALUE 0))

/-- The first code of R413 that refuses a programming command; 0 where none does. -/
def State.progRefusal (s : State) (g w data : Nat) : Nat :=
  if g < 4 then 2
  else if !s.keeper.key then 3
  else if s.anyArmed then 6
  else if s.otpTemp then 8
  else if s.otpLocked g ∧ (w ≠ 30 ∨ data % 65536 ≠ 0 ∧ data % 65536 &&& (0xFFFF - s.otpWord g 30 % 65536) ≠ 0) then 1
  else if s.otpWord g w &&& data ≠ s.otpWord g w then 4
  else 0

/-- R413: OTP_CMD PROG is refused with the first code that applies, or its first pulse starts. -/
def execOtpProg (group : BitVec 4) (word : BitVec 5) (follow : Bool) (s : State) : Out :=
  if s.on F.OTP_STATUS_BUSY then .next ((s.flam F.OTP_FLAM_COUNT 1).dropKey)
  else
    let g := group.toNat
    let w := word.toNat
    let data := s.f F.OTP_WDATA
    let e := s.progRefusal g w data
    let s := (s.otpCmd 2 g w follow).dropKey
    if e = 0 then
      let old := s.otpWord g w
      let s := { s with keeper := { s.keeper with prog := some (g * 32 + w, old ||| data) } }
      .next (s.setFs [(F.OTP_STATUS_ERR, 0), (F.OTP_STATUS_ATTEMPTS, 0), (F.OTP_STATUS_BUSY, 1), (F.OTP_CMD_GO, 1)])
    else .next (s.setFs [(F.OTP_STATUS_ERR, e), (F.OTP_STATUS_ATTEMPTS, 0)])

/-- A programming command is over. -/
def State.progOver (s : State) (e : Nat) : State :=
  let s := { s with keeper := { s.keeper with prog := none } }
  (s.setFs [(F.OTP_STATUS_BUSY, 0), (F.OTP_CMD_GO, 0), (F.OTP_STATUS_ERR, e)]).showOtp

/-- R413: an attempt's verify reads a value: the target is success; a fourth failure is PROG_FAIL. What was blown stays blown. -/
def execOtpProgDone (verify : BitVec 32) (s : State) : Out :=
  match s.keeper.prog with
  | some (i, target) =>
    let got := tget 0 s.otp i ||| (verify.toNat &&& target)
    let n := s.f F.OTP_STATUS_ATTEMPTS + 1
    let s := ({ s with otp := tput 0 s.otp i got }).setF F.OTP_STATUS_ATTEMPTS n
    if verify.toNat = target then .next ((s.progOver 0).note i)
    else if 4 ≤ n then .next ((((s.progOver 5).setF F.OTP_STATUS_PROG_FAIL 1).note i).raiseX EV.OTP_PROG_FAIL)
    else .next s
  | none => .next s

/-! ## Customer keys (R411, R414, R415) -/

/-- The group that holds customer key k, and its place in it (R406). -/
def keyGroup (k : Nat) : Nat := 4 + k / 2

/-- The group whose words give key k's hash, where they may be used: LOCKED itself, or a LOCKED spare (R415). -/
def State.keySource (s : State) (k : Nat) : Option Nat :=
  let g := keyGroup k
  if s.supersedeFails g then none
  else if s.groupState (s.otpReader g) = 2 then some (s.otpReader g)
  else none

/-- R407, R414: the REVOKE bits of a superseded group and of its spare are combined. -/
def State.keyRevoked (s : State) (k : Nat) : Bool :=
  bitOf (s.otpWord (keyGroup k) 30) (21 + k % 2) || bitOf (s.otpWord (s.otpReader (keyGroup k)) 30) (21 + k % 2)

/-- The 48 bytes of key k's hash (R415). -/
def State.keyHash (s : State) (k : Nat) : List Byte := s.otpBytes (s.otpReader (keyGroup k)) (k % 2 * 12) 12

/-- Whether customer key k is valid (R415). -/
def State.keyValid (s : State) (k : Nat) : Bool :=
  decide (k < 4) && (s.keySource k).isSome && (s.keyHash k).any (fun b => decide (b ≠ 0)) && !s.keyRevoked k
    && (let key := tget [] s.keeper.keys k
        decide (key.length = 97) && decide (sha384 key = s.keyHash k))

/-- Whether a signature over a message verifies with valid customer key k. -/
def State.signed (s : State) (k : Nat) (msg sig : List Byte) : Bool := s.keyValid k && ecdsaOk (tget [] s.keeper.keys k) msg sig

/-- Neither key group has been locked (R411). -/
def State.unprovisioned (s : State) : Bool := !s.otpLocked 4 && !s.otpLocked 5

/-- R411: the boot ROM's mode, 1 normal or 2 recovery. -/
def State.bootMode (s : State) : Nat :=
  let integrity := (upFrom 0 4).any fun g => decide (s.groupState g ≠ 2) || s.supersedeFails g
  let touched := [4, 5].any fun g => decide (2 ≤ s.groupState g) || s.supersedeFails g
  let valid := (upFrom 0 4).any fun k => s.keyValid k
  if integrity || (touched && !valid) then 2 else 1

/-- R410: what the start-up checks raise for group g, with g in the cause field. -/
def State.checkGroup (g : Nat) (s : State) : State :=
  let st := s.groupState g
  if decide (st = 3) || (decide (g < 4) && decide (st ≠ 2)) || s.supersedeFails g then
    (((s.setF F.OTP_STATUS_INTEGRITY 1).note g).raise EV.OTP_INTEGRITY g)
  else s

/-- R411: customer groups other than key groups that read as absent. -/
def State.absentGroups (s : State) : Nat :=
  (upFrom 6 10).foldl (fun a g => if decide (s.groupState g = 3) || s.supersedeFails g then a + 2 ^ g else a) 0

end Sys2Proof.Machine
end

