-- ==== Sys2Proof/Machine/Keeper.lean ====
section
/-!
DEFINITION. The keeper: the mailbox and its commands, firmware, log and life store, calendar, margin review (R403–R405, R412–R430), and
the images of mallets (R278, R279).
-/
namespace Sys2Proof.Machine

def State.mapKeeper (s : State) (g : Keeper → Keeper) : State := { s with keeper := g s.keeper }

/-! ## The mailbox (R419, R420) -/

def Mbx.OK : Nat := 0
def Mbx.BAD_OP : Nat := 1
def Mbx.BAD_ARG : Nat := 2
def Mbx.SIG_FAIL : Nat := 3
def Mbx.STATE : Nat := 4
def Mbx.MEM_ERR : Nat := 5
def Mbx.FLASH_ERR : Nat := 6

/-- The commands allowed in recovery mode (R419). -/
def recoveryOps : List Nat := [0x01, 0x02, 0x05, 0x20, 0x21, 0x22, 0x30, 0x31, 0x33, 0x34]

/-- The commands that the ROM serves when neither slot verifies (R412). -/
def romOps : List Nat := [0x01, 0x02, 0x20]

/-- Whether the present mode allows a command. -/
def State.mbxMay (s : State) (op : Nat) : Bool :=
  match s.f F.MBX_STATUS_MODE with
  | 0 => romOps.contains op
  | 2 => recoveryOps.contains op
  | _ => true

/-- The response words of a command, in MBX_RSP0–7. -/
def State.putRsp (s : State) (rsp : List Nat) : State := forBelow 8 (fun i s => s.setF (F.MBX_RSP i) (nthD 0 rsp i)) s

/-- What a mailbox command answers: a state, a result and response words. -/
abbrev MbxRun := State → State × Nat × List Nat

/-- A host command of the mailbox: it waits with GO set until READY (R405), is refused where the mode does not allow it, or runs. -/
def State.mailbox (s : State) (op : Nat) (run : MbxRun) : State :=
  let s := s.setF F.MBX_CMD_OP op
  if s.on F.MBX_STATUS_READY then
    let (s, result, rsp) := if s.mbxMay op then run s else (s, Mbx.BAD_OP, [])
    ((s.putRsp (if result = 0 then rsp else [])).setFs [(F.MBX_CMD_GO, 0), (F.MBX_STATUS_BUSY, 0), (F.MBX_STATUS_RESULT, result)]).tally
      0x245 1
  else s.setF F.MBX_CMD_GO 1

/-- The oldest message at the keeper with a TAG, and the rest. -/
def takeMsg (tag : Nat) : List Msg → Option (Msg × List Msg)
  | [] => none
  | x :: r => if x.tag = tag then some (x, r)
    else match takeMsg tag r with
      | some (y, r') => some (y, x :: r')
      | none => none

/-- A carillon command of the mailbox (R419): the oldest message with TAG = op runs with its payload as ARG0–2, and its sender gets the
reply. -/
def State.carillonMbx (s : State) (op : Nat) (run : (Nat → Nat) → MbxRun) : State :=
  if s.on F.MBX_STATUS_READY then
    match takeMsg op s.keeperRx with
    | some (x, rest) =>
      let arg (i : Nat) : Nat := if i = 0 then x.w1.toNat else if i = 1 then x.w2.toNat else if i = 2 then x.w3.toNat else 0
      let s := { s with keeperRx := rest }
      let (s, result, rsp) := if s.mbxMay op then run arg s else (s, Mbx.BAD_OP, [])
      (s.keeperReply x result rsp).tally 0x245 1
    | none => s
  else s

def State.arg (s : State) (i : Nat) : Nat := s.f (F.MBX_ARG i)

/-- A 64-bit address argument. -/
def State.argAddr (s : State) (i : Nat) : Nat := 2 ^ 32 * s.arg (i + 1) + s.arg i

/-- A command that may come either way. -/
def State.eitherMbx (s : State) (op : Nat) (car : Bool) (run : (Nat → Nat) → MbxRun) : State :=
  if car then s.carillonMbx op run else s.mailbox op (run s.arg)

/-- Whether the keeper reads n bytes at an address from the device: a target of R117, in normal mode (R411). -/
def State.keeperReads (s : State) (a n : Nat) : Bool := !isHost a && decide (s.f F.MBX_STATUS_MODE = 1) && s.dmaRange a n

/-- What the keeper's read of device memory leaves (R98, R102). -/
def State.keeperTouch (s : State) (a n : Nat) (ecc : Ecc) : State :=
  if s.keeperReads a n && decide (a < msmBase) then s.ecc a ecc none else s

/-- The bytes the keeper's read of n bytes at an address of R117 gives: host memory gives `host`, device memory its bytes unless they lie
out of range or are uncorrectable; in recovery mode only host memory (R411). -/
def State.keeperGot (s : State) (a n : Nat) (host : List Byte) : Option (List Byte) :=
  if isHost a then (if host.length = n then some host else none)
  else if s.keeperReads a n && (decide (msmBase ≤ a) || !s.poisoned a n) then some (s.dmaRead a n)
  else none

/-- Whether the keeper may write n bytes at an address: host memory, or a target of R117 once the fabric runs. -/
def State.keeperWritable (s : State) (a n : Nat) : Bool := isHost a || (decide (s.f F.MBX_STATUS_MODE = 1) && s.dmaRange a n)

/-- The keeper's write of bytes at an address of R117; bytes for host memory leave the device as the model's answer. -/
def State.keeperWrite (s : State) (a : Nat) (bs : List Byte) : State :=
  if isHost a then { s with answer := .bytes bs false } else s.dmaWrite a bs

/-! ## General commands (R419) -/

/-- R419, 0x01: the packing of RSP0 follows GCTL_ID, and RSP3 holds the mode, the slot and TRIAL from bit 0 (log entry 36). -/
def State.getInfo (s : State) (_ : Nat → Nat) : State × Nat × List Nat :=
  (s, 0, [s.f F.GCTL_ID_REV * 256 + s.f F.GCTL_ID_GRADE, s.keeper.slotA.version.toNat, s.keeper.slotB.version.toNat,
    s.f F.MBX_STATUS_MODE + s.f F.MBX_STATUS_SLOT * 4 + s.f F.MBX_STATUS_TRIAL * 8, lo32 s.boots, hi32 s.boots])

def execGetInfo (car : Bool) (s : State) : Out := .next (s.eitherMbx 0x01 car fun a s => s.getInfo a)

/-- R419, 0x02: with the right key, a device reset 1 ms after the response. -/
def State.mbxReset (s : State) : State × Nat × List Nat :=
  if s.arg 0 = 0x52535421 then (s.mapKeeper fun k => { k with resetAt := some (s.time + 600000) }, 0, []) else (s, Mbx.BAD_ARG, [])

def execReset (s : State) : Out := .next (s.mailbox 0x02 State.mbxReset)

/-- R419, 0x03. -/
def State.closeConfig (s : State) : State × Nat × List Nat :=
  (s.setFs [(F.EVT_LOCK_LOCK, 1), (F.MLT_LOCK_LOCK, 1), (F.CHG_LOCK_LOCK, 1), (F.EPS_LOCK_LOCK, 1), (F.PWR_LOCK_LOCK, 1)], 0, [])

def execCloseConfig (s : State) : Out := .next (s.mailbox 0x03 State.closeConfig)

/-- The 17 entries of ARG1–9, two to a word (R419). -/
def State.tableArgs (s : State) : List Nat := (upFrom 0 17).map fun i => s.arg (1 + i / 2) / 65536 ^ (i % 2) % 65536

/-- A stored temperature table is applied. -/
def State.applyTcomp (s : State) (ctab : Bool) (t : List Nat) : State :=
  forBelow t.length (fun i s => s.setF (if ctab then F.CLK_CTAB_PPM i else F.CLK_XTAB_PPM i) (nthD 0 t i)) s

/-- R419, 0x04: stored in the life store, then applied. -/
def State.setTcomp (s : State) : State × Nat × List Nat :=
  let t := s.tableArgs
  match s.arg 0 with
  | 0 => ((s.mapKeeper fun k => { k with xtab := t }).applyTcomp false t, 0, [])
  | 1 => ((s.mapKeeper fun k => { k with ctab := t }).applyTcomp true t, 0, [])
  | _ => (s, Mbx.BAD_ARG, [])

def execSetTcomp (s : State) : Out := .next (s.mailbox 0x04 State.setTcomp)

/-- R419, R425, 0x05: the calendar takes the value at the next fraction boundary; both values are noted. -/
def State.calSet (s : State) (arg : Nat → Nat) : State × Nat × List Nat :=
  if 32767 < arg 2 then (s, Mbx.BAD_ARG, [])
  else
    let old := [lo32 s.calSec, hi32 s.calSec, s.calFrac]
    let s := { s with calSec := 2 ^ 32 * arg 1 + arg 0, calFrac := arg 2, calSub := 0 }
    let s := (s.mapKeeper fun k => { k with calValid := true }).setF F.MBX_STATUS_CAL_VALID 1
    ((s.note (nthD 0 old 0 % 65536)).note (arg 0 % 65536), 0, old)

def execCalSet (car : Bool) (s : State) : Out := .next (s.eitherMbx 0x05 car fun a s => s.calSet a)

/-! ## Images (R266, R278, R279) -/

/-- The length an image's header gives. -/
def imgLen (bs : List Byte) : Nat := 64 + 4 * imgIcount bs + imgDbytes bs + 8 * imgPcount bs + 96

/-- Whether every header field lies in its range and the length argument matches (R278, R279). -/
def imgHeaderOk (bs : List Byte) (len : Nat) : Bool :=
  decide (numAt bs 0 4 = 0x4D4C5359) && decide (numAt bs 4 2 = 1) && decide (imgKind bs ≤ 1) && decide (numAt bs 7 1 ≤ 1)
    && decide (imgRole bs ≤ 61) && (decide (numAt bs 9 1 ≤ 7) || decide (numAt bs 9 1 = 255)) && decide (imgKey bs ≤ 3)
    && decide (imgEntry bs < 16384) && decide (imgTake bs < 16384) && decide (1 ≤ imgIcount bs) && decide (imgIcount bs ≤ 16384)
    && decide (imgDbytes bs ≤ 16384) && decide (imgPcount bs ≤ 256) && decide (numAt bs 34 30 = 0) && decide (imgLen bs = len)

/-- The bindings of an image other than NONE and EVENT, as TYPE and TARGET (R265, R266). -/
def imgTargets (bs : List Byte) : List (Nat × Nat) :=
  ((imgPorts bs).map fun p => (bitsOf p.2 31 28, bitsOf p.2 26 16)).filter fun t => decide (t.1 ≠ 0 ∧ t.1 ≠ 7 ∧ t.1 ≤ 10)

/-- The images of a role, loaded and staged. -/
def Role.images (x : Role) : List (List Byte) :=
  x.image.toList ++ (match x.staged with
    | some (_, bs) => [bs]
    | none => [])

/-- Whether mallets may raise an event through a port (R266, R380): EV252–EV255. -/
def raisable (e : Nat) : Bool := decide (252 ≤ e)

/-- Whether an image keeps R266 against the images of other roles. -/
def State.bindingsOk (s : State) (bs : List Byte) : Bool :=
  let r := imgRole bs
  let ts := imgTargets bs
  let others := ((upFrom 0 62).filter fun q => decide (q ≠ r)).flatMap fun q => ((s.role q).images.map imgTargets).flatten
  ts.all (fun t => !others.contains t)
    && ts.all (fun t => (!([2, 3, 6, 9].contains t.1) || decide (imgStation bs = some t.2)) && (decide (t.1 ≠ 8) || imgObs bs))
    && (imgPorts bs).all fun p => decide (bitsOf p.2 31 28 ≠ 7) || raisable (bitsOf p.2 26 16)

/-- Mallets reserved for a staging, that of role r aside (R279). -/
def State.reservedBut (s : State) (r m : Nat) : Bool :=
  (upFrom 0 62).any fun q => decide (q ≠ r) && match (s.role q).staged with
    | some (k, _) => decide (k = m)
    | none => false

/-- Whether a mallet can take an image (R279). -/
def State.takes (s : State) (bs : List Byte) (m : Nat) : Bool :=
  s.malletIdle m && decide (malletSpare m = 0) && decide (malletKind m = imgKind bs) && s.powered (malletDomain m)

/-- The mallet an image goes to: the one named, or the lowest idle one of its kind (R279, R419). -/
def State.mallet? (s : State) (bs : List Byte) (named : Nat) (r : Nat) : Option Nat :=
  findFirst (fun m => (decide (named = 63) || decide (named = m)) && s.takes bs m && !s.reservedBut r m) (upFrom 0 36)

/-- EV_MLT_IMAGE_REJECT with the cause of R279, and the result. -/
def State.imgReject (s : State) (result role m : Nat) : State × Nat × List Nat :=
  (s.raise EV.MLT_IMAGE_REJECT (result + role * 256 + m * 65536), result, [])

/-- A verified image's checks beyond its header (R279), and what follows where all pass. -/
def State.withBytes (s : State) (named len : Nat) (splice : Bool) (bs : List Byte)
    (go : List Byte → Nat → State → State × Nat × List Nat) : State × Nat × List Nat :=
  let shown := if named ≤ 35 then named else 63
  let r := imgRole bs
  if imgHeaderOk bs len = false ∨ (35 < named ∧ named ≠ 63) then s.imgReject Mbx.BAD_ARG (if r ≤ 61 then r else 63) shown
  else if s.signed (imgKey bs) (bs.take (len - 96)) (bs.drop (len - 96)) = false then s.imgReject Mbx.SIG_FAIL r shown
  else if s.bindingsOk bs = false ∨ (splice = false ∧ s.roleArmed r) then s.imgReject Mbx.STATE r shown
  else match s.mallet? bs named (if splice then r else 62) with
    | some m => go bs m s
    | none => s.imgReject Mbx.STATE r shown

/-- The checks of R279, in the order memory, header, mallet number, signature, bindings, station, mallet; then what the command does with
the image and its mallet. -/
def State.withImage (s : State) (named : Nat) (splice : Bool) (host : List Byte) (ecc : Ecc)
    (go : List Byte → Nat → State → State × Nat × List Nat) : State × Nat × List Nat :=
  let len := s.arg 2
  let shown := if named ≤ 35 then named else 63
  if len < 160 ∨ 84128 < len then s.imgReject Mbx.BAD_ARG 63 shown
  else
    let a := s.argAddr 0
    let s := s.keeperTouch a len ecc
    match s.keeperGot a len host with
    | none => s.imgReject Mbx.MEM_ERR 63 shown
    | some bs => s.withBytes named len splice bs go

/-- R267, R279, 0x10: the image is loaded and its role assigned to the mallet, which starts at ENTRY. -/
def State.imgLoad (s : State) (host : List Byte) (ecc : Ecc) : State × Nat × List Nat :=
  s.withImage (s.arg 3) false host ecc fun bs m s =>
    let r := imgRole bs
    let s := (((s.release r).installImage r bs).assign r m).loadImage m bs
    (s.startMallet m (imgEntry bs), 0, [r, (s.role r).epoch])

def execImgLoad (host : List (BitVec 8)) (ecc : Ecc) (s : State) : Out := .next (s.mailbox 0x10 fun s => s.imgLoad host ecc)

/-- R279, 0x11: the image is loaded into an idle mallet, which is reserved for the splice; it replaces the role's earlier staging. -/
def State.imgStage (s : State) (host : List Byte) (ecc : Ecc) : State × Nat × List Nat :=
  s.withImage 63 true host ecc fun bs m s =>
    let r := imgRole bs
    ((s.loadImage m bs).setRole r { s.role r with staged := some (m, bs) }, 0, [r, m])

def execImgStage (host : List (BitVec 8)) (ecc : Ecc) (s : State) : Out := .next (s.mailbox 0x11 fun s => s.imgStage host ecc)

/-- R419, 0x12: the role is released and its image and staging are removed. -/
def State.imgRemove (s : State) : State × Nat × List Nat :=
  let r := s.arg 0
  if 61 < r then (s, Mbx.BAD_ARG, [])
  else if s.roleArmed r then (s, Mbx.STATE, [])
  else
    let s := s.release r
    (s.setRole r { s.role r with image := none, staged := none, station := none, priv := 0, obs := false, kind := 0, entry := 0, take := 0 },
      0, [])

def execImgRemove (s : State) : Out := .next (s.mailbox 0x12 State.imgRemove)

/-! ## Table packages (R419) -/

/-- The state whose device memory holds only the given bytes, from address 0: what the checks of a table image read. -/
def State.memOf (s : State) (bs : List Byte) : State := { s with mem := ⟨tputs 0 [] 0 bs, [], [], []⟩ }

/-- The error code of a screening table's verified bytes for station n, or 0 (R146, R147). -/
def State.pkgScrErr (s : State) (n : Nat) (bs : List Byte) : Nat :=
  if s.tableMay n (numAt bs 4 2) [Bank.IDLE, Bank.READY] then (s.memOf bs).imageErr n (numAt bs 4 2) 0 else 6

/-- LOAD of a screening table for station n from verified bytes (R146, R147). -/
def State.pkgScr (s : State) (n : Nat) (bs : List Byte) : State :=
  if s.tableMay n (numAt bs 4 2) [Bank.IDLE, Bank.READY] then
    s.finishTable n (numAt bs 4 2) (s.pkgScrErr n bs) ((s.memOf bs).bodyCells (numAt bs 4 2) 64 ((s.memOf bs).memNat 8 4))
  else s.tableErr n 6

/-- The error code of a waveform bank's verified bytes, or 0 (R186). -/
def State.pkgInkErr (s : State) (n : Nat) (bs : List Byte) : Nat :=
  if s.waveMay n [Bank.IDLE, Bank.READY] then (s.memOf bs).waveImageErr n 0 else 6

/-- LOAD of a waveform bank from verified bytes (R186). -/
def State.pkgInk (s : State) (n : Nat) (bs : List Byte) : State :=
  if s.waveMay n [Bank.IDLE, Bank.READY] then s.finishWave n (s.pkgInkErr n bs) ((s.memOf bs).memRead 64 1024) else s.waveErr n 6

/-- Whether a verified axis or stepper table names a bank that takes it (R314). -/
def State.pkgAxsMay (s : State) (u : Nat) (bs : List Byte) : Bool :=
  axUnit (numAt bs 4 2) u && [Bank.IDLE, Bank.READY].contains (s.f (axBankState (numAt bs 4 2) u))

/-- The error code of an axis or stepper table's verified bytes, or 0 (R314). -/
def State.pkgAxsErr (s : State) (u : Nat) (bs : List Byte) : Nat :=
  if numAt bs 4 2 ≠ 4 ∧ numAt bs 4 2 ≠ 5 then 1 else if s.pkgAxsMay u bs then (s.memOf bs).axImageErr (numAt bs 4 2) 0 else 6

/-- LOAD of an axis or stepper table from verified bytes (R314). -/
def State.pkgAxs (s : State) (u : Nat) (bs : List Byte) : State :=
  if numAt bs 4 2 ≠ 4 ∧ numAt bs 4 2 ≠ 5 then s.axTableErr u 1
  else if s.pkgAxsMay u bs then s.finishAx u (numAt bs 4 2) (s.pkgAxsErr u bs) ((s.memOf bs).axEntries (numAt bs 4 2) 0)
  else s.axTableErr u 6

/-- LOAD of a package's table into the block its argument names, with the code of its answer (R419). -/
def State.pkgTake (s : State) (block unit : Nat) (image : List Byte) : State × Nat × List Nat :=
  if block = 0 then (s.pkgScr unit image, 0, [s.pkgScrErr unit image])
  else if block = 1 then (s.pkgInk unit image, 0, [s.pkgInkErr unit image])
  else (s.pkgAxs unit image, 0, [s.pkgAxsErr unit image])

/-- A package's bytes are checked and its table is loaded (R419). -/
def State.pkgBytes (s : State) (len block unit : Nat) (bs : List Byte) : State × Nat × List Nat :=
  if numAt bs 12 4 + 164 ≠ len then (s, Mbx.BAD_ARG, [])
  else if s.signed (numAt bs (len - 4) 4) (bs.take (len - 100)) ((bs.drop (len - 100)).take 96) = false then (s, Mbx.SIG_FAIL, [])
  else s.pkgTake block unit (bs.take (len - 100))

/-- R419, 0x13: a package is a table image, a signature of 96 bytes and a key index of 4. -/
def State.pkgLoad (s : State) (host : List Byte) (ecc : Ecc) : State × Nat × List Nat :=
  let len := s.arg 2
  let unit := bitsOf (s.arg 3) 7 0
  let block := bitsOf (s.arg 3) 9 8
  if len < 164 ∨ block = 3 ∨ (block ≤ 1 ∧ 8 ≤ unit) then (s, Mbx.BAD_ARG, [])
  else
    let a := s.argAddr 0
    let s := s.keeperTouch a len ecc
    match s.keeperGot a len host with
    | none => (s, Mbx.MEM_ERR, [])
    | some bs => s.pkgBytes len block unit bs

def execPkgLoad (host : List (BitVec 8)) (ecc : Ecc) (s : State) : Out := .next (s.mailbox 0x13 fun s => s.pkgLoad host ecc)

/-! ## Firmware (R412, R417, R421, R422) -/

/-- The firmware of a slot. -/
def Keeper.slot (k : Keeper) (n : Nat) : Fw := if n = 0 then k.slotA else k.slotB

/-- The security floor: the bits set in group 6 word 1 (R421). -/
def State.secFloor (s : State) : Nat := countBits (s.otpWord 6 1) 32

/-- Whether a slot's image may run (R412). -/
def State.slotGood (s : State) (n : Nat) : Bool := (s.keeper.slot n).ok && decide (s.secFloor ≤ (s.keeper.slot n).sec.toNat)

/-- R421, 0x20: a signed image is written to the inactive slot and read back. -/
def State.fwUpdate (s : State) (fw : Fw) (flashOk : Bool) : State × Nat × List Nat :=
  let a := s.argAddr 0
  if !isHost a && (decide (s.f F.MBX_STATUS_MODE ≠ 1) || !s.dmaRange a (s.arg 2) || s.poisoned a (s.arg 2)) then (s, Mbx.MEM_ERR, [])
  else if !fw.ok then (s, Mbx.SIG_FAIL, [])
  else if fw.sec.toNat < s.secFloor then (s, Mbx.STATE, [])
  else if !flashOk then (s, Mbx.FLASH_ERR, [])
  else
    (s.mapKeeper fun k => if k.active = 0 then { k with slotB := fw } else { k with slotA := fw }, 0, [fw.version.toNat])

def execFwUpdate (fw : Fw) (flashOk : Bool) (s : State) : Out := .next (s.mailbox 0x20 fun s => s.fwUpdate fw flashOk)

/-- The keeper starts the other slot (R421): MODE reads SWITCHING and READY is clear. -/
def State.startSlot (s : State) (back : Bool) : State :=
  let was := if s.f F.MBX_STATUS_MODE = 3 then s.keeper.modeWas else s.f F.MBX_STATUS_MODE
  let s := { s.note 1 with lifeSaved := s.life }
  let s := s.mapKeeper fun k => { k with active := 1 - k.active, trial := !back, back := back, modeWas := was }
  s.setFs [(F.MBX_STATUS_MODE, 3), (F.MBX_STATUS_READY, 0)]

def State.fwSwitch (s : State) : State × Nat × List Nat := (s.startSlot false, 0, [])

def execFwSwitch (s : State) : Out := .next (s.mailbox 0x21 State.fwSwitch)

/-- The keeper returns to the previous slot, or neither slot runs (R421 step 4, R422). -/
def State.fwRevert (s : State) : State :=
  if s.f F.MBX_STATUS_MODE = 3 ∧ s.keeper.back then s.raiseX EV.KEEPER_FAULT else (s.startSlot true).raiseX EV.FW_REVERT

/-- R421 step 4: READY is not set within 200 ms. -/
def execFwSwitchTimeout (s : State) : Out := if s.f F.MBX_STATUS_MODE = 3 then .next s.fwRevert else .next s

/-- R421, 0x22. -/
def State.fwConfirm (s : State) : State × Nat × List Nat :=
  (((s.mapKeeper fun k => { k with trial := false }).setF F.MBX_STATUS_TRIAL 0).note 2, 0, [])

def execFwConfirm (s : State) : Out := .next (s.mailbox 0x22 State.fwConfirm)

/-- R422: the keeper watchdog expires: an unconfirmed slot is left; a confirmed one is restarted, and left at a second expiry within
10 s. -/
def execKeeperWdog (s : State) : Out :=
  let again : Bool := match s.keeper.wdogAt with
    | some t => decide (s.calNow < t + 327680)
    | none => false
  let s := s.mapKeeper fun k => { k with wdogAt := some s.calNow }
  if s.keeper.trial || again || decide (s.f F.MBX_STATUS_MODE = 3) then .next s.fwRevert else .next s

/-! ## Log and life store (R423–R427) -/

/-- The 32 bytes of a log record (R423). -/
def LogRec.bytes (r : LogRec) : List Byte :=
  let bs := toLE r.seq 4 ++ toLE r.secs 6 ++ toLE r.frac 2 ++ toLE r.time 8 ++ toLE r.cause 4 ++ toLE r.event 1
    ++ toLE (r.level + r.cls * 8) 1 ++ toLE r.kind 1 ++ toLE r.boot 1 ++ toLE r.data 2
  bs ++ toLE (crc16 bs) 2

/-- R424, 0x30: records from a SEQ on, oldest first, of the ring or of a level; `spoilt` are the records whose bytes read otherwise. -/
def State.logRead (s : State) (spoilt : List (BitVec 32 × List (BitVec 8))) : State × Nat × List Nat :=
  let count := bitsOf (s.arg 3) 15 0
  let src := bitsOf (s.arg 3) 18 16
  if 4096 < count ∨ src = 5 ∨ src = 6 then (s, Mbx.BAD_ARG, [])
  else
    let held := (if src = 7 then s.log else tget [] s.logKept src).reverse
    let rs := (held.filter fun r => decide (s.arg 2 ≤ r.seq)).take count
    let asRead (r : LogRec) : List Byte := match findFirst (fun x => decide (x.1.toNat = r.seq)) spoilt with
      | some x => (x.2 ++ List.replicate 32 0).take 32
      | none => r.bytes
    let bss := rs.map asRead
    let bad := (bss.filter fun b => decide (crc16 (b.take 30) ≠ numAt b 30 2)).length
    let oldest := match held with
      | r :: _ => r.seq
      | [] => s.logSeq
    if s.keeperWritable (s.argAddr 0) bss.flatten.length then (s.keeperWrite (s.argAddr 0) bss.flatten, 0, [rs.length, oldest, bad])
    else (s, Mbx.MEM_ERR, [])

def execLogRead (spoilt : List (BitVec 32 × List (BitVec 8))) (s : State) : Out := .next (s.mailbox 0x30 fun s => s.logRead spoilt)

/-- The record of the life store that LIFE_READ copies (R426): the logs and the saved ledger by their formats, any other record as its
store lays it out (`layout`, which the specification does not give, log entry 37). -/
def State.lifeRecord (s : State) (id : Nat) (layout : List Byte) : List Byte :=
  match id with
  | 9 => (s.log.reverse.map LogRec.bytes).flatten
  | 10 => ((upFrom 0 5).map fun l => ((tget [] s.logKept l).reverse.map LogRec.bytes).flatten).flatten
  | 11 => if s.saved.isEmpty then s.finals.flatten else s.saved.flatten
  | _ => layout

/-- What damaged copies of a life-store record cost (R426). -/
def State.lifeCopies (s : State) (c : Copies) : State :=
  match c with
  | .good => s
  | .transient => ((s.tally 0x244 1).logRetry 1 EV.LIFE_TRANSIENT 0).raiseX EV.LIFE_TRANSIENT
  | .aFails => s.raiseX EV.LIFE_COPY_LOST
  | .bFails => s.raiseX EV.LIFE_COPY_LOST
  | .bothFail => s.raise EV.LIFE_COPY_LOST 2

/-- R426, 0x31. -/
def State.lifeRead (s : State) (layout : List Byte) (c : Copies) : State × Nat × List Nat :=
  let id := s.arg 2
  if id = 0 ∨ 11 < id then (s, Mbx.BAD_ARG, [])
  else
    let bs := if c = .bothFail then [] else s.lifeRecord id layout
    let s := s.lifeCopies c
    if s.keeperWritable (s.argAddr 0) bs.length then (s.keeperWrite (s.argAddr 0) bs, 0, [bs.length]) else (s, Mbx.MEM_ERR, [])

def execLifeRead (layout : List (BitVec 8)) (c : Copies) (s : State) : Out := .next (s.mailbox 0x31 fun s => s.lifeRead layout c)

/-- R426, R427: every 600 s the life counts and head counts are written to the life store. -/
def execLifeCountWrite (s : State) : Out := .next { s with lifeSaved := s.life }

/-! ## Keys (R415, R416) -/

/-- A customer key is stored (R415). -/
def State.storeKey (s : State) (k : Nat) (bs : List Byte) : State := s.mapKeeper fun x => { x with keys := tput [] x.keys k bs }

/-- R415, 0x34: a customer key whose hash matches is stored. -/
def State.keySet (s : State) (host : List Byte) (ecc : Ecc) : State × Nat × List Nat :=
  let k := s.arg 0
  if 3 < k then (s, Mbx.BAD_ARG, [])
  else
    let a := s.argAddr 1
    let s := s.keeperTouch a 97 ecc
    match s.keeperGot a 97 host with
    | none => (s, Mbx.MEM_ERR, [])
    | some bs => if sha384 bs = s.keyHash k then (s.storeKey k bs, 0, []) else (s, Mbx.SIG_FAIL, [])

def execKeySet (host : List (BitVec 8)) (ecc : Ecc) (s : State) : Out := .next (s.mailbox 0x34 fun s => s.keySet host ecc)

/-- Whether an authorisation has the format of R416. -/
def authFormed (bs : List Byte) : Bool := decide (numAt bs 0 4 = 0x56525359) && decide (numAt bs 6 2 = 0) && decide (numAt bs 16 16 = 0)

/-- The REVOKE bit of a key is blown (R416). -/
def State.blowRevoked (s : State) (key : Nat) : State :=
  let i := keyGroup key * 32 + 30
  { s with otp := tput 0 s.otp i (setBit (tget 0 s.otp i) (21 + key % 2)) }

/-- The code with which an authorisation of R416 is refused, or 0. -/
def State.revokeRefusal (s : State) (bs : List Byte) : Nat :=
  let target := numAt bs 4 1
  let signer := numAt bs 5 1
  let serial := 2 ^ 32 * s.otpWord 0 1 + s.otpWord 0 0
  if authFormed bs = false ∨ 3 < target then Mbx.BAD_ARG
  else if signer = target ∨ s.keyValid signer = false ∨ numAt bs 8 8 ≠ serial ∨ s.signed signer (bs.take 32) (bs.drop 32) = false then
    Mbx.SIG_FAIL
  else if (upFrom 0 4).all fun k => decide (k = target) || !s.keyValid k then Mbx.BAD_ARG
  else if s.anyArmed ∨ s.otpTemp ∨ s.on F.OTP_STATUS_BUSY then Mbx.STATE
  else 0

/-- The REVOKE bit of a target key is programmed (R413, R416). -/
def State.revokeProg (s : State) (target : Nat) (blown : Bool) : State × Nat × List Nat :=
  if blown then (((s.blowRevoked target).showOtp).note target, 0, [])
  else (((s.setF F.OTP_STATUS_PROG_FAIL 1).note target).raiseX EV.OTP_PROG_FAIL, Mbx.STATE, [])

/-- R416, 0x33: the REVOKE bit of the target key is blown under R413; `blown` that its programming succeeds. -/
def State.keyRevoke (s : State) (host : List Byte) (ecc : Ecc) (blown : Bool) : State × Nat × List Nat :=
  let a := s.argAddr 0
  let s := s.keeperTouch a 128 ecc
  match s.keeperGot a 128 host with
  | none => (s, Mbx.MEM_ERR, [])
  | some bs => if s.revokeRefusal bs = 0 then s.revokeProg (numAt bs 4 1) blown else (s, s.revokeRefusal bs, [])

def execKeyRevoke (host : List (BitVec 8)) (ecc : Ecc) (blown : Bool) (s : State) : Out := .next (s.mailbox 0x33 fun s => s.keyRevoke host ecc blown)

/-! ## Margin review (R428–R430) -/

/-- R428, 0x32: a review is asked for. -/
def State.marginRun (s : State) (_ : Nat → Nat) : State × Nat × List Nat := (s.mapKeeper fun k => { k with reviewAsked := true }, 0, [])

def execMarginRun (car : Bool) (s : State) : Out := .next (s.eitherMbx 0x32 car fun a s => s.marginRun a)

/-- A planned setpoint: in 5 mV steps within the supply range 650–950 mV (R428, R452). -/
def supplyPlan (v : Nat) : Nat := min 950 (max 650 v) / 5 * 5

/-- What waits until no station is armed takes effect: a supply fall and new guard bands (R429). -/
def State.planFalls (s : State) : State :=
  if s.anyArmed then s
  else
    let s := if s.keeper.vplan < s.f F.PWR_VCORE then s.setF F.PWR_VCORE s.keeper.vplan else s
    s.mapKeeper fun k => { k with guards := k.guardPlan }

/-- The on-chip part of a review (R428): the plan, and what of it applies at once. -/
def State.onChip (s : State) (r : Review) : State :=
  (s.mapKeeper fun k => { k with
    vplan := supplyPlan r.vcore.toNat, guardPlan := (r.guards.take 12).map (·.toNat), otpRef := r.otpRef.toNat }).planFalls

/-- R429: AGE of one head from its weak fraction, clamped to 0.75–1.25 (Q2.14). -/
def nextAge (age tests weak : Nat) : Nat :=
  let k := weak * 100 / max 1 tests - 2
  let up := if 2 * tests < weak * 100 then min 512 (k * 64) else 0
  let down := if tests ≠ 0 ∧ weak = 0 then 64 else 0
  min 0x5000 (max 0x3000 (age + up - down))

/-- AGE of every head is written at once, and the counts of tests begin again. -/
def State.ageHeads (s : State) : State :=
  let s := forBelow 8 (fun n s => forBelow 48 (fun h s =>
    let i := n * 128 + h * 2
    s.setF (F.INK_S_HD_SCALE_AGE n h) (nextAge (s.f (F.INK_S_HD_SCALE_AGE n h)) (tget 0 s.dd.counts i) (tget 0 s.dd.counts (i + 1)))) s) s
  { s with dd := { s.dd with counts := [] } }

/-- Operating hours: the powered hours of domain KEEP (R427, R430). -/
def State.hours (s : State) : Nat := tget 0 s.life 0x60 / (600000000 * 3600)

/-- The items of R430 with their values and limits: 0 supply; 0x100 + 8n + b a beam's drive; 0x200 + 48n + h a head's AGE; 0x500 + n a
polygon's current; 0x510 + z a fuser zone's duty. -/
def State.marginItems (s : State) (poly fuser : Nat) : List (Nat × Int × Int) :=
  [(0, (s.f F.PWR_VCORE : Int), 950)]
    ++ (upFrom 0 32).map (fun i => (0x100 + i, (s.f (F.EPS_S_APC_DRIVE (i / 8) (i % 8)) : Int), (s.f (F.EPS_S_APC_CTL_DRIVE_MAX (i / 8)) : Int)))
    ++ (upFrom 0 384).map (fun i => (0x200 + i, (s.f (F.INK_S_HD_SCALE_AGE (i / 48) (i % 48)) : Int), 0x5000))
    ++ (upFrom 0 4).map (fun n => (0x500 + n, s.fs (F.MOT_C_IQ (s.f (F.EPS_S_POLY_CHAN n))), (poly : Int)))
    ++ (upFrom 0 2).map (fun z => (0x510 + z, (s.f (F.EPS_FZ_DUTY_M z) * 65536 / max 1 (s.f (F.EPS_FZ_DUTY_N z)) : Int), (fuser : Int)))

/-- R430: the least-squares line of values against hours, and the date in calendar seconds at which it reaches a limit; 0 with fewer than
four reviews or a line that does not reach it. -/
def endDate (now hours : Nat) (pts : List (Nat × Int)) (limit : Int) : Nat :=
  let n : Int := pts.length
  let sx : Int := (pts.map fun p => (p.1 : Int)).sum
  let sy : Int := (pts.map fun p => p.2).sum
  let sxx : Int := (pts.map fun p => (p.1 : Int) * p.1).sum
  let sxy : Int := (pts.map fun p => (p.1 : Int) * p.2).sum
  let num := n * sxy - sx * sy
  let den := n * sxx - sx * sx
  if n < 4 ∨ num ≤ 0 ∨ den ≤ 0 then 0
  else
    let h := (limit * den * n - sy * den + sx * num) / (num * n)
    (now + (h - hours) * 3600 : Int).toNat

/-- R430: a review's record and EV_MARGIN_LOW for each item whose date lies within 180 days; the items' numbers are the model's (DESIGN
CHOICE, log entry 76). -/
def State.projectEnds (s : State) (poly fuser : Nat) : State :=
  let items := s.marginItems poly fuser
  let values := items.map fun x => (x.1, x.2.1)
  let old := s.keeper.reviews.take 63
  let at_ (r : ReviewRec) (k : Nat) : Option (Nat × Int) := (findFirst (fun x => decide (x.1 = k)) r.values).map fun x => (r.hours, x.2)
  let dates := items.map fun x => (x.1, endDate s.calSec s.hours ((s.hours, x.2.1) :: old.filterMap fun r => at_ r x.1) x.2.2)
  let s := s.mapKeeper fun k => { k with reviews := ⟨s.calSec, s.hours, values, dates⟩ :: old }
  dates.foldl (fun s d => if d.2 ≠ 0 ∧ d.2 < s.calSec + 15552000 then s.raise EV.MARGIN_LOW d.1 else s) s

/-- R428–R430: a margin review; it waits during a firmware switch (R421). The limits of polygon current and fuser power are the user's. -/
def execMarginReview (r : Review) (poly fuser : BitVec 16) (s : State) : Out :=
  if s.f F.MBX_STATUS_MODE = 3 then .next (s.mapKeeper fun k => { k with reviewAsked := true })
  else
    let s := s.mapKeeper fun k => { k with reviewAsked := false }
    .next (((s.onChip r).ageHeads.note 3).projectEnds poly.toNat fuser.toNat)

/-- R429: a planned supply rise advances by one step of 5 mV; a planned fall waits until no station is armed. -/
def execSupplyStep (s : State) : Out :=
  let v := s.f F.PWR_VCORE
  if v < s.keeper.vplan then .next (s.setF F.PWR_VCORE (min s.keeper.vplan (v + 5))) else .next s.planFalls

/-! ## Commands that wait for READY (R405, R421) -/

/-- The mailbox commands that need nothing from outside: they run at once; the others wait with GO set for the row that brings it (R405,
R419). -/
def State.mailboxGo (s : State) (op : Nat) : State :=
  match op with
  | 0x01 => after (execGetInfo false s) s
  | 0x02 => after (execReset s) s
  | 0x03 => after (execCloseConfig s) s
  | 0x04 => after (execSetTcomp s) s
  | 0x05 => after (execCalSet false s) s
  | 0x12 => after (execImgRemove s) s
  | 0x21 => after (execFwSwitch s) s
  | 0x22 => after (execFwConfirm s) s
  | 0x32 => after (execMarginRun false s) s
  | _ =>
    if [0x10, 0x11, 0x13, 0x20, 0x30, 0x31, 0x33, 0x34].contains op then s.setFs [(F.MBX_CMD_OP, op), (F.MBX_CMD_GO, 1)]
    else s.mailbox op fun s => (s, Mbx.BAD_OP, [])

/-- A command that has waited with GO set runs at READY (R405). -/
def State.mbxResume (s : State) : State := if s.on F.MBX_CMD_GO then s.mailboxGo (s.f F.MBX_CMD_OP) else s

/-- R421 step 3: the firmware that was started sets READY; events that waited are written to the log. -/
def execFwSwitched (s : State) : Out :=
  if s.f F.MBX_STATUS_MODE = 3 then
    let k := s.keeper
    let s := s.setFs [(F.MBX_STATUS_MODE, k.modeWas), (F.MBX_STATUS_READY, 1), (F.MBX_STATUS_SLOT, k.active), (F.MBX_STATUS_TRIAL, b2n k.trial)]
    let s := s.logDrain
    .next (if k.back then s else s.raiseX EV.FW_SWITCHED).mbxResume
  else .next s

end Sys2Proof.Machine
end

