-- ==== Sys2Proof/Machine/Counters.lean ====
section
/-!
DEFINITION. The event counters (R435–R449).
-/
namespace Sys2Proof.Machine

/-- Occurrence source codes that a table of the manual assigns (R93, R126, R153, R198, R229, R255, R335, R354, R374, R401, R432, R437),
as ranges. -/
def occurrenceRanges : List (Nat × Nat) :=
  [(0x000, 0x005), (0x008, 0x00C), (0x020, 0x03F), (0x060, 0x06B), (0x070, 0x077), (0x080, 0x094), (0x0A0, 0x0D2), (0x100, 0x126),
    (0x128, 0x12F), (0x140, 0x153), (0x160, 0x192), (0x198, 0x19F), (0x1C0, 0x1DA), (0x1E0, 0x1EC), (0x1F0, 0x212), (0x220, 0x227),
    (0x230, 0x236), (0x240, 0x245), (0x250, 0x273), (0x300, 0x3FF)]

/-- Whether a code is an occurrence source (R435). -/
def isOccurrence (code : Nat) : Bool := occurrenceRanges.any fun r => decide (r.1 ≤ code) && decide (code ≤ r.2)

/-- Whether a code is a level source (R437). -/
def isLevel (code : Nat) : Bool := decide (0x040 ≤ code) && decide (code ≤ 0x054)

/-- Whether a source's kind matches a mode (R438). -/
def modeFits (mode code : Nat) : Bool := if mode = 0 then isOccurrence code else decide (mode ≤ 2) && isLevel code

/-- A write of CNTi_CFG (R438, R439): stored only while EN is 0; an enable that breaks R438 is refused with CFG_ERR. -/
def State.cntConfig (s : State) (i v : Nat) : State :=
  let s := if bitOf v 24 then s.setF (F.CNT_CFG_CFG_ERR i) 0 else s
  if s.on (F.CNT_CFG_EN i) then
    if i < 48 ∧ bitOf v 31 = false then s.setF (F.CNT_CFG_EN i) 0 else s.flam F.CNT_FLAM_COUNT 1
  else
    let s := s.setFs [(F.CNT_CFG_MODE i, bitsOf v 30 29), (F.CNT_CFG_SAMPLE i, bitsOf v 28 28), (F.CNT_CFG_SRC i, bitsOf v 9 0)]
    if bitOf v 31 then
      if modeFits (bitsOf v 30 29) (bitsOf v 9 0) then s.setF (F.CNT_CFG_EN i) 1 else s.setF (F.CNT_CFG_CFG_ERR i) 1
    else s

/-- R438. -/
def execCounterEnable (i : Fin 56) (v : BitVec 32) (s : State) : Out := .next (s.cntConfig i.val v.toNat)

/-- The value of counter i as read: modulo 2^48 (R441). -/
def State.counter (s : State) (i : Nat) : Nat := (s.ctr i).value % 2 ^ 48

/-- R440: a read of CNTi_LO returns the low word and latches the high bits for the reader. -/
def State.readCounter (s : State) (reader i : Nat) : State := s.latch reader (F.CNT_HI i).off (s.counter i / 2 ^ 32)

/-- R440, R447: BAR4 reads zero and latches nothing while CNT_EN is 0. -/
def execCounterRead (who : Reader) (bar : Bar) (i : Fin 56) (s : State) : Out :=
  if bar = .bar4 ∧ s.on F.GCTL_USERPAGE_CNT_EN = false then .next (s.reply 0)
  else .next ((s.readCounter who.id i.val).reply (lo32 (s.counter i.val)))

/-- Set the overflow bit of counter i; EV_CNT_OVF where it was clear (R441). -/
def State.overflow (s : State) (i : Nat) : State :=
  let x := if i < 32 then F.CNT_OVF_LO else F.CNT_OVF_HI
  let was := bitOf (s.f x) (i % 32)
  let s := s.setBitF x (i % 32) true
  if was then s else s.raise EV.CNT_OVF i

/-- A write through a window: BAR4 shows the counters for reading only, and a write there is dropped and counted (R447; DEDUCED, log
entry 77). -/
def State.throughBar (s : State) (bar : Bar) (t : State) : State := if bar = .bar0 then t else s.flam F.CNT_FLAM_COUNT 1

/-- R440: a write of CNTi_HI is staged. -/
def State.stageHigh (s : State) (i v : Nat) : State := { s with cntStage := tput 0 s.cntStage i (v % 65536) }

def execCntHiWrite (bar : Bar) (i : Fin 56) (v : BitVec 32) (s : State) : Out :=
  .next (s.throughBar bar (s.stageHigh i.val v.toNat))

/-- R440, R442: a write of CNTi_LO sets all 48 bits; a wrap of the same tick still sets OVF, and its increments are discarded. -/
def State.writeCounter (s : State) (i v : Nat) : State :=
  let s := if 2 ^ 48 ≤ (s.ctr i).value then s.overflow i else s
  let c := s.ctr i
  let was := if c.wroteAt = s.time + 1 then c.was else c.value % 2 ^ 48
  { s with
    count := tput Counter.reset s.count i
      { c with value := 2 ^ 32 * tget 0 s.cntStage i + v % 2 ^ 32, wroteAt := s.time + 1, was := was } }

def execCntLoWrite (bar : Bar) (i : Fin 56) (v : BitVec 32) (s : State) : Out :=
  .next (s.throughBar bar (s.writeCounter i.val v.toNat))

/-- R445: a sampling counter's value after a wrap, and otherwise the count modulo 2^48 (R441). -/
def State.reload (s : State) (i : Nat) : Nat :=
  let excess := (s.ctr i).value - 2 ^ 48
  if s.on (F.CNT_CFG_SAMPLE i) then (s.pair (F.CNT_RELOAD_HI i) (F.CNT_RELOAD_LO i) + excess) % 2 ^ 48 else excess % 2 ^ 48

/-- R442: a wrap in a tick in which the counter has been written sets OVF, and the written value stands. -/
def State.wrapWritten (s : State) (i : Nat) : State :=
  let c := s.ctr i
  if 2 ^ 48 ≤ c.was then ({ s with count := tput Counter.reset s.count i { c with was := c.was % 2 ^ 48 } }).overflow i else s

/-- R441, R445: a counter has passed 2^48 - 1, or, where it gains in every tick, press time is brought to its wrap. -/
def execCounterWrap (i : Fin 56) (s : State) : Out :=
  let n := i.val
  let s := s.wrapWritten n
  let g := s.tickGain 1 n
  let c := (s.ctr n).value
  let s := if c < 2 ^ 48 ∧ g ≠ 0 then s.advanceTo (s.time + (2 ^ 48 - c + g - 1) / g) else s
  if 2 ^ 48 ≤ (s.ctr n).value then
    let s := { s with count := tput Counter.reset s.count n { s.ctr n with value := s.reload n } }
    if s.on (F.CNT_CFG_SAMPLE n) then
      .next (((s.setPair (F.CNT_STIME_HI n) (F.CNT_STIME_LO n) s.time).overflow n).raise EV.CNT_SAMPLE n)
    else .next (s.overflow n)
  else .next s

/-- R443. -/
def execCounterFreeze (on : Bool) (s : State) : Out := .next (s.setFreeze on)

/-- R444. -/
def execSnapshot (s : State) : Out := .next s.snapshot

end Sys2Proof.Machine
end

