-- ==== Sys2Proof/Machine/Power.lean ====
section
/-!
DEFINITION. Power domains, start-up, reset, standby and the supplies (R30, R404, R405, R457–R469).
-/
namespace Sys2Proof.Machine

/-! ## Domains (R459) -/

def Dom.KEEP : Nat := 0
def Dom.FAB : Nat := 1
def Dom.MLA : Nat := 2
def Dom.MLB : Nat := 3
def Dom.SCA : Nat := 4
def Dom.SCB : Nat := 5
def Dom.LST : Nat := 6
def Dom.MEM : Nat := 7
def Dom.PCIE : Nat := 8
def Dom.LANE : Nat := 9
def Dom.MOT : Nat := 10
def Dom.ANA : Nat := 11

/-- The domains on at READY (R459, R462). -/
def Dom.atReady : Nat := 0x983

/-- The domains that domain d requires powered (R459), as a mask. -/
def Dom.requires (d : Nat) : Nat :=
  match d with
  | 1 => 0x800
  | 7 => 0x800
  | 9 => 0x802
  | 2 => 2 | 3 => 2 | 4 => 2 | 5 => 2 | 6 => 2 | 10 => 2
  | _ => 0

/-- The order in which power-ups are served: dependencies first (R460). -/
def Dom.order : List Nat := [11, 1, 7, 2, 3, 4, 5, 6, 9, 10]

/-- Whether any assigned role is held by a mallet of a kind. -/
def State.kindHeld (s : State) (kind : Nat) : Bool :=
  (upFrom 0 36).any fun m => decide (malletKind m = kind) && (s.mallet m).role.isSome

/-- Whether domain d is in use, so that its power-down is refused (R459). -/
def State.inUse (s : State) (d : Nat) : Bool :=
  match d with
  | 2 => s.kindHeld 0
  | 3 => s.kindHeld 1 || (upFrom 0 16).any fun t => s.on (F.AXS_LT_CTL_EN t)
  | 4 => decide (s.armedMask % 16 ≠ 0)
  | 5 => decide (16 ≤ s.armedMask)
  | 7 => s.anyArmed || decide (s.f F.DMA_STATUS_BUSY ≠ 0) || s.loadAt.any fun kv => decide (kv.2 ≠ 0)
  | 10 => (upFrom 0 24).any (fun a => s.on (F.AXS_A_CTL_EN a)) || (upFrom 0 12).any fun k => s.on (F.STP_CTL_EN k) || s.on (F.MOT_C_CTL_EN k)
  | 6 => s.anyArmed
  | 9 => s.anyArmed
  | 11 => s.anyArmed
  | _ => false

/-- The domain of a BAR0 block (log entry 38). -/
def blockDomain (off : Nat) : Nat :=
  match off / 0x10000 with
  | 0x0 => Dom.KEEP
  | 0x1 => Dom.ANA
  | 0x4 => Dom.MEM
  | 0x5 => Dom.MEM
  | 0x6 => if (off - 0x60000) / 0x2000 < 4 then Dom.SCA else Dom.SCB
  | 0x8 => Dom.LANE
  | 0xA => Dom.MOT
  | 0xE => Dom.MOT
  | 0xF => Dom.MOT
  | 0x10 => Dom.KEEP
  | 0x13 => Dom.KEEP
  | 0x14 => Dom.KEEP
  | 0x15 => Dom.KEEP
  | _ => Dom.FAB

/-- The register fields outside domain d. -/
def State.dropRegs (s : State) (d : Nat) : State :=
  let off (k : Nat) : Bool := decide (blockDomain (k / 32) ≠ d)
  { s with regs := s.regs.filter fun kv => off kv.1, shadow := s.shadow.filter fun kv => off (kv.1 % 2 ^ 26 * 32) }

/-- The mallets whose numbers satisfy a test take their reset state (R460). -/
def State.resetMallets (s : State) (p : Nat → Bool) : State :=
  { s with
    mlt := s.mlt.filter fun kv => !p kv.1
    imem := s.imem.filter fun kv => !p (kv.1 / 16384)
    dmem := s.dmem.filter fun kv => !p (kv.1 / 16384)
    mltPoison := s.mltPoison.filter fun w => decide (2 ^ 20 ≤ w) || !p (w / 4096) }

/-- The screen engines of stations lo to lo + 3 take their reset state (R460). -/
def State.resetScreens (s : State) (lo : Nat) : State :=
  let mine (n : Nat) : Bool := decide (lo ≤ n) && decide (n < lo + 4)
  { s with
    tmem := s.tmem.filter fun kv => decide (100 ≤ kv.1 / 2 ^ 21) || !mine (kv.1 / 2 ^ 21 / 6)
    tmemBad := s.tmemBad.filter fun b => !mine (b.1 / 6)
    loadAt := s.loadAt.filter fun kv => decide (64 ≤ kv.1) || !mine (kv.1 / 4) }

/-- What the model holds of domain d's units takes its reset state (R460). -/
def State.resetUnits (s : State) (d : Nat) : State :=
  match d with
  | 1 => { s with
      web := State.reset.web, gear := [], st := [], cs := [], ledger := [], nextEpoch := 1, roles := [], flights := [], hostRx := []
      gong := State.reset.gong, snare := [], gpio := [], timed := [], count := [], freeze := none, cntStage := [], resid := [], msm := [], eventPort := []
      stopOpen := none, mltPoison := s.mltPoison.filter fun w => decide (w < 2 ^ 20), feedTurn := 0 }
  | 2 => s.resetMallets fun m => decide (malletKind m = 0)
  | 3 => s.resetMallets fun m => decide (malletKind m = 1)
  | 4 => s.resetScreens 0
  | 5 => s.resetScreens 4
  | 6 => { s with lst := [], slots := [], scan := [] }
  | 7 => { s with dma := [] }
  | 8 => { s with msix := [], pba := 0, d3hot := false }
  | 9 => { s with
      lanes := []
      heads := []
      ink := []
      waves := []
      dd := Dd.reset
      ddResults := []
      sb := State.reset.sb
      spares := []
      ep := []
      loadAt := s.loadAt.filter fun kv => decide (kv.1 < 64) || decide (128 ≤ kv.1) }
  | 10 => { s with
      hv := []
      fuser := []
      zcAt := 0
      axes := []
      groups := []
      steppers := []
      traces := []
      outs := []
      motors := []
      buses := []
      timers := []
      pgenAt := 0
      loadAt := s.loadAt.filter fun kv => decide (kv.1 < 128)
      tmem := s.tmem.filter fun kv => decide (kv.1 / 2 ^ 21 < 100) }
  | 11 => { s with clk := { State.reset.clk with begun := s.clk.begun, calAcc := s.clk.calAcc, calErr := s.clk.calErr, refOk := s.clk.refOk } }
  | _ => s

/-- Domain d takes its reset state (R460): the registers of its blocks and what the model holds of its units. Press time is held (R43). -/
def State.resetDomain (s : State) (d : Nat) : State := (s.dropRegs d).resetUnits d

/-- The retries that units of domain d await, each with its path's event and the cause field of that event (R392). -/
def State.openRetries (s : State) (d : Nat) : List (Nat × Nat) :=
  let each (n e : Nat) (p : Nat → Bool) : List (Nat × Nat) := ((upFrom 0 n).filter p).map fun i => (e, i)
  match d with
  | 0 => each 60 EV.HK_SENSOR_TRANSIENT fun x => (s.hkCh x).retry
  | 1 => ((upFrom 0 4).filter fun i => (s.source i).retry).map fun _ => (EV.WEB_TRANSIENT, 0)
  | 7 => each 16 EV.PCIE_CPL_TRANSIENT fun c => (s.chan c).reissued
  | 9 =>
    ((upFrom 0 18).flatMap fun l => ((s.lane l).out.filter fun o => o.resent).map fun _ => (EV.LANE_TRANSIENT, l))
      ++ (if s.on F.INK_SB_STATUS_BUSY && s.sb.retry then [(EV.SIDEBAND_FAIL, s.sb.lane / 2)] else [])
      ++ (if s.dd.retest.isSome then [(EV.DD_TRANSIENT, s.f F.INK_DD_CTL_STATION)] else [])
      ++ ((upFrom 0 8).flatMap fun n => ((upFrom 0 48).filter fun h => decide ((s.head n h).bad = 1)).map fun _ => (EV.HK_SENSOR_TRANSIENT, n))
      ++ each 4 EV.BD_MISS (fun n => decide ((s.epSt n).missing = 1) && !(s.epSt n).dead)
      ++ each 4 EV.APC_TRANSIENT (fun n => (s.epSt n).apc.any Apc.retried)
  | 10 =>
    each 16 EV.HV_ARC (fun c => (s.hvCh c).arcAt.isSome) ++ each 24 EV.AXS_FB_TRANSIENT (fun a => (s.axis a).retry)
      ++ each 12 EV.MOT_ISENSE_TRANSIENT (fun c => (s.motor c).badI) ++ each 12 EV.MOT_COMM_LOST (fun c => (s.motor c).badA)
      ++ each 12 EV.MOT_ISENSE_TRANSIENT (fun k => (s.stepper k).retry) ++ each 4 EV.MOT_ISENSE_TRANSIENT (fun b => (s.busOf b).retry)
      ++ each 4 EV.BRK_TRANSIENT (fun b => (s.busOf b).second)
  | _ => []

/-- Retries that a power-down or a reset of domain d leaves open are UNRESOLVED (R392). -/
def State.dropRetries (s : State) (d : Nat) : State := (s.openRetries d).foldl (fun s x => s.logRetry 3 x.1 x.2) s

/-- Domain d goes off: isolation, then the switch opens (R460). With ANA, press time holds (R43) and HK returns to SLOW (R358). -/
def State.domainOff (s : State) (d : Nat) : State :=
  let s := (s.dropRetries d).setBitF F.PWR_DOMSTAT_ON d false
  let s := if d = 11 then { s with clk := { s.clk with running := false, pll := .off } }.toSlow else s
  (s.resetDomain d).showTime

/-- A refused request (R460): nothing else changes. -/
def State.pwrRefuse (s : State) (err : Nat) : State := (s.setF F.PWR_ERR err).raiseX EV.PWR_REFUSED

/-- The domains that a request asks to be powered up and down: those whose bits it changes (R460). -/
def State.reqUps (s : State) (req : Nat) : Nat := req &&& (0xFFF - s.f F.PWR_DOMREQ)
def State.reqDowns (s : State) (req : Nat) : Nat := s.f F.PWR_DOMREQ &&& (0xFFF - req)

/-- The domains on in the state that a whole request would leave (R460). -/
def State.reqLeft (s : State) (req : Nat) : Nat := (s.f F.PWR_DOMSTAT_ON &&& (0xFFF - s.reqDowns req)) ||| s.reqUps req

/-- The error that refuses a request of domains (R460): 1 DEPEND, 2 IN_USE, 3 FIXED; 0 where it is taken. -/
def State.pwrError (s : State) (req : Nat) : Nat :=
  let left := s.reqLeft req
  let up := s.reqUps req
  let down := s.reqDowns req
  if bitOf req 0 = false ∨ bitOf req 8 = false then 3
  else if (upFrom 0 12).any fun d =>
      (bitOf up d || bitOf left d && decide (Dom.requires d &&& down ≠ 0)) && decide (Dom.requires d &&& left ≠ Dom.requires d) then 1
  else if (upFrom 0 12).any fun d => bitOf down d && s.powered d && s.inUse d then 2
  else 0

/-- The next domain to be powered up, dependencies first. -/
def State.nextUp (s : State) : Option Nat := findFirst (fun d => bitOf s.keeper.ups d && !s.powered d) Dom.order

/-- R460: a request while BUSY is counted; one that breaks R459 is refused as a whole; else the power-downs are served, dependents
first, and the power-ups begin. Life counts are written when a power-down is requested (R426). -/
def execDomainRequest (req : BitVec 12) (s : State) : Out :=
  if s.on F.PWR_STATUS_BUSY then .next (s.flam F.PWR_FLAM_COUNT 1)
  else
    let e := s.pwrError req.toNat
    if e ≠ 0 then .next (s.pwrRefuse e)
    else
      let up := s.reqUps req.toNat
      let downs := (upFrom 0 12).filter fun d => s.powered d && bitOf (s.reqDowns req.toNat) d
      let s := s.setF F.PWR_DOMREQ req.toNat
      let s := if downs.isEmpty then s else { s with lifeSaved := s.life }
      let s := Dom.order.reverse.foldl (fun s d => if downs.contains d then s.domainOff d else s) s
      let s := s.mapKeeper fun k => { k with ups := up, downs := if downs.isEmpty then k.downs else (s.time, downs) }
      .next (s.setB F.PWR_STATUS_BUSY s.nextUp.isSome)

/-! ## What the keeper does with a domain that comes up (R404, R467) -/

/-- A 32-bit band register, as its fields (R62). -/
def State.putBand (s : State) (fhi flo valid code : Field) (w : Nat) : State :=
  s.setFs [(fhi, bitsOf w 31 20), (flo, bitsOf w 19 8), (valid, bitsOf w 7 7), (code, bitsOf w 6 0)]

/-- The band tables of OTP group 1 (R35, R52, R404): eight root bands, then eight of each MDLL. -/
def State.fillBands (s : State) : State :=
  let w (i : Nat) : Nat := nthD 0 s.keeper.bands i
  let s := forBelow 8 (fun k s => s.putBand (F.CLK_BAND_ROOT_FHI k) (F.CLK_BAND_ROOT_FLO k) (F.CLK_BAND_ROOT_VALID k)
    (F.CLK_BAND_ROOT_CODE k) (w k)) s
  forBelow 4 (fun n s => forBelow 8 (fun k s => s.putBand (F.CLK_MDLL_BAND_FHI n k) (F.CLK_MDLL_BAND_FLO n k)
    (F.CLK_MDLL_BAND_VALID n k) (F.CLK_MDLL_BAND_CODE n k) (w (8 + n * 8 + k))) s) s

/-- With ANA: bands, the stored temperature tables, CLK_LOCK and the ADPLL. -/
def State.wakeAna (s : State) : State :=
  let s := (s.fillBands.applyTcomp false s.keeper.xtab).applyTcomp true s.keeper.ctab
  (s.setF F.CLK_LOCK_LOCK 1).adpllOn

/-- With MEM: the memory out of self-refresh, its size, the retired pages and FEED_LOCK (R100, R404, R467). -/
def State.wakeMem (s : State) : State :=
  let n := s.mem.retired.length
  let s := s.mapKeeper fun k => { k with selfRefresh := false }
  s.setFs [(F.FEED_MEM_CFG_SIZE, s.keeper.memSize), (F.FEED_MEM_RETIRED, n),
    (F.FEED_MEM_SPARE_FREE, s.f F.FEED_MEM_SPARE_PAGES - n), (F.FEED_LOCK_LOCK, 1)]

/-- Domain d stands powered: reset contents, ON, and the keeper's steps for it. -/
def State.domainOn (s : State) (d : Nat) : State :=
  let s := ((s.resetDomain d).setBitF F.PWR_DOMSTAT_ON d true).showTime
  if d = 11 then s.wakeAna else if d = 7 then s.wakeMem else s

/-- R460, R467: PG of the next requested domain rises; when none is left, BUSY clears, and so does standby once the domains of READY are
on. -/
def execDomainPowerUp (d : Fin 12) (s : State) : Out :=
  if s.on F.PWR_STATUS_BUSY ∧ s.nextUp = some d.val then
    let s := s.domainOn d.val
    let s := if s.powered 11 && s.powered 1 && (decide (d.val = 11) || decide (d.val = 1)) then s.toService else s
    if s.nextUp.isSome then .next s
    else
      let s := s.setF F.PWR_STATUS_BUSY 0
      .next (if s.f F.PWR_DOMSTAT_ON &&& Dom.atReady = Dom.atReady then s.setF F.PWR_STATUS_STBY 0 else s)
  else .next s

/-- R461: a powered domain loses PG. -/
def execDomainPgLost (d : Fin 12) (s : State) : Out :=
  if s.powered d.val then
    let s := ((s.setBitF F.PWR_DOMSTAT_ON d.val false).setBitF F.PWR_DOMSTAT_PG_LOST d.val true)
    let s := if d.val = 11 then { s with clk := { s.clk with running := false } }.toSlow.showTime else s
    .next ((s.dropRetries d.val).raise EV.DOMAIN_PG d.val)
  else .next s

/-- Every domain of a mask goes off, dependents first. -/
def State.allOff (s : State) (mask : Nat) : State :=
  (8 :: Dom.order).reverse.foldl (fun s d => if bitOf mask d && s.powered d then s.domainOff d else s) s

/-- R466: standby, refused while a station is armed. -/
def execStandbyRequest (s : State) : Out :=
  if s.anyArmed then .next (s.pwrRefuse 2)
  else if s.on F.PWR_STATUS_BUSY then .next (s.flam F.PWR_FLAM_COUNT 1)
  else
    let s := { s with lifeSaved := s.life }.mapKeeper fun k => { k with selfRefresh := true }
    .next ((s.allOff 0xEFE).setFs [(F.PWR_DOMREQ, 0x101), (F.PWR_STATUS_STBY, 1)])

/-! ## Start-up (R404, R405, R410–R412, R462) -/

/-- The keeper and what it keeps across a reset: OTP, life store, log, calendar, retired pages (R403, R463). -/
def State.keepOnly (s : State) : State :=
  { State.reset with
    pending := s.pending
    free := s.free
    otp := s.otp
    keeper := { s.keeper with released := false, key := false, prog := none, resetAt := none, accepted := false, resetT0 := none }
    log := s.log
    logKept := s.logKept
    logSeq := s.logSeq
    finals := s.finals
    saved := s.saved
    calSec := s.calSec
    calFrac := s.calFrac
    calSub := s.calSub
    boots := s.boots
    stops := s.stops
    life := s.life
    lifeSaved := s.lifeSaved
    clk := { State.reset.clk with calAcc := s.clk.calAcc, calErr := s.clk.calErr, refOk := s.clk.refOk }
    mem := { s.mem with queue := [] } }

/-- R404, R408: what reading every OTP word at both references leaves. -/
def State.readOtp (s : State) (b : Boot) : State :=
  let s := s.tally 0x242 512
  b.flips.foldl (fun s x => s.otpMark x.2) s

/-- R412: the slot that runs: the active one, or the other where it was left TRIAL or may not run; none where neither may. -/
def State.bootSlot (s : State) : Option Nat :=
  let a := s.keeper.active
  if s.slotGood a ∧ s.keeper.trial = false then some a
  else if s.slotGood (1 - a) then some (1 - a)
  else if s.slotGood a then some a
  else none

/-- READY in a mode (R404, R405): the status registers, the mirrors of GCTL, EV_KEEPER_BOOT with the mode in its cause field, and the mailbox
command that has waited. -/
def State.ready (s : State) (mode : Nat) : State :=
  let s := s.setFs [(F.MBX_STATUS_READY, 1), (F.MBX_STATUS_MODE, mode), (F.MBX_STATUS_SLOT, s.keeper.active), (F.MBX_STATUS_TRIAL, b2n s.keeper.trial),
    (F.MBX_STATUS_CAL_VALID, b2n s.keeper.calValid)]
  let s := s.raise EV.KEEPER_BOOT mode
  let s := if s.keeper.calLost then (s.mapKeeper fun k => { k with calLost := false }).raiseX EV.CAL_LOST else s
  s.mbxResume

/-- The data rates of device memory in MT/s, from the highest (R477). -/
def memRates : List Nat := [8533, 7500, 6400, 5500, 4266, 3200]

/-- The highest data rate that every memory device offers (R477); 0 where none is common. -/
def pickRate (devices : List (BitVec 6)) : Nat :=
  match findFirst (fun i => devices.all fun d => d.getLsbD i) (upFrom 0 6) with
  | some i => nthD 0 memRates i
  | none => 0

/-- The link widths, and the rates in 0.1 GT/s, that the endpoint supports (R30). -/
def linkWidths : List Nat := [1, 2, 4, 8]
def linkRates : List Nat := [25, 50, 80, 160, 320]

/-- The widest width and the highest rate that both ends support (R30). -/
def trainLink (widths : BitVec 4) (speeds : BitVec 5) : PcieLink :=
  let top (k : Nat) (p : Nat → Bool) : Option Nat := ((upFrom 0 k).filter p).getLast?
  ⟨match top 4 fun i => widths.getLsbD i with
    | some i => nthD 0 linkWidths i
    | none => 0, match top 5 fun i => speeds.getLsbD i with
    | some i => nthD 0 linkRates i
    | none => 0⟩

/-- Start-up reaches READY in normal mode: domains, bands, memory, the on-chip review, HK. -/
def State.startNormal (s : State) (b : Boot) : State :=
  let s := s.setFs [(F.PWR_DOMREQ, Dom.atReady), (F.PWR_DOMSTAT_ON, 0x103)]
  let s := ((s.domainOn 11).domainOn 1).domainOn 7
  let s := s.mapKeeper fun k => { k with memRate := pickRate b.memRates }
  (((s.onChip b.review).toService).ready 1)

/-- R404: start-up from keeper release to READY, in one command. The flash is reset (R484), the link trains (R30), and V3P3 feeds VIO_A where
VIOA_REG is tied to VIN (R451). -/
def execKeeperRelease (b : Boot) (s : State) : Out :=
  if s.keeper.supplied && !s.keeper.released then
    let cause := s.keeper.cause
    let s := { s with boots := s.boots + 1 }
    let s := s.mapKeeper fun k => { k with
      released := true, bands := b.bands.map (·.toNat), memSize := b.memSize.toNat, cause := 0, dbgLock := bitOf (tget 0 s.otp 192) 0
      octal := b.octal, xspiResets := k.xspiResets + 1, vioA := k.vioA || b.vioaInt }
    let s := { s with link := trainLink b.widths b.speeds }
    let s := s.setFs [(F.PWR_RSTCAUSE_POR, cause), (F.PWR_RSTCAUSE_PIN, cause / 2), (F.PWR_RSTCAUSE_MBX, cause / 4),
      (F.PWR_RSTCAUSE_VINFAIL, cause / 8), (F.PWR_STATUS_VIOA_INT, b2n b.vioaInt), (F.PWR_STATUS_VIOA_LVL, b2n b.vioaHigh),
      (F.PWR_STATUS_PG, 1), (F.PWR_VCORE, 800), (F.GCTL_SERIAL_LO, s.otpWord 0 0), (F.GCTL_SERIAL_HI, s.otpWord 0 1),
      (F.GCTL_ID_GRADE, s.otpWord 0 2), (F.GCTL_STATUS_UNPROV, b2n s.unprovisioned), (F.OTP_GSUP_ABSENT, s.absentGroups),
      (F.PWR_DOMREQ, 0x101), (F.PWR_DOMSTAT_ON, 0x101)]
    let s := ((s.readOtp b).showOtp).note 0
    let s := forBelow 16 State.checkGroup s
    if s.bootMode = 2 then .next (s.ready 2)
    else match s.bootSlot with
      | some n => .next ((s.mapKeeper fun k => { k with active := n, trial := k.trial && decide (k.active = n) }).startNormal b)
      | none => .next (s.ready 0)
  else .next s

/-- Device memory without power keeps nothing (log entry 2). -/
def State.loseMemory (s : State) : State := { s with mem := { s.mem with bytes := [], poison := [] } }

/-- R462, R464: VIN rises past the lockout; `kept` that VBAT held the keeper's supply and the calendar. Device memory's contents are
undefined after a cold start (log entry 2). -/
def execPor (kept : Bool) (s : State) : Out :=
  if s.keeper.supplied then .next s
  else
    let s := (s.keepOnly.lived 0x70 1).loseMemory
    let cause := if kept && s.keeper.vfail then 8 else 1
    let s := s.mapKeeper fun k => { k with
      supplied := true, cause := cause, vlow := 0, vfail := false, selfRefresh := false, calLost := k.calLost || !kept,
      calValid := k.calValid && kept }
    .next (if kept then s else { s with calSec := 0, calFrac := 0, calSub := 0 })

/-! ## Reset (R463) -/

/-- R463: samples of RESET_N by the keeper's oscillator, oldest first; low on 8 cycles in a row is accepted. -/
def execResetPin (samples : List Bool) (s : State) : Out :=
  if lowRun 8 samples && s.keeper.supplied && s.keeper.released && s.keeper.resetT0.isNone then .next (s.mapKeeper fun k => { k with accepted := true }) else .next s

/-- R463 at t0: the G4 action begins, the open entries are flushed, PG_OUT is driven low. -/
def State.beginReset (s : State) (cause : Nat) : State :=
  let s := s.mapKeeper fun k => { k with accepted := false, resetAt := none, resetT0 := some s.time, cause := cause }
  let s := (s.setF F.PWR_STATUS_PG 0).kaAllStatic.outputsReset
  (if s.clk.running then s.flush (some Reason.DEVICE_STOP) else s.saveLedger).reportG4

/-- R463: an accepted reset, or the reset of a mailbox RESET 1 ms after its response. -/
def execDeviceReset (s : State) : Out :=
  if s.keeper.resetT0.isSome then .next s
  else if s.keeper.accepted then .next (s.beginReset 2)
  else match s.keeper.resetAt with
    | some t => .next ((s.advanceTo t).beginReset 4)
    | none => .next s

/-- Every retry still awaited is UNRESOLVED at a reset (R392). -/
def State.endRetries (s : State) : State := ([0, 1, 7, 9, 10].filter s.powered).foldl State.dropRetries s

/-- R463: 18,000 ticks after t0 the memory is in self-refresh, every domain except KEEP is off, and press time stops. -/
def execResetIsolate (s : State) : Out :=
  match s.keeper.resetT0 with
  | some t => .next ((s.advanceTo (t + 18000)).endRetries.keepOnly.mapKeeper fun k => { k with selfRefresh := true })
  | none => .next s

/-! ## Supplies (R458, R464, R468, R469) -/

/-- R464 step 2: the stop's record, with the running job and frame number of each armed station. -/
def State.vinStop (s : State) : State :=
  let job (n : Nat) : Option (Nat × Nat × Nat) :=
    if s.armed n then (findFirst Frame.inProgress (s.station n).frames).map fun x => (n, x.job, x.num) else none
  let s := s.mapKeeper fun k => { k with vfail := true, vinFrames := (upFrom 0 8).filterMap job }
  s.logAdd 4 EV.VIN_FAIL 0 4 1 0

/-- R464: a sample of VIN every microsecond: one below WARN before one at or above it was transient, the second in a row a lasting fault. -/
def execVinSample (mv : BitVec 16) (s : State) : Out :=
  let s := s.setF F.PWR_VIN_VIN mv.toNat
  let run := s.keeper.vlow
  if mv.toNat < s.f F.PWR_VINMON then
    let s := s.mapKeeper fun k => { k with vlow := run + 1 }
    .next (if run = 1 then ((s.raiseX EV.VIN_FAIL).setF F.PWR_STATUS_PG 0).vinStop else s)
  else
    let s := s.mapKeeper fun k => { k with vlow := 0 }
    .next (if run = 1 then s.addF F.PWR_STATUS_VTRANS 1 else s)

/-- R464: below the lockout every domain except KEEP is off, and counts since the last periodic write are lost (R427). -/
def execVinUvlo (s : State) : Out :=
  let lost := { s.endRetries with life := s.lifeSaved }
  .next (lost.keepOnly.mapKeeper fun k => { k with supplied := false })

/-- R468: a regulator leaves regulation. -/
def execRegFault (r : BitVec 4) (s : State) : Out := .next ((s.setF F.PWR_STATUS_REG_FLT 1).raise EV.REG_FAULT r.toNat)

/-- R469: a reading of VBAT. -/
def execVbatLow (mv : BitVec 16) (s : State) : Out :=
  let s := s.setF F.PWR_VIN_VBAT mv.toNat
  if mv.toNat < 1900 then .next ((s.setF F.PWR_STATUS_VBAT_LOW 1).raiseX EV.VBAT_LOW) else .next s

/-- R457, R458: VIO_A or VIO_B appears or disappears. -/
def execVioSupplyChange (bankB up : Bool) (s : State) : Out :=
  .next (s.mapKeeper fun k => if bankB then { k with vioB := up } else { k with vioA := up })

/-- What the endpoint's configuration space says of it (R30): device ID, vectors, largest payload and read request in bytes, and non-posted
requests outstanding with 10-bit tags. -/
def endpointId : Nat := 0x4680
def endpointVectors : Nat := 64
def endpointMps : Nat := 512
def endpointMrrs : Nat := 4096
def endpointTags : Nat := 256

/-- Whether the endpoint may initiate ASPM L1: only while no station is armed (R30). -/
def State.mayL1 (s : State) : Bool := !s.anyArmed && decide (0 < s.link.width)

/-- The PCI Express lanes, of eight, that stay in electrical idle (R30). -/
def State.pcieIdle (s : State) (lane : Nat) : Bool := decide (s.link.width ≤ lane)

/-- R30: a configuration write moves the endpoint between D0 and D3hot. -/
def execPowerManagementState (d3 : Bool) (s : State) : Out := .next { s with d3hot := d3 }

end Sys2Proof.Machine
end

