-- ==== Sys2Proof/Machine/Regs.lean ====
section
/-!
DEFINITION. Reading registers (R8, R9, R31–R33, R54): what a read-only field shows where the state holds it elsewhere, what a read
latches for its reader, and what it clears.
-/
namespace Sys2Proof.Machine

/-! ## Fields that show state held elsewhere -/

/-- The codes of MLT_Mm_STATUS.STATE. -/
def Run.code : Run → Nat
  | .idle => 0
  | .running => 1
  | .halted => 2
  | .loading => 3

/-- The mask of halted mallets among n from a first one. -/
def haltedMask (s : State) (lo : Nat) : Nat → Nat
  | 0 => 0
  | n + 1 => haltedMask s lo n + (if (s.mallet (lo + n)).run = .halted then 2 ^ n else 0)

/-- Whether mallet m is a free spare: idle and not named by a role (R268). -/
def State.spareIdle (s : State) (m : Nat) : Nat := b2n (s.malletIdle m)

/-- The lines of provisional slots of station n (R115). -/
def provLines (s : State) (n : Nat) : Nat → List Int
  | 0 => []
  | i + 1 => (match s.slot n i with
      | some x => if x.prov.isSome then [x.lpos] else []
      | none => []) ++ provLines s n i

/-- The first slot of the range of provisional slots: that of their lowest line. -/
def firstProv : List Int → Nat
  | [] => 0
  | l :: r => ((r.foldl (fun a b => if b < a then b else a) l) % 256).toNat

/-- L_S of the next pending change set for a station; zero where none is pending. -/
def State.showSplice (s : State) (n : Nat) : Nat :=
  match s.csOrder (fun q => s.csOpen q n) with
  | q :: _ => ux 32 (s.spliceLine n q)
  | [] => 0

/-- The oldest entry of the host receive queue. -/
def State.hostHead (s : State) : Bool × Msg :=
  match s.hostRx with
  | x :: _ => x
  | [] => (false, ⟨0, 0, 0, 0⟩)

/-- Word i of a message. -/
def Msg.word (x : Msg) (i : Nat) : Nat :=
  (if i = 0 then x.w0 else if i = 1 then x.w1 else if i = 2 then x.w2 else x.w3).toNat

/-- The MLT registers as a read shows them (R281). -/
def State.showMlt (s : State) (base i : Nat) : State :=
  let x := s.mallet i
  match base with
  | 0xD0004 => s.setF F.MLT_SPARES_FREE (s.spareIdle 24 + 2 * s.spareIdle 25 + 4 * s.spareIdle 34 + 8 * s.spareIdle 35)
  | 0xD0008 => s.setF F.MLT_HALTED_LO (haltedMask s 0 32)
  | 0xD000C => s.setF F.MLT_HALTED_HI (haltedMask s 32 4)
  | 0xD0060 => s.setF (F.MLT_HOST_RX i) (s.hostHead.2.word i)
  | 0xD0070 => s.setFs [(F.MLT_HOST_RXSTAT_BOUNCE, b2n s.hostHead.1), (F.MLT_HOST_RXSTAT_COUNT, s.hostRx.length)]
  | 0xD0400 =>
    let r := s.role i
    let st := match r.station with
      | some n => n
      | none => 255
    let s := s.setFs [(F.MLT_ROLE_MAP_STATION i, st), (F.MLT_ROLE_MAP_EPOCH i, r.epoch)]
    (match r.holder with
      | some m => s.setFs [(F.MLT_ROLE_MAP_BOUND i, 1), (F.MLT_ROLE_MAP_MALLET i, m)]
      | none => s)
  | 0xD1004 => s.setFs [(F.MLT_M_STATUS_WHY i, x.why), (F.MLT_M_STATUS_STATE i, x.run.code)]
  | 0xD1008 => s.setF (F.MLT_M_PC i) x.pc
  | 0xD100C => s.setF (F.MLT_M_CAUSE i) x.cause.toNat
  | 0xD1010 => s.setF (F.MLT_M_EPC i) x.epc
  | 0xD1018 => s.setFs [(F.MLT_M_QUEUE_BOUNCE i, x.bounce.length), (F.MLT_M_QUEUE_INQ i, x.inq.length)]
  | _ => s

/-- The station registers that show positions, provisional slots, leads and splices (R75, R115, R141, R209, R256). -/
def State.showStation (s : State) (base i : Nat) : State :=
  match base with
  | 0x30128 => s.setPairS (F.WEB_ST_LPOS_HI i) (F.WEB_ST_LPOS_LO i) (s.lpos i)
  | 0x50104 =>
    s.setFs [(F.FEED_Q_STATUS_PROVISIONAL i, b2n !(provLines s i 256).isEmpty), (F.FEED_Q_STATUS_RUNNING i, b2n (s.armed i && s.on (F.FEED_Q_CTL_EN i)))]
  | 0x50120 => s.setFs [(F.FEED_Q_PROV_COUNT i, (provLines s i 256).length), (F.FEED_Q_PROV_FIRST i, firstProv (provLines s i 256))]
  | 0x60008 => s.setF (F.SCR_LEADNOW_LEAD i) (s.lead i)
  | 0x80404 => s.setF (F.INK_SP_STATUS_FREE i) (b2n (s.spareFree i))
  | 0xA1030 => s.setF (F.EPS_S_PRAT_LO i) (s.ratio i / 8)
  | 0xA1034 => s.setF (F.EPS_S_PRAT_HI i) (s.ratio i / 8 / 2 ^ 32)
  | 0xA1038 => s.setPairS (F.EPS_S_FPOS_HI i) (F.EPS_S_FPOS_LO i) (s.lpos i / 8)
  | 0xC010C => s.setF (F.CHG_S_SPLICE_LINE i) (s.showSplice i)
  | _ => s

/-- The other registers that show state held elsewhere (R33, R54, R425, R435). -/
def State.showOther (s : State) (base i : Nat) : State :=
  match base with
  | 0xC => s.setFs [(F.GCTL_STATUS_MODE, s.f F.MBX_STATUS_MODE), (F.GCTL_STATUS_READY, s.f F.MBX_STATUS_READY)]
  | 0x20000 => s.setF F.TIME_LO (lo32 s.time)
  | 0xE031C => s.setF (F.TR_RDDATA i) (s.traceWord i)
  | 0x120104 => s.setF (F.CNT_LO i) (lo32 (s.counter i))
  | 0x120118 => s.setPair (F.CNT_SNAP_HI i) (F.CNT_SNAP_LO i) (s.ctr i).snap
  | 0x130060 => s.setF F.MBX_CAL_LO (lo32 s.calSec)
  | _ => s

/-- The state with the fields of one register family instance set to what a read of them shows. -/
def State.shown (s : State) (base i : Nat) : State :=
  match base / 0x10000 with
  | 0xD => s.showMlt base i
  | 0x0 => s.showOther base i
  | 0x2 => s.showOther base i
  | 0xE => s.showOther base i
  | 0x12 => s.showOther base i
  | 0x13 => s.showOther base i
  | _ => s.showStation base i

/-! ## What a read latches and clears -/

/-- Low words whose read latches the next word for the reader (R54). -/
def pairBases : List Nat :=
  [0x4, 0x20000, 0x30008, 0x30018, 0x30058, 0x30128, 0x30130, 0x5001C, 0x40110, 0xA1024, 0xA1038, 0xC0048, 0xE0310, 0xE1018, 0xE1020,
    0xE10A8, 0xF103C, 0x120010, 0x120104, 0x120118, 0x120120, 0x130060]

/-- What the word after a low word holds when the low word is read. -/
def State.highOf (s : State) (base i off : Nat) : Nat :=
  match base with
  | 0x20000 => hi32 s.time
  | 0x30128 => s.f (F.WEB_ST_LPOS_HI i)
  | 0xA1038 => s.f (F.EPS_S_FPOS_HI i)
  | 0x120104 => s.counter i / 2 ^ 32
  | 0x120118 => s.f (F.CNT_SNAP_HI i)
  | 0x130060 => hi32 s.calSec
  | _ => s.f ⟨off + 4, 0, 32, 0⟩

/-- Whether a register holds a reader's shadow: it follows a latching low word, or belongs to a snare's capture or the calendar. -/
def isShadow (base : Nat) : Bool :=
  pairBases.contains (base - 4) || [0x2010C, 0x20110, 0x20114, 0x130068].contains base

/-- What a read of a register latches for its reader (R54, R60, R425, R440). -/
def State.latchFor (s : State) (reader base i off : Nat) : State :=
  if base = 0x20108 then s.readSnare reader i
  else if pairBases.contains base then
    let s' := s.latch reader (off + 4) ((s.shown base i).highOf base i off)
    if base = 0x130060 then s'.latch reader (off + 8) s.calFrac else s'
  else s

/-- Assemble the word of a register from its fields; a write-only field reads as zero. -/
def State.wordOf (s : State) : List (Field × Access) → Nat
  | [] => 0
  | (x, a) :: r => (if a = .wo then 0 else s.f x * 2 ^ x.lo) + s.wordOf r

/-- Clear the RC fields that a read returned (R8, R390). -/
def State.clearRead (s : State) : List (Field × Access) → State
  | [] => s
  | (x, a) :: r => (if a = .rc then s.setF x 0 else s).clearRead r

/-- A read of the BAR0 register at a word offset by a reader: the word, and the state after the read. Nothing stands at an offset
without a register (R9). -/
def State.readReg (s : State) (reader off : Nat) : Nat × State :=
  match regAt off with
  | none => (0, s)
  | some (d, i, j) =>
    if d.base = 0x80054 then s.readDdResult
    else if d.base = 0x60008 then
      s.readLeadnow i
    else if isShadow d.base then (s.shadowOf reader off, s)
    else
      let w := (s.shown d.base i).wordOf (d.fields i j)
      let s := (s.latchFor reader d.base i off).clearRead (d.fields i j)
      if d.base = 0xE031C then (w, s.setF (F.TR_RDADDR_INDEX i) (s.f (F.TR_RDADDR_INDEX i) + 1)) else (w, s)

/-! ## Windows of the host (R30–R32, R405, R411, R447) -/

/-- Whether the host reaches a block: out of service only GCTL, MBX and OTP answer (R405, R411), and in D3hot nothing is decoded (R30). -/
def State.hostReaches (s : State) (off : Nat) : Bool :=
  let early := off / 0x10000 = 0x0 ∨ off / 0x10000 = 0x13 ∨ off / 0x10000 = 0x14
  !s.d3hot && (decide early || s.inService)

/-- Whether a reader reaches a BAR0 register. -/
def State.reaches (s : State) (who : Reader) (off : Nat) : Bool :=
  match who with
  | .host => s.hostReaches off
  | .keeper => true
  | .mallet _ => true

/-- The BAR0 register that a BAR4 offset mirrors (R32). -/
def bar4Reg (off : Nat) : Option Nat :=
  if 0x1000 ≤ off ∧ off < 0x1000 + 56 * 8 then
    some (0x120100 + (off - 0x1000) / 8 * 0x40 + (if off % 8 = 0 then 4 else 8))
  else if 0x2000 ≤ off ∧ off < 0x2080 ∧ off % 16 ≤ 4 then some (0x50100 + (off - 0x2000) / 16 * 0x40 + (if off % 16 = 0 then 0x14 else 0x10))
  else if off = 0x3000 then some 0xC0210
  else if off = 0x3004 then some 0xC0214
  else if off = 0x3008 then some 0xC0218
  else none

/-- The reset value of word w of the MSI-X table: every vector is masked (R30). -/
def msixReset (w : Nat) : Nat := if w % 4 = 3 then 1 else 0

/-- A word of the mallet memories as BAR0 shows it from 0x0100_0000 (R31, R261): 36 mallets of 0x2_0000 bytes each, instruction memory
first, then data memory; MSM at 0x0180_0000; nothing elsewhere. -/
def State.readHigh (s : State) (off : Nat) : Nat :=
  if 0x1800000 ≤ off ∧ off < 0x1A00000 then ofLE (tgets 0 s.msm (off - 0x1800000) 4)
  else if off < 0x1800000 then
    let m := (off - 0x1000000) / 0x20000
    let a := (off - 0x1000000) % 0x20000
    if 36 ≤ m then 0
    else if a < 0x10000 then (tget 0 s.imem (16384 * m + a / 4)).toNat
    else if a < 0x14000 then ofLE (tgets 0 s.dmem (16384 * m + (a - 0x10000)) 4)
    else 0
  else 0

/-- A read of a word of BAR0 (R31): a register, or the mallet memories. -/
def State.readBar0 (s : State) (reader off : Nat) : Nat × State :=
  if 0x1000000 ≤ off then (s.readHigh off, s) else s.readReg reader off

/-- A read of a word of BAR4 (R32, R447). -/
def State.readBar4 (s : State) (reader off : Nat) : Nat × State :=
  if 0x1000 ≤ off ∧ off < 0x1000 + 56 * 8 ∧ s.on F.GCTL_USERPAGE_CNT_EN = false then (0, s)
  else match bar4Reg off with
    | some o => s.readReg reader o
    | none =>
      if 0x4000 ≤ off ∧ off < 0x4400 then (tget (msixReset ((off - 0x4000) / 4)) s.msix ((off - 0x4000) / 4), s)
      else if 0x5000 ≤ off ∧ off < 0x5008 then (s.pba / 2 ^ ((off - 0x5000) * 8) % 2 ^ 32, s)
      else (0, s)

/-- A read of BAR0 or BAR4 by a reader, and its answer: Completer Abort where it is not one naturally aligned 32-bit word (R31); none in
D3hot, where the BARs are not decoded (R30). -/
def State.busRead (s : State) (who : Reader) (bar : Bar) (off len : Nat) : State :=
  if s.d3hot ∧ who = .host then s
  else if off % 4 ≠ 0 ∨ len ≠ 4 then { s with answer := .abort }
  else match bar with
    | .bar0 => if s.reaches who off then (s.readBar0 who.id off).2.reply (s.readBar0 who.id off).1 else s.reply 0
    | .bar4 => if s.d3hot then s else (s.readBar4 who.id off).2.reply (s.readBar4 who.id off).1

/-- Whether a register family has a field that a read clears. -/
def hasRc (l : List (Field × Access)) : Bool := l.any fun x => decide (x.2 = .rc)

/-- Whether a register is a FLAM counter: the one field of R390 named COUNT in each block. -/
def isFlam (off : Nat) : Bool :=
  [0x14, 0x103F4, 0x20018, 0x30034, 0x40008, 0x5002C, 0x80000, 0xA0000, 0xC0018, 0xD0018, 0xE0000, 0xF0000, 0x10001C, 0x110020, 0x120018,
    0x13006C, 0x14001C, 0x150024].contains off || (decide (off / 0x10000 = 6) && decide (off % 0x2000 = 0x2C))

/-- R390, R31: a read of a FLAM counter; of any other register it is no such read. -/
def execFlamRead (who : Reader) (off : BitVec 26) (len : BitVec 13) (s : State) : Out :=
  if isFlam (off.toNat / 4 * 4) then .next (s.busRead who .bar0 off.toNat len.toNat) else .next s

/-- R390, R31, R32: a read of a register with an RC count, which it clears. Every other read of a window that has no row of its own is this
one too, with nothing to clear; a FLAM counter has its row. -/
def execCountRead (who : Reader) (bar : Bar) (off : BitVec 26) (len : BitVec 13) (s : State) : Out :=
  if bar = .bar0 ∧ isFlam (off.toNat / 4 * 4) = true then .next s else .next (s.busRead who bar off.toNat len.toNat)

/-! ## Trace units (R331, R332) -/

/-- The words that unit u's channels sample, channel 0 first; a channel that is not enabled records zero. -/
def traceWords (u : Nat) : Nat → State → List Word × State
  | 0, s => ([], s)
  | k + 1, s =>
    let (l, s) := traceWords u k s
    if s.on (F.TR_SRC_EN u k) then
      let (w, s) := s.readReg (38 + u) (s.f (F.TR_SRC_OFFSET u k))
      (l ++ [BitVec.ofNat 32 w], s)
    else (l ++ [0], s)

/-- Whether a threshold mode triggers on channel 0 between two samples (R332). -/
def State.crosses (s : State) (u : Nat) (was now : Nat) : Bool :=
  let th := s.f (F.TR_THRESH u)
  match s.f (F.TR_TRIG_MODE u) with
  | 1 => decide (was < th) && decide (th ≤ now)
  | 2 => decide (th ≤ was) && decide (now < th)
  | _ => false

/-- One sample recorded after the trigger; the last one completes the unit (R332). -/
def State.traceAfter (s : State) (u : Nat) (row : List Word) : State :=
  let x := s.trace u
  let s := s.setTrace u { x with rows := row :: x.rows, left := x.left - 1 }
  if x.left ≤ 1 then (s.setFs [(F.TR_STATUS_STATE u, 3), (F.TR_CTL_ARM u, 0)]).raise EV.TRACE_DONE u else s

/-- R331, R332: a trace unit samples: on its loop timer's firing, or, on the divider, at the next tick that is due. -/
def execTraceSample (u : Fin 4) (s : State) : Out :=
  let n := u.val
  let z := s.f (F.TR_STATUS_STATE n)
  if z = 1 ∨ z = 2 then
    let s := if s.on (F.TR_CTL_CLKSRC n) then s.advanceTo ((s.trace n).lastAt + max 1 (s.f (F.TR_CTL_DIV n)) * 600) else s
    let (row, s) := traceWords n 8 s
    let now := (row.headD 0).toNat
    let x := s.trace n
    let s := s.setTrace n { x with prev := some now, lastAt := s.time }
    if z = 2 then .next (s.traceAfter n row)
    else if (match x.prev with
        | some was => s.crosses n was now
        | none => false) then .next ((s.trigger n).traceAfter n row)
    else .next (s.setTrace n { s.trace n with rows := (row :: x.rows).take (s.f (F.TR_CTL_PRE n)) })
  else .next s

end Sys2Proof.Machine
end

