-- ==== Sys2Proof/Machine/Bus.lean ====
section
/-!
DEFINITION. Writing registers (R8, R9, R31–R33, R261, R262): the access codes, the writes that a rule ignores or counts, and the writes
that start something, whose effect is that of the row of the same name.
-/
namespace Sys2Proof.Machine

/-! ## Access codes (R8) -/

/-- What a written word holds for a field. -/
def fieldOf (x : Field) (v : Nat) : Nat := v / 2 ^ x.lo % 2 ^ x.width

/-- The lock of the block that a register stands in, where it has one. -/
def lockOf (off : Nat) : Option Field :=
  match off / 0x10000 with
  | 0x1 => some F.CLK_LOCK_LOCK
  | 0x5 => some F.FEED_LOCK_LOCK
  | 0xA => some F.EPS_LOCK_LOCK
  | 0xC => some F.CHG_LOCK_LOCK
  | 0xD => some F.MLT_LOCK_LOCK
  | 0x11 => some F.EVT_LOCK_LOCK
  | 0x15 => some F.PWR_LOCK_LOCK
  | _ => none

/-- Whether a register's block is locked. -/
def State.locked (s : State) (off : Nat) : Bool :=
  match lockOf off with
  | some x => s.on x
  | none => false

/-- Write one field under its access code. -/
def State.putAccess (s : State) (v : Nat) (x : Field) (a : Access) : State :=
  let w := fieldOf x v
  match a with
  | .rw => s.setF x w
  | .rwl => if s.locked x.off then s else s.setF x w
  | .w1c => s.setF x (s.f x &&& (2 ^ x.width - 1 - w))
  | .w1s => s.setF x (s.f x ||| w)
  | .ro => s
  | .wo => s
  | .rc => s

/-- The bits of a register's W1C fields that stand set. -/
def State.flagsSet (s : State) : List (Field × Access) → Nat
  | [] => 0
  | (x, a) :: r => (if a = .w1c then s.f x * 2 ^ x.lo else 0) + s.flagsSet r

/-- The FLAM counter of the block that a register stands in (R390). -/
def flamOf (off : Nat) : Field :=
  match off / 0x10000 with
  | 0x1 => F.CLK_FLAM_COUNT
  | 0x2 => F.TIME_FLAM_COUNT
  | 0x3 => F.WEB_FLAM_COUNT
  | 0x4 => F.DMA_FLAM_COUNT
  | 0x5 => F.FEED_FLAM_COUNT
  | 0x6 => F.SCR_FLAM_COUNT ((off - 0x60000) / 0x2000)
  | 0x7 => F.SCR_FLAM_COUNT ((off - 0x60000) / 0x2000)
  | 0x8 => F.INK_FLAM_COUNT
  | 0xA => F.EPS_FLAM_COUNT
  | 0xC => F.CHG_FLAM_COUNT
  | 0xD => F.MLT_FLAM_COUNT
  | 0xE => F.AXS_FLAM_COUNT
  | 0xF => F.MOT_FLAM_COUNT
  | 0x10 => F.HK_FLAM_COUNT
  | 0x11 => F.EVT_FLAM_COUNT
  | 0x12 => F.CNT_FLAM_COUNT
  | 0x13 => F.MBX_FLAM_COUNT
  | 0x14 => F.OTP_FLAM_COUNT
  | 0x15 => F.PWR_FLAM_COUNT
  | _ => F.GCTL_FLAM_COUNT

/-- Write the fields of a register under their access codes, but for those that a write does not reach. -/
def State.putFields (s : State) (v : Nat) (skip : List Field) : List (Field × Access) → State
  | [] => s
  | (x, a) :: r => ((if skip.contains x then s else s.putAccess v x a).putFields v skip r)

/-- A register as `regAt` finds it: its family and its indices. -/
abbrev Reg := RegDef × Nat × Nat

/-- The plain write of a register, but for the fields that a rule holds back. -/
def State.put (s : State) (r : Reg) (v : Nat) (skip : List Field) : State := s.putFields v skip (r.1.fields r.2.1 r.2.2)

/-- A write that is taken only under a condition, and counted otherwise. -/
def State.putIf (s : State) (r : Reg) (v : Nat) (ok : Bool) (flam : Field) : State := if ok then s.put r v [] else s.flam flam 1

/-- A station number as the commands take it. -/
def fin (n i : Nat) (h : 0 < n) : Fin n := ⟨i % n, Nat.mod_lt _ h⟩

/-! ## CLK, TIME and WEB (R44, R50, R58, R64, R67, R76, R84, R94) -/

def State.writeClk (s : State) (who : Reader) (r : Reg) (v : Nat) : State :=
  let n := fin 4 r.2.1 (by decide)
  match r.1.base with
  | 0x10000 =>
    let was := s.on F.CLK_ADPLL_CTL_EN
    let s := s.setF F.CLK_ADPLL_CTL_TCOMP_EN (v / 2)
    if bitOf v 0 then (if was then s else s.adpllOn) else if was then after (execAdpllDisable s) s else s
  | 0x10008 => if s.on F.CLK_ADPLL_CTL_TCOMP_EN ∧ who ≠ .keeper then s else s.put r v []
  | 0x10100 =>
    let was := s.on (F.CLK_MDLL_CTL_EN n.val)
    let s := s.put r v [F.CLK_MDLL_CTL_EN n.val]
    if bitOf v 0 then after (execMdllEnable n s) s
    else if was then (s.setFs [(F.CLK_MDLL_CTL_EN n.val, 0), (F.CLK_MDLL_STATUS_LOCKED n.val, 0)]).setMdll n.val Mdll.reset
    else s
  | 0x10104 => after (execPixfWrite n (BitVec.ofNat 24 v) s) s
  | _ => s.put r v []

def State.writeTime (s : State) (r : Reg) (v : Nat) : State :=
  match r.1.base with
  | 0x20100 =>
    -- A write with ARM and DISARM both 1 arms, then disarms (DESIGN CHOICE, log entry 44).
    let s := s.put r v [F.SN_CTL_ARM r.2.1]
    let s := if bitOf v 0 then s.armSnare r.2.1 else s
    if bitOf v 1 then s.disarmSnare r.2.1 else s
  | _ => s.put r v []

def State.writeWeb (s : State) (r : Reg) (v : Nat) : State :=
  let i := r.2.1
  match r.1.base with
  | 0x30000 =>
    let was := s.on F.WEB_CTL_OBS_EN
    let s := if 2 ≤ bitsOf v 3 2 then (s.put r v [F.WEB_CTL_MAIN]).flam F.WEB_FLAM_COUNT 1 else s.put r v []
    let s := if bitOf v 0 && !was then s.observerOn else s
    if bitOf v 8 then after (execWebSwitch s) s else s
  | 0x30040 => after (execSourceEnable (fin 4 i (by decide)) (BitVec.ofNat 32 v) s) s
  | 0x30048 => if s.on (F.WEB_SRC_STATUS_IN_USE i) then s else s.put r v []
  | 0x3004C => if s.on (F.WEB_SRC_STATUS_IN_USE i) then s else s.put r v []
  | 0x30100 =>
    let g : Geared := .station (fin 8 i (by decide))
    let s := if bitOf v 1 then after (execRatioCancel g s) s else s
    if bitOf v 0 then after (execRatioSchedule g s) s else s
  -- R76 speaks of a write while the station is armed; while it arms or disarms the write is taken (DESIGN CHOICE, log entry 51).
  | 0x30108 => s.putIf r v (!s.armed i) F.WEB_FLAM_COUNT
  | 0x3010C => s.putIf r v (!s.armed i) F.WEB_FLAM_COUNT
  | _ => s.put r v []

/-! ## DMA, FEED and SCR (R108, R119, R122, R127, R128, R140, R146, R148, R154) -/

/-- START through the register: the descriptor's check code is clean, and one in host memory comes with a later completion. -/
def State.startDma (s : State) (c : Fin 16) : State := after (execDmaStart c ⟨[], .clean⟩ s) s

/-- ABORT written through the register: how many bursts the channel has completed by then, what a host source gave, and whether the last one
completes in the same cycle are free values (log entry 59). -/
def State.abortWrite (s : State) (c : Fin 16) : State :=
  let x := s.chan c.val
  let z := s.freeNow.toNat
  let moved := 4096 * (z / 2 % (x.len / 4096 + 1) + 1)
  let data := (upFrom 1 (min moved x.len)).map fun i => (Config.freeValue (s.free + i)).setWidth 8
  let s := { s with free := s.free + x.len + 1 }
  after (execDmaAbort c (BitVec.ofNat 32 (min moved x.len)) data (decide (x.len ≤ moved) && decide (z % 2 = 1)) s) s

def State.writeDma (s : State) (r : Reg) (v : Nat) : State :=
  let c := fin 16 r.2.1 (by decide)
  match r.1.base with
  | 0x40100 =>
    let s := s.put r v [F.DMA_CH_CTL_START c.val]
    let s := if bitOf v 0 then s.startDma c else s
    if bitOf v 1 then s.abortWrite c else s
  | 0x40108 => if s.on (F.DMA_CH_STATUS_BUSY c.val) then s else s.put r v []
  | 0x4010C => if s.on (F.DMA_CH_STATUS_BUSY c.val) then s else s.put r v []
  | _ => s.put r v []

def State.writeFeed (s : State) (r : Reg) (v : Nat) : State :=
  let n := r.2.1
  let off := !s.on (F.FEED_Q_CTL_EN n)
  match r.1.base with
  | 0x50100 =>
    let s := if off then s.setF (F.FEED_Q_CTL_LOG2SIZE n) (min 12 (max 4 (bitsOf v 7 4))) else s
    s.put r v [F.FEED_Q_CTL_LOG2SIZE n]
  | 0x50108 => if off then s.put r v [] else s
  | 0x5010C => if off then s.put r v [] else s
  | 0x50114 => s.ringTail n (v % 65536)
  | _ => s.put r v []

/-- SCRn_TCMD.GO: the OP on the KIND; an OP without a meaning is refused with ERR = 6 (R146). -/
def State.screenCommand (s : State) (n : Fin 8) : State :=
  let k : BitVec 2 := BitVec.ofNat 2 (s.f (F.SCR_TCMD_KIND n.val))
  match s.f (F.SCR_TCMD_OP n.val) with
  | 1 => after (execTableLoad n k s) s
  | 2 => after (execTableCopy n k s) s
  | 3 => after (execTableMark n k s) s
  | 4 => after (execTableClear n k s) s
  | 5 => after (execTableSwap n k s) s
  | _ => s.tableErr n.val 6

def State.writeScr (s : State) (r : Reg) (v : Nat) : State :=
  let i := r.2.1
  let n := fin 8 i (by decide)
  let fl := F.SCR_FLAM_COUNT i
  match r.1.base with
  | 0x60000 => if s.armed i then (s.put r v [F.SCR_CFG_RES i, F.SCR_CFG_WIDTH i]).flam fl 1 else s.put r v []
  | 0x60004 => after (execLeadWrite n (BitVec.ofNat 9 (bitsOf v 24 16)) (BitVec.ofNat 9 (bitsOf v 8 0)) s) s
  | 0x6000C => if s.armed i then s.flam fl 1 else s.put r v []
  | 0x60018 =>
    let s := s.put r v [F.SCR_TCMD_GO i]
    if bitOf v 31 then s.screenCommand n else s
  | 0x60020 => after (execHidingEdit n (BitVec.ofNat 16 v) (bitOf v 16) (bitOf v 17) s) s
  | _ => s.put r v []

/-! ## INK and EPS (R175, R186, R199, R202, R223, R230) -/

/-- INK_Sn_WCMD.GO; an OP without a meaning is refused with ERR = 6 (R186). A waveform image is read without an error of its check code
here; WAVE_LOAD brings what the check code finds. -/
def State.waveCommand (s : State) (n : Fin 8) : State :=
  match s.f (F.INK_S_WCMD_OP n.val) with
  | 1 => after (execWaveLoad n .clean s) s
  | 4 => after (execWaveClear n s) s
  | 5 => after (execWaveSwap n s) s
  | _ => s.waveErr n.val 6

/-- Whether a spare concerns an armed station: one whose lanes its MAP names. -/
def State.spareArmed (s : State) (sp : Nat) : Bool := (upFrom 0 16).any fun l => bitOf (s.f (F.INK_SP_CTL_MAP sp)) l && s.armed (l / 2)

def State.writeInk (s : State) (r : Reg) (v : Nat) : State :=
  let i := r.2.1
  let fl := F.INK_FLAM_COUNT
  match r.1.base with
  | 0x80010 =>
    let s := s.put r v [F.INK_SB_CMD_GO]
    if bitOf v 31 then after (execSidebandGo s) s else s
  | 0x80040 => s.putIf r v (!s.armed (s.f F.INK_DD_CTL_STATION) && !s.armed (bitsOf v 3 1)) fl
  | 0x80400 => s.putIf r v (!s.spareArmed i && !((upFrom 0 16).any fun l => bitOf v l && s.armed (l / 2))) fl
  | 0x81008 =>
    let s := s.put r v [F.INK_S_WCMD_GO i]
    if bitOf v 31 then s.waveCommand (fin 8 i (by decide)) else s
  | 0x82000 => s.putIf r v (!s.armed i) fl
  | 0x82004 => s.putIf r v (!s.armed i) fl
  | _ => s.put r v []

/-- The EPS station registers written only while the station is unarmed (R230). -/
def epUnarmed : List Nat := [0xA1000, 0xA1008, 0xA1010, 0xA1014, 0xA1018, 0xA1044, 0xA1048, 0xA1060, 0xA1084]

/-- A zone whose CUT threshold is 0 is not enabled (R223); one enabled on a thermistor declared broken shows it (R222). -/
def State.zoneEnable (s : State) (z : Nat) : State :=
  if s.on (F.EPS_FZ_CTL_EN z) then
    if s.f (F.EPS_FZ_CUT z) = 0 then (s.setF (F.EPS_FZ_CTL_EN z) 0).fuserOff z
    else if s.on (F.HK_CH_STATUS_BROKEN (28 + s.f (F.EPS_FZ_CTL_TH z))) then
      s.setFs [(F.EPS_FZ_STATUS_SENS_BAD z, 1), (F.EPS_FZ_STATUS_IN_BAND z, 0), (F.EPS_FZ_TEMP z, 0x07D0)]
    else s
  else s

def State.writeEps (s : State) (r : Reg) (v : Nat) : State :=
  let i := r.2.1
  if epUnarmed.contains r.1.base then s.putIf r v (!s.armed i) F.EPS_FLAM_COUNT
  else match r.1.base with
    | 0xA0100 =>
      ((s.put r v []).zoneEnable i).keepalives
    | 0xA0108 => ((s.put r v []).zoneEnable i).keepalives
    | 0xA010C => (s.put r v [F.EPS_FZ_STATUS_CUT i]).keepalives
    | 0xA0800 =>
      let was := s.on (F.EPS_HV_CFG_EN i)
      let s := (s.put r v []).keepalives
      if !was && decide ((s.station (i / 4)).phase = .unarmed) then s.hvLift i else s
    | 0xA10C0 => (s.put r v []).sendTargets i
    | _ => s.put r v []

/-! ## CHG and MLT (R239, R241, R252, R256, R267, R270, R276, R281) -/

def State.writeChg (s : State) (r : Reg) (v : Nat) : State :=
  match r.1.base with
  | 0xC0010 =>
    let s := s.put r v [F.CHG_CS_CMD_GO]
    if bitOf v 31 then
      match s.f F.CHG_CS_CMD_OP with
      | 1 => after (execCsQueue .clean s) s
      | 2 => after (execCsCancel s) s
      | _ => s.csReject 11 0
    else s
  | 0xC0200 => if s.anyArmed then s else s.put r v []
  | 0xC0204 => if s.anyArmed then s else s.put r v []
  | _ => s.put r v []

/-- Whether any role is assigned. -/
def State.anyRole (s : State) : Bool := (upFrom 0 62).any fun q => (s.role q).holder.isSome

def State.writeMlt (s : State) (r : Reg) (v : Nat) : State :=
  match r.1.base with
  | 0xD0010 =>
    let s := s.put r v [F.MLT_ASSIGN_GO]
    let q := s.f F.MLT_ASSIGN_ROLE
    let m := s.f F.MLT_ASSIGN_MALLET
    if bitOf v 31 then
      match s.f F.MLT_ASSIGN_OP with
      | 1 => after (execRoleAssign (BitVec.ofNat 6 q) (BitVec.ofNat 6 m) s) s
      | 2 => after (execRoleRelease (BitVec.ofNat 6 q) s) s
      | _ => s.assignDone q 6
    else s
  | 0xD0020 => if s.anyRole then s else s.put r v []
  | 0xD0024 => if s.anyRole then s else s.put r v []
  | 0xD0050 => if bitOf v 0 then after (execHostSend s) s else s
  | 0xD0070 => if bitOf v 31 then after (execHostRxPop s) s else s
  | 0xD1000 => if bitOf v 0 then after (execHostHalt (fin 36 r.2.1 (by decide)) s) s else s
  | _ => s.put r v []

/-! ## AXS and MOT (R305, R307, R311, R314, R315, R332, R336, R351, R352, R355) -/

/-- AXS_TCMD.GO (R314). -/
def State.axTableCommand (s : State) : State :=
  let u : BitVec 5 := BitVec.ofNat 5 (s.f F.AXS_TCMD_UNIT)
  let k : BitVec 4 := BitVec.ofNat 4 (s.f F.AXS_TCMD_KIND)
  match s.f F.AXS_TCMD_OP with
  | 1 => after (execAxsTableLoad u k s) s
  | 4 => after (execAxsTableClear u k s) s
  | 5 => after (execAxsTableSwap u k s) s
  | _ => s.axTableErr u.toNat 6

/-- A register written only while an enable is 0; at other times the write is ignored and counted. An enable written 0 in its own
register is taken alone. -/
def State.putWhileOff (s : State) (r : Reg) (v : Nat) (en : Field) (flam : Field) (stop : State → State) (start : State → State) : State :=
  if s.on en then (if bitOf v en.lo then s.flam flam 1 else stop s)
  else
    let s := s.put r v [en]
    if bitOf v en.lo then start s else s

/-- AXS registers written only while the axis's EN is 0 (R336). -/
def axisOff : List Nat := [0xE1004, 0xE1078, 0xE107C, 0xE1080, 0xE1090, 0xE1098, 0xE109C]

def State.writeAxis (s : State) (r : Reg) (v : Nat) : State :=
  let i := r.2.1
  let a := fin 24 i (by decide)
  if axisOff.contains r.1.base then s.putIf r v (!s.on (F.AXS_A_CTL_EN i)) F.AXS_FLAM_COUNT
  else match r.1.base with
    | 0xE1000 =>
      let s := if bitOf v 31 then (if s.on (F.AXS_A_CTL_EN i) then s else after (execAxisEnable a s) s)
        else if s.on (F.AXS_A_CTL_EN i) then s.axDisable i else s
      if bitOf v 30 then after (execAxisSwitch a s) s else s
    | 0xE100C =>
      let s := s.put r v [F.AXS_A_CMD_GO i]
      if bitOf v 31 then s.axCommand i (s.f (F.AXS_A_CMD_CODE i)) (s.fs (F.AXS_A_CMDARG i)) else s
    | 0xE1048 =>
      let s := if bitOf v 1 then after (execRatioCancel (.axis a) s) s else s
      if bitOf v 0 then after (execRatioSchedule (.axis a) s) s else s
    | _ => s.put r v []

/-- Whether a member of group g moves (R336). -/
def State.groupMoves (s : State) (g : Nat) : Bool :=
  (upFrom 0 24).any fun a => bitOf (s.f (F.AXS_G_CTL_MASK g)) a && decide ((s.axis a).v ≠ 0)

def State.writeAxs (s : State) (r : Reg) (v : Nat) : State :=
  let i := r.2.1
  let fl := F.AXS_FLAM_COUNT
  match r.1.base with
  | 0xE0010 =>
    let s := s.put r v [F.AXS_TCMD_GO]
    if bitOf v 31 then s.axTableCommand else s
  | 0xE0100 =>
    let q := bitsOf v 21 16
    if bitOf v 31 then after (execLoopTimerEnable (fin 16 i (by decide)) (BitVec.ofNat 6 q) s) s
    else if s.on (F.AXS_LT_CTL_EN i) then (if q = s.f (F.AXS_LT_CTL_ROLE i) then s else s.flam fl 1).timerOff i
    else s.setF (F.AXS_LT_CTL_ROLE i) q
  | 0xE0104 => if s.on (F.AXS_LT_CTL_EN i) then s.flam fl 1 else s.setF (F.AXS_LT_PERIOD i) (max 4000 (v % 2 ^ 24))
  | 0xE0108 => s.putIf r v (!s.on (F.AXS_LT_CTL_EN i)) fl
  | 0xE0200 => s.putIf r v (!s.groupMoves i) fl
  | 0xE0300 =>
    let u := fin 4 i (by decide)
    let s := s.put r v [F.TR_CTL_ARM i]
    let s := if bitOf v 31 then after (execTraceArm u s) s else s
    if bitOf v 30 then after (execTraceForce u s) s else s
  | 0xE3000 =>
    if s.on (F.STP_CTL_EN i) then (if bitOf v 31 then s.flam fl 1 else s.stepOff i)
    else
      let s := s.put r v [F.STP_CTL_EN i]
      if bitOf v 31 && !s.on F.EVT_GONG_G4 then s.stepOn i else s
  | _ => if 0xE1000 ≤ r.1.base ∧ r.1.base < 0xE3000 then s.writeAxis r v else s.put r v []

/-- MOT registers written only while the channel's EN is 0 (R355). -/
def motorOffRegs : List Nat :=
  [0xF1008, 0xF100C, 0xF1010, 0xF1020, 0xF1024, 0xF1028, 0xF1044, 0xF1048, 0xF104C, 0xF1050, 0xF1054, 0xF1058]

def State.writeMot (s : State) (r : Reg) (v : Nat) : State :=
  let i := r.2.1
  let fl := F.MOT_FLAM_COUNT
  if motorOffRegs.contains r.1.base then s.putIf r v (!s.on (F.MOT_C_CTL_EN i)) fl
  else match r.1.base with
    | 0xF0100 => ((s.put r v []).busWritten i 0).chopperFitted i
    | 0xF0104 => (s.put r v []).busWritten i 1
    | 0xF0108 => (s.put r v []).busWritten i 2
    | 0xF0110 =>
      let b := fin 4 i (by decide)
      let s := if fieldOf (F.MOT_BK_STATUS_BRK_FAULT i) v ≠ 0 then after (execBrkFaultClear b s) s else s
      if fieldOf (F.MOT_BK_STATUS_BUS_OV i) v ≠ 0 then after (execBusOvClear b s) s else s
    | 0xF1000 =>
      s.putWhileOff r v (F.MOT_C_CTL_EN i) fl (fun s => s.motorOff i) (fun s => after (execMotorEnable (fin 12 i (by decide)) s) s)
    | _ => s.put r v []

/-! ## HK, EVT and CNT (R358, R361, R375, R376–R381, R397, R402, R438–R447) -/

/-- Whether a written HK_CHx_THR keeps WARN ≤ THROT ≤ CRIT. -/
def thresholdsOrdered (v : Nat) : Bool := decide (sx 10 v ≤ sx 10 (v / 2 ^ 10)) && decide (sx 10 (v / 2 ^ 10) ≤ sx 10 (v / 2 ^ 20))

def State.writeHk (s : State) (r : Reg) (v : Nat) : State :=
  let i := r.2.1
  match r.1.base with
  | 0x100000 =>
    let s := (s.put r v [F.HK_CTL_TEST]).holdDemand
    if bitOf v 16 then after (execHkTest s) s else s
  | 0x100008 => (s.put r v []).holdDemand
  | 0x100100 =>
    s.putWhileOff r v (F.HK_CH_CFG_EN i) F.HK_FLAM_COUNT (fun s => s.hkOff i) (fun s => s.hkOn i)
  | 0x100104 => if 44 ≤ i then s.put r v [] else s.putIf r v (thresholdsOrdered v) F.HK_FLAM_COUNT
  | 0x10010C =>
    let s := s.put r v [F.HK_CH_STATUS_REQUAL i]
    if bitOf v 31 then after (execHkRequal (fin 60 i (by decide)) s) s else s
  | _ => s.put r v []

def State.writeEvt (s : State) (r : Reg) (v met : Nat) : State :=
  match r.1.base with
  | 0x110014 => (s.put r v []).keepalives
  | 0x11001C =>
    let s := s.put r v [F.EVT_RAISE_GO]
    if bitOf v 31 then after (execHostRaise (BitVec.ofNat 8 v) (BitVec.ofNat 16 (v / 2 ^ 8)) s) s else s
  | 0x110040 => after (execPendClear (fin 8 r.2.1 (by decide)) (BitVec.ofNat 32 v) (BitVec.ofNat 32 met) s) s
  | 0x111000 => after (execEventConfigWrite (BitVec.ofNat 8 r.2.1) (BitVec.ofNat 32 v) s) s
  | _ => s.put r v []

def State.writeCnt (s : State) (r : Reg) (v : Nat) : State :=
  let i := r.2.1
  let off := !s.on (F.CNT_CFG_EN i)
  match r.1.base with
  | 0x120000 =>
    let s := (s.setFreeze (bitOf v 0)).put r v []
    if bitOf v 1 then s.snapshot else s
  | 0x120100 => s.cntConfig i v
  | 0x120104 => s.writeCounter i v
  | 0x120108 => s.stageHigh i v
  | 0x12010C => s.putIf r v off F.CNT_FLAM_COUNT
  | 0x120110 => s.putIf r v off F.CNT_FLAM_COUNT
  | 0x120114 => s.putIf r v off F.CNT_FLAM_COUNT
  | _ => s.put r v []

/-! ## MBX, OTP and PWR (R405, R413, R419, R433, R434, R460, R466, R470) -/

def State.writeMbx (s : State) (r : Reg) (v : Nat) : State :=
  match r.1.base with
  | 0x130000 =>
    if bitOf v 31 then (if s.on F.MBX_STATUS_BUSY then s.flam F.MBX_FLAM_COUNT 1 else s.mailboxGo (v % 256))
    else s.setF F.MBX_CMD_OP v
  | _ => s.put r v []

/-- OTP_CMD.GO; a word that reads the same at both references. A reserved OP has no effect but ends a key. -/
def State.otpGo (s : State) (v : Nat) : State :=
  let g : BitVec 4 := BitVec.ofNat 4 (v / 2 ^ 5)
  let w : BitVec 5 := BitVec.ofNat 5 v
  match bitsOf v 11 10 with
  | 1 => after (execOtpRead g w (bitOf v 30) ⟨0, 0, 0, 0⟩ s) s
  | 2 => after (execOtpProg g w (bitOf v 30) s) s
  | _ => (s.otpCmd (bitsOf v 11 10) g.toNat w.toNat (bitOf v 30)).dropKey

def State.writeOtp (s : State) (r : Reg) (v : Nat) : State :=
  match r.1.base with
  | 0x140000 => if bitOf v 31 then s.otpGo v else (s.put r v []).dropKey
  | 0x140018 => after (execOtpKeyWrite (BitVec.ofNat 32 v) s) s
  | _ => (s.put r v []).dropKey

def State.writePwr (s : State) (r : Reg) (v : Nat) : State :=
  match r.1.base with
  | 0x150000 => if bitOf v 0 then after (execStandbyRequest s) s else s
  | 0x150008 => after (execDomainRequest (BitVec.ofNat 12 v) s) s
  | 0x150010 => if s.locked 0x150010 then s else s.setF F.PWR_VINMON (min 5000 (max 2600 (fieldOf F.PWR_VINMON v)))
  | _ => s.put r v []

/-! ## A write of a register (R8, R9, R31, R32) -/

/-- A write of a register, each block's rules applied. -/
def State.writeBlock (s : State) (who : Reader) (r : Reg) (off v met : Nat) : State :=
  match off / 0x10000 with
  | 0x1 => s.writeClk who r v
  | 0x2 => s.writeTime r v
  | 0x3 => s.writeWeb r v
  | 0x4 => s.writeDma r v
  | 0x5 => s.writeFeed r v
  | 0x6 => s.writeScr r v
  | 0x8 => s.writeInk r v
  | 0xA => s.writeEps r v
  | 0xC => s.writeChg r v
  | 0xD => s.writeMlt r v
  | 0xE => s.writeAxs r v
  | 0xF => s.writeMot r v
  | 0x10 => s.writeHk r v
  | 0x11 => s.writeEvt r v met
  | 0x12 => s.writeCnt r v
  | 0x13 => s.writeMbx r v
  | 0x14 => s.writeOtp r v
  | 0x15 => s.writePwr r v
  | _ => s.put r v []

/-- A write of the register at a word offset of BAR0 below the mallet memories. The clear of a W1C bit that the hardware sets in the same
cycle loses: the bit stays set, and each adds one to the block's FLAM counter (R8, R390); EVT_PENDk has its own rule (R379). -/
def State.writeReg (s : State) (who : Reader) (off v met : Nat) : State :=
  match regAt off with
  | none => s
  | some r =>
    let lost := if r.1.base = 0x110040 then 0 else v &&& met &&& s.flagsSet (r.1.fields r.2.1 r.2.2)
    let s := s.writeBlock who r off (v - lost) met
    if lost = 0 then s else s.flam (flamOf off) (countBits lost 32)

/-- A full write of a word of MSM, which ends its poison (R261, R263). -/
def State.writeMsm (s : State) (a : Nat) (v : Word) : State :=
  { s with
    msm := tputs 0 s.msm a (toLE v.toNat 4)
    mltPoison := s.mltPoison.filter fun w => decide (w ≠ 2 ^ 20 + a / 4) }

/-- A host write of a mallet's instruction or data memory: only while the mallet is halted or idle (R261). -/
def State.writeMalletMem (s : State) (o : Nat) (v : Word) : State :=
  let m := o / 0x20000
  let a := o % 0x20000
  if 36 ≤ m ∨ 0x14000 ≤ a then s
  else if (s.mallet m).run = .running ∨ (s.mallet m).run = .loading then s.flam F.MLT_FLAM_COUNT 1
  else if a < 0x10000 then { s with imem := tput 0 s.imem (16384 * m + a / 4) v }
  else
    { s with
      dmem := tputs 0 s.dmem (16384 * m + (a - 0x10000)) (toLE v.toNat 4)
      mltPoison := s.mltPoison.filter fun w => decide (w ≠ 4096 * m + (a - 0x10000) / 4) }

/-- A write of BAR0 from the mallet memories up (R31, R261). -/
def State.writeHigh (s : State) (off : Nat) (v : Word) : State :=
  if 0x1800000 ≤ off ∧ off < 0x1A00000 then s.writeMsm (off - 0x1800000) v
  else if off < 0x1800000 then s.writeMalletMem (off - 0x1000000) v
  else s

/-- A write of word w of the MSI-X table; a vector whose mask clears while its pending bit stands is sent (R30, R379). -/
def State.writeMsix (s : State) (w v : Nat) : State :=
  let s := { s with msix := tput (msixReset w) s.msix w (if w % 4 = 3 then v % 2 else v) }
  if w % 4 = 3 ∧ v % 2 = 0 ∧ bitOf s.pba (w / 4) then { s with pba := clrBit s.pba (w / 4) }.sendMsix (w / 4) else s

/-- A write of a word of BAR4: its registers, the MSI-X table, or a dropped write (R32); the counters are for reading only (R447; DEDUCED,
log entry 77). The pending-bit array, to which the table
gives no access code, is not written by a write, which is counted as at an offset outside the table (DESIGN CHOICE, log entry 43). -/
def State.writeBar4 (s : State) (who : Reader) (off v met : Nat) : State :=
  if 0x1000 ≤ off ∧ off < 0x1000 + 56 * 8 then s.flam F.CNT_FLAM_COUNT 1
  else match bar4Reg off with
    | some o => s.writeReg who o v met
    | none => if 0x4000 ≤ off ∧ off < 0x4400 then s.writeMsix ((off - 0x4000) / 4) v else s.flam F.GCTL_FLAM_COUNT 1

/-- A write through a window: one that is not a naturally aligned 32-bit word is dropped and counted; out of reach it is dropped (R31,
R405, R411). -/
def State.busWrite (s : State) (who : Reader) (bar : Bar) (off len : Nat) (v met : Word) : State :=
  if who = .host ∧ s.d3hot then s
  else if off % 4 ≠ 0 ∨ len ≠ 4 then s.flam F.GCTL_FLAM_COUNT 1
  else match bar with
    | .bar0 =>
      if !s.reaches who off then s
      else if 0x1000000 ≤ off then s.writeHigh off v
      else s.writeReg who off v.toNat met.toNat
    | .bar4 => s.writeBar4 who off v.toNat met.toNat

/-- R8, R31: a write of `len` bytes, a register's when it is one aligned word; `met` are the bits of the word that the hardware sets in the
same cycle. -/
def execRegisterWrite (who : Reader) (bar : Bar) (off : BitVec 26) (len : BitVec 13) (v met : BitVec 32) (s : State) : Out :=
  .next (s.busWrite who bar off.toNat len.toNat v met)

end Sys2Proof.Machine
end

