-- ==== Sys2Proof/Machine/Flags.lean ====
section
/-!
DEFINITION. The flags of a mallet and the arithmetic that forms them (R285–R288, R302–R304).
-/
namespace Sys2Proof.Machine

/-- A result with the carry and the overflow it leaves (R288). -/
structure Sum where
  val : Word
  c : Bool
  v : Bool
deriving DecidableEq, Repr

/-- The sum of two words and a carry: C the carry out of bit 31, V on signed overflow (R288). -/
def addW (a b : Word) (cin : Bool) : Sum :=
  let k := if cin then 1 else 0
  let r : Word := BitVec.ofNat 32 (a.toNat + b.toNat + k)
  ⟨r, decide (2 ^ 32 ≤ a.toNat + b.toNat + k), decide (r.toInt ≠ a.toInt + b.toInt + k)⟩

/-- The difference of two words less a borrow, which `noBorrow` says is absent: C is 1 when no borrow occurs, V on signed overflow
(R288). -/
def subW (a b : Word) (noBorrow : Bool) : Sum :=
  let k := if noBorrow then 0 else 1
  let r : Word := BitVec.ofInt 32 (a.toInt - b.toInt - k)
  ⟨r, decide (b.toNat + k ≤ a.toNat), decide (r.toInt ≠ a.toInt - b.toInt - k)⟩

/-- A shift left and the C it leaves: the last bit shifted out; a shift by 0 leaves C (R288). -/
def shlW (a : Word) (n : Nat) (c : Bool) : Word × Bool := if n = 0 then (a, c) else (a <<< n, a.getLsbD (32 - n))

/-- A logical shift right and the C it leaves. -/
def shrW (a : Word) (n : Nat) (c : Bool) : Word × Bool := if n = 0 then (a, c) else (a >>> n, a.getLsbD (n - 1))

/-- An arithmetic shift right and the C it leaves. -/
def sarW (a : Word) (n : Nat) (c : Bool) : Word × Bool := if n = 0 then (a, c) else (a.sshiftRight n, a.getLsbD (n - 1))

/-- Z and N from a 32-bit result. -/
def Mallet.zn (x : Mallet) (r : Word) : Mallet := { x with z := decide (r = 0), n := r.msb }

/-- Z and N from a 64-bit result. -/
def Mallet.zn64 (x : Mallet) (r : BitVec 64) : Mallet := { x with z := decide (r = 0), n := r.msb }

/-- Z, N, C and V from a sum or a difference. -/
def Mallet.znvc (x : Mallet) (r : Sum) : Mallet := { x.zn r.val with c := r.c, v := r.v }

/-- Z, N and C from a shift. -/
def Mallet.znc (x : Mallet) (r : Word × Bool) : Mallet := { x.zn r.1 with c := r.2 }

/-- Whether a branch condition holds (R287); none for the value 15, which is illegal. -/
def Mallet.cond? (x : Mallet) (cond : Nat) : Option Bool :=
  match cond with
  | 0 => some true
  | 1 => some x.z
  | 2 => some !x.z
  | 3 => some x.c
  | 4 => some !x.c
  | 5 => some x.n
  | 6 => some !x.n
  | 7 => some x.v
  | 8 => some !x.v
  | 9 => some (x.c && !x.z)
  | 10 => some (!x.c || x.z)
  | 11 => some (x.n == x.v)
  | 12 => some (x.n != x.v)
  | 13 => some (!x.z && x.n == x.v)
  | 14 => some (x.z || x.n != x.v)
  | _ => none

/-- The word of special register FLAGS (R260). -/
def Mallet.flagWord (x : Mallet) : Nat :=
  (if x.z then 1 else 0) + (if x.n then 2 else 0) + (if x.c then 4 else 0) + (if x.v then 8 else 0) + (if x.exl then 256 else 0)

/-- The mallet with its flags set from a word of FLAGS. -/
def Mallet.setFlagWord (x : Mallet) (w : Word) : Mallet :=
  { x with z := w.getLsbD 0, n := w.getLsbD 1, c := w.getLsbD 2, v := w.getLsbD 3, exl := w.getLsbD 8 }

end Sys2Proof.Machine
end

