-- ==== Sys2Proof/Machine/Operands.lean ====
section
/-!
DEFINITION. Fetching a mallet instruction and its operand forms: registers, pairs, immediates, branch targets and data-memory
addresses, with the memory errors of R263 (R258, R261, R263, R274, R282, R283).
-/
namespace Sys2Proof.Machine

/-! ## Codes of CAUSE (R275) -/

def Exc.ILLEGAL : Nat := 0x01
def Exc.DMEM_RANGE : Nat := 0x02
def Exc.DMEM_ALIGN : Nat := 0x03
def Exc.MSM_RANGE : Nat := 0x04
def Exc.REG_DENIED : Nat := 0x05
def Exc.CNT_DENIED : Nat := 0x06
def Exc.PORT_UNMAPPED : Nat := 0x07
def Exc.SPEC_PORT : Nat := 0x08
def Exc.SPEC_FULL : Nat := 0x09
def Exc.SPEC_NEST : Nat := 0x0A
def Exc.SR_DENIED : Nat := 0x0B
def Exc.ECC_UNCORR : Nat := 0x0C
def Exc.SEND_DENIED : Nat := 0x0F

/-! ## Immediates and fields -/

/-- sx(imm18). -/
def imm18s (i : BitVec 18) : Word := i.signExtend 32

/-- zx(imm18). -/
def imm18u (i : BitVec 18) : Word := i.zeroExtend 32

/-- Whether a register number may name a pair (R283). -/
def evenReg (r : BitVec 4) : Bool := decide (r.toNat % 2 = 0)

/-- Whether a register number may name the first of four registers (R283). -/
def quadReg (r : BitVec 4) : Bool := decide (r.toNat % 4 = 0)

/-- A branch or call target (R283): the branching instruction's index plus the offset, modulo 16,384. -/
def branchTarget (pc : Nat) (off : BitVec 22) : Nat := ux 14 ((pc : Int) + off.toInt)

/-! ## Memory errors (R263) -/

/-- A transient error of a word: counted, flagged for the mallet's own memories, raised. -/
def State.memTransient (s : State) (m : Nat) (shared : Bool) : State :=
  let s := s.logRetry 1 EV.MLT_MEM_TRANSIENT m
  let s := if shared then s.addF F.MLT_MSM_ECC 1 else (s.addF (F.MLT_M_ECC m) 1).setF (F.MLT_M_STATUS_ECC_T m) 1
  s.raise EV.MLT_MEM_TRANSIENT m

/-- A read of words of a mallet memory, given by their numbers in mltPoison, with what the check code finds at the first of them; whether
the value may be used. A poisoned word cannot be. -/
def State.readCheck (s : State) (m : Nat) (shared : Bool) (words : List Nat) (e : MemEcc) : State × Bool :=
  if words.any s.mltPoison.contains then (s, false)
  else match e with
    | .clean => (s, true)
    | .transient => (s.memTransient m shared, true)
    | .corrected stays => (if stays then s.logRetry 2 EV.MLT_MEM_TRANSIENT m else s, true)
    | .uncorrectable => ({ s.logRetry 2 EV.MLT_MEM_TRANSIENT m with mltPoison := words.take 1 ++ s.mltPoison }, false)

/-- What the fetch of an instruction word finds; whether the mallet goes on: it halts at a lasting fault (R263, R276). -/
def State.fetchCheck (s : State) (m : Nat) (e : MemEcc) : State × Bool :=
  match e with
  | .clean => (s, true)
  | .transient => (s.memTransient m false, true)
  | .corrected stays => if stays then (s.logRetry 2 EV.MLT_MEM_TRANSIENT m, false) else (s, true)
  | .uncorrectable => (s.logRetry 2 EV.MLT_MEM_TRANSIENT m, false)

/-! ## Executing an instruction (R258) -/

/-- Whether mallet m can execute an instruction: it runs, waits and stalls for nothing, FCLK runs and no G4 stands (R258, R388). -/
def State.canRun (s : State) (m : Nat) : Bool :=
  let y := s.mallet m
  decide (y.run = .running) && decide (y.wait = none) && decide (y.stall = .none) && s.clk.running && !s.on F.EVT_GONG_G4

/-- The mallet past an instruction of some cycles: pc counts on within instruction memory. -/
def Mallet.past (y : Mallet) (now cycles : Nat) : Mallet := { y with pc := (y.pc + 1) % 16384, ready := now + cycles, afterMac := false }

/-- One instruction of a mallet: press time comes to the mallet's next cycle, the word is fetched, pc goes past it, and the operation
runs with the instruction's own index. A mallet that cannot run executes nothing. -/
def State.instr (s : State) (x : Fetch) (cycles : Nat) (g : Nat → State → State) : Out :=
  let m := x.m.val
  if s.canRun m then
    match (s.advanceTo (s.mallet m).ready).fetchCheck m x.ecc with
    | (s, true) => .next (g (s.mallet m).pc (s.setMallet m ((s.mallet m).past s.time cycles)))
    | (s, false) => .next (s.halt m 4)
  else .next s

/-- An instruction that changes only its mallet's own registers. -/
def State.pure_ (s : State) (x : Fetch) (cycles : Nat) (g : Mallet → Mallet) : Out :=
  s.instr x cycles fun _ s => s.mapMallet x.m.val g

/-- An instruction whose encoding is legal only under a condition (R283). -/
def State.legal (s : State) (x : Fetch) (cycles : Nat) (ok : Bool) (g : Nat → State → State) : Out :=
  s.instr x cycles fun pc s => if ok then g pc s else s.exception x.m.val Exc.ILLEGAL 0 pc

/-! ## Data memory (R261, R263) -/

/-- The address of a memory operand: k[ka] + sx(imm18), modulo 2^32. -/
def memAddr (y : Mallet) (ka : BitVec 4) (imm : BitVec 18) : Nat := (y.kr ka.toNat + imm18s imm).toNat

/-- The exception an access of n bytes in data memory raises, or none. -/
def dmemFault (a n align : Nat) : Option Nat :=
  if 0x4000 < a + n then some Exc.DMEM_RANGE else if a % align ≠ 0 then some Exc.DMEM_ALIGN else none

/-- Words of data memory that n bytes at an address touch, as numbered in mltPoison. -/
def dmemWords (m a n : Nat) : List Nat := (upFrom (a / 4) ((a + n + 3) / 4 - a / 4)).map fun w => 4096 * m + w

/-- Bytes of mallet m's data memory. -/
def State.dmemRead (s : State) (m a n : Nat) : List Byte := tgets 0 s.dmem (16384 * m + a) n

/-- Write bytes of mallet m's data memory; a word written in full is poisoned no more (R263). -/
def State.dmemWrite (s : State) (m a : Nat) (bs : List Byte) : State :=
  { s with
    dmem := tputs 0 s.dmem (16384 * m + a) bs
    mltPoison := if bs.length = 4 then s.mltPoison.filter fun w => decide (w ≠ 4096 * m + a / 4) else s.mltPoison }

/-- A read of n bytes in data memory with the exceptions of R261 and R263; the reader's operation follows where none arises. -/
def State.withDmem (s : State) (m pc a n align : Nat) (words : List Nat) (e : MemEcc) (g : State → State) : State :=
  match dmemFault a n align with
  | some code => s.exception m code 0 pc
  | none =>
    match s.readCheck m false words e with
    | (s, true) => g s
    | (s, false) => s.exception m Exc.ECC_UNCORR 0 pc

/-! ## Open cycle counts (R258, R286) -/

/-- The free value now drawn, brought into a range of n numbers from lo (log entry 4). -/
def State.freeIn (s : State) (lo n : Nat) : Nat := lo + s.freeNow.toNat % n

/-- Cycles of an MSM access (4–12) or of a register-window access (16–40), which the specification leaves open within the range. -/
def State.xCycles (s : State) (a : Nat) : Nat := if a < 0x200000 then s.freeIn 4 9 else s.freeIn 16 25

end Sys2Proof.Machine
end

