-- ==== Sys2Proof/Machine/MalletAlu.lean ====
section
/-!
DEFINITION. Arithmetic, logic and immediate instructions of the mallets (R285, R286, R288).
-/
namespace Sys2Proof.Machine

/-- Write a sum or a difference with its flags. -/
def Mallet.putSum (y : Mallet) (kd : BitVec 4) (r : Sum) : Mallet := (y.setK kd.toNat r.val).znvc r

/-- Write a logical result with Z and N. -/
def Mallet.putLogic (y : Mallet) (kd : BitVec 4) (r : Word) : Mallet := (y.setK kd.toNat r).zn r

/-- Write a shifted value with Z, N and C. -/
def Mallet.putShift (y : Mallet) (kd : BitVec 4) (r : Word × Bool) : Mallet := (y.setK kd.toNat r.1).znc r

/-- Write a 64-bit product with Z and N. -/
def Mallet.putPair (y : Mallet) (kd : BitVec 4) (r : BitVec 64) : Mallet := (y.setPair kd.toNat r.toNat).zn64 r

/-- The shift amount k[kb][4:0]. -/
def Mallet.shiftBy (y : Mallet) (kb : BitVec 4) : Nat := (y.kr kb.toNat).toNat % 32

def execAdd (x : Fetch) (kd ka kb : BitVec 4) (s : State) : Out :=
  s.pure_ x 1 fun y => y.putSum kd (addW (y.kr ka.toNat) (y.kr kb.toNat) false)

def execAddC (x : Fetch) (kd ka kb : BitVec 4) (s : State) : Out :=
  s.pure_ x 1 fun y => y.putSum kd (addW (y.kr ka.toNat) (y.kr kb.toNat) y.c)

def execSub (x : Fetch) (kd ka kb : BitVec 4) (s : State) : Out :=
  s.pure_ x 1 fun y => y.putSum kd (subW (y.kr ka.toNat) (y.kr kb.toNat) true)

def execSubC (x : Fetch) (kd ka kb : BitVec 4) (s : State) : Out :=
  s.pure_ x 1 fun y => y.putSum kd (subW (y.kr ka.toNat) (y.kr kb.toNat) y.c)

def execAnd (x : Fetch) (kd ka kb : BitVec 4) (s : State) : Out :=
  s.pure_ x 1 fun y => y.putLogic kd (y.kr ka.toNat &&& y.kr kb.toNat)

def execOr (x : Fetch) (kd ka kb : BitVec 4) (s : State) : Out :=
  s.pure_ x 1 fun y => y.putLogic kd (y.kr ka.toNat ||| y.kr kb.toNat)

def execXor (x : Fetch) (kd ka kb : BitVec 4) (s : State) : Out :=
  s.pure_ x 1 fun y => y.putLogic kd (y.kr ka.toNat ^^^ y.kr kb.toNat)

def execMov (x : Fetch) (kd ka : BitVec 4) (s : State) : Out := s.pure_ x 1 fun y => y.setK kd.toNat (y.kr ka.toNat)

def execShl (x : Fetch) (kd ka kb : BitVec 4) (s : State) : Out :=
  s.pure_ x 1 fun y => y.putShift kd (shlW (y.kr ka.toNat) (y.shiftBy kb) y.c)

def execShr (x : Fetch) (kd ka kb : BitVec 4) (s : State) : Out :=
  s.pure_ x 1 fun y => y.putShift kd (shrW (y.kr ka.toNat) (y.shiftBy kb) y.c)

def execSar (x : Fetch) (kd ka kb : BitVec 4) (s : State) : Out :=
  s.pure_ x 1 fun y => y.putShift kd (sarW (y.kr ka.toNat) (y.shiftBy kb) y.c)

def execCmp (x : Fetch) (ka kb : BitVec 4) (s : State) : Out :=
  s.pure_ x 1 fun y => y.znvc (subW (y.kr ka.toNat) (y.kr kb.toNat) true)

def execMul (x : Fetch) (kd ka kb : BitVec 4) (s : State) : Out :=
  s.pure_ x 2 fun y => y.putLogic kd (y.kr ka.toNat * y.kr kb.toNat)

def execMulW (x : Fetch) (kd ka kb : BitVec 4) (s : State) : Out :=
  s.legal x 2 (evenReg kd) fun _ s => s.mapMallet x.m.val fun y =>
    y.putPair kd ((y.kr ka.toNat).signExtend 64 * (y.kr kb.toNat).signExtend 64)

def execMulWu (x : Fetch) (kd ka kb : BitVec 4) (s : State) : Out :=
  s.legal x 2 (evenReg kd) fun _ s => s.mapMallet x.m.val fun y =>
    y.putPair kd ((y.kr ka.toNat).zeroExtend 64 * (y.kr kb.toNat).zeroExtend 64)

/-! ## Immediate forms (R286) -/

def execAddImm (x : Fetch) (kd ka : BitVec 4) (imm : BitVec 18) (s : State) : Out :=
  s.pure_ x 1 fun y => y.putSum kd (addW (y.kr ka.toNat) (imm18s imm) false)

def execAndImm (x : Fetch) (kd ka : BitVec 4) (imm : BitVec 18) (s : State) : Out :=
  s.pure_ x 1 fun y => y.putLogic kd (y.kr ka.toNat &&& imm18u imm)

def execOrImm (x : Fetch) (kd ka : BitVec 4) (imm : BitVec 18) (s : State) : Out :=
  s.pure_ x 1 fun y => y.putLogic kd (y.kr ka.toNat ||| imm18u imm)

def execXorImm (x : Fetch) (kd ka : BitVec 4) (imm : BitVec 18) (s : State) : Out :=
  s.pure_ x 1 fun y => y.putLogic kd (y.kr ka.toNat ^^^ imm18u imm)

/-- The shift that imm18[6:5] selects: 0 SHL, 1 SHR, 2 SAR. -/
def shiftOp (op : BitVec 2) (a : Word) (n : Nat) (c : Bool) : Word × Bool :=
  if op = 0 then shlW a n c else if op = 1 then shrW a n c else sarW a n c

def execShiftImm (x : Fetch) (kd ka : BitVec 4) (op : BitVec 2) (n : BitVec 5) (s : State) : Out :=
  s.legal x 1 (decide (op ≠ 3)) fun _ s => s.mapMallet x.m.val fun y => y.putShift kd (shiftOp op (y.kr ka.toNat) n.toNat y.c)

def execCmpImm (x : Fetch) (ka : BitVec 4) (imm : BitVec 18) (s : State) : Out :=
  s.pure_ x 1 fun y => y.znvc (subW (y.kr ka.toNat) (imm18s imm) true)

def execMovi (x : Fetch) (kd : BitVec 4) (imm : BitVec 18) (s : State) : Out := s.pure_ x 1 fun y => y.setK kd.toNat (imm18s imm)

def execMovhi (x : Fetch) (kd ka : BitVec 4) (imm : BitVec 18) (s : State) : Out :=
  s.pure_ x 1 fun y => y.setK kd.toNat ((imm18u imm <<< 14) ||| (y.kr ka.toNat &&& 0x3FFF#32))

end Sys2Proof.Machine
end

