-- ==== Sys2Proof/Machine/MalletMem.lean ====
section
/-!
DEFINITION. Loads, stores and the store buffer of the mallets (R261–R263, R286, R301).
-/
namespace Sys2Proof.Machine

/-! ## Data memory -/

/-- A load of n bytes, zero-extended (R286). -/
def State.load (s : State) (x : Fetch) (kd ka : BitVec 4) (imm : BitVec 18) (n : Nat) (e : MemEcc) : Out :=
  s.instr x 1 fun pc s =>
    let m := x.m.val
    let a := memAddr (s.mallet m) ka imm
    s.withDmem m pc a n n (dmemWords m a n) e fun s =>
      s.mapMallet m fun y => y.setK kd.toNat (BitVec.ofNat 32 (ofLE (s.dmemRead m a n)))

/-- A store of the low n bytes of a register (R286). -/
def State.storeD (s : State) (x : Fetch) (kd ka : BitVec 4) (imm : BitVec 18) (n : Nat) : Out :=
  s.instr x 1 fun pc s =>
    let m := x.m.val
    let a := memAddr (s.mallet m) ka imm
    match dmemFault a n n with
    | some code => s.exception m code 0 pc
    | none => s.dmemWrite m a (toLE ((s.mallet m).kr kd.toNat).toNat n)

def execLd (x : Fetch) (kd ka : BitVec 4) (imm : BitVec 18) (e : MemEcc) (s : State) : Out := s.load x kd ka imm 4 e
def execLdH (x : Fetch) (kd ka : BitVec 4) (imm : BitVec 18) (e : MemEcc) (s : State) : Out := s.load x kd ka imm 2 e
def execLdB (x : Fetch) (kd ka : BitVec 4) (imm : BitVec 18) (e : MemEcc) (s : State) : Out := s.load x kd ka imm 1 e
def execSt (x : Fetch) (kd ka : BitVec 4) (imm : BitVec 18) (s : State) : Out := s.storeD x kd ka imm 4
def execStH (x : Fetch) (kd ka : BitVec 4) (imm : BitVec 18) (s : State) : Out := s.storeD x kd ka imm 2
def execStB (x : Fetch) (kd ka : BitVec 4) (imm : BitVec 18) (s : State) : Out := s.storeD x kd ka imm 1

/-! ## MSM and the register window -/

/-- The exception of an LDX or STX address, or none (R261): outside both ranges, then unaligned. -/
def xFault (a : Nat) : Option Nat :=
  if ¬(a < 0x200000 ∨ 0x40000000 ≤ a ∧ a < 0x41000000) then some Exc.MSM_RANGE else if a % 4 ≠ 0 then some Exc.DMEM_ALIGN else none

/-- The privileges as a set of bits: bit b of a role's effective privilege (R277). -/
def State.may (s : State) (m b : Nat) : Bool := bitOf (s.priv m) b

/-- Whether mallet m may write a register-window address (R262, R277): WRMASK, and for the CNT block CNT_CFG as well. -/
def State.mayWrite (s : State) (m a : Nat) : Bool :=
  let b := (a - 0x40000000) / 0x10000
  s.may m (10 + b) && (decide (b ≠ 0x12) || s.may m 1)

/-- The newest buffered value for an address (R301); the buffer stands oldest first. -/
def newestFor (a : Nat) : List Store → Option Word
  | [] => none
  | x :: r => match newestFor a r with
    | some w => some w
    | none => if x.addr = a then some x.val else none

/-- The word an LDX loads where no store of the mallet is buffered for its address; none where the word is uncorrectable. -/
def State.xLoad (s : State) (m a : Nat) (e : MemEcc) : Option Word × State :=
  if a < 0x200000 then
    match s.readCheck m true [2 ^ 20 + a / 4] e with
    | (s, true) => (some (BitVec.ofNat 32 (ofLE (tgets 0 s.msm a 4))), s)
    | (s, false) => (none, s)
  else
    let (w, s) := s.readReg (2 + m) (a - 0x40000000)
    (some (BitVec.ofNat 32 w), s)

/-- R262, R286, R301: the buffered value of the mallet's own newest store, or the word of MSM or of the register window. -/
def execLdx (x : Fetch) (kd ka : BitVec 4) (imm : BitVec 18) (e : MemEcc) (s : State) : Out :=
  s.instr x 1 fun pc s =>
    let m := x.m.val
    let a := memAddr (s.mallet m) ka imm
    match xFault a with
    | some code => s.exception m code 0 pc
    | none =>
      if 0x200000 ≤ a && !s.may m 2 then s.exception m Exc.REG_DENIED 0 pc
      else
        let s := (s.mapMallet m fun y => { y with ready := s.time + s.xCycles a }).draw
        let (w, s) := match newestFor a (s.mallet m).sb with
          | some w => (some w, s)
          | none => s.xLoad m a e
        match w with
        | some w => s.mapMallet m fun y => y.setK kd.toNat w
        | none => s.exception m Exc.ECC_UNCORR 0 pc

/-- A store enters mallet m's buffer and takes its number (R123, R301). -/
def State.pushStore (s : State) (m a : Nat) (v : Word) : State :=
  { s.mapMallet m fun y => { y with sb := y.sb ++ [⟨a, v, y.fence, s.storeSeq⟩] } with storeSeq := s.storeSeq + 1 }

/-- R262, R286, R301: SPEC_PORT inside an open region, then the tests of the address and the privilege; a full buffer stalls. -/
def execStx (x : Fetch) (kd ka : BitVec 4) (imm : BitVec 18) (s : State) : Out :=
  s.instr x 1 fun pc s =>
    let m := x.m.val
    let y := s.mallet m
    let a := memAddr y ka imm
    let v := y.kr kd.toNat
    if y.region.isOpen then s.exception m Exc.SPEC_PORT 0 pc
    else match xFault a with
      | some code => s.exception m code 0 pc
      | none =>
        if 0x200000 ≤ a && !s.mayWrite m a then s.exception m Exc.REG_DENIED 0 pc
        else
          let s := (s.mapMallet m fun y => { y with ready := s.time + s.xCycles a }).draw
          if y.sb.length < 4 then s.pushStore m a v else s.mapMallet m fun y => { y with stall := .store a v }

/-! ## The store buffer (R301) -/

/-- Whether entry i of a buffer may leave before the entries older than it: none is for its address, and no FENCE stands between. -/
def mayLeave (i : Nat) (sb : List Store) : Bool :=
  match sb[i]? with
  | some x => (sb.take i).all fun y => decide (y.addr ≠ x.addr) && decide (y.fence = x.fence)
  | none => false

/-- What a store does when it leaves: a word of MSM, or a register write by the mallet. -/
def State.storeLands (s : State) (m : Fin 36) (x : Store) : State :=
  if x.addr < 0x200000 then s.writeMsm x.addr x.val else s.busWrite (.mallet m) .bar0 (x.addr - 0x40000000) 4 x.val 0

/-- What ends when an entry has left: a DRAIN or a HALT on an empty buffer, or the wait of an STX for room. -/
def State.endStall (s : State) (m : Nat) : State :=
  let y := s.mallet m
  match y.stall with
  | .none => s
  | .drain => if y.sb.isEmpty then s.setMallet m { y with stall := .none, ready := s.time + 1 } else s
  | .halt => if y.sb.isEmpty then s.halt m 1 else s
  | .store a v => (s.setMallet m { y with stall := .none, ready := s.time + 1 }).pushStore m a v

/-- R301: an entry leaves mallet m's store buffer, where the order of its stores allows it. -/
def execStoreBufferLeave (m : Fin 36) (i : BitVec 2) (s : State) : Out :=
  let y := s.mallet m.val
  match y.sb[i.toNat]? with
  | some x =>
    if mayLeave i.toNat y.sb then
      .next (((s.setMallet m.val { y with sb := y.sb.eraseIdx i.toNat }).storeLands m x).endStall m.val)
    else .next s
  | none => .next s

/-- R301: no store after it leaves before every store before it has left. -/
def execFence (x : Fetch) (s : State) : Out := s.pure_ x 1 fun y => { y with fence := y.fence + 1 }

/-- R301: stalls until the store buffer is empty. -/
def execDrain (x : Fetch) (s : State) : Out := s.pure_ x 1 fun y => if y.sb.isEmpty then y else { y with stall := .drain }

/-- R276, R301: halts with reason HALT after draining the store buffer. -/
def execHalt (x : Fetch) (s : State) : Out :=
  s.instr x 1 fun _ s =>
    if (s.mallet x.m.val).sb.isEmpty then s.halt x.m.val 1 else s.mapMallet x.m.val fun y => { y with stall := .halt }

end Sys2Proof.Machine
end

