-- ==== Sys2Proof/Machine/MalletControl.lean ====
section
/-!
DEFINITION. Branches, special registers, event counters, regions opened and closed by the program, and undefined words (R283, R286, R287,
R291, R294, R296, R300).
-/
namespace Sys2Proof.Machine

/-! ## Branches (R286, R287) -/

/-- R287: two cycles when taken, one when not. -/
def execBr (x : Fetch) (cond : BitVec 4) (off : BitVec 22) (s : State) : Out :=
  s.instr x 1 fun pc s =>
    let m := x.m.val
    match (s.mallet m).cond? cond.toNat with
    | none => s.exception m Exc.ILLEGAL 0 pc
    | some false => s
    | some true => s.mapMallet m fun y => { y with pc := branchTarget pc off, ready := s.time + 2 }

def execCall (x : Fetch) (off : BitVec 22) (s : State) : Out :=
  s.instr x 2 fun pc s => s.mapMallet x.m.val fun y => { y.setK 15 (BitVec.ofNat 32 (pc + 1)) with pc := branchTarget pc off }

def execRet (x : Fetch) (s : State) : Out := s.pure_ x 2 fun y => { y with pc := (y.kr 15).toNat % 16384 }

/-- R274: back to EPC, with EXL cleared. -/
def execRete (x : Fetch) (s : State) : Out := s.pure_ x 2 fun y => { y with pc := y.epc % 16384, exl := false }

/-! ## Special registers (R260, R300) -/

/-- The value of a special register, and what its read latches. -/
def State.readSr (s : State) (m sr : Nat) : Option (Nat × State) :=
  let y := s.mallet m
  match sr with
  | 0 => some (lo32 s.time, s.readTime (2 + m))
  | 1 => some (s.shadowOf (2 + m) F.TIME_HI.off, s)
  | 2 => match s.boundStation m with
    | some n => some (ux 32 (s.lpos n / 65536), s.setMallet m { y with lposF := (s.lpos n % 65536).toNat })
    | none => some (0, s.setMallet m { y with lposF := 0 })
  | 3 => some ((match s.boundStation m with
    | some _ => y.lposF
    | none => 0), s)
  | 4 => some (y.role.getD 0x3F, s)
  | 5 => some ((match y.role with
    | some r => s.epochOf r
    | none => 0), s)
  | 6 => some (if y.region.isOpen then 2 ^ 31 + y.region.effs.length else 0, s)
  | 7 => some (y.cause.toNat, s)
  | 8 => some (y.flagWord, s)
  | 9 => some (y.epc, s)
  | 10 => some (y.evec, s)
  | 11 => some (y.sqh, s)
  | 12 => some (m, s)
  | 13 => some ((match s.boundStation m with
    | some n => n + 2 ^ 31
    | none => 0), s)
  | 14 => some (y.bounce.length, s)
  | 15 => some (y.inq.length, s)
  | _ => none

def execMfs (x : Fetch) (kd : BitVec 4) (sr : BitVec 5) (s : State) : Out :=
  s.instr x 1 fun pc s =>
    match s.readSr x.m.val sr.toNat with
    | some (v, s) => s.mapMallet x.m.val fun y => y.setK kd.toNat (BitVec.ofNat 32 v)
    | none => s.exception x.m.val Exc.SR_DENIED 0 pc

/-- The mallet with a special register written; none for a register marked RO and for a number not in the table. -/
def Mallet.writeSr (y : Mallet) (sr : Nat) (v : Word) : Option Mallet :=
  match sr with
  | 7 => some { y with cause := v &&& 0xFFFF#32 }
  | 8 => some (y.setFlagWord v)
  | 9 => some { y with epc := v.toNat % 16384 }
  | 10 => some { y with evec := v.toNat % 16384 }
  | _ => none

def execMts (x : Fetch) (ka : BitVec 4) (sr : BitVec 5) (s : State) : Out :=
  s.instr x 1 fun pc s =>
    let y := s.mallet x.m.val
    match y.writeSr sr.toNat (y.kr ka.toNat) with
    | some y => s.setMallet x.m.val y
    | none => s.exception x.m.val Exc.SR_DENIED 0 pc

/-- R300: counter i into a register pair. -/
def execCnt (x : Fetch) (kd : BitVec 4) (i : BitVec 6) (s : State) : Out :=
  s.legal x 2 (evenReg kd && decide (i.toNat < 56)) fun pc s =>
    if s.may x.m.val 0 then s.mapMallet x.m.val fun y => y.setPair kd.toNat (s.counter i.toNat)
    else s.exception x.m.val Exc.CNT_DENIED i.toNat pc

/-! ## Regions (R291, R294, R296) -/

def execSpec (x : Fetch) (handler : BitVec 14) (s : State) : Out :=
  s.instr x 1 fun pc s =>
    let m := x.m.val
    let y := s.mallet m
    if !s.may m 3 then s.exception m Exc.SPEC_PORT 0 pc
    else if y.region.isOpen then s.exception m Exc.SPEC_NEST 0 pc
    else s.setMallet m { y with sqh := handler.toNat, region := { y.region with isOpen := true, closing := false, base := y.checkpoint } }

/-- COMMIT takes its checkpoint, confirms the program's effects and, with CLOSE, starts closing; a closing region that is empty closes. -/
def State.commitRegion (s : State) (m : Nat) (close : Bool) : State :=
  let y := s.mallet m
  let shut := close || y.region.closing
  let left := { y.region with base := y.checkpoint, closing := shut && !y.region.effs.isEmpty, isOpen := !(shut && y.region.effs.isEmpty) }
  (s.setMallet m { y with region := left }).confirm m fun e => !e.hardware

def execCommit (x : Fetch) (close : Bool) (s : State) : Out :=
  s.instr x 1 fun pc s =>
    if (s.mallet x.m.val).region.isOpen then s.commitRegion x.m.val close else s.exception x.m.val Exc.SPEC_PORT 0 pc

/-- Close mallet m's region. -/
def State.closeRegion (s : State) (m : Nat) : State :=
  s.mapMallet m fun y => { y with region := { y.region with isOpen := false, closing := false } }

def execSquash (x : Fetch) (s : State) : Out :=
  s.instr x 1 fun pc s =>
    if (s.mallet x.m.val).region.isOpen then (s.squashAt x.m.val 0 Squash.SOFT).closeRegion x.m.val
    else s.exception x.m.val Exc.SPEC_PORT 0 pc

/-! ## Undefined words (R283) -/

/-- R283: a word that no instruction of the mallet's kind has raises ILLEGAL; any other word is an instruction with a row of its own. -/
def execUndefinedInstruction (x : Fetch) (w : BitVec 32) (s : State) : Out :=
  if legalWord (decide (malletKind x.m.val = 1)) w then .next s
  else s.instr x 1 fun pc s => s.exception x.m.val Exc.ILLEGAL 0 pc

end Sys2Proof.Machine
end

