-- ==== Sys2Proof/Machine/MalletLoop.lean ====
section
/-!
DEFINITION. The loop profile: accumulator, clamps, table lookup, integration and difference (R257, R302–R304).
-/
namespace Sys2Proof.Machine

/-- A loop-profile instruction: ILLEGAL on an event mallet (R257) and where its fields are not legal (R283). -/
def State.loopOp (s : State) (x : Fetch) (cycles : Nat) (ok : Bool) (g : Nat → State → State) : Out :=
  s.legal x cycles (decide (malletKind x.m.val = 1) && ok) g

/-- An accumulator instruction: ACC and V, and a SATQ right after it takes 2 cycles. -/
def Mallet.setAcc (y : Mallet) (z : Int) : Mallet := { y with acc := satS 64 z, v := decide (satS 64 z ≠ z), afterMac := true }

/-- The signed product of two registers. -/
def Mallet.product (y : Mallet) (ka kb : BitVec 4) : Int := (y.kr ka.toNat).toInt * (y.kr kb.toNat).toInt

def execMac (x : Fetch) (ka kb : BitVec 4) (s : State) : Out :=
  s.loopOp x 1 true fun _ s => s.mapMallet x.m.val fun y => y.setAcc (y.acc + y.product ka kb)

def execMacZ (x : Fetch) (ka kb : BitVec 4) (s : State) : Out :=
  s.loopOp x 1 true fun _ s => s.mapMallet x.m.val fun y => y.setAcc (y.product ka kb)

def execMsu (x : Fetch) (ka kb : BitVec 4) (s : State) : Out :=
  s.loopOp x 1 true fun _ s => s.mapMallet x.m.val fun y => y.setAcc (y.acc - y.product ka kb)

/-- A result written signed, with V. -/
def Mallet.putV (y : Mallet) (kd : BitVec 4) (r : Int) (v : Bool) : Mallet := { y.setK kd.toNat (BitVec.ofInt 32 r) with v := v }

/-- R303: SATQ takes 2 cycles right after MAC, MAC.Z or MSU. -/
def execSatq (x : Fetch) (kd : BitVec 4) (sh : BitVec 5) (q15 clr : Bool) (s : State) : Out :=
  s.loopOp x (if (s.mallet x.m.val).afterMac then 2 else 1) true fun _ s => s.mapMallet x.m.val fun y =>
    let r := y.acc / 2 ^ sh.toNat
    let c := satS (if q15 then 16 else 32) r
    let y := y.putV kd c (decide (c ≠ r))
    if clr then { y with acc := 0 } else y

/-- R302: a value brought into a range; lo where lo > hi. -/
def limited (a lo hi : Int) : Int := if hi < lo then lo else min (max a lo) hi

def execLim (x : Fetch) (kd ka kb : BitVec 4) (s : State) : Out :=
  s.loopOp x 1 (evenReg kb) fun _ s => s.mapMallet x.m.val fun y =>
    let a := (y.kr ka.toNat).toInt
    let r := limited a (y.kr kb.toNat).toInt (y.kr (kb.toNat + 1)).toInt
    y.putV kd r (decide (r ≠ a))

def execIntg (x : Fetch) (kd ka kb : BitVec 4) (s : State) : Out :=
  s.loopOp x 1 (evenReg kb) fun _ s => s.mapMallet x.m.val fun y =>
    let z := (y.kr kd.toNat).toInt + (y.kr ka.toNat).toInt
    let r := min (max z (y.kr kb.toNat).toInt) (y.kr (kb.toNat + 1)).toInt
    y.putV kd r (decide (r ≠ z))

/-- R302: k[kb] takes the value k[ka] held when the instruction began. -/
def execDiff (x : Fetch) (kd ka kb : BitVec 4) (s : State) : Out :=
  s.loopOp x 1 (decide (kd ≠ kb)) fun _ s => s.mapMallet x.m.val fun y =>
    let a := y.kr ka.toNat
    let z := a.toInt - (y.kr kb.toNat).toInt
    (y.putV kd (satS 32 z) (decide (satS 32 z ≠ z))).setK kb.toNat a

/-- Entry i of a table at a data-memory address. -/
def State.tableEntry (s : State) (m a i : Nat) : Int := sx 32 (ofLE (s.dmemRead m (a + i * 4) 4))

/-- R304: interpolation in a table of 2^n + 1 entries. -/
def State.lookup (s : State) (m a n : Nat) (k : Word) : Int :=
  let i := k.toNat / 2 ^ (32 - n)
  let f : Nat := k.toNat * 2 ^ n % 2 ^ 32
  s.tableEntry m a i + (s.tableEntry m a (i + 1) - s.tableEntry m a i) * (f : Int) / 2 ^ 32

def execTlu (x : Fetch) (kd ka kb n : BitVec 4) (e : MemEcc) (s : State) : Out :=
  s.loopOp x 3 (decide (1 ≤ n.toNat) && decide (n.toNat ≤ 11)) fun pc s =>
    let m := x.m.val
    let y := s.mallet m
    let a := (y.kr kb.toNat).toNat
    let k := y.kr ka.toNat
    let i := k.toNat / 2 ^ (32 - n.toNat)
    s.withDmem m pc a (4 * (2 ^ n.toNat + 1)) 4 (dmemWords m (a + i * 4) 8) e fun s =>
      s.mapMallet m fun y => y.putV kd (s.lookup m a n.toNat k) false

end Sys2Proof.Machine
end

