-- ==== Sys2Proof/Machine/MalletPort.lean ====
section
/-!
DEFINITION. Ports, staging and messages of the mallets (R265, R266, R270, R273, R290, R292, R299).
-/
namespace Sys2Proof.Machine

/-! ## Port entries (R265) -/

def Port.NONE : Nat := 0
def Port.PIN : Nat := 1
def Port.LINE_REL : Nat := 2
def Port.SCAN_REL : Nat := 3
def Port.SNARE : Nat := 4
def Port.PGEN : Nat := 5
def Port.LEDGER : Nat := 6
def Port.EVENT : Nat := 7
def Port.PUBLISH : Nat := 8
def Port.DROP_GATE : Nat := 9
def Port.OUTPUT : Nat := 10

/-- Whether a port type is mapped: neither NONE nor reserved. -/
def portMapped (ty : Nat) : Bool := decide (1 ≤ ty) && decide (ty ≤ 10)

/-- Whether a port type may be staged. -/
def portStageable (ty : Nat) : Bool := decide (ty = Port.PIN) || decide (ty = Port.LINE_REL) || decide (ty = Port.SCAN_REL) || decide (ty = Port.EVENT)

/-! ## Staging (R292) -/

/-- Set or clear mallet m's C. -/
def State.setC (s : State) (m : Nat) (c : Bool) : State := s.mapMallet m fun y => { y with c := c }

/-- Place an effect at the young end of mallet m's region, with its checkpoint; C is cleared. -/
def State.placeEff (s : State) (m port fire : Nat) (cp : Checkpoint) (e : Eff) : State :=
  s.mapMallet m fun y => { y with c := false, region := { y.region with effs := y.region.effs ++ [⟨e, port, fire, false, cp⟩] } }

/-- What staging a line or a scan does to mallet m: an effect is placed with C cleared, or none with C set. A squash in this very tick
takes the place of the instruction (R296). -/
def State.placeIf (m port fire before : Nat) (cp : Checkpoint) (e : Eff) (r : State × Bool) : State :=
  if (r.1.mallet m).region.effs.length < before then r.1
  else if r.2 then r.1.placeEff m port fire cp e
  else r.1.setC m true

/-- The exception that refuses a staging (R292), or none: outside an open region, in one that is closing, a seventeenth effect. -/
def Region.refuses (g : Region) : Option Nat :=
  if !g.isOpen || g.closing then some Exc.SPEC_PORT else if 16 ≤ g.effs.length then some Exc.SPEC_FULL else none

/-- The PIN effect of a port entry, at a tick where TIMED. -/
def State.pinEff (s : State) (m p : Nat) (at_ : Option Nat) : Eff :=
  let arg := s.f (F.MLT_M_PORT_ARG m p)
  .pin (s.f (F.MLT_M_PORT_TARGET m p)) (bitsOf arg 1 0) (bitsOf arg 15 2) at_

/-- Stage port p, whose type may be staged, into mallet m's open region. -/
def State.stagePort (s : State) (m p ka kw : Nat) (timed : Bool) (pc : Nat) : State :=
  let y := s.mallet m
  match y.region.refuses with
  | some code => s.exception m code p pc
  | none =>
    let ty := s.f (F.MLT_M_PORT_TYPE m p)
    let n := s.f (F.MLT_M_PORT_TARGET m p)
    let t := y.pair kw
    let l := (y.kr ka).toInt
    let before := y.region.effs.length
    if ty = Port.LINE_REL then State.placeIf m p t before y.checkpoint (.line n l) (s.stageLine m n l t)
    else if ty = Port.SCAN_REL then State.placeIf m p t before y.checkpoint (.scan n l) (s.stageScan m n l t)
    else if ty = Port.PIN then s.placeEff m p 0 y.checkpoint (s.pinEff m p (if timed then some t else none))
    else s.placeEff m p 0 y.checkpoint (.event n (y.kr ka))

/-- R292: STAGE. PORT_UNMAPPED comes before the tests of TIMED, of the privilege and of the region. -/
def execStage (x : Fetch) (port : BitVec 8) (ka kw : BitVec 4) (timed : Bool) (s : State) : Out :=
  s.legal x 1 (evenReg kw) fun pc s =>
    let m := x.m.val
    let p := port.toNat
    let ty := s.f (F.MLT_M_PORT_TYPE m p)
    if !portMapped ty then s.exception m Exc.PORT_UNMAPPED p pc
    else if timed && decide (ty ≠ Port.PIN) then s.exception m Exc.ILLEGAL 0 pc
    else if !s.may m 3 || !portStageable ty then s.exception m Exc.SPEC_PORT p pc
    else s.stagePort m p ka.toNat kw.toNat timed pc

/-! ## EMIT and SIGNAL (R290) -/

/-- A PIN port's action: in the tick after the EMIT, or, TIMED, in the tick of the pair; C tells that the pair's tick has passed. -/
def State.emitPin (s : State) (m p kw : Nat) (timed : Bool) : State :=
  let arg := s.f (F.MLT_M_PORT_ARG m p)
  let g := s.f (F.MLT_M_PORT_TARGET m p)
  let t := (s.mallet m).pair kw
  let s' := s.pinAt (if timed then max (s.time + 1) t else s.time + 1) g (bitsOf arg 1 0) (bitsOf arg 15 2)
  if timed then s'.setC m (decide (t ≤ s.time)) else s'

/-- What a port's target does when an EMIT acts on it (R265), but for a PIN port. A PUBLISH port's four values come with the row of the
publish (R70). -/
def State.portActs (s : State) (m p ka : Nat) : State :=
  let n := s.f (F.MLT_M_PORT_TARGET m p)
  let arg := s.f (F.MLT_M_PORT_ARG m p)
  let v := (s.mallet m).kr ka
  match s.f (F.MLT_M_PORT_TYPE m p) with
  | 4 => if arg = 0 then s.armSnare n else if arg = 1 then s.disarmSnare n else s
  | 5 => s.axCommand n arg v.toInt
  | 6 => s.spoilAt n v.toInt arg
  | 7 => s.portEvent m n v.toNat
  | 9 => if s.f F.INK_DD_CTL_STATION = n then { s with dd := { s.dd with gapLine := some v.toInt } } else s
  | 10 => s.output n v
  | _ => s

/-- What an EMIT outside a region does: its target acts in the tick after it (R258, R290). -/
def State.emitPort (s : State) (m p ka kw : Nat) (timed : Bool) : State :=
  if s.f (F.MLT_M_PORT_TYPE m p) = Port.PIN then s.emitPin m p kw timed else s.inNext fun s => s.portActs m p ka

/-- R290: EMIT; inside an open region it acts as STAGE where the port may be staged (R266). -/
def execEmit (x : Fetch) (port : BitVec 8) (ka kw : BitVec 4) (timed : Bool) (s : State) : Out :=
  s.legal x 1 (evenReg kw) fun pc s =>
    let m := x.m.val
    let p := port.toNat
    let ty := s.f (F.MLT_M_PORT_TYPE m p)
    let isOpen := (s.mallet m).region.isOpen
    if !portMapped ty then s.exception m Exc.PORT_UNMAPPED p pc
    else if timed && decide (ty ≠ Port.PIN) then s.exception m Exc.ILLEGAL 0 pc
    else if isOpen && portStageable ty then s.stagePort m p ka.toNat kw.toNat timed pc
    else if isOpen || decide (ty = Port.LINE_REL) || decide (ty = Port.SCAN_REL) then s.exception m Exc.SPEC_PORT p pc
    else s.emitPort m p ka.toNat kw.toNat timed

/-- Stage an effect of SIGNAL or SEND, which has no port (R297). -/
def State.stageBare (s : State) (m pc : Nat) (e : Eff) : State :=
  match (s.mallet m).region.refuses with
  | some code => s.exception m code 0 pc
  | none => s.placeEff m 0xFF 0 (s.mallet m).checkpoint e

/-- R290: SIGNAL acts as an EVENT port that names the event. -/
def execSignal (x : Fetch) (ka : BitVec 4) (event : BitVec 8) (s : State) : Out :=
  s.instr x 1 fun pc s =>
    let m := x.m.val
    let v := (s.mallet m).kr ka.toNat
    if !raisable event.toNat then s.exception m Exc.PORT_UNMAPPED event.toNat pc
    else if (s.mallet m).region.isOpen then s.stageBare m pc (.event event.toNat v)
    else s.inNext fun s => s.portEvent m event.toNat v.toNat

/-! ## Messages (R270, R273, R299) -/

/-- The message of four registers: EPOCH from the mallet's view, reserved bits zero. -/
def Mallet.message (y : Mallet) (ka : Nat) : Msg :=
  let h := (y.kr ka).toNat
  let r := bitsOf h 21 16
  ⟨header (tget 0 y.view r) r 0 (bitsOf h 31 24), y.kr (ka + 1), y.kr (ka + 2), y.kr (ka + 3)⟩

/-- The tick in which a SEND executes: not less than 2 ticks after the mallet's previous SEND. -/
def State.sendTick (s : State) (m : Nat) : Nat :=
  match (s.mallet m).lastSend with
  | some t => max s.time (t + 2)
  | none => s.time

/-- The privilege bit that a destination role asks for, or none (R277). -/
def sendBit (r : Nat) : Option Nat := if r = 62 then some 4 else if r = 63 then some 5 else none

/-- R299: SEND, staged inside a region. -/
def execSend (x : Fetch) (ka : BitVec 4) (s : State) : Out :=
  s.legal x 1 (quadReg ka) fun pc s =>
    let m := x.m.val
    let s := s.advanceTo (s.sendTick m)
    let s := s.mapMallet m fun y => { y with ready := s.time + 1 }
    let y := s.mallet m
    let msg := y.message ka.toNat
    let denied := match sendBit msg.drole with
      | some b => !s.may m b
      | none => false
    if denied then s.exception m Exc.SEND_DENIED (y.role.getD 0x3F) pc
    else
      let s := s.setMallet m { y with lastSend := some s.time }
      if y.region.isOpen then s.stageBare m pc (.send msg) else s.mailOut m msg

/-- The mallet with a message in four registers. -/
def Mallet.setMsg (y : Mallet) (kd : Nat) (x : Msg) : Mallet := (((y.setK kd x.w0).setK (kd + 1) x.w1).setK (kd + 2) x.w2).setK (kd + 3) x.w3

/-- R273, R299: the oldest bounce record, else the oldest message, else Z set. A bounce record sets the view of its role. -/
def Mallet.receive (y : Mallet) (kd : Nat) : Mallet :=
  match y.bounce, y.inq with
  | b :: r, _ => { y.setMsg kd b with v := true, z := false, bounce := r, view := tput 0 y.view b.drole b.epoch }
  | [], q :: r => { y.setMsg kd q with v := false, z := false, inq := r }
  | [], [] => { y with v := false, z := true }

def execRecv (x : Fetch) (kd : BitVec 4) (s : State) : Out :=
  s.legal x 1 (quadReg kd) fun _ s => s.mapMallet x.m.val fun y => y.receive kd.toNat

end Sys2Proof.Machine
end

