-- ==== Sys2Proof/Machine/MalletWait.lean ====
section
/-!
DEFINITION. The waits of the mallets and how they end (R258, R264, R289).
-/
namespace Sys2Proof.Machine

/-- Mallet m goes on two ticks after the tick c in which its wait's condition or limit held, with C. -/
def State.resume (s : State) (m c : Nat) (carry : Bool) : State :=
  s.mapMallet m fun y => { y with wait := none, timerAt := none, c := carry, ready := c + 2, lastWait := c }

/-- The end of a WAITE: kd takes what ended it. -/
def State.resumeWith (s : State) (m c kd v : Nat) (carry : Bool) : State :=
  (s.mapMallet m fun y => y.setK kd (BitVec.ofNat 32 v)).resume m c carry

/-- Whether a limit has passed. -/
def State.limitPast (s : State) (lim : Option Nat) : Bool :=
  match lim with
  | some t => decide (t ≤ s.time)
  | none => false

/-- Whether the bound station's line position is at or above a target (R264). -/
def State.posReached (s : State) (m : Nat) (target : Int) : Bool :=
  match s.boundStation m with
  | some n => decide (target ≤ s.lpos n)
  | none => false

/-- The lowest-numbered pending event in a mask. -/
def Mallet.pendingIn (y : Mallet) (mask : BitVec 256) : Option Nat := lowestBit (y.pend &&& mask).toNat 0 256

/-- Take a pending event. -/
def Mallet.takeEvent (y : Mallet) (e : Nat) : Mallet := { y with pend := y.pend &&& ~~~(1#256 <<< e) }

/-- Whether the loop timer of a WAITE has fired by now. -/
def State.timerDone (s : State) (m : Nat) (timer : Bool) : Option Nat :=
  match (s.mallet m).timerAt with
  | some t => if timer && decide (t ≤ s.time) then some t else none
  | none => none

/-- The first of a WAITE's conditions that holds, in the order event, QUEUE, TIMER (R289): what kd takes, and the state in which it is
taken. -/
def State.eventCond (s : State) (m : Nat) (mask : BitVec 256) (queue timer : Bool) : Option (Nat × State) :=
  match (s.mallet m).pendingIn mask with
  | some e => some (e, s.mapMallet m fun y => y.takeEvent e)
  | none =>
    if queue && !(s.mallet m).inq.isEmpty then some (0x100, s)
    else match s.timerDone m timer with
      | some _ => some (0x300, s)
      | none => none

/-- R289: WAITT. -/
def execWaitt (x : Fetch) (ka : BitVec 4) (s : State) : Out :=
  s.legal x 1 (evenReg ka) fun _ s =>
    let m := x.m.val
    let t := (s.mallet m).pair ka.toNat
    if t ≤ s.time then s.resume m s.time true
    else s.mapMallet m fun y => { y with wait := some (.time t), lastWait := s.time }

/-- The limit of a wait. -/
def Mallet.limit (y : Mallet) (kb : BitVec 4) (lim : Bool) : Option Nat := if lim then some (y.pair kb.toNat) else none

/-- Whether the limit register of a wait is well formed: an even pair with LIM, zero without (R283). -/
def limReg (kb : BitVec 4) (lim : Bool) : Bool := if lim then evenReg kb else decide (kb = 0)

/-- The target of a WAITP, 32.16: the integer in k[ka], the fraction in k[ka + 1][15:0]. -/
def Mallet.posTarget (y : Mallet) (ka : BitVec 4) : Int := (y.kr ka.toNat).toInt * 65536 + ((y.kr (ka.toNat + 1)).toNat % 65536 : Nat)

/-- R289: WAITP, ILLEGAL in a role that is bound to no station. -/
def execWaitp (x : Fetch) (ka kb : BitVec 4) (lim : Bool) (s : State) : Out :=
  s.legal x 1 (evenReg ka && limReg kb lim) fun pc s =>
    let m := x.m.val
    let y := s.mallet m
    if (s.boundStation m).isNone then s.exception m Exc.ILLEGAL 0 pc
    else if s.posReached m (y.posTarget ka) || s.limitPast (y.limit kb lim) then s.resume m s.time true
    else s.setMallet m { y with wait := some (.pos (y.posTarget ka) (y.limit kb lim)), lastWait := s.time }

/-- R289: WAITE. A condition that holds when it executes sets C, and so does a limit that has passed. -/
def State.beginWaite (s : State) (m kd : Nat) (mask : BitVec 256) (limit : Option Nat) (queue timer : Bool) : State :=
  let s := s.mapMallet m fun y => { y with timerAt := none }
  match s.eventCond m mask queue timer with
  | some (v, s) => s.resumeWith m s.time kd v true
  | none =>
    if s.limitPast limit then s.resumeWith m s.time kd 0x200 true
    else s.mapMallet m fun y => { y with wait := some (.event kd mask limit queue timer), lastWait := s.time }

def execWaite (x : Fetch) (kd ka kb : BitVec 4) (lim queue timer : Bool) (e : MemEcc) (s : State) : Out :=
  s.legal x 1 (limReg kb lim) fun pc s =>
    let m := x.m.val
    let y := s.mallet m
    let a := (y.kr ka.toNat).toNat
    s.withDmem m pc a 32 4 (dmemWords m a 32) e fun s =>
      s.beginWaite m kd.toNat (BitVec.ofNat 256 (ofLE (s.dmemRead m a 32))) (y.limit kb lim) queue timer

/-- The tick at which a wait ends by itself: the one at which its condition holds by time alone, or its limit, the condition first where
both fall together; whether it is the condition. -/
def dueTick (holds limit : Option Nat) : Option (Nat × Bool) :=
  match holds, limit with
  | some t, some l => if t ≤ l then some (t, true) else some (l, false)
  | some t, none => some (t, true)
  | none, some l => some (l, false)
  | none, none => none

/-- R264, R289: the condition or the limit of a wait holds. A wait that time alone ends brings press time forward to its tick; a wait of
which nothing holds goes on. -/
def execWaitResume (m : Fin 36) (s : State) : Out :=
  let y := s.mallet m.val
  match y.wait with
  | none => .next s
  | some (.time t) => .next ((s.advanceTo t).resume m.val (max t y.lastWait) false)
  | some (.pos target limit) =>
    match dueTick ((s.boundStation m.val).bind fun n => s.tickAtLpos n target) limit with
    | some (t, holds) => .next ((s.advanceTo t).resume m.val t (!holds))
    | none => .next s
  | some (.event kd mask limit queue timer) =>
    let timerAt := if timer then y.timerAt else none
    match y.pendingIn mask with
    | some e => .next ((s.mapMallet m.val fun y => y.takeEvent e).resumeWith m.val s.time kd e false)
    | none =>
      if queue && !y.inq.isEmpty then .next (s.resumeWith m.val s.time kd 0x100 false)
      else match dueTick timerAt limit with
        | some (t, true) => .next ((s.advanceTo t).resumeWith m.val t kd 0x300 false)
        | some (t, false) => .next ((s.advanceTo t).resumeWith m.val t kd 0x200 true)
        | none => .next s

end Sys2Proof.Machine
end

