-- ==== Sys2Proof/Machine/Dispatch.lean ====
section
/-!
DEFINITION. One arm for each constructor of Instr: the command's meaning, on everything but the queue of waiting commands.
-/
namespace Sys2Proof.Machine

/-- The effect of a command. -/
def exec (i : Instr) (s : State) : Host.Outcome State Fault Refusal :=
  match i with
  | .registerWrite who bar off len v met => Sys2Proof.Machine.execRegisterWrite who bar off len v met s
  | .flamRead who off len => Sys2Proof.Machine.execFlamRead who off len s
  | .countRead who bar off len => Sys2Proof.Machine.execCountRead who bar off len s
  | .armRequest mask kinds => Sys2Proof.Machine.execArmRequest mask kinds s
  | .inkArmStep n r => Sys2Proof.Machine.execInkArmStep n r s
  | .epArmStep n r => Sys2Proof.Machine.execEpArmStep n r s
  | .inkDisarm n => Sys2Proof.Machine.execInkDisarm n s
  | .cap n => Sys2Proof.Machine.execCap n s
  | .epDisarm n => Sys2Proof.Machine.execEpDisarm n s
  | .epDisarmDone n => Sys2Proof.Machine.execEpDisarmDone n s
  | .adpllEnable => Sys2Proof.Machine.execAdpllEnable s
  | .pllLock => Sys2Proof.Machine.execPllLock s
  | .pllLockLost => Sys2Proof.Machine.execPllLockLost s
  | .refLost => Sys2Proof.Machine.execRefLost s
  | .refReturn => Sys2Proof.Machine.execRefReturn s
  | .holdoverTimeout => Sys2Proof.Machine.execHoldoverTimeout s
  | .fclkLost => Sys2Proof.Machine.execFclkLost s
  | .tcompUpdate => Sys2Proof.Machine.execTcompUpdate s
  | .calCompStep => Sys2Proof.Machine.execCalCompStep s
  | .pixfWrite n v => Sys2Proof.Machine.execPixfWrite n v s
  | .mdllEnable n => Sys2Proof.Machine.execMdllEnable n s
  | .mdllUnlock n => Sys2Proof.Machine.execMdllUnlock n s
  | .mdllUnlockTimeout n => Sys2Proof.Machine.execMdllUnlockTimeout n s
  | .timeLoRead who => Sys2Proof.Machine.execTimeLoRead who s
  | .snareArm n => Sys2Proof.Machine.execSnareArm n s
  | .snareDisarm n => Sys2Proof.Machine.execSnareDisarm n s
  | .snareCapture n samples count => Sys2Proof.Machine.execSnareCapture n samples count s
  | .snareRead who n => Sys2Proof.Machine.execSnareRead who n s
  | .sourceEnable n v => Sys2Proof.Machine.execSourceEnable n v s
  | .observerPeriod s0 s1 s2 s3 => Sys2Proof.Machine.execObserverPeriod s0 s1 s2 s3 s
  | .observerPublish p v a t => Sys2Proof.Machine.execObserverPublish p v a t s
  | .webReverse count => Sys2Proof.Machine.execWebReverse count s
  | .obsStale => Sys2Proof.Machine.execObsStale s
  | .coastExpired => Sys2Proof.Machine.execCoastExpired s
  | .webSwitch => Sys2Proof.Machine.execWebSwitch s
  | .ratioSchedule g => Sys2Proof.Machine.execRatioSchedule g s
  | .ratioCancel g => Sys2Proof.Machine.execRatioCancel g s
  | .gearApplied g => Sys2Proof.Machine.execGearApplied g s
  | .frameBoundary n => Sys2Proof.Machine.execFrameBoundary n s
  | .bar2Write a bs => Sys2Proof.Machine.execBar2Write a bs s
  | .bar2Read a n ecc => Sys2Proof.Machine.execBar2Read a n ecc s
  | .pageCopyDone => Sys2Proof.Machine.execPageCopyDone s
  | .fqTailWrite n tail => Sys2Proof.Machine.execFqTailWrite n tail s
  | .descFetch n ecc => Sys2Proof.Machine.execDescFetch n ecc s
  | .feedRequest n => Sys2Proof.Machine.execFeedRequest n s
  | .lineSlotFilled n ecc => Sys2Proof.Machine.execLineSlotFilled n ecc s
  | .dmaStart c first => Sys2Proof.Machine.execDmaStart c first s
  | .dmaDrainDone c => Sys2Proof.Machine.execDmaDrainDone c s
  | .dmaDescDone c data ecc nextDesc => Sys2Proof.Machine.execDmaDescDone c data ecc nextDesc s
  | .dmaAbort c moved data last => Sys2Proof.Machine.execDmaAbort c moved data last s
  | .pcieCompletion c r data nextDesc => Sys2Proof.Machine.execPcieCompletion c r data nextDesc s
  | .pcieCplTimeout c data nextDesc => Sys2Proof.Machine.execPcieCplTimeout c data nextDesc s
  | .screenLine n err => Sys2Proof.Machine.execScreenLine n err s
  | .leadWrite n floor target => Sys2Proof.Machine.execLeadWrite n floor target s
  | .leadnowRead n => Sys2Proof.Machine.execLeadnowRead n s
  | .tableLoad n kind => Sys2Proof.Machine.execTableLoad n kind s
  | .tableLoadDone n kind ecc => Sys2Proof.Machine.execTableLoadDone n kind ecc s
  | .tableCopy n kind => Sys2Proof.Machine.execTableCopy n kind s
  | .tableCopyDone n => Sys2Proof.Machine.execTableCopyDone n s
  | .tableMark n kind => Sys2Proof.Machine.execTableMark n kind s
  | .tableClear n kind => Sys2Proof.Machine.execTableClear n kind s
  | .tableSwap n kind => Sys2Proof.Machine.execTableSwap n kind s
  | .hidingEdit n nozzle missing nohelp => Sys2Proof.Machine.execHidingEdit n nozzle missing nohelp s
  | .tb => Sys2Proof.Machine.execTb s
  | .spareDelayMeasure sp answered => Sys2Proof.Machine.execSpareDelayMeasure sp answered s
  | .echo l trip turn => Sys2Proof.Machine.execEcho l trip turn s
  | .ack l seq seg => Sys2Proof.Machine.execAck l seq seg s
  | .nack l seq seg cause => Sys2Proof.Machine.execNack l seq seg cause s
  | .ackTimeout l => Sys2Proof.Machine.execAckTimeout l s
  | .spareUlock sp => Sys2Proof.Machine.execSpareUlock sp s
  | .status l ok ackSeq flags lastFired fault drvFlt => Sys2Proof.Machine.execStatus l ok ackSeq flags lastFired fault drvFlt s
  | .telemetry l ok heads => Sys2Proof.Machine.execTelemetry l ok heads s
  | .missed l intact seq lseq reason lpos => Sys2Proof.Machine.execMissed l intact seq lseq reason lpos s
  | .hubSilentTimeout n => Sys2Proof.Machine.execHubSilentTimeout n s
  | .sidebandGo => Sys2Proof.Machine.execSidebandGo s
  | .sbRsp l intact seq result data => Sys2Proof.Machine.execSbRsp l intact seq result data s
  | .sidebandTimeout => Sys2Proof.Machine.execSidebandTimeout s
  | .waveLoad n ecc => Sys2Proof.Machine.execWaveLoad n ecc s
  | .waveLoadDone n => Sys2Proof.Machine.execWaveLoadDone n s
  | .waveLoadTimeout n => Sys2Proof.Machine.execWaveLoadTimeout n s
  | .waveClear n => Sys2Proof.Machine.execWaveClear n s
  | .waveSwap n => Sys2Proof.Machine.execWaveSwap n s
  | .ddTestStart => Sys2Proof.Machine.execDdTestStart s
  | .ddTestDone pulses => Sys2Proof.Machine.execDdTestDone pulses s
  | .inkDdResultRead => Sys2Proof.Machine.execInkDdResultRead s
  | .bdLightStart n => Sys2Proof.Machine.execBdLightStart n s
  | .bdLightTimeout n => Sys2Proof.Machine.execBdLightTimeout n s
  | .bdEdge n at_ count relock => Sys2Proof.Machine.execBdEdge n at_ count relock s
  | .bdMissing n => Sys2Proof.Machine.execBdMissing n s
  | .apcPoll n => Sys2Proof.Machine.execApcPoll n s
  | .apcReply n frame => Sys2Proof.Machine.execApcReply n frame s
  | .hvRampStep c => Sys2Proof.Machine.execHvRampStep c s
  | .hvMonitorSample c raw fltLow => Sys2Proof.Machine.execHvMonitorSample c raw fltLow s
  | .hvArcHoldEnd c => Sys2Proof.Machine.execHvArcHoldEnd c s
  | .hvArcWindowEnd c => Sys2Proof.Machine.execHvArcWindowEnd c s
  | .hvRampTimeout c => Sys2Proof.Machine.execHvRampTimeout c s
  | .zcEdge => Sys2Proof.Machine.execZcEdge s
  | .zcLost => Sys2Proof.Machine.execZcLost s
  | .fuserCut z => Sys2Proof.Machine.execFuserCut z s
  | .fuserCutClear z above => Sys2Proof.Machine.execFuserCutClear z above s
  | .confirmCheck n lpos count => Sys2Proof.Machine.execConfirmCheck n lpos count s
  | .heldSquash n lpos => Sys2Proof.Machine.execHeldSquash n lpos s
  | .csQueue ecc => Sys2Proof.Machine.execCsQueue ecc s
  | .csCancel => Sys2Proof.Machine.execCsCancel s
  | .roleAssign role mallet => Sys2Proof.Machine.execRoleAssign role mallet s
  | .roleRelease role => Sys2Proof.Machine.execRoleRelease role s
  | .hostHalt m => Sys2Proof.Machine.execHostHalt m s
  | .hostSend => Sys2Proof.Machine.execHostSend s
  | .hostRxPop => Sys2Proof.Machine.execHostRxPop s
  | .carillonDeliver from_ => Sys2Proof.Machine.execCarillonDeliver from_ s
  | .wdog m => Sys2Proof.Machine.execWdog m s
  | .takeoverStart m => Sys2Proof.Machine.execTakeoverStart m s
  | .waitResume m => Sys2Proof.Machine.execWaitResume m s
  | .storeBufferLeave m j => Sys2Proof.Machine.execStoreBufferLeave m j s
  | .timedPinAction => Sys2Proof.Machine.execTimedPinAction s
  | .add x kd ka kb => Sys2Proof.Machine.execAdd x kd ka kb s
  | .addC x kd ka kb => Sys2Proof.Machine.execAddC x kd ka kb s
  | .sub x kd ka kb => Sys2Proof.Machine.execSub x kd ka kb s
  | .subC x kd ka kb => Sys2Proof.Machine.execSubC x kd ka kb s
  | .and x kd ka kb => Sys2Proof.Machine.execAnd x kd ka kb s
  | .or x kd ka kb => Sys2Proof.Machine.execOr x kd ka kb s
  | .xor x kd ka kb => Sys2Proof.Machine.execXor x kd ka kb s
  | .mov x kd ka => Sys2Proof.Machine.execMov x kd ka s
  | .shl x kd ka kb => Sys2Proof.Machine.execShl x kd ka kb s
  | .shr x kd ka kb => Sys2Proof.Machine.execShr x kd ka kb s
  | .sar x kd ka kb => Sys2Proof.Machine.execSar x kd ka kb s
  | .cmp x ka kb => Sys2Proof.Machine.execCmp x ka kb s
  | .mul x kd ka kb => Sys2Proof.Machine.execMul x kd ka kb s
  | .mulW x kd ka kb => Sys2Proof.Machine.execMulW x kd ka kb s
  | .mulWu x kd ka kb => Sys2Proof.Machine.execMulWu x kd ka kb s
  | .addImm x kd ka imm => Sys2Proof.Machine.execAddImm x kd ka imm s
  | .andImm x kd ka imm => Sys2Proof.Machine.execAndImm x kd ka imm s
  | .orImm x kd ka imm => Sys2Proof.Machine.execOrImm x kd ka imm s
  | .xorImm x kd ka imm => Sys2Proof.Machine.execXorImm x kd ka imm s
  | .shiftImm x kd ka op n => Sys2Proof.Machine.execShiftImm x kd ka op n s
  | .cmpImm x ka imm => Sys2Proof.Machine.execCmpImm x ka imm s
  | .movi x kd imm => Sys2Proof.Machine.execMovi x kd imm s
  | .movhi x kd ka imm => Sys2Proof.Machine.execMovhi x kd ka imm s
  | .ld x kd ka imm e => Sys2Proof.Machine.execLd x kd ka imm e s
  | .ldH x kd ka imm e => Sys2Proof.Machine.execLdH x kd ka imm e s
  | .ldB x kd ka imm e => Sys2Proof.Machine.execLdB x kd ka imm e s
  | .st x kd ka imm => Sys2Proof.Machine.execSt x kd ka imm s
  | .stH x kd ka imm => Sys2Proof.Machine.execStH x kd ka imm s
  | .stB x kd ka imm => Sys2Proof.Machine.execStB x kd ka imm s
  | .ldx x kd ka imm e => Sys2Proof.Machine.execLdx x kd ka imm e s
  | .stx x kd ka imm => Sys2Proof.Machine.execStx x kd ka imm s
  | .br x cond off => Sys2Proof.Machine.execBr x cond off s
  | .call x off => Sys2Proof.Machine.execCall x off s
  | .ret x => Sys2Proof.Machine.execRet x s
  | .rete x => Sys2Proof.Machine.execRete x s
  | .waitt x ka => Sys2Proof.Machine.execWaitt x ka s
  | .waitp x ka kb lim => Sys2Proof.Machine.execWaitp x ka kb lim s
  | .waite x kd ka kb lim queue timer e => Sys2Proof.Machine.execWaite x kd ka kb lim queue timer e s
  | .emit x port ka kw timed => Sys2Proof.Machine.execEmit x port ka kw timed s
  | .signal x ka event => Sys2Proof.Machine.execSignal x ka event s
  | .spec x handler => Sys2Proof.Machine.execSpec x handler s
  | .stage x port ka kw timed => Sys2Proof.Machine.execStage x port ka kw timed s
  | .commit x close => Sys2Proof.Machine.execCommit x close s
  | .squash x => Sys2Proof.Machine.execSquash x s
  | .send x ka => Sys2Proof.Machine.execSend x ka s
  | .recv x kd => Sys2Proof.Machine.execRecv x kd s
  | .mfs x kd sr => Sys2Proof.Machine.execMfs x kd sr s
  | .mts x ka sr => Sys2Proof.Machine.execMts x ka sr s
  | .cnt x kd j => Sys2Proof.Machine.execCnt x kd j s
  | .fence x => Sys2Proof.Machine.execFence x s
  | .drain x => Sys2Proof.Machine.execDrain x s
  | .halt x => Sys2Proof.Machine.execHalt x s
  | .mac x ka kb => Sys2Proof.Machine.execMac x ka kb s
  | .macZ x ka kb => Sys2Proof.Machine.execMacZ x ka kb s
  | .msu x ka kb => Sys2Proof.Machine.execMsu x ka kb s
  | .satq x kd sh q15 clr => Sys2Proof.Machine.execSatq x kd sh q15 clr s
  | .lim x kd ka kb => Sys2Proof.Machine.execLim x kd ka kb s
  | .tlu x kd ka kb n e => Sys2Proof.Machine.execTlu x kd ka kb n e s
  | .intg x kd ka kb => Sys2Proof.Machine.execIntg x kd ka kb s
  | .diff x kd ka kb => Sys2Proof.Machine.execDiff x kd ka kb s
  | .loopTimerEnable t role => Sys2Proof.Machine.execLoopTimerEnable t role s
  | .loopTimerFire t samples => Sys2Proof.Machine.execLoopTimerFire t samples s
  | .axisEnable a => Sys2Proof.Machine.execAxisEnable a s
  | .axisSwitch a => Sys2Proof.Machine.execAxisSwitch a s
  | .axisCoastExpired a => Sys2Proof.Machine.execAxisCoastExpired a s
  | .axsTableLoad unit kind => Sys2Proof.Machine.execAxsTableLoad unit kind s
  | .axsTableLoadDone unit kind ecc => Sys2Proof.Machine.execAxsTableLoadDone unit kind ecc s
  | .axsTableClear unit kind => Sys2Proof.Machine.execAxsTableClear unit kind s
  | .axsTableSwap unit kind => Sys2Proof.Machine.execAxsTableSwap unit kind s
  | .pgenUpdate io changes => Sys2Proof.Machine.execPgenUpdate io changes s
  | .stop a => Sys2Proof.Machine.execStop a s
  | .moveAbs a => Sys2Proof.Machine.execMoveAbs a s
  | .moveRel a arg => Sys2Proof.Machine.execMoveRel a arg s
  | .vel a arg => Sys2Proof.Machine.execVel a arg s
  | .gear a arg => Sys2Proof.Machine.execGear a arg s
  | .qstop a => Sys2Proof.Machine.execQstop a s
  | .home a arg => Sys2Proof.Machine.execHome a arg s
  | .disable a => Sys2Proof.Machine.execDisable a s
  | .groupMove a => Sys2Proof.Machine.execGroupMove a s
  | .limitActive a neg => Sys2Proof.Machine.execLimitActive a neg s
  | .homeHoldoffEnd a => Sys2Proof.Machine.execHomeHoldoffEnd a s
  | .stepperChopPeriod k ia ib => Sys2Proof.Machine.execStepperChopPeriod k ia ib s
  | .stepperHoldTimeout k => Sys2Proof.Machine.execStepperHoldTimeout k s
  | .traceArm u => Sys2Proof.Machine.execTraceArm u s
  | .traceForce u => Sys2Proof.Machine.execTraceForce u s
  | .traceSample u => Sys2Proof.Machine.execTraceSample u s
  | .traceRead u => Sys2Proof.Machine.execTraceRead u s
  | .motorEnable c => Sys2Proof.Machine.execMotorEnable c s
  | .pwmPeriod c m => Sys2Proof.Machine.execPwmPeriod c m s
  | .gateFault c samples => Sys2Proof.Machine.execGateFault c samples s
  | .catchWindowEnd c z => Sys2Proof.Machine.execCatchWindowEnd c z s
  | .brakeCycleEnd c => Sys2Proof.Machine.execBrakeCycleEnd c s
  | .slsStartTimeout c => Sys2Proof.Machine.execSlsStartTimeout c s
  | .lockedRotor c => Sys2Proof.Machine.execLockedRotor c s
  | .busVoltageSample b bits => Sys2Proof.Machine.execBusVoltageSample b bits s
  | .brakeCheckEnd b => Sys2Proof.Machine.execBrakeCheckEnd b s
  | .brkFaultClear b => Sys2Proof.Machine.execBrkFaultClear b s
  | .busOvClear b => Sys2Proof.Machine.execBusOvClear b s
  | .hkSample x raw value ok => Sys2Proof.Machine.execHkSample x raw value ok s
  | .hkRequal x => Sys2Proof.Machine.execHkRequal x s
  | .hkTest => Sys2Proof.Machine.execHkTest s
  | .throttleDemandStep => Sys2Proof.Machine.execThrottleDemandStep s
  | .throttleApplyCheck => Sys2Proof.Machine.execThrottleApplyCheck s
  | .g3Stop => Sys2Proof.Machine.execG3Stop s
  | .decelCheck => Sys2Proof.Machine.execDecelCheck s
  | .stopTimeout => Sys2Proof.Machine.execStopTimeout s
  | .stopDone => Sys2Proof.Machine.execStopDone s
  | .g4 => Sys2Proof.Machine.execG4 s
  | .kaHvTimeout => Sys2Proof.Machine.execKaHvTimeout s
  | .hostRaise e cause => Sys2Proof.Machine.execHostRaise e cause s
  | .pendClear k mask met => Sys2Proof.Machine.execPendClear k mask met s
  | .eventConfigWrite e v => Sys2Proof.Machine.execEventConfigWrite e v s
  | .keeperRelease b => Sys2Proof.Machine.execKeeperRelease b s
  | .otpKeyWrite v => Sys2Proof.Machine.execOtpKeyWrite v s
  | .otpRead group word follow r => Sys2Proof.Machine.execOtpRead group word follow r s
  | .otpProg group word follow => Sys2Proof.Machine.execOtpProg group word follow s
  | .otpProgDone verify => Sys2Proof.Machine.execOtpProgDone verify s
  | .getInfo car => Sys2Proof.Machine.execGetInfo car s
  | .reset => Sys2Proof.Machine.execReset s
  | .closeConfig => Sys2Proof.Machine.execCloseConfig s
  | .setTcomp => Sys2Proof.Machine.execSetTcomp s
  | .calSet car => Sys2Proof.Machine.execCalSet car s
  | .imgLoad host ecc => Sys2Proof.Machine.execImgLoad host ecc s
  | .imgStage host ecc => Sys2Proof.Machine.execImgStage host ecc s
  | .imgRemove => Sys2Proof.Machine.execImgRemove s
  | .pkgLoad host ecc => Sys2Proof.Machine.execPkgLoad host ecc s
  | .fwUpdate fw flashOk => Sys2Proof.Machine.execFwUpdate fw flashOk s
  | .fwSwitch => Sys2Proof.Machine.execFwSwitch s
  | .fwSwitched => Sys2Proof.Machine.execFwSwitched s
  | .fwSwitchTimeout => Sys2Proof.Machine.execFwSwitchTimeout s
  | .fwConfirm => Sys2Proof.Machine.execFwConfirm s
  | .keeperWdog => Sys2Proof.Machine.execKeeperWdog s
  | .logRead spoilt => Sys2Proof.Machine.execLogRead spoilt s
  | .lifeRead layout c => Sys2Proof.Machine.execLifeRead layout c s
  | .marginRun car => Sys2Proof.Machine.execMarginRun car s
  | .marginReview r poly fuser => Sys2Proof.Machine.execMarginReview r poly fuser s
  | .supplyStep => Sys2Proof.Machine.execSupplyStep s
  | .keyRevoke host ecc blown => Sys2Proof.Machine.execKeyRevoke host ecc blown s
  | .keySet host ecc => Sys2Proof.Machine.execKeySet host ecc s
  | .lifeCountWrite => Sys2Proof.Machine.execLifeCountWrite s
  | .counterEnable j v => Sys2Proof.Machine.execCounterEnable j v s
  | .counterRead who bar j => Sys2Proof.Machine.execCounterRead who bar j s
  | .cntHiWrite bar j v => Sys2Proof.Machine.execCntHiWrite bar j v s
  | .cntLoWrite bar j v => Sys2Proof.Machine.execCntLoWrite bar j v s
  | .counterWrap j => Sys2Proof.Machine.execCounterWrap j s
  | .counterFreeze on => Sys2Proof.Machine.execCounterFreeze on s
  | .snapshot => Sys2Proof.Machine.execSnapshot s
  | .domainRequest req => Sys2Proof.Machine.execDomainRequest req s
  | .domainPowerUp d => Sys2Proof.Machine.execDomainPowerUp d s
  | .domainPgLost d => Sys2Proof.Machine.execDomainPgLost d s
  | .standbyRequest => Sys2Proof.Machine.execStandbyRequest s
  | .por kept => Sys2Proof.Machine.execPor kept s
  | .resetPin samples => Sys2Proof.Machine.execResetPin samples s
  | .deviceReset => Sys2Proof.Machine.execDeviceReset s
  | .resetIsolate => Sys2Proof.Machine.execResetIsolate s
  | .vinSample mv => Sys2Proof.Machine.execVinSample mv s
  | .vinUvlo => Sys2Proof.Machine.execVinUvlo s
  | .regFault r => Sys2Proof.Machine.execRegFault r s
  | .vbatLow mv => Sys2Proof.Machine.execVbatLow mv s
  | .adpllDisable => Sys2Proof.Machine.execAdpllDisable s
  | .undefinedInstruction x w => Sys2Proof.Machine.execUndefinedInstruction x w s
  | .powerManagementState d3 => Sys2Proof.Machine.execPowerManagementState d3 s
  | .laneBlockLock l up => Sys2Proof.Machine.execLaneBlockLock l up s
  | .indexPulse a => Sys2Proof.Machine.execIndexPulse a s
  | .vioSupplyChange bankB up => Sys2Proof.Machine.execVioSupplyChange bankB up s

end Sys2Proof.Machine
end

