-- ==== Sys2Proof/Safety.lean ====
section
/-!
DEFINITION. What counts as a safe step of the block, and the words in which the statements say what a command writes and what it leaves.
-/
namespace Sys2Proof.Machine

/-- A step answers a next state. -/
def Runs (s : State) : Prop := ∃ t, step s = .next t

/-- From s to t exactly the register fields of a list are written: each holds its value, cut to its width; every other field of every
register, and everything outside the registers, stands as it was. -/
def Writes (L : List (Field × Nat)) (s t : State) : Prop :=
  t = { s with regs := t.regs } ∧ (∀ p ∈ L, t.f p.1 = p.2 % 2 ^ p.1.width) ∧
    ∀ y : Field, (∀ p ∈ L, y.key ≠ p.1.key) → t.f y = s.f y

/-! ## What the raising of an event reaches (R377–R389) -/

/-- The state with everything blanked that the raising of an event may reach outside the registers: counters, routes and log, the
gong, trace units, mallets (broadcast, squash), stations and beams (marks, spoiled frames), the ledger and its ring, and free values. -/
def State.bare (s : State) : State :=
  { s with
    regs := [], free := 0, count := [], gong := State.reset.gong, pba := 0, log := [], logKept := [], logSeq := 0, fifo := []
    fifoLost := 0, mlt := [], traces := [], st := [], ep := [], ledger := [], finals := [], stopOpen := none
    mem := { s.mem with bytes := [], poison := [] } }

/-- The register fields that the raising of an event may write: the EVT and CNT blocks, the trace units, FEED_MEM_STATUS.OOR,
CHG_LED_STATUS.FLUSHED, and SQUASH of a station. -/
def loudField (y : Field) : Bool :=
  (decide (0x110000 * 32 ≤ y.key) && decide (y.key < 0x130000 * 32)) || (decide (0xE0300 * 32 ≤ y.key) && decide (y.key < 0xE0400 * 32)) ||
  decide (y.key = F.FEED_MEM_STATUS_OOR.key) || decide (y.key = F.CHG_LED_STATUS_FLUSHED.key) ||
  (upFrom 0 8).any (fun n => decide (y.key = (F.CHG_S_STATUS_SQUASH n).key)) ||
  (upFrom 0 4).any fun n => decide (y.key = (F.EPS_S_STATUS_SQUASH n).key)

/-- Where the ledger's ring of 65,536 entries of 64 bytes begins in device memory (R252). -/
def State.ring (s : State) : Nat := s.addr F.CHG_LED_BASE_HI F.CHG_LED_BASE_LO

/-- From s to t nothing changes but what the raising of an event may reach; of device memory no byte outside the ledger's ring. -/
def Quiet (s t : State) : Prop :=
  t.bare = s.bare ∧ (∀ y : Field, loudField y = false → t.f y = s.f y) ∧
    ∀ a : Nat, (a < s.ring ∨ s.ring + 65536 * 64 ≤ a) → tget 0 t.mem.bytes a = tget 0 s.mem.bytes a

/-! ## The instructions of the mallets (R258, R274, R283) -/

/-- The mallet that an instruction names and the fetch of its word; none for a command that is no instruction. -/
def malletOf : Instr → Option Fetch
  | .add x _ _ _ => some x
  | .addC x _ _ _ => some x
  | .sub x _ _ _ => some x
  | .subC x _ _ _ => some x
  | .and x _ _ _ => some x
  | .or x _ _ _ => some x
  | .xor x _ _ _ => some x
  | .mov x _ _ => some x
  | .shl x _ _ _ => some x
  | .shr x _ _ _ => some x
  | .sar x _ _ _ => some x
  | .cmp x _ _ => some x
  | .mul x _ _ _ => some x
  | .mulW x _ _ _ => some x
  | .mulWu x _ _ _ => some x
  | .addImm x _ _ _ => some x
  | .andImm x _ _ _ => some x
  | .orImm x _ _ _ => some x
  | .xorImm x _ _ _ => some x
  | .shiftImm x _ _ _ _ => some x
  | .cmpImm x _ _ => some x
  | .movi x _ _ => some x
  | .movhi x _ _ _ => some x
  | .ld x _ _ _ _ => some x
  | .ldH x _ _ _ _ => some x
  | .ldB x _ _ _ _ => some x
  | .st x _ _ _ => some x
  | .stH x _ _ _ => some x
  | .stB x _ _ _ => some x
  | .ldx x _ _ _ _ => some x
  | .stx x _ _ _ => some x
  | .br x _ _ => some x
  | .call x _ => some x
  | .ret x => some x
  | .rete x => some x
  | .waitt x _ => some x
  | .waitp x _ _ _ => some x
  | .waite x _ _ _ _ _ _ _ => some x
  | .emit x _ _ _ _ => some x
  | .signal x _ _ => some x
  | .spec x _ => some x
  | .stage x _ _ _ _ => some x
  | .commit x _ => some x
  | .squash x => some x
  | .send x _ => some x
  | .recv x _ => some x
  | .mfs x _ _ => some x
  | .mts x _ _ => some x
  | .cnt x _ _ => some x
  | .fence x => some x
  | .drain x => some x
  | .halt x => some x
  | .mac x _ _ => some x
  | .macZ x _ _ => some x
  | .msu x _ _ => some x
  | .satq x _ _ _ _ => some x
  | .lim x _ _ _ => some x
  | .tlu x _ _ _ _ _ => some x
  | .intg x _ _ _ => some x
  | .diff x _ _ _ => some x
  | .undefinedInstruction x _ => some x
  | _ => none

/-- Mallet x.m executes c in n cycles: press time comes to its next cycle, its pc goes past the word, and then its own registers change by
g; no other mallet and nothing else changes. -/
def RunsAs (x : Fetch) (c : Instr) (n : Nat) (g : Mallet → Mallet) (s : State) : Prop :=
  ∃ t : State, exec c s = .next t ∧ t = { s.advanceTo (s.mallet x.m.val).ready with mlt := t.mlt } ∧
    t.mallet x.m.val = g ((s.mallet x.m.val).past (s.advanceTo (s.mallet x.m.val).ready).time n) ∧
    ∀ k, k ≠ x.m.val → t.mallet k = s.mallet k

/-- Mallet x.m executes c as far as its pc, and then what is left of c acts on the state v in which only that has happened. -/
def Begins (x : Fetch) (n : Nat) (s v : State) : Prop :=
  v = { s.advanceTo (s.mallet x.m.val).ready with mlt := v.mlt } ∧
    v.mallet x.m.val = (s.mallet x.m.val).past (s.advanceTo (s.mallet x.m.val).ready).time n ∧ ∀ k, k ≠ x.m.val → v.mallet k = s.mallet k

/-- c takes an exception with a code and an argument, outside a region and with EXL clear (R274): EPC is the instruction's index, EXL is
set, execution goes on at EVEC, and EV_MLT_EXC is raised last. -/
def Traps (x : Fetch) (c : Instr) (code arg : Nat) (s : State) : Prop :=
  ∃ t : State, exec c s = .next (t.raise EV.MLT_EXC x.m.val) ∧
    t = { s.advanceTo (s.mallet x.m.val).ready with regs := t.regs, mlt := t.mlt, count := t.count } ∧ t.f (F.MLT_M_STATUS_EXC x.m.val) = 1 ∧
    (t.mallet x.m.val).cause = BitVec.ofNat 32 (code + arg % 256 * 256) ∧ (t.mallet x.m.val).exl = true ∧
    (t.mallet x.m.val).epc = (s.mallet x.m.val).pc % 16384 ∧ (t.mallet x.m.val).pc = (s.mallet x.m.val).evec % 16384 ∧
    (t.mallet x.m.val).k = (s.mallet x.m.val).k ∧ (t.mallet x.m.val).role = (s.mallet x.m.val).role ∧
    ∀ k, k ≠ x.m.val → t.mallet k = s.mallet k

end Sys2Proof.Machine
end

