-- ==== Sys2Proof/Certificates/Slice0/Obligations.lean ====
section
/-!
DEFINITION. The statements for the provers: what the commands of each family do and leave, and what every step keeps.
-/
open Sys2Proof Sys2Proof.Machine

/-- For every command c, queue q and state s: a step of s with the queue c, then q, answers what exec answers for c on s with the queue
q. With an empty queue a step lets one tick pass (the model's choice, log entry 39). (00_scope.md) -/
def Obligations.StepRunsFrontCommand : Prop :=
  (∀ (c : Instr) (q : List Instr) (s : State), step { s with pending := c :: q } = exec c { s with pending := q }) ∧
  ∀ s : State, s.pending = [] → step s = .next (s.advance 1)

/-- Whatever command runs on whatever state, the next state's queue is the state's own: commands are taken from the queue by the step
alone. (00_scope.md) -/
def Obligations.ExecKeepsQueue : Prop :=
  ∀ (c : Instr) (s t : State), exec c s = .next t → t.pending = s.pending

/-- The specification gives the block no stop: for every command and every state, exec answers a next state, never a fault or a refusal;
hence every step does. (00_scope.md) -/
def Obligations.EveryCommandAnswers : Prop :=
  (∀ (c : Instr) (s : State), ∃ t : State, exec c s = .next t) ∧ ∀ s : State, Runs s

/-- If device memory, the line store, MSM, instruction memory, data memory and the waveform banks stand in canonical form (addresses
strictly rising, no entry equal to what an unlisted address reads as), they do so after every step that answers a next state. The form
is the model's own (log entry 2). (04_frames_raster_and_dma.md) -/
def Obligations.MemoryFormKept : Prop :=
  ∀ s t : State, s.memoryWf = true → step s = .next t → t.memoryWf = true

/-- State.reset meets the premise of MemoryFormKept: its memories are in canonical form, and a byte of device memory that nothing has
written reads as zero (the model's choice, log entry 2). (04_frames_raster_and_dma.md) -/
def Obligations.ResetMemoryForm : Prop :=
  State.reset.memoryWf = true ∧ ∀ a n : Nat, State.reset.memRead a n = List.replicate n 0

/-- An OTP bit once programmed to 1 stays 1 for ever: for every state s, whatever command stands in front, every bit of every OTP word
that is 1 in s is 1 in the next state. (15_keeper_otp_and_life.md) -/
def Obligations.OtpBitsNeverClear : Prop :=
  ∀ (s t : State), step s = .next t → ∀ k i : Nat, bitOf (tget 0 s.otp k) i = true → bitOf (tget 0 t.otp k) i = true

/-- Right after reset every register field holds its reset value, press time is zero, no station is armed, no role is assigned, every
mallet is idle, READY is clear, and no command waits. (00_scope.md, 15_keeper_otp_and_life.md) -/
def Obligations.ResetAsStated : Prop :=
  (∀ x : Field, State.reset.f x = x.reset % 2 ^ x.width) ∧ State.reset.time = 0 ∧ State.reset.armedMask = 0 ∧ State.reset.on F.MBX_STATUS_READY = false ∧
  (∀ q, (State.reset.role q).holder = none) ∧ (∀ m, (State.reset.mallet m).run = .idle) ∧ State.reset.pending = []

/-- ADPLL_ENABLE on an ADPLL that is off selects the lowest-numbered valid band that holds the target frequency and begins acquisition,
or sets NOBAND and raises EV_PLL_LOST where no band does; a running ADPLL keeps its band. PLL_LOCK sets LOCKED, clears HOLDOVER,
releases the divided clocks and raises EV_PLL_LOCK. ADPLL_DISABLE stops the divided clocks, and press time holds its value. Each writes
the named register fields and nothing else but what the named event's raising does. Completes: adpllEnable, pllLock, adpllDisable.
(02_clocks_and_press_time.md) -/
def Obligations.RootClockStartsAndStops : Prop :=
  (∀ (s : State) (k : Nat), s.clk.pll = .off → rootBand s s.rootTarget = some k →
    ∃ t : State, Writes [(F.CLK_ADPLL_CTL_EN, 1), (F.CLK_ADPLL_STATUS_BAND, k)] { s with clk := { s.clk with pll := .acquiring } } t ∧
      exec .adpllEnable s = .next t) ∧
  (∀ s : State, s.clk.pll = .off → rootBand s s.rootTarget = none →
    ∃ t : State, Writes [(F.CLK_ADPLL_CTL_EN, 1), (F.CLK_ADPLL_STATUS_NOBAND, 1)] s t ∧ exec .adpllEnable s = .next (t.raiseX EV.PLL_LOST)) ∧
  (∀ s : State, s.clk.pll ≠ .off → ∃ t : State, Writes [(F.CLK_ADPLL_CTL_EN, 1)] s t ∧ exec .adpllEnable s = .next t) ∧
  (∀ s : State, (s.clk.pll = .acquiring ∨ s.clk.refOk = true ∧ (s.clk.pll = .holdover ∨ s.clk.pll = .pulling)) →
    ∃ t : State, Writes [(F.CLK_ADPLL_STATUS_LOCKED, 1), (F.CLK_ADPLL_STATUS_HOLDOVER, 0), (F.TIME_STATUS_RUNNING, 1), (F.TIME_STATUS_HELD, 0)]
        { s with clk := { s.clk with pll := .locked, begun := true, running := true } } t ∧
      exec .pllLock s = .next (t.raiseX EV.PLL_LOCK)) ∧
  ∀ s : State, ∃ t : State,
    Writes [(F.CLK_ADPLL_CTL_EN, 0), (F.CLK_ADPLL_STATUS_LOCKED, 0), (F.CLK_ADPLL_STATUS_HOLDOVER, 0), (F.TIME_STATUS_RUNNING, 0),
        (F.TIME_STATUS_HELD, b2n s.clk.begun)]
      { s with clk := { s.clk with pll := .off, running := false } } t ∧
    exec .adpllDisable s = .next t

/-- PLL_LOCK_LOST on a locked ADPLL, and REF_LOST on one that is locked, pulls back to lock or acquires, set HOLDOVER, mark the frames
in progress DEGRADED at every armed station and raise EV_PLL_HOLDOVER, and press time goes on; REF_LOST on an ADPLL that is off or in
holdover records the loss only. REF_RETURN starts the pull back to lock. HOLDOVER_TIMEOUT raises EV_PLL_LOST once, 100 ms after the
entry. FCLK_LOST stops the divided clocks, drives every keepalive static, takes every output of R398 to its reset state (gates, bridges,
brakes, DRVEN, HV, fuser, beams), and raises EV_FCLK_LOST. Completes: pllLockLost, refLost, refReturn, holdoverTimeout, fclkLost.
(02_clocks_and_press_time.md, 14_faults_events_partners.md) -/
def Obligations.RootClockHoldover : Prop :=
  (∀ s : State, s.clk.pll = .locked → ∃ t : State,
    Writes [(F.CLK_ADPLL_STATUS_LOCK_LOST, 1), (F.CLK_ADPLL_STATUS_LOCKED, 0), (F.CLK_ADPLL_STATUS_HOLDOVER, 1)]
        { s with clk := { s.clk with pll := .holdover, holdSince := s.time, lostRaised := false } } t ∧
      exec .pllLockLost s = .next (t.degradeAll.raiseU EV.PLL_HOLDOVER none .frames)) ∧
  (∀ s : State, (s.clk.pll = .locked ∨ s.clk.pll = .pulling ∨ s.clk.pll = .acquiring) → ∃ t : State,
    Writes [(F.CLK_ADPLL_STATUS_REF_LOST, 1), (F.CLK_ADPLL_STATUS_LOCKED, 0), (F.CLK_ADPLL_STATUS_HOLDOVER, 1)]
        { s with clk := { s.clk with pll := .holdover, refOk := false, holdSince := s.time, lostRaised := false } } t ∧
      exec .refLost s = .next (t.degradeAll.raiseU EV.PLL_HOLDOVER none .frames)) ∧
  (∀ s : State, (s.clk.pll = .off ∨ s.clk.pll = .holdover) → ∃ t : State,
    Writes [(F.CLK_ADPLL_STATUS_REF_LOST, 1)] { s with clk := { s.clk with refOk := false } } t ∧
      exec .refLost s = .next t) ∧
  (∀ s : State, exec .refReturn s =
    .next { s with clk := { s.clk with pll := if s.clk.pll = .holdover then .pulling else s.clk.pll, refOk := true } }) ∧
  (∀ s : State, (s.clk.pll = .holdover ∨ s.clk.pll = .pulling) → s.clk.lostRaised = false → ∃ t : State,
    t = { s.advanceTo (s.clk.holdSince + 60000000) with clk := { s.clk with lostRaised := true } } ∧
      exec .holdoverTimeout s = .next (t.raiseX EV.PLL_LOST)) ∧
  ∀ s : State, ∃ t : State,
    t = { s with regs := t.regs, count := t.count, fuser := t.fuser, ep := t.ep, saved := t.saved, motors := t.motors, steppers := t.steppers
                 buses := t.buses, log := t.log, logKept := t.logKept, logSeq := t.logSeq, fifo := t.fifo, fifoLost := t.fifoLost
                 clk := { s.clk with running := false } } ∧
    t.f F.TIME_STATUS_RUNNING = 0 ∧ t.f F.EVT_KA_STATUS_HV = 0 ∧ t.f F.EVT_KA_STATUS_LASER = 0 ∧ t.f F.EVT_KA_STATUS_DRIVE = 0 ∧
    t.f F.EVT_KA_STATUS_FUSER = 0 ∧ t.f F.EVT_KA_STATUS_AUX = 0 ∧
    (∀ c : Fin 16, t.f (F.EPS_HV_STATUS_OUT c.val) = 0) ∧ (∀ z : Fin 2, t.f (F.EPS_FZ_STATUS_HEAT z.val) = 0) ∧
    (∀ n : Fin 4, (t.epSt n.val).lit = false) ∧ (∀ b : Fin 4, t.f (F.MOT_BK_STATUS_BRK_ON b.val) = 0 ∧ t.f (F.MOT_BK_STATUS_DRVEN b.val) = 0) ∧
    (∀ c : Fin 12, t.f (F.MOT_C_CTL_EN c.val) = 0 ∧ (t.motor c.val).legs = [] ∧ t.f (F.STP_CTL_EN c.val) = 0) ∧
    exec .fclkLost s = .next (t.raiseX EV.FCLK_LOST)

/-- PIXF_WRITE is ignored and counted while FOLLOW is 1; otherwise it stores PIXF, and, with EN set, waits for the next BD edge where
APPLY is 1 and is applied at once where APPLY is 0: a value in range, within 200 ppm of the one in use, at least 6,000 ticks after the
last step and inside the band shows in PIXF_USED. An out-of-range value raises EV_CLK_STEP_REJECT, and one that fails a step test sets
STEP_REJ with it. MDLL_ENABLE selects the lowest valid band and locks. MDLL_UNLOCK clears LOCKED and, at an armed station, blanks the
beams and raises EV_MDLL_UNLOCK; not relocked by the end of the second frame after that of the loss, it is raised once more, at G3 with
bit 31 of its cause set. Completes: pixfWrite, mdllEnable, mdllUnlock, mdllUnlockTimeout. (02_clocks_and_press_time.md,
14_faults_events_partners.md) -/
def Obligations.PixelClockCommands : Prop :=
  (∀ (n : Fin 4) (v : BitVec 24) (s : State), s.on (F.EPS_S_CFG_FOLLOW n.val) = true →
    ∃ t : State, Writes [(F.CLK_FLAM_COUNT, min (s.f F.CLK_FLAM_COUNT + 1) (2 ^ F.CLK_FLAM_COUNT.width - 1))] s t ∧
      exec (.pixfWrite n v) s = .next (t.tally 0x235 1)) ∧
  (∀ (n : Fin 4) (v : BitVec 24) (s : State), s.on (F.EPS_S_CFG_FOLLOW n.val) = false → s.on (F.CLK_MDLL_CTL_EN n.val) = false →
    ∃ t : State, Writes [(F.CLK_MDLL_FREQ_PIXF n.val, v.toNat)] s t ∧ exec (.pixfWrite n v) s = .next t) ∧
  (∀ (n : Fin 4) (v : BitVec 24) (s : State), s.on (F.EPS_S_CFG_FOLLOW n.val) = false → s.on (F.CLK_MDLL_CTL_EN n.val) = true →
    s.on (F.CLK_MDLL_CTL_APPLY n.val) = true →
    ∃ t : State, Writes [(F.CLK_MDLL_FREQ_PIXF n.val, v.toNat)] (s.setMdll n.val { s.mdll n.val with pend := some v.toNat }) t ∧
      exec (.pixfWrite n v) s = .next t) ∧
  (∀ (n : Fin 4) (v : BitVec 24) (s : State), s.on (F.EPS_S_CFG_FOLLOW n.val) = false → s.on (F.CLK_MDLL_CTL_EN n.val) = true →
    s.on (F.CLK_MDLL_CTL_APPLY n.val) = false → pixInRange v.toNat = true → s.pixStepOk n.val v.toNat = true →
    ∃ t : State, Writes [(F.CLK_MDLL_FREQ_PIXF n.val, v.toNat), (F.CLK_MDLL_STATUS_PIXF_USED n.val, v.toNat)]
        (s.setMdll n.val { s.mdll n.val with pend := none, last := some s.time }) t ∧
      exec (.pixfWrite n v) s = .next t) ∧
  (∀ (n : Fin 4) (v : BitVec 24) (s : State), s.on (F.EPS_S_CFG_FOLLOW n.val) = false → s.on (F.CLK_MDLL_CTL_EN n.val) = true →
    s.on (F.CLK_MDLL_CTL_APPLY n.val) = false → pixInRange v.toNat = false → s.pixStepOk n.val v.toNat = true →
    ∃ t : State, Writes [(F.CLK_MDLL_FREQ_PIXF n.val, v.toNat)] (s.setMdll n.val { s.mdll n.val with pend := none }) t ∧
      exec (.pixfWrite n v) s = .next (t.raiseX EV.CLK_STEP_REJECT)) ∧
  (∀ (n : Fin 4) (v : BitVec 24) (s : State), s.on (F.EPS_S_CFG_FOLLOW n.val) = false → s.on (F.CLK_MDLL_CTL_EN n.val) = true →
    s.on (F.CLK_MDLL_CTL_APPLY n.val) = false → s.pixStepOk n.val v.toNat = false →
    ∃ t : State, Writes [(F.CLK_MDLL_FREQ_PIXF n.val, v.toNat), (F.CLK_MDLL_STATUS_STEP_REJ n.val, 1)]
        (s.setMdll n.val { s.mdll n.val with pend := none }) t ∧
      exec (.pixfWrite n v) s = .next (t.raiseX EV.CLK_STEP_REJECT)) ∧
  (∀ (n : Fin 4) (k : Nat) (s : State), s.on (F.CLK_MDLL_CTL_EN n.val) = false →
    pixInRange (s.f (F.CLK_MDLL_FREQ_PIXF n.val)) = true → mdllBand s n.val (pixFreq (s.f (F.CLK_MDLL_FREQ_PIXF n.val))) = some k →
    ∃ t : State, Writes [(F.CLK_MDLL_CTL_EN n.val, 1), (F.CLK_MDLL_STATUS_PIXF_USED n.val, s.f (F.CLK_MDLL_FREQ_PIXF n.val)),
          (F.CLK_MDLL_STATUS_LOCKED n.val, 1)]
        (s.setMdll n.val ⟨none, none, some (s.f (F.CLK_MDLL_BAND_FLO n.val k), s.f (F.CLK_MDLL_BAND_FHI n.val k)), false, 0, false⟩) t ∧
      exec (.mdllEnable n) s = .next t) ∧
  (∀ (n : Fin 4) (s : State), s.armed n.val = false →
    ∃ t : State, Writes [(F.CLK_MDLL_STATUS_LOCKED n.val, 0), (F.CLK_MDLL_STATUS_UNLOCKED n.val, 1)] s t ∧ exec (.mdllUnlock n) s = .next t) ∧
  (∀ (n : Fin 4) (s : State), s.armed n.val = true →
    ∃ t : State, Writes [(F.CLK_MDLL_STATUS_LOCKED n.val, 0), (F.CLK_MDLL_STATUS_UNLOCKED n.val, 1)]
        ((s.setMdll n.val { s.mdll n.val with lost := true, ahead := 3, again := false }).setEp n.val { s.epSt n.val with blank := true }) t ∧
      exec (.mdllUnlock n) s = .next (t.raise EV.MDLL_UNLOCK n.val)) ∧
  ∀ (n : Fin 4) (s : State), (s.mdll n.val).lost = true → (s.mdll n.val).ahead = 0 → (s.mdll n.val).again = false →
    s.on (F.CLK_MDLL_STATUS_LOCKED n.val) = false →
    exec (.mdllUnlockTimeout n) s =
      .next ((s.setMdll n.val { s.mdll n.val with again := true }).raiseAt EV.MDLL_UNLOCK (n.val + 2 ^ 31) (some 3) .byEvent)

/-- TCOMP_UPDATE with the sensor broken leaves FCOMP and goes on compensating the calendar by the last good error; the first such
reading raises EV_TCOMP_FROZEN. With a good reading it writes, with TCOMP_EN, FCOMP as the rounded, negated interpolation of XTAB at the
reading, and CAL_COMP as that of CTAB, whose error it accumulates (whatever TCOMP_EN says: the model's choice, log entry 41).
CAL_COMP_STEP withholds or adds one count of the calendar as the accumulated error reaches it. Without VIN neither does anything.
Completes: tcompUpdate, calCompStep. (02_clocks_and_press_time.md) -/
def Obligations.ClockCompensation : Prop :=
  (∀ s : State, s.keeper.supplied = false → exec .tcompUpdate s = .next s ∧ exec .calCompStep s = .next s) ∧
  (∀ s : State, s.keeper.supplied = true → s.on (F.HK_CH_STATUS_BROKEN 0) = true → ∃ t : State,
    Writes [(F.CLK_CAL_COMP_PPM, ux 16 (roundDiv (-s.clk.calErr) 80))]
        { s with clk := { s.clk with calAcc := s.clk.calAcc + s.clk.calErr, frozen := true } } t ∧
      exec .tcompUpdate s = .next (if s.clk.frozen = true then t else t.raiseX EV.TCOMP_FROZEN)) ∧
  (∀ (s : State) (e : Int), s.keeper.supplied = true → s.on (F.HK_CH_STATUS_BROKEN 0) = false →
    e = interp17 (fun k => s.fs (F.CLK_CTAB_PPM k)) (s.fs (F.HK_CH_TEMP_VALUE 0)) →
    ∃ t : State, Writes ((if s.on F.CLK_ADPLL_CTL_TCOMP_EN = true ∧ s.f F.MBX_STATUS_MODE ≠ 3 then [(F.CLK_ADPLL_FCOMP_FCOMP, ux 24 (roundDiv
            (-(interp17 (fun k => s.fs (F.CLK_XTAB_PPM k)) (s.fs (F.HK_CH_TEMP_VALUE 0))) * 96 * 2 ^ 24) (80 * 128 * 1000000)))] else []) ++
          [(F.CLK_CAL_COMP_PPM, ux 16 (roundDiv (-e) 80))])
        { s with clk := { s.clk with frozen := false, calAcc := s.clk.calAcc + e, calErr := e } } t ∧
      exec .tcompUpdate s = .next t) ∧
  (∀ s : State, s.keeper.supplied = true → calUnit ≤ s.clk.calAcc →
    exec .calCompStep s = .next ({ s with clk := { s.clk with calAcc := s.clk.calAcc - calUnit } }.addCal (-1))) ∧
  ∀ s : State, s.keeper.supplied = true → s.clk.calAcc ≤ -calUnit →
    exec .calCompStep s = .next ({ s with clk := { s.clk with calAcc := s.clk.calAcc + calUnit } }.addCal 1)

/-- TIME_LO_READ answers the low 32 bits of press time and latches the high 32 bits in the shadow of that reader alone; another reader's
shadow, every register, press time and every unit of the block stand as before. Completes: timeLoRead. (02_clocks_and_press_time.md,
09_mallets_programming_model.md) -/
def Obligations.PressTimeRead : Prop :=
  ∀ (who : Reader) (s : State), ∃ t : State, exec (.timeLoRead who) s = .next t ∧ t.answer = .word (BitVec.ofNat 32 s.time) ∧
    t.shadowOf who.id F.TIME_HI.off = s.time / 2 ^ 32 % 2 ^ 32 ∧
    (∀ (r off : Nat), off < 2 ^ 26 → (r ≠ who.id ∨ off ≠ F.TIME_HI.off) → t.shadowOf r off = s.shadowOf r off) ∧
    t = { s with answer := t.answer, shadow := t.shadow }

/-- After SNARE_ARM in tick T the snare is armed and takes an edge of a tick exactly if that tick comes after T; after SNARE_DISARM in
tick T of an armed snare it is not armed, still takes an edge of tick T or of an earlier tick from its arming on, and takes none of a
later tick. No other register field and nothing outside the snare changes. Completes: snareArm, snareDisarm. (R58) -/
def Obligations.SnareArming : Prop :=
  (∀ (n : Fin 32) (s : State), ∃ t : State,
    Writes [(F.SN_CTL_ARM n.val, 1), (F.SN_STATUS_ARMED n.val, 1)] { s with snare := t.snare } t ∧
    (∀ k, k ≠ n.val → k ≠ 64 + n.val → tget 0 t.snare k = tget 0 s.snare k) ∧
    (∀ at_ : Nat, t.snareTakes n.val at_ = decide (s.time < at_)) ∧ exec (.snareArm n) s = .next t) ∧
  ∀ (n : Fin 32) (s : State), s.on (F.SN_STATUS_ARMED n.val) = true → ∃ t : State,
    Writes [(F.SN_CTL_ARM n.val, 0), (F.SN_STATUS_ARMED n.val, 0)] { s with snare := t.snare } t ∧
    (∀ k, k ≠ 32 + n.val → tget 0 t.snare k = tget 0 s.snare k) ∧
    (∀ at_, tget 0 s.snare n.val ≤ at_ → at_ ≤ s.time → t.snareTakes n.val at_ = true) ∧ (∀ at_, s.time < at_ → t.snareTakes n.val at_ = false) ∧
    exec (.snareDisarm n) s = .next t

/-- An edge that FILT + 1 samples qualify and EDGE selects has the tick of the first of those samples. In continuous mode an armed snare
captures it; in one-shot mode it is captured and the snare disarms itself; a later edge in one-shot mode adds one to MISS, which stops
at its greatest value. Where no edge is qualified or selected nothing changes. SNARE_READ answers the captured low time, latches the
capture's other three words for the reader, and marks the capture read; a capture made in the tick of the read is neither returned nor
marked. Completes: snareCapture, snareRead. (02_clocks_and_press_time.md) -/
def Obligations.SnareCaptureAndRead : Prop :=
  (∀ (n : Fin 32) (samples : List Bool) (count : BitVec 64) (b : Bool) (s : State),
    edgeLevel (s.f (F.SN_CTL_FILT n.val)) samples = some b → s.searcher n.val = none → s.snareEdge n.val b = true → s.f (F.SN_CTL_MODE n.val) = 2 →
    s.snareTakes n.val (s.time - s.f (F.SN_CTL_FILT n.val)) = true →
    exec (.snareCapture n samples count) s = .next (s.capture n.val (s.time - s.f (F.SN_CTL_FILT n.val)))) ∧
  (∀ (n : Fin 32) (samples : List Bool) (count : BitVec 64) (b : Bool) (s v : State),
    edgeLevel (s.f (F.SN_CTL_FILT n.val)) samples = some b → s.searcher n.val = none → s.snareEdge n.val b = true → s.f (F.SN_CTL_MODE n.val) = 1 →
    s.snareTakes n.val (s.time - s.f (F.SN_CTL_FILT n.val)) = true → v = s.capture n.val (s.time - s.f (F.SN_CTL_FILT n.val)) →
    ∃ t : State, Writes [(F.SN_CTL_ARM n.val, 0), (F.SN_STATUS_ARMED n.val, 0)] { v with snare := tput 0 v.snare (32 + n.val) 0 } t ∧
      exec (.snareCapture n samples count) s = .next t) ∧
  (∀ (n : Fin 32) (samples : List Bool) (count : BitVec 64) (b : Bool) (s : State),
    edgeLevel (s.f (F.SN_CTL_FILT n.val)) samples = some b → s.searcher n.val = none → s.snareEdge n.val b = true → s.f (F.SN_CTL_MODE n.val) = 1 →
    s.snareTakes n.val (s.time - s.f (F.SN_CTL_FILT n.val)) = false → tget 0 s.snare (64 + n.val) = 1 →
    ∃ t : State, Writes [(F.SN_STATUS_MISS n.val, min (s.f (F.SN_STATUS_MISS n.val) + 1) 255)] s t ∧
      exec (.snareCapture n samples count) s = .next t) ∧
  (∀ (n : Fin 32) (samples : List Bool) (count : BitVec 64) (s : State),
    (∀ b : Bool, edgeLevel (s.f (F.SN_CTL_FILT n.val)) samples = some b → s.snareWants n.val b = false) →
    exec (.snareCapture n samples count) s = .next s) ∧
  (∀ (who : Reader) (n : Fin 32) (s : State), tget 0 s.snare (96 + n.val) ≠ s.time + 1 → ∃ t : State,
    Writes [(F.SN_STATUS_UNREAD n.val, 0)] { s with answer := t.answer, shadow := t.shadow } t ∧
    t.answer = .word (BitVec.ofNat 32 (s.f (F.SN_TIME_LO n.val))) ∧
    t.shadowOf who.id (F.SN_TIME_HI n.val).off = s.f (F.SN_TIME_HI n.val) % 2 ^ 32 ∧
    t.shadowOf who.id (F.SN_WPOS_LO n.val).off = s.f (F.SN_WPOS_LO n.val) % 2 ^ 32 ∧
    t.shadowOf who.id (F.SN_WPOS_HI n.val).off = s.f (F.SN_WPOS_HI n.val) % 2 ^ 32 ∧ exec (.snareRead who n) s = .next t) ∧
  ∀ (who : Reader) (n : Fin 32) (s : State), tget 0 s.snare (96 + n.val) = s.time + 1 → ∃ t : State,
    t = { s with answer := t.answer, shadow := t.shadow } ∧ t.answer = .word (BitVec.ofNat 32 (tget 0 s.snare (128 + n.val))) ∧
    t.shadowOf who.id (F.SN_TIME_HI n.val).off = tget 0 s.snare (128 + n.val) / 2 ^ 32 % 2 ^ 32 ∧
    t.shadowOf who.id (F.SN_WPOS_LO n.val).off = tget 0 s.snare (160 + n.val) % 2 ^ 32 ∧
    t.shadowOf who.id (F.SN_WPOS_HI n.val).off = tget 0 s.snare (160 + n.val) / 2 ^ 32 % 2 ^ 32 ∧ exec (.snareRead who n) s = .next t

/-- SOURCE_ENABLE with EN set takes a type the source accepts, an SSI input where its frame fits, and starts a source that was off
unqualified; it refuses any other with CFG_ERR and EN 0; with EN clear it disables and disqualifies the source, a retry it awaited being
UNRESOLVED. OBS_STALE, eight periods after the last publish, sets STALE and COASTING and raises EV_OBS_STALE. COAST_EXPIRED sets
COAST_EXP at the end of the coast time and raises EV_WEB_COAST_EXPIRED. WEB_REVERSE under an armed station sets REVERSE, raises
EV_WEB_REVERSE, and the web position holds its value in every later tick; travel back beyond the limit sets REV_LIM and raises
EV_WEB_REVERSE_LIMIT. WEB_SWITCH asks for a switch at the next period and does nothing else. Completes: sourceEnable, obsStale,
coastExpired, webReverse, webSwitch. (03_web_position_and_gearing.md) -/
def Obligations.WebSourceCommands : Prop :=
  (∀ (n : Fin 4) (v : BitVec 32) (s : State), bitOf v.toNat 9 = true → typeTaken n.val (v.toNat / 16 % 4) = true →
    (v.toNat / 16 % 4 ≠ 2 ∨ ssiFits (s.f (F.WEB_SRC_SSI_BITS n.val)) (s.f (F.WEB_SRC_SSI_CLKDIV n.val)) (s.f (F.WEB_SRC_SSI_MONO n.val))
      (s.on (F.WEB_SRC_SSI_CRC_EN n.val)) 900 = true) → ∃ t : State,
    Writes [(F.WEB_SRC_CTL_DIR n.val, v.toNat / 2 ^ 8), (F.WEB_SRC_CTL_FILT n.val, v.toNat / 2 ^ 6), (F.WEB_SRC_CTL_TYPE n.val, v.toNat / 2 ^ 4),
        (F.WEB_SRC_CTL_INPUT n.val, v.toNat), (F.WEB_SRC_CTL_EN n.val, 1), (F.WEB_SRC_STATUS_CFG_ERR n.val, 0)]
      (if s.on (F.WEB_SRC_CTL_EN n.val) = true then s
        else s.setSource n.val { Src.reset with inc := { (s.source n.val).inc with index := none }, valid := (s.source n.val).valid }) t ∧
    exec (.sourceEnable n v) s = .next t) ∧
  (∀ (n : Fin 4) (v : BitVec 32) (s : State), bitOf v.toNat 9 = true → (typeTaken n.val (v.toNat / 16 % 4) = false ∨ v.toNat / 16 % 4 = 2 ∧
    ssiFits (s.f (F.WEB_SRC_SSI_BITS n.val)) (s.f (F.WEB_SRC_SSI_CLKDIV n.val)) (s.f (F.WEB_SRC_SSI_MONO n.val))
      (s.on (F.WEB_SRC_SSI_CRC_EN n.val)) 900 = false) → ∃ t : State,
    Writes [(F.WEB_SRC_CTL_DIR n.val, v.toNat / 2 ^ 8), (F.WEB_SRC_CTL_FILT n.val, v.toNat / 2 ^ 6), (F.WEB_SRC_CTL_TYPE n.val, v.toNat / 2 ^ 4),
        (F.WEB_SRC_CTL_INPUT n.val, v.toNat), (F.WEB_SRC_CTL_EN n.val, 0), (F.WEB_SRC_STATUS_CFG_ERR n.val, 1)] s t ∧
    exec (.sourceEnable n v) s = .next t) ∧
  (∀ (n : Fin 4) (v : BitVec 32) (s : State), bitOf v.toNat 9 = false → ∃ t u : State,
    Writes [(F.WEB_SRC_CTL_DIR n.val, v.toNat / 2 ^ 8), (F.WEB_SRC_CTL_FILT n.val, v.toNat / 2 ^ 6), (F.WEB_SRC_CTL_TYPE n.val, v.toNat / 2 ^ 4),
        (F.WEB_SRC_CTL_INPUT n.val, v.toNat)] s t ∧
    u = (if s.on (F.WEB_SRC_CTL_EN n.val) = true ∧ (s.source n.val).retry = true then t.logRetry 3 EV.WEB_TRANSIENT 0 else t) ∧
    exec (.sourceEnable n v) s = .next ((u.setFs [(F.WEB_SRC_CTL_EN n.val, 0), (F.WEB_SRC_STATUS_QUALIFIED n.val, 0)]).setSource n.val
      { s.source n.val with retry := false })) ∧
  (∀ s : State, s.on F.WEB_CTL_OBS_EN = true → s.on F.WEB_STATUS_STALE = false → ∃ t : State,
    Writes [(F.WEB_STATUS_STALE, 1), (F.WEB_STATUS_COASTING, 1)]
      { s.advanceTo (s.web.lastPub + 32000) with
        web := if s.web.coastSince.isSome then s.web else { s.web with coastSince := some s.firstMissed, expired := false } } t ∧
    exec .obsStale s = .next (t.raiseX EV.OBS_STALE)) ∧
  (∀ (s : State) (t0 : Nat), s.web.coastSince = some t0 → s.on F.WEB_STATUS_COASTING = true → s.web.expired = false → ∃ t : State,
    Writes [(F.WEB_STATUS_COAST_EXP, 1)] { s.advanceTo (t0 + s.coastTicks) with web := { s.web with expired := true } } t ∧
    exec .coastExpired s = .next (t.raiseX EV.WEB_COAST_EXPIRED)) ∧
  (∀ (count : BitVec 64) (i : Nat) (p h : Int) (s : State), s.web.inUse = some i → s.anyArmed = true → s.web.published = true →
    p = s.srcPos i count.toInt + s.corrUnits → s.web.high = some h → p < h → s.on F.WEB_STATUS_REVERSE = false →
    (s.web.revOver = true ∨ h - p ≤ s.f F.WEB_REV_LIMIT_LIMIT) → ∃ t : State,
    Writes [(F.WEB_STATUS_REVERSE, 1)] { s with web := t.web } t ∧ (∀ k : Nat, t.web.posAt (s.time + k) = s.web.posAt s.time) ∧
    exec (.webReverse count) s = .next (t.raiseX EV.WEB_REVERSE)) ∧
  (∀ (count : BitVec 64) (i : Nat) (p h : Int) (s : State), s.web.inUse = some i → s.anyArmed = true →
    p = s.srcPos i count.toInt + s.corrUnits → s.web.high = some h → p < h → s.on F.WEB_STATUS_REVERSE = true → s.web.revOver = false →
    s.f F.WEB_REV_LIMIT_LIMIT < h - p → ∃ t : State,
    Writes [(F.WEB_STATUS_REVERSE, 1), (F.WEB_STATUS_REV_LIM, 1)] { s with web := { s.web with revOver := true } } t ∧
    exec (.webReverse count) s = .next (t.raiseX EV.WEB_REVERSE_LIMIT)) ∧
  ∀ s : State, exec .webSwitch s = .next { s with web := { s.web with switchReq := true } }

/-- OBSERVER_PUBLISH, while the observer is not stale and no late ratio change waits, puts the four words as written in WEB_POS,
WEB_VEL, WEB_ACC and WEB_OBS_T and into the extrapolation; no other register field changes. A publish of a stale observer clears STALE
and COASTING. OBSERVER_PERIOD does nothing while OBS_EN is 0. With OBS_EN set, no source enabled or in use, no station armed and nothing
pending, it ends one observer period after the last and shows the highest VMAX, no demand, and every source unqualified. Completes:
observerPublish, observerPeriod. (03_web_position_and_gearing.md) -/
def Obligations.ObserverPublishTakesFour : Prop :=
  (∀ (p : BitVec 64) (v a : BitVec 32) (at_ : BitVec 64) (s : State), s.on F.WEB_STATUS_STALE = false →
    (∀ g : Geared, (s.gearOf (gearKey g)).late = false) → ∃ t : State,
    Writes [(F.WEB_POS_LO, p.toNat), (F.WEB_POS_HI, p.toNat / 2 ^ 32), (F.WEB_VEL, v.toNat), (F.WEB_ACC, a.toNat), (F.WEB_OBS_T_LO, at_.toNat),
        (F.WEB_OBS_T_HI, at_.toNat / 2 ^ 32)]
      { s with web := t.web, gong := { s.gong with zeroSince := t.gong.zeroSince } } t ∧
    t.web.pub = ⟨p.toInt, v.toInt, a.toInt, at_.toNat⟩ ∧ t.web.published = true ∧ t.web.lastPub = s.time ∧ t.web.corr = s.web.corr ∧
    (t.gong.zeroSince.isSome = decide (v = 0)) ∧ exec (.observerPublish p v a at_) s = .next t) ∧
  (∀ (p : BitVec 64) (v a : BitVec 32) (at_ : BitVec 64) (s : State), s.on F.WEB_STATUS_STALE = true → ∃ t : State,
    t.on F.WEB_STATUS_STALE = false ∧ t.on F.WEB_STATUS_COASTING = false ∧ t.web.pub.v = v.toInt ∧ t.web.pub.t0 = at_.toNat ∧
    exec (.observerPublish p v a at_) s = .next t) ∧
  (∀ (s0 s1 s2 s3 : Sample) (s : State), s.on F.WEB_CTL_OBS_EN = false → exec (.observerPeriod s0 s1 s2 s3) s = .next s) ∧
  ∀ (s0 s1 s2 s3 : Sample) (s : State), s.on F.WEB_CTL_OBS_EN = true → s.clk.running = true → (∀ i : Fin 4, s.on (F.WEB_SRC_CTL_EN i.val) = false) →
    s.web.inUse = none → s.web.switchReq = false → s.web.corr = 0 → s.armedMask = 0 → s.on F.WEB_STATUS_COASTING = false →
    s.time ≤ s.web.period + 4000 → ∃ t : State, exec (.observerPeriod s0 s1 s2 s3) s = .next t ∧
    t.time = s.web.period + 4000 ∧ t.web.period = s.web.period + 4000 ∧ t.f F.WEB_SLOWDOWN_VMAX = 65535 ∧
    (∀ i : Fin 4, t.f (F.WEB_SRC_STATUS_QUALIFIED i.val) = 0) ∧ t.otp = s.otp ∧ t.mem = s.mem ∧ t.ledger = s.ledger ∧ t.roles = s.roles

/-- RATIO_SCHEDULE for a unit in use refuses a change above 1 percent of the ratio in use (RPEND clears, RAT_REJ is set,
EV_GEAR_REJECT); otherwise it sets RPEND, and marks a change at or behind the web position as late with EV_GEAR_LATE. RATIO_CANCEL drops
the pending change. The change is RNEXT at RAT_AT as they stand at RPEND. An axis's outcomes are raised as EV_AXS_GEAR. Completes:
ratioSchedule, ratioCancel. (03_web_position_and_gearing.md) -/
def Obligations.ScheduledRatios : Prop :=
  (∀ (g : Geared) (s : State), s.gearLimited g = true →
    ratioNear (s.pair (gearRegs g).ratHi (gearRegs g).ratLo) (s.pair (gearRegs g).nextHi (gearRegs g).nextLo) = false → ∃ t : State,
    Writes [((gearRegs g).pend, 0), ((gearRegs g).rej, 1)] (s.setGear (gearKey g) { s.gearOf (gearKey g) with late := false }) t ∧
    exec (.ratioSchedule g) s = .next (t.raiseGear g EV.GEAR_REJECT)) ∧
  (∀ (g : Geared) (s : State),
    (s.gearLimited g = false ∨ ratioNear (s.pair (gearRegs g).ratHi (gearRegs g).ratLo) (s.pair (gearRegs g).nextHi (gearRegs g).nextLo) = true) →
    s.webPos < s.pairS (gearRegs g).atHi (gearRegs g).atLo → ∃ t : State,
    Writes [((gearRegs g).pend, 1)] (s.setGear (gearKey g) { s.gearOf (gearKey g) with
        next := s.pair (gearRegs g).nextHi (gearRegs g).nextLo, at_ := s.pairS (gearRegs g).atHi (gearRegs g).atLo, late := false }) t ∧
    exec (.ratioSchedule g) s = .next t) ∧
  (∀ (g : Geared) (s : State),
    (s.gearLimited g = false ∨ ratioNear (s.pair (gearRegs g).ratHi (gearRegs g).ratLo) (s.pair (gearRegs g).nextHi (gearRegs g).nextLo) = true) →
    s.pairS (gearRegs g).atHi (gearRegs g).atLo ≤ s.webPos → ∃ t : State,
    Writes [((gearRegs g).pend, 1), ((gearRegs g).late, 1)] (s.setGear (gearKey g) { s.gearOf (gearKey g) with
        next := s.pair (gearRegs g).nextHi (gearRegs g).nextLo, at_ := s.pairS (gearRegs g).atHi (gearRegs g).atLo, late := true }) t ∧
    exec (.ratioSchedule g) s = .next (t.raiseGear g EV.GEAR_LATE)) ∧
  ∀ (g : Geared) (s : State), ∃ t : State,
    Writes [((gearRegs g).pend, 0)] (s.setGear (gearKey g) { s.gearOf (gearKey g) with late := false }) t ∧ exec (.ratioCancel g) s = .next t

/-- When the web reaches the place of a scheduled change at tick T, GEAR_APPLIED makes the scheduled ratio the ratio, clears RPEND, sets
RAT_DONE and raises EV_GEAR_APPLIED; station n's line position at that web position is unchanged by the new ratio, and every other
station's line position stands at every web position. For a geared axis the bias takes the same difference of products. Completes:
gearApplied. (03_web_position_and_gearing.md) -/
def Obligations.NewRatioKeepsLine : Prop :=
  (∀ (n : Fin 8) (s : State) (at_ : Nat) (g : Gear), g = s.gearOf n.val → s.on (F.WEB_ST_GCTL_RPEND n.val) = true → g.late = false →
    g.next < 2 ^ ((F.WEB_ST_RAT_HI n.val).width + (F.WEB_ST_RAT_LO n.val).width) → s.tickAtPos g.at_ = some at_ → ∃ t : State,
    t.time = (s.advanceTo at_).time ∧ t.web = s.web ∧ t.st = s.st ∧ t.mem = s.mem ∧ t.otp = s.otp ∧ t.axes = s.axes ∧ t.mlt = s.mlt ∧
    t.f (F.WEB_ST_GCTL_RPEND n.val) = 0 ∧ t.f (F.WEB_ST_STATUS_RAT_DONE n.val) = 1 ∧ t.ratio n.val = g.next ∧
    t.lposAtPos n.val g.at_ = s.lposAtPos n.val g.at_ ∧
    (∀ (k : Fin 8) (p : Int), k ≠ n → t.lposAtPos k.val p = s.lposAtPos k.val p) ∧
    exec (.gearApplied (.station n)) s = .next (t.raiseX EV.GEAR_APPLIED)) ∧
  ∀ (a : Fin 24) (s : State) (at_ : Nat) (g : Gear), g = s.gearOf (32 + a.val) → s.on (F.AXS_A_GCTL_RPEND a.val) = true → g.late = false →
    g.next < 2 ^ ((F.AXS_A_RAT_HI a.val).width + (F.AXS_A_RAT_LO a.val).width) → s.tickAtPos g.at_ = some at_ → ∃ t : State,
    t.f (F.AXS_A_GCTL_RPEND a.val) = 0 ∧ t.f (F.AXS_A_GSTAT_RAT_DONE a.val) = 1 ∧ t.pair (F.AXS_A_RAT_HI a.val) (F.AXS_A_RAT_LO a.val) = g.next ∧
    (t.gearOf (32 + a.val)).bias = wrap48 (g.bias +
      lineProduct (g.at_ - s.pairS (F.AXS_A_GOFS_HI a.val) (F.AXS_A_GOFS_LO a.val)) (s.pair (F.AXS_A_RAT_HI a.val) (F.AXS_A_RAT_LO a.val)) -
      lineProduct (g.at_ - s.pairS (F.AXS_A_GOFS_HI a.val) (F.AXS_A_GOFS_LO a.val)) g.next) ∧
    exec (.gearApplied (.axis a)) s = .next (t.raiseX EV.AXS_GEAR)

/-- FQ_TAIL_WRITE refuses a tail that would hold more entries than the ring less one, or fewer than stand there (OVERFLOW,
EV_FQ_OVERFLOW), and otherwise sets TAIL and clears EMPTY unless the queue is empty. DESC_FETCH on a station that may fetch waits with
JOBWAIT and EV_FQ_JOBWAIT on a descriptor whose job is neither the station's nor named by a pending change set, and places a good
descriptor of the station's own job after the frames already placed. Completes: fqTailWrite, descFetch. (04_frames_raster_and_dma.md) -/
def Obligations.FrameQueueCommands : Prop :=
  (∀ (n : Fin 8) (tail : BitVec 16) (s : State),
    (2 ^ s.f (F.FEED_Q_CTL_LOG2SIZE n.val) - 1 < (tail.toNat + 65536 - s.f (F.FEED_Q_HEAD n.val)) % 65536 ∨
      (tail.toNat + 65536 - s.f (F.FEED_Q_HEAD n.val)) % 65536 < s.occupancy n.val) → ∃ t : State,
    Writes [(F.FEED_Q_STATUS_OVERFLOW n.val, 1)] s t ∧ exec (.fqTailWrite n tail) s = .next (t.raise EV.FQ_OVERFLOW n.val)) ∧
  (∀ (n : Fin 8) (tail : BitVec 16) (s : State),
    (tail.toNat + 65536 - s.f (F.FEED_Q_HEAD n.val)) % 65536 ≤ 2 ^ s.f (F.FEED_Q_CTL_LOG2SIZE n.val) - 1 →
    s.occupancy n.val ≤ (tail.toNat + 65536 - s.f (F.FEED_Q_HEAD n.val)) % 65536 →
    (tail.toNat + 65536 - s.f (F.FEED_Q_HEAD n.val)) % 65536 ≠ 0 → ∃ t : State,
    Writes [(F.FEED_Q_TAIL n.val, tail.toNat), (F.FEED_Q_STATUS_EMPTY n.val, 0)] s t ∧ exec (.fqTailWrite n tail) s = .next t) ∧
  (∀ (n : Fin 8) (s : State), s.on (F.FEED_Q_CTL_EN n.val) = true → s.armed n.val = true →
    (s.station n.val).nextFetch ≠ s.f (F.FEED_Q_TAIL n.val) →
    (s.memNat (s.ringEntry n.val (s.station n.val).nextFetch + 4) 4) ≠ s.f (F.CHG_S_JOB n.val) →
    s.csForJob n.val (s.memNat (s.ringEntry n.val (s.station n.val).nextFetch + 4) 4) = none →
    (s.station n.val).unscreened ≠ some (s.memNat (s.ringEntry n.val (s.station n.val).nextFetch + 4) 4) →
    s.on (F.FEED_Q_STATUS_JOBWAIT n.val) = false → ∃ t : State,
    Writes [(F.FEED_Q_STATUS_JOBWAIT n.val, 1)] s t ∧ exec (.descFetch n .clean) s = .next (t.raise EV.FQ_JOBWAIT n.val)) ∧
  ∀ (n : Fin 8) (s : State) (x : Frame), s.on (F.FEED_Q_CTL_EN n.val) = true → s.armed n.val = true →
    (s.station n.val).nextFetch ≠ s.f (F.FEED_Q_TAIL n.val) →
    x = frameOfBytes (s.memRead (s.ringEntry n.val (s.station n.val).nextFetch) 64) (s.station n.val).nextFetch (s.resOf n.val) →
    x.job = s.f (F.CHG_S_JOB n.val) → (s.station n.val).unscreened = none → s.mem.poison = [] → s.descOk n.val x = true →
    (s.station n.val).nextLine = none → ∃ t : State, exec (.descFetch n .clean) s = .next t ∧
    (t.station n.val).frames = (s.station n.val).frames ++ [{ x with start := some (s.place n.val x.anchor).1, prior := (s.station n.val).lastImage }] ∧
    (t.station n.val).nextFetch = (x.index + 1) % 65536 ∧
    (t.station n.val).endLine = some ((s.place n.val x.anchor).1 + x.extent) ∧ t.f (F.FEED_Q_STATUS_JOBWAIT n.val) = 0 ∧
    t.f (F.FEED_Q_CUR_FRAME n.val) = x.num ∧ t.f (F.FEED_Q_CUR_JOB n.val) = x.job ∧ t = { s with regs := t.regs, st := t.st }

/-- FEED_REQUEST on an armed, enabled station whose lead is below its target requests the next wanted line when its slot is free, and
the requests are then served. LINE_SLOT_FILLED makes the slot of the request being served FILLED for an ordinary image line read without
error, and VOID for a withdrawn request. FRAME_BOUNDARY, when the line position reaches the end of the last placed frame, records that
the queue ran empty and, with no descriptor queued, raises EV_FQ_EMPTY; a station that is not armed has no boundary. Completes:
feedRequest, lineSlotFilled, frameBoundary. (04_frames_raster_and_dma.md, 05_screening.md) -/
def Obligations.FeedEngineCommands : Prop :=
  (∀ (n : Fin 8) (s : State) (l : Int), ((s.noteLead n.val).station n.val).isArmed = true → (s.noteLead n.val).on (F.FEED_Q_CTL_EN n.val) = true →
    (s.noteLead n.val).lead n.val < (s.noteLead n.val).f (F.SCR_LEAD_TARGET n.val) → (s.noteLead n.val).nextRequest n.val = some l →
    l ≤ (s.noteLead n.val).lineNow n.val + 256 → (s.noteLead n.val).slotFree n.val l = true → ∃ t : State,
    (t.station n.val).reqs = ((s.noteLead n.val).station n.val).reqs ++
      [⟨l, false, false, ((s.noteLead n.val).frameOf n.val l).bind fun x => x.prov⟩] ∧
    (t.station n.val).nextLine = some (l + 1) ∧ t = { s.noteLead n.val with st := t.st } ∧ exec (.feedRequest n) s = .next t.serve) ∧
  (∀ (n : Fin 8) (s : State) (r : FeedReq) (x : Frame) (a : Int), findFirst (fun (q : FeedReq) => q.read) (s.station n.val).reqs = some r →
    r.withdrawn = false → r.prov = none → s.frameOf n.val r.lpos = some x → x.start = some a → r.lpos < a + x.lines →
    s.mem.poison = [] → ∃ t : State,
    t.slot n.val (r.lpos % 256).toNat = some ⟨r.lpos, .filled, none, 0, 0, false⟩ ∧
    (t.station n.val).reqs = (s.station n.val).reqs.filter (fun q => decide (q.lpos ≠ r.lpos) || !q.read) ∧
    t = { s with slots := t.slots, st := t.st, count := t.count } ∧ exec (.lineSlotFilled n .clean) s = .next t.serve) ∧
  (∀ (n : Fin 8) (ecc : Ecc) (s : State) (r : FeedReq), findFirst (fun (q : FeedReq) => q.read) (s.station n.val).reqs = some r →
    r.withdrawn = true → ∃ t : State, t.slot n.val (r.lpos % 256).toNat = some ⟨r.lpos, .void, r.prov, 0, 0, false⟩ ∧
    t = { s with slots := t.slots, st := t.st, count := t.count } ∧ exec (.lineSlotFilled n ecc) s = .next t.serve) ∧
  (∀ (n : Fin 8) (s : State), s.armed n.val = false → exec (.frameBoundary n) s = .next s) ∧
  ∀ (n : Fin 8) (s : State) (e : Int) (at_ : Nat), s.armed n.val = true →
    findFirst (fun (x : Frame) => !x.reached) (s.station n.val).frames = none → (s.station n.val).endLine = some e →
    (s.station n.val).ranEmpty = false → s.tickAtLpos n.val (e * 65536) = some at_ → ∃ t u : State,
    Writes [(F.WEB_ST_STATUS_DROPPING n.val, 0), (F.WEB_ST_STATUS_DROPK n.val, 0)] { (s.advanceTo at_).frameEnds n.val with st := t.st } t ∧
    (t.station n.val).ranEmpty = true ∧ u = t.closeKind n.val ∧
    exec (.frameBoundary n) s = .next (if (u.station n.val).nextFetch = u.f (F.FEED_Q_TAIL n.val) then
      (u.setF (F.FEED_Q_STATUS_EMPTY n.val) 1).raise EV.FQ_EMPTY n.val else u)

/-- In service, with the PEEK window off and no poison, BAR2_WRITE inside usable memory stores exactly the given bytes at consecutive
addresses and changes no other byte and no register; at or above U it stores nothing, sets OOR and raises EV_MEM_RANGE. BAR2_READ
answers the bytes that stand there; out of service it answers zeros, and a write is dropped; in D3hot neither is decoded. PAGE_COPY_DONE
retires the first queued page, and with none queued changes nothing. Completes: bar2Write, bar2Read, pageCopyDone.
(04_frames_raster_and_dma.md, 15_keeper_otp_and_life.md) -/
def Obligations.DeviceMemoryWindow : Prop :=
  (∀ (a : BitVec 36) (bs : List (BitVec 8)) (s : State), s.d3hot = false → s.inService = true → s.on F.FEED_PEEK_EN = false →
    s.mem.poison = [] → a.toNat + bs.length ≤ s.usable → ∃ t : State, t = { s with mem := t.mem } ∧
    (∀ i, i < bs.length → tget 0 t.mem.bytes (a.toNat + i) = nthD 0 bs i) ∧
    (∀ k, (k < a.toNat ∨ a.toNat + bs.length ≤ k) → tget 0 t.mem.bytes k = tget 0 s.mem.bytes k) ∧
    t.mem = { s.mem with bytes := t.mem.bytes } ∧ exec (.bar2Write a bs) s = .next (t.tallyUnits 0x093 bs.length 64)) ∧
  (∀ (a : BitVec 36) (bs : List (BitVec 8)) (s : State), s.d3hot = false → s.inService = true → s.on F.FEED_PEEK_EN = false →
    s.usable ≤ a.toNat → bs ≠ [] → ∃ t : State, Writes [(F.FEED_MEM_STATUS_OOR, 1)] s t ∧
    exec (.bar2Write a bs) s = .next ((t.raiseX EV.MEM_RANGE).tallyUnits 0x093 bs.length 64)) ∧
  (∀ (a : BitVec 36) (bs : List (BitVec 8)) (s : State), (s.d3hot = true ∨ s.inService = false) →
    exec (.bar2Write a bs) s = .next s) ∧
  (∀ (a : BitVec 36) (n : BitVec 12) (s : State), s.d3hot = false → s.inService = true → s.on F.FEED_PEEK_EN = false →
    s.mem.poison = [] → a.toNat + n.toNat ≤ s.usable → ∃ t : State,
    t = { s with answer := .bytes (s.memRead a.toNat n.toNat) false } ∧ exec (.bar2Read a n .clean) s = .next t) ∧
  (∀ (a : BitVec 36) (n : BitVec 12) (e : Ecc) (s : State), s.d3hot = false → s.inService = false →
    exec (.bar2Read a n e) s = .next { s with answer := .bytes (List.replicate n.toNat 0) false }) ∧
  (∀ (a : BitVec 36) (n : BitVec 12) (e : Ecc) (s : State), s.d3hot = true → exec (.bar2Read a n e) s = .next s) ∧
  (∀ s : State, s.mem.queue = [] → exec .pageCopyDone s = .next s) ∧
  ∀ (p : Nat × Option Nat) (r : List (Nat × Option Nat)) (s : State), s.mem.queue = p :: r → ∃ t : State,
    Writes [(F.FEED_MEM_STATUS_RETIRED, 1), (F.FEED_MEM_STATUS_RETIRING, b2n !r.isEmpty),
        (F.FEED_MEM_RETIRED, min (s.f F.FEED_MEM_RETIRED + 1) (2 ^ F.FEED_MEM_RETIRED.width - 1))]
      { s with mem := t.mem } t ∧
    t.mem.queue = r ∧ t.mem.retired.contains p.1 = true ∧ t.mem.bytes = s.mem.bytes ∧ t.mem.poison = s.mem.poison ∧
    exec .pageCopyDone s = .next ((t.tally 0x091 1).raiseMem EV.MEM_PAGE_RETIRED p.2)

/-- DMA_START with the engine enabled sets START_IGN on a busy channel, starts the descriptor at HEAD on an idle one (one in host memory
is read from there), and ends with FETCH_ERR and EV_DMA_FETCH_ERR where HEAD is not a multiple of 64. DMA_DRAIN_DONE lets the reads
begin once no store issued before the descriptor is left. DMA_ABORT of a busy channel makes it idle with ABORTED set and EV_DMA_ABORT,
and of an idle one does nothing. A failed or timed-out host read is reissued once, and a good completion after that is logged as
transient. Completes: dmaStart, dmaDrainDone, dmaAbort, pcieCompletion, pcieCplTimeout. (04_frames_raster_and_dma.md) -/
def Obligations.DmaChannelCommands : Prop :=
  (∀ (c : Fin 16) (x : Fetched) (s : State), s.on F.DMA_CTL_EN = false → exec (.dmaStart c x) s = .next s) ∧
  (∀ (c : Fin 16) (x : Fetched) (s : State), s.on F.DMA_CTL_EN = true → s.on (F.DMA_CH_STATUS_BUSY c.val) = true → ∃ t : State,
    Writes [(F.DMA_CH_STATUS_START_IGN c.val, 1)] s t ∧ exec (.dmaStart c x) s = .next t) ∧
  (∀ (c : Fin 16) (x : Fetched) (s : State), s.on F.DMA_CTL_EN = true → s.on (F.DMA_CH_STATUS_BUSY c.val) = false →
    s.pair (F.DMA_CH_HEAD_HI c.val) (F.DMA_CH_HEAD_LO c.val) % 64 ≠ 0 → ∃ t : State,
    t = { s with regs := t.regs, dma := t.dma } ∧ t.f (F.DMA_CH_STATUS_FETCH_ERR c.val) = 1 ∧ t.f (F.DMA_CH_STATUS_BUSY c.val) = 0 ∧
    t.f (F.DMA_CH_CTL_START c.val) = 0 ∧ (t.chan c.val).phase = .idle ∧ exec (.dmaStart c x) s = .next (t.raise EV.DMA_FETCH_ERR c.val)) ∧
  (∀ (c : Fin 16) (a : Nat) (h : List (BitVec 8)) (s : State), s.on F.DMA_CTL_EN = true → s.on (F.DMA_CH_STATUS_BUSY c.val) = false →
    a = s.pair (F.DMA_CH_HEAD_HI c.val) (F.DMA_CH_HEAD_LO c.val) → a % 64 = 0 → a + 64 ≤ s.usable → s.mem.poison = [] → ∃ t : State,
    exec (.dmaStart c ⟨h, .clean⟩) s = .next t ∧ t = { s with regs := t.regs, dma := t.dma, hostOut := t.hostOut } ∧
    t.f (F.DMA_CH_STATUS_BUSY c.val) = 1 ∧
    t.pair (F.DMA_CH_CUR_HI c.val) (F.DMA_CH_CUR_LO c.val) = a ∧ t.f (F.DMA_CH_RESIDUE c.val) = s.memNat (a + 0x10) 4 ∧
    (t.chan c.val).src = s.memNat a 8 ∧ (t.chan c.val).dst = s.memNat (a + 8) 8 ∧ (t.chan c.val).len = s.memNat (a + 0x10) 4 ∧
    (t.chan c.val).phase = (if s.storesLeft (s.memNat (a + 0x18) 8 % 2 ^ 36) s.storeSeq then .drain else .moving)) ∧
  (∀ (c : Fin 16) (a : Nat) (e : Ecc) (s : State), s.on F.DMA_CTL_EN = true → s.on (F.DMA_CH_STATUS_BUSY c.val) = false →
    a = s.pair (F.DMA_CH_HEAD_HI c.val) (F.DMA_CH_HEAD_LO c.val) → a % 64 = 0 → 2 ^ 63 ≤ a → ∃ t : State,
    exec (.dmaStart c ⟨[], e⟩) s = .next t ∧ t = { s with regs := t.regs, dma := t.dma, hostOut := t.hostOut } ∧
    t.f (F.DMA_CH_STATUS_BUSY c.val) = 1 ∧ t.pair (F.DMA_CH_CUR_HI c.val) (F.DMA_CH_CUR_LO c.val) = a ∧ (t.chan c.val).phase = .fetch ∧
    t.hostOut = ⟨false, a - 2 ^ 63, 64, [], s.on F.FEED_CTL_NOSNOOP, false⟩ :: s.hostOut) ∧
  (∀ (c : Fin 16) (s : State), (s.chan c.val).phase = .drain → s.storesLeft (s.chan c.val).drainMask (s.chan c.val).drainSeq = false → ∃ t : State,
    exec (.dmaDrainDone c) s = .next t ∧ t = { s.setChan c.val { s.chan c.val with phase := .moving } with hostOut := t.hostOut } ∧
    (isHost (s.chan c.val).src = false → t.hostOut = s.hostOut)) ∧
  (∀ (c : Fin 16) (moved : BitVec 32) (data : List (BitVec 8)) (s : State), s.on (F.DMA_CH_STATUS_BUSY c.val) = true →
    s.dmaBackOk c.val = true → ∃ t : State,
    exec (.dmaAbort c moved data false) s = .next (t.raise EV.DMA_ABORT c.val) ∧ t.f (F.DMA_CH_STATUS_ABORTED c.val) = 1 ∧
    t.f (F.DMA_CH_STATUS_BUSY c.val) = 0 ∧ t.f (F.DMA_CH_CTL_START c.val) = 0 ∧ (t.chan c.val).phase = .idle) ∧
  (∀ (c : Fin 16) (moved : BitVec 32) (data : List (BitVec 8)) (last : Bool) (s : State), s.on (F.DMA_CH_STATUS_BUSY c.val) = false →
    exec (.dmaAbort c moved data last) s = .next s) ∧
  (∀ (c : Fin 16) (r : Completion) (data : List (BitVec 8)) (d : Fetched) (s : State), s.hostReading c.val = true →
    (s.chan c.val).reissued = false → r ≠ .ok → exec (.pcieCompletion c r data d) s =
      .next ((s.setChan c.val { s.chan c.val with reissued := true }).hostRead (s.chan c.val).src (s.chan c.val).len)) ∧
  (∀ (c : Fin 16) (data : List (BitVec 8)) (d : Fetched) (s : State), s.hostReading c.val = true → (s.chan c.val).reissued = true →
    exec (.pcieCompletion c .ok data d) s = .next
      ((((s.setChan c.val { s.chan c.val with reissued := false }).tally 0x094 1).logRetry 1 EV.PCIE_CPL_TRANSIENT c.val).raise
        EV.PCIE_CPL_TRANSIENT c.val)) ∧
  (∀ (c : Fin 16) (data : List (BitVec 8)) (d : Fetched) (s : State), s.hostReading c.val = true → (s.chan c.val).reissued = false →
    exec (.pcieCplTimeout c data d) s =
      .next ((s.setChan c.val { s.chan c.val with reissued := true }).hostRead (s.chan c.val).src (s.chan c.val).len)) ∧
  ∀ (c : Fin 16) (r : Completion) (data : List (BitVec 8)) (d : Fetched) (s : State), s.hostFetching c.val = true →
    (s.chan c.val).reissued = false → r ≠ .ok →
    exec (.pcieCompletion c r data d) s = .next ((s.setChan c.val { s.chan c.val with reissued := true }).hostRead (s.dmaCur c.val) 64) ∧
    exec (.pcieCplTimeout c data d) s = .next ((s.setChan c.val { s.chan c.val with reissued := true }).hostRead (s.dmaCur c.val) 64)

/-- A last descriptor without CRC or interrupt, whose source, destination and own 64 bytes lie in usable memory with nothing poisoned,
and whose destination keeps clear of its write-back, ends with the destination holding the source's bytes, the residue zero, DONE set
and the channel idle; bytes outside the destination and the write-back stand. Completes: dmaDescDone. (04_frames_raster_and_dma.md) -/
def Obligations.DmaCopiesBytes : Prop :=
  ∀ (c : Fin 16) (data : List (BitVec 8)) (d : Fetched) (s : State), (s.chan c.val).phase = .moving → (s.chan c.val).flags = 8 → (s.chan c.val).len ≠ 0 →
    (s.chan c.val).src + (s.chan c.val).len ≤ s.usable → (s.chan c.val).dst + (s.chan c.val).len ≤ s.usable → s.mem.poison = [] →
    s.dmaCur c.val + 64 ≤ s.usable →
    ((s.chan c.val).dst + (s.chan c.val).len ≤ s.dmaCur c.val + 0x28 ∨ s.dmaCur c.val + 0x34 ≤ (s.chan c.val).dst) →
    s.on (F.DMA_CH_CTL_IRQ_CHAIN c.val) = false → ∃ t : State, exec (.dmaDescDone c data .clean d) s = .next t ∧
    t.f (F.DMA_CH_STATUS_DONE c.val) = 1 ∧ t.f (F.DMA_CH_STATUS_BUSY c.val) = 0 ∧ t.f (F.DMA_CH_RESIDUE c.val) = 0 ∧
    (t.chan c.val).phase = .idle ∧
    (∀ i, i < (s.chan c.val).len → tget 0 t.mem.bytes ((s.chan c.val).dst + i) = tget 0 s.mem.bytes ((s.chan c.val).src + i)) ∧
    (∀ k, (k < (s.chan c.val).dst ∨ (s.chan c.val).dst + (s.chan c.val).len ≤ k) →
      (k < s.dmaCur c.val + 0x28 ∨ s.dmaCur c.val + 0x34 ≤ k) → tget 0 t.mem.bytes k = tget 0 s.mem.bytes k) ∧
    t = { s with regs := t.regs, dma := t.dma, mem := t.mem, count := t.count, resid := t.resid }

/-- A table command acts only on a kind below 3 whose inactive bank is not engaged and stands in a state that R146 allows; otherwise it
sets ERR = 6 and LOAD_ERR and raises EV_TBL_LOAD_ERR. LOAD and COPY make the bank BUSY and set GO, MARK makes it READY, CLEAR makes it
IDLE, SWAP sets its pending bit; LOAD remembers the image's address. Completes: tableLoad, tableCopy, tableMark, tableClear, tableSwap.
(05_screening.md) -/
def Obligations.TableCommands : Prop :=
  (∀ (n : Fin 8) (kind : BitVec 2) (s : State), s.tableMay n.val kind.toNat [Bank.IDLE, Bank.READY] = true → ∃ t : State,
    exec (.tableLoad n kind) s = .next t ∧ t.bankState n.val kind.toNat = Bank.BUSY ∧ t.on (F.SCR_TCMD_GO n.val) = true ∧
    tget 0 t.loadAt (n.val * 4 + kind.toNat) = s.addr (F.SCR_TADDR_HI n.val) (F.SCR_TADDR_LO n.val) + 1 ∧
    t = { s with regs := t.regs, loadAt := t.loadAt }) ∧
  (∀ (n : Fin 8) (kind : BitVec 2) (s : State), s.tableMay n.val kind.toNat [Bank.IDLE, Bank.READY] = false → ∃ t : State,
    Writes [(F.SCR_TSTAT_ERR n.val, 6), (F.SCR_STATUS_LOAD_ERR n.val, 1)] s t ∧
    exec (.tableLoad n kind) s = .next (t.raise EV.TBL_LOAD_ERR n.val)) ∧
  (∀ (n : Fin 8) (s : State), s.tableMay n.val 2 [Bank.IDLE, Bank.READY] = true → ∃ t : State,
    exec (.tableCopy n 2) s = .next t ∧ t.bankState n.val 2 = Bank.BUSY ∧ t.on (F.SCR_TCMD_GO n.val) = true ∧
    t = { s with regs := t.regs, loadAt := t.loadAt }) ∧
  (∀ (n : Fin 8) (kind : BitVec 2) (s : State), (kind ≠ 2 ∨ s.tableMay n.val 2 [Bank.IDLE, Bank.READY] = false) → ∃ t : State,
    Writes [(F.SCR_TSTAT_ERR n.val, 6), (F.SCR_STATUS_LOAD_ERR n.val, 1)] s t ∧
    exec (.tableCopy n kind) s = .next (t.raise EV.TBL_LOAD_ERR n.val)) ∧
  (∀ (n : Fin 8) (kind : BitVec 2) (s : State), s.tableMay n.val kind.toNat [Bank.EDIT] = true → ∃ t : State,
    exec (.tableMark n kind) s = .next t ∧ t.bankState n.val kind.toNat = Bank.READY ∧ t.f (F.SCR_TSTAT_ERR n.val) = 0 ∧
    t = { s with regs := t.regs }) ∧
  (∀ (n : Fin 8) (kind : BitVec 2) (s : State), s.tableMay n.val kind.toNat [Bank.IDLE, Bank.EDIT, Bank.READY] = true → ∃ t : State,
    exec (.tableClear n kind) s = .next t ∧ t.bankState n.val kind.toNat = Bank.IDLE ∧ t.f (F.SCR_TSTAT_ERR n.val) = 0 ∧
    t = { s with regs := t.regs }) ∧
  ∀ (n : Fin 8) (kind : BitVec 2) (s : State), s.tableMay n.val kind.toNat [Bank.IDLE, Bank.BUSY, Bank.EDIT, Bank.READY] = true → ∃ t : State,
    exec (.tableSwap n kind) s = .next t ∧ t.bankPend n.val kind.toNat = true ∧ t.bankState n.val kind.toNat = s.bankState n.val kind.toNat ∧
    t.f (F.SCR_TSTAT_ERR n.val) = 0 ∧ t = { s with regs := t.regs }

/-- TABLE_LOAD_DONE with a clean read and no mark held puts every cell of the image's body in the inactive bank and makes it READY with
ERR 0, or, for an image that fails a check, makes the bank IDLE with the check's code in ERR and raises EV_TBL_LOAD_ERR. TABLE_COPY_DONE
ends in EDIT. HIDING_EDIT sets one nozzle's MISSING and NOHELP bits in a bank under EDIT, and no other cell; in another state it sets
ERR = 6. Completes: tableLoadDone, tableCopyDone, hidingEdit. (05_screening.md) -/
def Obligations.TableTransfers : Prop :=
  (∀ (n : Fin 8) (kind : BitVec 2) (a : Nat) (s : State), kind ≠ 3 → s.bankState n.val kind.toNat = Bank.BUSY →
    tget 0 s.loadAt (n.val * 4 + kind.toNat) = a + 1 → s.dd.marks = [] → s.imageErr n.val kind.toNat a = 0 → ∃ t : State,
    exec (.tableLoadDone n kind .clean) s = .next t ∧ t.bankState n.val kind.toNat = Bank.READY ∧ t.f (F.SCR_TSTAT_ERR n.val) = 0 ∧
    (∀ i, i < (s.bodyCells kind.toNat (a + 64) (s.memNat (a + 8) 4)).length → i < 2 ^ 21 →
      t.cell n.val kind.toNat (s.inactive n.val kind.toNat) i = nthD 0 (s.bodyCells kind.toNat (a + 64) (s.memNat (a + 8) 4)) i) ∧
    t = { s with regs := t.regs, loadAt := t.loadAt, tmem := t.tmem, tmemBad := t.tmemBad }) ∧
  (∀ (n : Fin 8) (kind : BitVec 2) (a : Nat) (s : State), kind ≠ 3 → s.bankState n.val kind.toNat = Bank.BUSY →
    tget 0 s.loadAt (n.val * 4 + kind.toNat) = a + 1 → s.dd.marks = [] → s.imageErr n.val kind.toNat a ≠ 0 → ∃ t : State,
    t.bankState n.val kind.toNat = Bank.IDLE ∧ t.f (F.SCR_TSTAT_ERR n.val) = s.imageErr n.val kind.toNat a ∧
    t.f (F.SCR_STATUS_LOAD_ERR n.val) = 1 ∧ t = { s with regs := t.regs, loadAt := t.loadAt } ∧
    exec (.tableLoadDone n kind .clean) s = .next (t.raise EV.TBL_LOAD_ERR n.val)) ∧
  (∀ (n : Fin 8) (s : State), s.bankState n.val 2 = Bank.BUSY → tget 0 s.loadAt (n.val * 4 + 2) = 0 → s.dd.marks = [] → ∃ t : State,
    exec (.tableCopyDone n) s = .next t ∧ t.bankState n.val 2 = Bank.EDIT ∧ t.f (F.SCR_TSTAT_ERR n.val) = 0 ∧
    t = { s with regs := t.regs, tmem := t.tmem, tmemBad := t.tmemBad }) ∧
  (∀ (n : Fin 8) (x : BitVec 16) (missing nohelp : Bool) (s : State), s.bankState n.val 2 = Bank.EDIT → x.toNat < s.bankWidth n.val →
    ∃ t : State, exec (.hidingEdit n x missing nohelp) s = .next t ∧ t = { s with tmem := t.tmem } ∧
    t.cell n.val 2 (s.inactive n.val 2) (64 + x.toNat) = b2n missing + 2 * b2n nohelp ∧
    ∀ d k, k ≠ cellKey (bankId n.val 2 (s.inactive n.val 2)) (64 + x.toNat) → tget d t.tmem k = tget d s.tmem k) ∧
  ∀ (n : Fin 8) (x : BitVec 16) (missing nohelp : Bool) (s : State), s.bankState n.val 2 ≠ Bank.EDIT → ∃ t : State,
    Writes [(F.SCR_TSTAT_ERR n.val, 6)] s t ∧ exec (.hidingEdit n x missing nohelp) s = .next t

/-- LEAD_WRITE stores a floor from 16 and a target from the floor to 256, and refuses any other pair. LEADNOW_READ answers the lead and
the lowest lead since the last read, which it sets to the present lead. SCREEN_LINE does nothing under G4 or with no line fetched; an
ordinary line within a gap is screened to blank codes, and an ordinary contone image line, no table word being in error, to the codes of
its nozzles, and its slot becomes SCREENED. A code never exceeds 3 on an inkjet station nor 15 on an EP station. The lead's minimum and
alarm are taken before and after. Completes: leadWrite, leadnowRead, screenLine. (05_screening.md, 14_faults_events_partners.md) -/
def Obligations.ScreeningLines : Prop :=
  (∀ (n : Fin 8) (floor target : BitVec 9) (s : State), 16 ≤ floor.toNat → floor.toNat ≤ target.toNat → target.toNat ≤ 256 → ∃ t : State,
    Writes [(F.SCR_LEAD_FLOOR n.val, floor.toNat), (F.SCR_LEAD_TARGET n.val, target.toNat)] s t ∧
    exec (.leadWrite n floor target) s = .next t) ∧
  (∀ (n : Fin 8) (floor target : BitVec 9) (s : State), (floor.toNat < 16 ∨ target.toNat < floor.toNat ∨ 256 < target.toNat) → ∃ t : State,
    Writes [(F.SCR_STATUS_LEAD_CFG_REJ n.val, 1)] s t ∧ exec (.leadWrite n floor target) s = .next t) ∧
  (∀ (n : Fin 8) (s : State), ∃ t : State,
    Writes [(F.SCR_LEADNOW_MIN n.val, s.lead n.val)]
      { s with answer := .word (BitVec.ofNat 32 (s.lead n.val + min (s.f (F.SCR_LEADNOW_MIN n.val)) (s.lead n.val) * 65536)) } t ∧
    exec (.leadnowRead n) s = .next t) ∧
  (∀ (n : Fin 8) (err : TmemErr) (s : State), (s.on F.EVT_GONG_G4 = true ∨ s.oldestFilled n.val = none) → exec (.screenLine n err) s = .next s) ∧
  (∀ (n : Fin 8) (i : Nat) (x : Slot) (fr : Frame) (a : Int) (s u : State), s.on F.EVT_GONG_G4 = false → s.oldestFilled n.val = some (i, x) →
    u = s.noteLead n.val → x.prov = none → u.frameOf n.val x.lpos = some fr → fr.start = some a → a ≠ x.lpos → a + fr.lines ≤ x.lpos →
    ∃ t : State, t.slot n.val i = some ⟨x.lpos, .screened, none, 0, 0, false⟩ ∧
    t.lst = (u.writeCodes n.val x.lpos (List.replicate (u.f (F.SCR_CFG_WIDTH n.val)) 0)).lst ∧
    t = { u with slots := t.slots, lst := t.lst, count := t.count, resid := t.resid } ∧
    exec (.screenLine n .none) s = .next (t.noteLead n.val)) ∧
  (∀ (n : Fin 8) (i : Nat) (x : Slot) (fr : Frame) (a : Int) (row : List Nat) (j : LineJob) (s u : State), s.on F.EVT_GONG_G4 = false →
    s.oldestFilled n.val = some (i, x) → u = s.noteLead n.val → x.prov = none → u.frameOf n.val x.lpos = some fr → fr.start = some a →
    a ≠ x.lpos → x.lpos < a + fr.lines → fr.form ≠ 2 → u.tmemBad = [] →
    u.rasterRow fr (fr.rasterLine (u.resOf n.val) x.lpos) = some row →
    j = ⟨n.val, u.bankActive n.val 0, u.bankActive n.val 1, u.bankActive n.val 2, row, fr.x0, upscale (u.resOf n.val) fr.res,
      u.f (F.SCR_CFG_WIDTH n.val), x.lpos, []⟩ → ∃ t : State,
    t.slot n.val i = some ⟨x.lpos, .screened, none, 0, 0, false⟩ ∧
    t.lst = (u.writeCodes n.val x.lpos
      ((upFrom 0 (u.f (F.SCR_CFG_WIDTH n.val))).map fun y => (u.contoneCode j (u.on (F.SCR_CFG_KIND n.val)) y).1)).lst ∧
    t = { u with slots := t.slots, lst := t.lst, count := t.count, resid := t.resid, regs := t.regs } ∧
    (∀ y : Field, y.key ≠ (F.SCR_STATUS_HIDE_LOST n.val).key → t.f y = u.f y) ∧
    exec (.screenLine n .none) s = .next (t.noteLead n.val)) ∧
  ∀ (s : State) (j : LineJob) (ep : Bool) (x : Nat), (s.contoneCode j ep x).1 ≤ if ep then 15 else 3

/-- TB brings press time to the next multiple of 600 and, where no STATUS is overdue, sends TB with that time plus the path's delay on
every running lane and marks its STATUS due. SPARE_DELAY_MEASURE sends the first ECHO for a free spare's next unmeasured lane, or gives
the path up. ECHO sums round trips less turnarounds and sends the next; the 64th writes half their mean to INK_Ll_DELAY, or to the spare
path's delay; a spare path longer than 90 ticks is marked not to be given. SPARE_ULOCK sets ULOCK and resumes held timeouts.
LANE_BLOCK_LOCK sets UP. Completes: tb, spareDelayMeasure, echo, spareUlock, laneBlockLock. (06_inkjet_stations.md) -/
def Obligations.TimebaseAndDelays : Prop :=
  (∀ s : State, (∀ l, l < 18 → (s.lane l).due = false) → ∃ t : State, exec .tb s = .next t ∧
    t = { s.advanceTo ((s.time / 600 + 1) * 600) with lanes := t.lanes, free := t.free } ∧
    (∀ l, l < 16 → s.laneLive l = true → (t.lane l).due = true) ∧
    (∀ l, l < 16 → s.laneLive l = true → s.on (F.INK_L_STATUS_SPARED l) = false →
      ∃ q, (t.lane l).sent = ⟨l, q, 0, .tb (tbTime ((s.time / 600 + 1) * 600) (s.f (F.INK_L_DELAY l)))⟩ :: (s.lane l).sent) ∧
    ∀ l, l < 16 → s.laneLive l = false → t.lane l = s.lane l) ∧
  (∀ (sp : Fin 2) (l : Nat) (s : State), (s.lane (16 + sp.val)).measuring = none → s.spareFree sp.val = true →
    s.toMeasure sp.val = some l → ∃ (t : State) (q : Nat), (t.lane (16 + sp.val)).sent = ⟨l, q, 0, .echo⟩ :: (s.lane (16 + sp.val)).sent ∧
    (t.lane (16 + sp.val)).measuring = some l ∧ (t.lane (16 + sp.val)).echoSum = 0 ∧ (t.lane (16 + sp.val)).echoN = 0 ∧
    (∀ k, k ≠ 16 + sp.val → t.lane k = s.lane k) ∧ t = { s with lanes := t.lanes, free := t.free } ∧
    exec (.spareDelayMeasure sp true) s = .next t) ∧
  (∀ (sp : Fin 2) (l : Nat) (s : State), (s.lane (16 + sp.val)).measuring = some l → ∃ t : State,
    Writes [(if sp.val = 0 then F.INK_L_STATUS_NOSPARE0 l else F.INK_L_STATUS_NOSPARE1 l, 1)]
      (s.setLane (16 + sp.val) { s.lane (16 + sp.val) with measuring := none }) t ∧
    exec (.spareDelayMeasure sp false) s = .next t) ∧
  (∀ (l : Fin 18) (trip turn : BitVec 16) (s : State), (s.lane l.val).echoN < 63 → ∃ t : State,
    (t.lane l.val).echoSum = (s.lane l.val).echoSum + trip.toNat - turn.toNat ∧ (t.lane l.val).echoN = (s.lane l.val).echoN + 1 ∧
    (l.val < 16 → s.reachable l.val = true → ∃ q, (t.lane (s.path l.val)).sent = ⟨l.val, q, 0, .echo⟩ :: (s.lane (s.path l.val)).sent) ∧
    (∀ k, k ≠ l.val → (16 ≤ l.val ∨ k ≠ s.path l.val) → t.lane k = s.lane k) ∧ t = { s with lanes := t.lanes, free := t.free } ∧
    exec (.echo l trip turn) s = .next t) ∧
  (∀ (l : Fin 18) (trip turn : BitVec 16) (s : State), l.val < 16 → 63 ≤ (s.lane l.val).echoN → ∃ t : State,
    Writes [(F.INK_L_DELAY l.val, min (meanDelay ((s.lane l.val).echoSum + trip.toNat - turn.toNat)) 4095)] { s with lanes := t.lanes } t ∧
    bitOf (t.lane l.val).measured 2 = true ∧ (t.lane l.val).echoN = 0 ∧ (t.lane l.val).echoSum = 0 ∧
    (∀ k, k ≠ l.val → t.lane k = s.lane k) ∧ exec (.echo l trip turn) s = .next t) ∧
  (∀ (l : Fin 18) (x : Nat) (trip turn : BitVec 16) (s : State), 16 ≤ l.val → 63 ≤ (s.lane l.val).echoN → (s.lane l.val).measuring = some x →
    90 * 16 < meanDelay ((s.lane l.val).echoSum + trip.toNat - turn.toNat) → ∃ t : State,
    Writes [(if l.val = 16 then F.INK_L_SDELAY_SP0 x else F.INK_L_SDELAY_SP1 x,
        min (meanDelay ((s.lane l.val).echoSum + trip.toNat - turn.toNat)) 4095),
        (if l.val = 16 then F.INK_L_STATUS_NOSPARE0 x else F.INK_L_STATUS_NOSPARE1 x, 1)]
      (s.setLane l.val { s.lane l.val with echoSum := 0, echoN := 0, measuring := none }) t ∧ exec (.echo l trip turn) s = .next t) ∧
  (∀ (sp : Fin 2) (s : State), s.on (F.INK_SP_STATUS_IN_USE sp.val) = true → ∃ t : State,
    Writes [(F.INK_SP_STATUS_ULOCK sp.val, 1)] (s.setLane (s.f (F.INK_SP_STATUS_FOR_LANE sp.val))
      { s.lane (s.f (F.INK_SP_STATUS_FOR_LANE sp.val)) with held := none }) t ∧ exec (.spareUlock sp) s = .next t) ∧
  (∀ (sp : Fin 2) (s : State), s.on (F.INK_SP_STATUS_IN_USE sp.val) = false → ∃ t : State,
    Writes [(F.INK_SP_STATUS_ULOCK sp.val, 1)] s t ∧ exec (.spareUlock sp) s = .next t) ∧
  ∀ (l : Fin 18) (up : Bool) (s : State), ∃ t : State, Writes [(F.INK_L_STATUS_UP l.val, b2n up)] s t ∧ exec (.laneBlockLock l up) s = .next t

/-- ACK removes the outstanding messages of its SEQ and SEG; where the one it removes had been resent, the lane counts a transient and
EV_LANE_TRANSIENT is raised. NACK sets NACK_SEEN; ACK_TIMEOUT, which brings press time to 540 ticks after the oldest message left and
sets TIMEOUT, does nothing for an idle lane or with nothing outstanding. Both send a message that has not been resent (and is not a
line's segment) again, on the present path, with the same SEQ and SEG, now marked resent, and count the resend; no other message of the
lane changes but for the tick it leaves. Completes: ack, nack, ackTimeout. (06_inkjet_stations.md) -/
def Obligations.MessagesAcknowledged : Prop :=
  (∀ (l : Fin 16) (seq : BitVec 16) (seg : BitVec 8) (s : State),
    (∀ o ∈ (s.lane l.val).out, o.seq = seq.toNat → o.seg = seg.toNat → o.resent = false) →
    exec (.ack l seq seg) s = .next (s.setLane l.val
      { s.lane l.val with out := (s.lane l.val).out.filter fun o => !decide (o.seq = seq.toNat ∧ o.seg = seg.toNat) })) ∧
  (∀ (l : Fin 16) (seq : BitVec 16) (seg : BitVec 8) (o : OutMsg) (s : State), (s.lane l.val).out = [o] → o.seq = seq.toNat →
    o.seg = seg.toNat → o.resent = true → ∃ t : State,
    Writes [(F.INK_L_TRANS l.val, min (s.f (F.INK_L_TRANS l.val) + 1) (2 ^ (F.INK_L_TRANS l.val).width - 1))]
      (s.setLane l.val { s.lane l.val with out := [] }) t ∧
    exec (.ack l seq seg) s = .next ((t.logRetry 1 EV.LANE_TRANSIENT l.val).raise EV.LANE_TRANSIENT l.val)) ∧
  (∀ (l : Fin 16) (seq : BitVec 16) (seg cause : BitVec 8) (s : State),
    findFirst (fun o => decide (o.seq = seq.toNat ∧ o.seg = seg.toNat)) (s.lane l.val).out = none → ∃ t : State,
    Writes [(F.INK_L_STATUS_NACK_SEEN l.val, 1)] s t ∧ exec (.nack l seq seg cause) s = .next t) ∧
  (∀ (l : Fin 16) (seq : BitVec 16) (seg cause : BitVec 8) (o : OutMsg) (s : State), s.reachable l.val = true →
    findFirst (fun o => decide (o.seq = seq.toNat ∧ o.seg = seg.toNat)) (s.lane l.val).out = some o → o.resent = false →
    (∀ a b c d e f g h, o.msg ≠ .line a b c d e f g h) → ∃ t : State,
    Writes [(F.INK_L_STATUS_NACK_SEEN l.val, 1)] { s with lanes := t.lanes, count := t.count } t ∧
    (t.lane l.val).out.map (fun y => (y.seq, y.seg, y.msg)) = (s.lane l.val).out.map (fun y => (y.seq, y.seg, y.msg)) ∧
    (t.lane l.val).out.map (fun y => y.resent) =
      (s.lane l.val).out.map (fun y => decide (y.seq = o.seq ∧ y.seg = o.seg) || y.resent) ∧
    (∀ y ∈ (t.lane l.val).out, y.seq = o.seq → y.seg = o.seg → y.leftAt = s.leaves (s.path l.val) o.msg) ∧
    (t.lane (s.path l.val)).sent = ⟨l.val, o.seq, o.seg, o.msg⟩ :: (s.lane (s.path l.val)).sent ∧ exec (.nack l seq seg cause) s = .next t) ∧
  (∀ (l : Fin 16) (s : State), ((s.lane l.val).out = [] ∨ s.reachable l.val = false) → exec (.ackTimeout l) s = .next s) ∧
  ∀ (l : Fin 16) (o : OutMsg) (s u : State), oldestOut (s.lane l.val).out = some o → (s.lane l.val).held = none → o.resent = false →
    s.reachable l.val = true → (∀ a b c d e f g h, o.msg ≠ .line a b c d e f g h) → u = s.advanceTo ((o.leftAt + 24) / 25 + 540) → ∃ t : State,
    Writes [(F.INK_L_STATUS_TIMEOUT l.val, 1)] { u with lanes := t.lanes, count := t.count } t ∧
    (t.lane l.val).out.map (fun y => (y.seq, y.seg, y.msg)) = (s.lane l.val).out.map (fun y => (y.seq, y.seg, y.msg)) ∧
    (t.lane l.val).out.map (fun y => y.resent) =
      (s.lane l.val).out.map (fun y => decide (y.seq = o.seq ∧ y.seg = o.seg) || y.resent) ∧
    (∀ y ∈ (t.lane l.val).out, y.seq = o.seq → y.seg = o.seg → y.leftAt = u.leaves (s.path l.val) o.msg) ∧
    (t.lane (s.path l.val)).sent = ⟨l.val, o.seq, o.seg, o.msg⟩ :: (s.lane (s.path l.val)).sent ∧ exec (.ackTimeout l) s = .next t

/-- A NACK of a message that has been resent declares the lane failed: FAILED is set and TBLOCK cleared. Where no spare fits the lane,
its outstanding messages but WAVE ones, which stay unacknowledged, are dropped and EV_LANE_NO_SPARE is raised. Where spare 0 fits,
FOR_LANE, IN_USE, SPARED and SPARE name it, ILS0_SEL selects the lane, the failed lane turns electrically idle, timeouts are held until
the spare locks, the first outstanding message of the lane is SWITCH, and EV_LANE_SPARE_IN is raised. (06_inkjet_stations.md) -/
def Obligations.LaneFailure : Prop :=
  (∀ (l : Fin 16) (seq : BitVec 16) (seg cause : BitVec 8) (o : OutMsg) (s : State), s.reachable l.val = true →
    findFirst (fun o => decide (o.seq = seq.toNat ∧ o.seg = seg.toNat)) (s.lane l.val).out = some o → o.resent = true →
    s.on (F.INK_L_STATUS_SPARED l.val) = false → s.spareFor l.val 0 = false → s.spareFor l.val 1 = false →
    s.f (F.EVT_E_CFG_LEVEL EV.LANE_NO_SPARE) ≠ 2 → ∃ t : State,
    t.f (F.INK_L_STATUS_NACK_SEEN l.val) = 1 ∧ t.f (F.INK_L_STATUS_FAILED l.val) = 1 ∧ t.f (F.INK_L_STATUS_TBLOCK l.val) = 0 ∧
    (t.lane l.val).out = (s.lane l.val).out.filter (fun o => o.msg.isWave) ∧ (t.lane l.val).due = false ∧
    (∀ k, k ≠ l.val → t.lane k = s.lane k) ∧ exec (.nack l seq seg cause) s = .next (t.raiseOwn EV.LANE_NO_SPARE l.val)) ∧
  ∀ (l : Fin 16) (seq : BitVec 16) (seg cause : BitVec 8) (o : OutMsg) (s : State), s.reachable l.val = true →
    findFirst (fun o => decide (o.seq = seq.toNat ∧ o.seg = seg.toNat)) (s.lane l.val).out = some o → o.resent = true →
    s.on (F.INK_L_STATUS_SPARED l.val) = false → s.spareFor l.val 0 = true → ∃ t : State,
    t.f (F.INK_L_STATUS_FAILED l.val) = 1 ∧ t.f (F.INK_L_STATUS_SPARED l.val) = 1 ∧ t.f (F.INK_L_STATUS_SPARE l.val) = 0 ∧
    t.f (F.INK_SP_STATUS_FOR_LANE 0) = l.val ∧ t.f (F.INK_SP_STATUS_IN_USE 0) = 1 ∧ (t.lane l.val).held = some s.time ∧
    t.ilsSel 0 = l.val ∧ t.electricalIdle l.val = true ∧
    (∃ x r, (t.lane l.val).out = x :: r ∧ x.msg = .switch ∧ x.seq = (s.lane l.val).seq) ∧
    exec (.nack l seq seg cause) s = .next (t.raiseF EV.LANE_SPARE_IN l.val)

/-- A good STATUS clears the message's overdue mark, writes TBLOCK, drops the messages its ACK_SEQ covers and marks the committed lines
up to LAST_FIRED as reported by that hub; a broken one is counted, and neither does anything on a lane that has failed or is spared.
TELEMETRY stores a head's temperature and rise and moves its scale. MISSED counts the line, marks it and raises EV_HUB_MISSED. 20 us
after the last fire time of a finished frame the lines not reported are given up. Completes: status, telemetry, missed,
hubSilentTimeout. (06_inkjet_stations.md) -/
def Obligations.HubReports : Prop :=
  (∀ (l : Fin 18) (ackSeq flags fault : BitVec 16) (lastFired : BitVec 32) (drv : BitVec 24) (s : State), l.val < 16 →
    s.on (F.INK_L_STATUS_SPARED l.val) = false → s.laneOpen l.val = true → (s.lane l.val).fresh = false →
    (∀ o ∈ (s.lane l.val).out, o.resent = false) → fault.toNat = (s.lane l.val).faults → fault.getLsbD 0 = false →
    (s.station (l.val / 2)).frames = [] → ∃ t : State,
    Writes [(F.INK_L_STATUS_TBLOCK l.val, flags.toNat)] { s with lanes := t.lanes, st := t.st, count := t.count, dd := { s.dd with sled := t.dd.sled } } t ∧
    (t.lane l.val).due = false ∧ (t.lane l.val).badStatus = 0 ∧
    (t.lane l.val).out = (s.lane l.val).out.filter (fun o => !seqBelow o.seq ackSeq.toNat) ∧
    (t.station (l.val / 2)).lines = (s.station (l.val / 2)).lines.map (fun y =>
      if y.lpos ≤ lastFired.toInt ∧ y.phase = .committed then { y with fired := setBit y.fired (l.val % 2) } else y) ∧
    exec (.status l true ackSeq flags lastFired fault drv) s = .next t) ∧
  (∀ (l : Fin 18) (ackSeq flags fault : BitVec 16) (lastFired : BitVec 32) (drv : BitVec 24) (s : State), l.val < 16 →
    s.on (F.INK_L_STATUS_SPARED l.val) = false → s.laneOpen l.val = true → (s.lane l.val).badStatus = 0 →
    exec (.status l false ackSeq flags lastFired fault drv) s = .next (s.setLane l.val { s.lane l.val with badStatus := 1, due := false })) ∧
  (∀ (l : Fin 18) (ok : Bool) (ackSeq flags fault : BitVec 16) (lastFired : BitVec 32) (drv : BitVec 24) (s : State), l.val < 16 →
    (s.on (F.INK_L_STATUS_SPARED l.val) = true ∨ s.laneOpen l.val = false) → exec (.status l ok ackSeq flags lastFired fault drv) s = .next s) ∧
  (∀ (l : Fin 16) (s : State), exec (.telemetry l true []) s = .next (s.setLane l.val { s.lane l.val with badTelem := 0 })) ∧
  (∀ (l : Fin 16) (heads : List HeadReport) (s : State), (s.lane l.val).badTelem = 0 →
    exec (.telemetry l false heads) s = .next (s.setLane l.val { s.lane l.val with badTelem := 1 })) ∧
  (∀ (l : Fin 16) (n h : Nat) (e : HeadReport) (s : State), n = l.val / 2 → s.headAt n (l.val % 2) e.port.toNat = some h →
    (s.head n h).bad = 0 → e.t.toNat ≠ 0x7FFF → e.t.toInt < (s.head n h).twarn → e.t.toInt < (s.head n h).tlimit → ∃ t : State,
    t = { s with regs := t.regs, lanes := t.lanes, heads := t.heads, count := t.count, resid := t.resid, life := t.life, keeper := t.keeper } ∧
    t.f (F.INK_S_HD_TEMP_T n h) = e.t.toNat ∧ t.f (F.INK_S_HD_TEMP_S n h) = e.s.toNat ∧
    t.f (F.INK_S_HD_SCALE_USED n h) = scaleStep (s.f (F.INK_S_HD_SCALE_USED n h))
      (scaleOf (s.head n h).rank (s.head n h).tcoef (s.head n h).tref e.t.toInt (s.f (F.INK_S_HD_SCALE_AGE n h))) ∧
    exec (.telemetry l true [e]) s = .next t) ∧
  (∀ (l : Fin 16) (seq lseq : BitVec 16) (reason : BitVec 8) (lpos : BitVec 32) (n : Nat) (x : Line) (s : State), n = l.val / 2 →
    ((s.lane l.val).hubSeq = none ∨ (s.lane l.val).hubSeq = some seq.toNat) → (∀ y ∈ s.dd.sled, y.1 = n → y.2.lpos ≠ lpos.toInt) →
    s.lineAt n lpos.toInt = some x → x.phase = .committed → x.miss = false → ∃ t : State,
    Writes [(F.INK_S_MISSED n, min (s.f (F.INK_S_MISSED n) + 1) (2 ^ (F.INK_S_MISSED n).width - 1)), (F.INK_S_STATUS_MISSED n, 1)]
      { s with lanes := t.lanes, st := t.st, count := t.count, free := t.free } t ∧
    t.lineAt n lpos.toInt = some { x with miss := true } ∧ exec (.missed l true seq lseq reason lpos) s = .next (t.raiseF EV.HUB_MISSED n)) ∧
  (∀ (l : Fin 16) (seq lseq : BitVec 16) (reason : BitVec 8) (lpos : BitVec 32) (s : State), ∃ t : State,
    t = { s with lanes := t.lanes, free := t.free } ∧ exec (.missed l false seq lseq reason lpos) s = .next t) ∧
  (∀ (n : Fin 8) (s : State), (∀ x ∈ (s.station n.val).frames, s.frameOver n.val x = false) → exec (.hubSilentTimeout n) s = .next s) ∧
  ∀ (n : Fin 8) (x : Frame) (s : State), findFirst (fun x => s.frameOver n.val x) (s.station n.val).frames = some x →
    s.reportedAll n.val x = false → ∃ u v : State, u = { s.advanceTo (s.lastFireOf n.val x + 12000) with st := u.st } ∧
    (∀ y ∈ (u.station n.val).lines, x.holds y.lpos = true → y.phase = .committed → y.fired &&& s.hubMask n.val = s.hubMask n.val) ∧
    v = u.marksSince u.web.period ∧ exec (.hubSilentTimeout n) s =
      .next (closeDone n.val (fun y => decide (y.index = x.index) || v.reportedAll n.val y) (v.station n.val).frames v)

/-- INK_SB_CMD.GO while BUSY is counted and does nothing else; otherwise it sets BUSY, and the request leaves for the addressed hub
where its lane may send, else not. SB_RSP with result 0 ends the transaction, and a read's data reach INK_SB_DATA0-7; any other result,
or 500 us without a response, repeats the request once and then sets SB_FAIL with the hub's result and raises EV_SIDEBAND_FAIL.
Completes: sidebandGo, sbRsp, sidebandTimeout. (06_inkjet_stations.md) -/
def Obligations.SidebandTransactions : Prop :=
  (∀ s : State, s.on F.INK_SB_STATUS_BUSY = true → ∃ t : State,
    Writes [(F.INK_FLAM_COUNT, min (s.f F.INK_FLAM_COUNT + 1) (2 ^ F.INK_FLAM_COUNT.width - 1))] s t ∧
    exec .sidebandGo s = .next (t.tally 0x235 1)) ∧
  (∀ (l : Nat) (s : State), s.on F.INK_SB_STATUS_BUSY = false → l = 2 * s.f F.INK_SB_CMD_STATION + s.f F.INK_SB_CMD_HUB → ∃ t : State,
    Writes [(F.INK_SB_CMD_GO, 1), (F.INK_SB_STATUS_BUSY, 1), (F.INK_SB_STATUS_RETRIED, 0)]
      { s with sb := ⟨false, l, s.time, some s.sbRequest, none⟩, lanes := t.lanes, free := t.free } t ∧
    (s.reachable l = true → ∃ q, (t.lane (s.path l)).sent = ⟨l, q, 0, s.sbRequest⟩ :: (s.lane (s.path l)).sent) ∧
    (s.reachable l = false → t.lanes = s.lanes) ∧ exec .sidebandGo s = .next t) ∧
  (∀ (l : Fin 16) (seq : BitVec 16) (port addr reg len : Nat) (old data : List (BitVec 8)) (s : State), s.on F.INK_SB_STATUS_BUSY = true →
    s.sb.lane = l.val → s.sb.retry = false → s.sb.req = some (.sbReq false port addr reg len old) →
    ((s.lane l.val).hubSeq = none ∨ (s.lane l.val).hubSeq = some seq.toNat) → ∃ t : State,
    t = { s with regs := t.regs, lanes := t.lanes, free := t.free } ∧
    t.f F.INK_SB_CMD_GO = 0 ∧ t.f F.INK_SB_STATUS_BUSY = 0 ∧ t.f F.INK_SB_STATUS_RESULT = 0 ∧ t.f F.INK_SB_STATUS_RETRIED = 0 ∧
    (∀ i, i < 8 → t.f (F.INK_SB_DATA i) = ofLE (((data.take len).drop (i * 4)).take 4)) ∧
    exec (.sbRsp l true seq 0 data) s = .next t) ∧
  (∀ (l : Fin 16) (seq : BitVec 16) (r : BitVec 3) (data : List (BitVec 8)) (s : State), s.on F.INK_SB_STATUS_BUSY = true →
    s.sb.lane = l.val → s.sb.retry = false → r ≠ 0 → ((s.lane l.val).hubSeq = none ∨ (s.lane l.val).hubSeq = some seq.toNat) → ∃ t : State,
    t = { s with sb := { s.sb with retry := true, at_ := s.time, res := some r.toNat }, lanes := t.lanes, free := t.free } ∧
    (∀ m, s.sb.req = some m → m.acked = false → s.reachable l.val = true → ∃ q, (t.lane (s.path l.val)).sent.head? = some ⟨l.val, q, 0, m⟩) ∧
    exec (.sbRsp l true seq r data) s = .next t) ∧
  (∀ (l : Fin 16) (seq : BitVec 16) (r : BitVec 3) (data : List (BitVec 8)) (s : State), s.on F.INK_SB_STATUS_BUSY = true →
    s.sb.lane = l.val → s.sb.retry = true → r ≠ 0 → ((s.lane l.val).hubSeq = none ∨ (s.lane l.val).hubSeq = some seq.toNat) → ∃ t : State,
    Writes [(F.INK_SB_CMD_GO, 0), (F.INK_SB_STATUS_BUSY, 0), (F.INK_SB_STATUS_RETRIED, 1), (F.INK_SB_STATUS_RESULT, r.toNat),
      (F.INK_S_STATUS_SB_FAIL (l.val / 2), 1)] { s with sb := { s.sb with res := some r.toNat }, lanes := t.lanes, free := t.free } t ∧
    exec (.sbRsp l true seq r data) s = .next ((t.logRetry 2 EV.SIDEBAND_FAIL (l.val / 2)).raise EV.SIDEBAND_FAIL (l.val / 2))) ∧
  (∀ s : State, s.on F.INK_SB_STATUS_BUSY = false → exec .sidebandTimeout s = .next s) ∧
  ∀ s : State, s.on F.INK_SB_STATUS_BUSY = true → s.sb.retry = false → ∃ t : State,
    t = { s.advanceTo (s.sb.at_ + 300000) with
      sb := { s.sb with retry := true, at_ := (s.advanceTo (s.sb.at_ + 300000)).time }
      lanes := t.lanes
      free := t.free } ∧
    exec .sidebandTimeout s = .next t

/-- WAVE_LOAD in a state that allows it reads the image: one without error at an unarmed station puts its 1,024 bytes in the inactive
bank and makes it READY; at an armed station the bank stays BUSY until the hubs have acknowledged it, and fails with code 11 after 2 ms;
an error leaves IDLE with the code in ERR, WAVE_ERR set and EV_WAVE_LOAD_ERR raised, and a command the state does not allow has code 6.
WAVE_CLEAR and WAVE_SWAP follow the same rule. Completes: waveLoad, waveLoadDone, waveLoadTimeout, waveClear, waveSwap.
(06_inkjet_stations.md) -/
def Obligations.WaveformBanks : Prop :=
  (∀ (n : Fin 8) (a : Nat) (s : State), a = s.addr (F.INK_S_WADDR_HI n.val) (F.INK_S_WADDR_LO n.val) →
    s.waveMay n.val [Bank.IDLE, Bank.READY] = true → s.waveImageErr n.val a = 0 → s.armed n.val = false → ∃ t : State,
    Writes [(F.INK_S_WSTAT_ERR n.val, 0), (F.INK_S_WSTAT_STATE n.val, Bank.READY)] { s with waves := t.waves } t ∧
    (∀ i, i < 1024 → tget 0 t.waves (waveKey n.val (1 - s.f (F.INK_S_WSTAT_ACTIVE n.val)) i) = tget 0 s.mem.bytes (a + 64 + i)) ∧
    exec (.waveLoad n .clean) s = .next t) ∧
  (∀ (n : Fin 8) (a : Nat) (s : State), a = s.addr (F.INK_S_WADDR_HI n.val) (F.INK_S_WADDR_LO n.val) →
    s.waveMay n.val [Bank.IDLE, Bank.READY] = true → s.waveImageErr n.val a = 0 → s.armed n.val = true → ∃ t : State,
    Writes [(F.INK_S_WSTAT_ERR n.val, 0), (F.INK_S_WSTAT_STATE n.val, Bank.BUSY), (F.INK_S_WCMD_GO n.val, 1)]
      { s with waves := t.waves, ink := t.ink, lanes := t.lanes } t ∧
    (t.inkSt n.val).waveAt = some s.time ∧ exec (.waveLoad n .clean) s = .next t) ∧
  (∀ (n : Fin 8) (a : Nat) (s : State), a = s.addr (F.INK_S_WADDR_HI n.val) (F.INK_S_WADDR_LO n.val) →
    s.waveMay n.val [Bank.IDLE, Bank.READY] = true → s.waveImageErr n.val a ≠ 0 → ∃ t : State,
    Writes [(F.INK_S_WSTAT_STATE n.val, Bank.IDLE), (F.INK_S_WSTAT_ERR n.val, s.waveImageErr n.val a), (F.INK_S_STATUS_WAVE_ERR n.val, 1)] s t ∧
    exec (.waveLoad n .clean) s = .next (t.raise EV.WAVE_LOAD_ERR n.val)) ∧
  (∀ (n : Fin 8) (e : Ecc) (s : State), s.waveMay n.val [Bank.IDLE, Bank.READY] = false → ∃ t : State,
    Writes [(F.INK_S_WSTAT_ERR n.val, 6), (F.INK_S_STATUS_WAVE_ERR n.val, 1)] s t ∧
    exec (.waveLoad n e) s = .next (t.raise EV.WAVE_LOAD_ERR n.val)) ∧
  (∀ (n : Fin 8) (s : State), s.f (F.INK_S_WSTAT_STATE n.val) = Bank.BUSY → s.wavesOut n.val = false → ∃ t : State,
    Writes [(F.INK_S_WSTAT_STATE n.val, Bank.READY), (F.INK_S_WCMD_GO n.val, 0), (F.INK_S_WSTAT_ERR n.val, 0)]
      (s.setInk n.val { s.inkSt n.val with waveAt := none }) t ∧ exec (.waveLoadDone n) s = .next t) ∧
  (∀ (n : Fin 8) (a : Nat) (s : State), (s.inkSt n.val).waveAt = some a → s.f (F.INK_S_WSTAT_STATE n.val) = Bank.BUSY →
    s.wavesOut n.val = true → ∃ t : State,
    Writes [(F.INK_S_WSTAT_STATE n.val, Bank.IDLE), (F.INK_S_WCMD_GO n.val, 0), (F.INK_S_WSTAT_ERR n.val, 11), (F.INK_S_STATUS_WAVE_ERR n.val, 1)]
      { (s.advanceTo (a + 1200000)).setInk n.val { s.inkSt n.val with waveAt := none } with lanes := t.lanes } t ∧
    t.wavesOut n.val = false ∧ exec (.waveLoadTimeout n) s = .next (t.raise EV.WAVE_LOAD_ERR n.val)) ∧
  (∀ (n : Fin 8) (s : State), s.waveMay n.val [Bank.IDLE, Bank.EDIT, Bank.READY] = true → ∃ t : State,
    Writes [(F.INK_S_WSTAT_STATE n.val, Bank.IDLE), (F.INK_S_WSTAT_ERR n.val, 0)] s t ∧ exec (.waveClear n) s = .next t) ∧
  (∀ (n : Fin 8) (s : State), s.waveMay n.val [Bank.IDLE, Bank.BUSY, Bank.EDIT, Bank.READY] = true → ∃ t : State,
    Writes [(F.INK_S_WSTAT_PEND n.val, 1), (F.INK_S_WSTAT_ERR n.val, 0)] s t ∧ exec (.waveSwap n) s = .next t) ∧
  ∀ (n : Fin 8) (s : State), s.on (F.INK_S_WSTAT_ENGAGED n.val) = true → ∃ t : State,
    Writes [(F.INK_S_WSTAT_ERR n.val, 6), (F.INK_S_STATUS_WAVE_ERR n.val, 1)] s t ∧
    exec (.waveClear n) s = .next (t.raise EV.WAVE_LOAD_ERR n.val) ∧ exec (.waveSwap n) s = .next (t.raise EV.WAVE_LOAD_ERR n.val)

/-- DD_TEST_START does nothing with EN clear or a test running; in sled mode, with the queue empty and no line staged, it starts the
burst of the next nozzle. DD_TEST_DONE classes the pulses of the gate under test that stand within WIN, or 4 WIN, of a drop's fire time
+ FLIGHT: half of the burst, rounded up, on time and wide enough is good, too narrow weak, else in the extended window deviated, else
missing. The result joins the queue; a first result from deviated on asks for a test of the same nozzle, else the next nozzle follows.
INK_DD_RESULT_READ removes and answers the oldest result, or 0. Completes: ddTestStart, ddTestDone, inkDdResultRead.
(06_inkjet_stations.md) -/
def Obligations.DropDetection : Prop :=
  (∀ s : State, (s.on F.INK_DD_CTL_EN = false ∨ s.dd.test ≠ none) → exec .ddTestStart s = .next s) ∧
  (∀ (n : Nat) (s : State), n = s.f F.INK_DD_CTL_STATION → s.on F.INK_DD_CTL_EN = true → s.dd.test = none → s.armed n = true →
    s.dd.closes ≤ s.time → s.on F.INK_DD_CTL_MODE = false → s.on (F.FEED_Q_STATUS_EMPTY n) = true →
    (∀ y ∈ (s.station n).lines, y.phase ≠ .staged) → ∃ t : State, exec .ddTestStart s = .next t ∧
    t.dd.sled.length = s.dd.sled.length + s.f F.INK_DD_CTL_BURST ∧
    t = { s with lanes := t.lanes, dd := { s.dd with
      test := some s.ddNozzle, again := s.dd.retest.isSome, first := s.lineNow n + 1, fire0 := s.time + 6000, sled := t.dd.sled
      closes := s.time + 6000 + (s.f F.INK_DD_CTL_BURST - 1) * s.f F.INK_DD_PERIOD + s.ddTail } }) ∧
  (∀ (pulses : List DropPulse) (s : State), s.dd.test = none → exec (.ddTestDone pulses) s = .next s) ∧
  (∀ (pulses : List DropPulse) (x c : Nat) (u s : State), s.dd.test = some x → s.dd.again = false →
    s.ddResults.length < 64 → c = s.ddClass (s.f F.INK_DD_CTL_STATION) pulses → c ≠ 1 →
    u = s.advanceTo (s.ddCloses (s.f F.INK_DD_CTL_STATION)) → ∃ t : State, exec (.ddTestDone pulses) s = .next t ∧
    t = { u with ddResults := t.ddResults, dd := t.dd, count := t.count } ∧
    t.ddResults = s.ddResults ++ [BitVec.ofNat 32 (2 ^ 31 + c * 2 ^ 29 + s.f F.INK_DD_CTL_STATION * 2 ^ 25 + x)] ∧
    t.dd.test = none ∧ t.dd.closes = u.time ∧ t.dd.retest = (if c = 0 then none else some x) ∧
    t.dd.next = (if c = 0 then some (if s.f F.INK_DD_RANGE_LAST ≤ x then s.f F.INK_DD_RANGE_FIRST else x + 1) else s.dd.next)) ∧
  (∀ (n w : Nat) (ps : List DropPulse) (s : State), s.on F.INK_DD_CTL_MODE = false → s.ddPulses n w ps =
    ((upFrom 0 (s.f F.INK_DD_CTL_BURST)).map fun i => ps.filter fun p => decide (p.gate = s.on F.INK_DD_CTL_GATE) &&
      decide (((p.at_.toNat : Int) - (s.dd.fire0 + i * s.f F.INK_DD_PERIOD + s.f F.INK_DD_TIME_FLIGHT : Nat)).natAbs ≤ w)).flatten) ∧
  (∀ (burst weak onTime width ext : Nat), dropClass burst weak onTime width ext =
    if burst ≤ 2 * onTime then (if weak * onTime ≤ width then 0 else 1) else if burst ≤ 2 * ext then 2 else 3) ∧
  (∀ (w : Word) (r : List Word) (s : State), s.ddResults = w :: r →
    exec .inkDdResultRead s = .next { s with ddResults := r, answer := .word w }) ∧
  ∀ s : State, s.ddResults = [] → exec .inkDdResultRead s = .next { s with answer := .word 0 }

/-- BD_LIGHT_START lights the beam of a station that is armed or far enough in its arm, SCAN_LEAD pixel periods before the predicted
edge; BD_LIGHT_TIMEOUT turns it off. BD_EDGE with no scan staged stores the edge's time, sets BD_OK and turns the beam off; where the
pixel clock relocks on it, LOCKED is set and the beams are no longer blank. BD_MISSING sets BD_MISS and clears BD_OK; a second one in a
row makes the station dark and raises EV_BD_LOST. Completes: bdLightStart, bdLightTimeout, bdEdge, bdMissing. (07_ep_stations.md) -/
def Obligations.BeamDetect : Prop :=
  (∀ (n : Fin 4) (u s : State), s.bdLights n.val = true → (s.epSt n.val).lit = false →
    u = s.advanceTo (s.nextEdge n.val - s.pixTicks n.val (s.f (F.EPS_S_SCAN_LEAD n.val))) →
    exec (.bdLightStart n) s = .next (u.setEp n.val { s.epSt n.val with lit := true, litAt := u.time })) ∧
  (∀ (n : Fin 4) (s : State), (s.bdLights n.val = false ∨ (s.epSt n.val).lit = true) → exec (.bdLightStart n) s = .next s) ∧
  (∀ (n : Fin 4) (u s : State), (s.epSt n.val).lit = true →
    u = s.advanceTo ((s.epSt n.val).litAt + s.pixTicks n.val (2 * s.f (F.EPS_S_SCAN_LEAD n.val))) →
    exec (.bdLightTimeout n) s = .next (u.setEp n.val { s.epSt n.val with lit := false })) ∧
  (∀ (n : Fin 4) (s : State), (s.epSt n.val).lit = false → exec (.bdLightTimeout n) s = .next s) ∧
  (∀ (n : Fin 4) (at_ count : BitVec 64) (relock : Bool) (u s : State), u = s.advanceTo at_.toNat → (s.epSt n.val).scans = [] →
    (s.station n.val).frames = [] → (s.epSt n.val).missing = 0 → s.on (F.EPS_S_STATUS_PHLOCK n.val) = false →
    s.on (F.EPS_S_CFG_FOLLOW n.val) = false → (s.mdll n.val).pend = none → ∃ t : State, exec (.bdEdge n at_ count relock) s = .next t ∧
    t = { u with regs := t.regs, ep := t.ep, clk := t.clk, web := t.web, count := t.count, life := t.life } ∧
    t.f (F.EPS_S_STATUS_BD_OK n.val) = 1 ∧ t.pair (F.EPS_S_BDT_HI n.val) (F.EPS_S_BDT_LO n.val) = u.time % 2 ^ 64 ∧
    (t.epSt n.val).lastBd = some u.time ∧ (t.epSt n.val).lit = false ∧ (t.epSt n.val).run = (s.epSt n.val).run + 1 ∧
    t.f (F.CLK_MDLL_STATUS_LOCKED n.val) = (if relock then 1 else s.f (F.CLK_MDLL_STATUS_LOCKED n.val)) ∧
    (relock = true → s.on (F.CLK_MDLL_STATUS_LOCKED n.val) = false → (t.epSt n.val).blank = false)) ∧
  (∀ (n : Fin 4) (s : State), (s.epSt n.val).lastBd = none → exec (.bdMissing n) s = .next s) ∧
  (∀ (n : Fin 4) (a : Nat) (s : State), (s.epSt n.val).lastBd = some a → (s.epSt n.val).scans = [] → (s.station n.val).frames = [] →
    (s.epSt n.val).missing = 0 → ∃ t : State,
    Writes [(F.EPS_S_STATUS_BD_MISS n.val, 1), (F.EPS_S_STATUS_BD_OK n.val, 0)]
      ((s.advanceTo (s.missAt n.val a)).setEp n.val { s.epSt n.val with missing := 1, run := 0 }) t ∧
    exec (.bdMissing n) s = .next (t.tally (0x148 + n.val) 1)) ∧
  ∀ (n : Fin 4) (a : Nat) (s : State), (s.epSt n.val).lastBd = some a → (s.epSt n.val).scans = [] →
    1 ≤ (s.epSt n.val).missing → (s.epSt n.val).dead = false → ∃ t : State,
    t.f (F.EPS_S_STATUS_BD_LOST n.val) = 1 ∧ t.f (F.EPS_S_STATUS_BD_MISS n.val) = 1 ∧ t.f (F.EPS_S_STATUS_BD_OK n.val) = 0 ∧
    bitOf (t.f F.EVT_KA_STATUS_LASER) n.val = false ∧ (t.epSt n.val).dead = true ∧ (t.epSt n.val).lit = false ∧
    exec (.bdMissing n) s = .next (((t.logRetry 2 EV.BD_MISS n.val).raise EV.BD_LOST n.val).closeEp n.val)

/-- APC_POLL queues READ_STATUS, one READ_DRIVE with the beams in turn, and, while the sideband is in use, SET_TARGET for each changed
target, 1 ms after the last poll. APC_REPLY with no exchange open does nothing; a broken reply repeats the exchange once, and a second
one drops it, sets APC_ERR and raises EV_APC_LINK; a good READ_DRIVE reply stores the drive. Completes: apcPoll, apcReply.
(07_ep_stations.md) -/
def Obligations.BeamPowerExchanges : Prop :=
  (∀ (n : Fin 4) (u s : State), u = s.advanceTo ((s.epSt n.val).polledAt + 600000) → ∃ t : State, exec (.apcPoll n) s = .next t ∧
    t = { u with ep := t.ep } ∧ (t.epSt n.val).polledAt = u.time ∧ (t.epSt n.val).beam = ((s.epSt n.val).beam + 1) % 8 ∧
    (t.epSt n.val).apc = (s.epSt n.val).apc ++ [⟨3, 0, 0, false⟩, ⟨2, (s.epSt n.val).beam, 0, false⟩] ++
      (if (s.epSt n.val).enabled = 0 then [] else s.changedTargets n.val) ∧
    ((s.epSt n.val).enabled ≠ 0 → t.changedTargets n.val = [])) ∧
  (∀ (n : Fin 4) (frame : BitVec 32) (s : State), (s.epSt n.val).apc = [] → exec (.apcReply n frame) s = .next s) ∧
  (∀ (n : Fin 4) (frame : BitVec 32) (a : Apc) (r : List Apc) (s : State), (s.epSt n.val).apc = a :: r → a.retried = false →
    frameCrc frame.toNat ≠ frame.toNat % 256 →
    exec (.apcReply n frame) s = .next (s.setEp n.val { s.epSt n.val with apc := { a with retried := true } :: r })) ∧
  (∀ (n : Fin 4) (frame : BitVec 32) (a : Apc) (r : List Apc) (s : State), (s.epSt n.val).apc = a :: r → a.retried = true →
    frameCrc frame.toNat ≠ frame.toNat % 256 → ∃ t : State,
    Writes [(F.EPS_S_STATUS_APC_ERR n.val, 1)] (s.setEp n.val { s.epSt n.val with apc := r }) t ∧
    exec (.apcReply n frame) s = .next ((t.logRetry 2 EV.APC_TRANSIENT n.val).raise EV.APC_LINK n.val)) ∧
  ∀ (n : Fin 4) (frame : BitVec 32) (a : Apc) (r : List Apc) (s : State), (s.epSt n.val).apc = a :: r → a.retried = false → a.cmd = 2 →
    frameCrc frame.toNat = frame.toNat % 256 → frame.toNat / 2 ^ 28 = 0 → s.f (F.EPS_S_APC_CTL_DRIVE_MAX n.val) = 0 → ∃ t : State,
    Writes [(F.EPS_S_APC_DRIVE n.val a.beam, bitsOf frame.toNat 23 8)] (s.setEp n.val { s.epSt n.val with apc := r }) t ∧
    exec (.apcReply n frame) s = .next t

/-- HV_RAMP_STEP moves the output toward its target by at most RAMP counts and sets RAMPING while it differs, 10 us after its last step;
an output held after an arc does not move. HV_MONITOR_SAMPLE stores the scaled reading and AT_SET; a second low fault input in a row is
an arc, which within 100 ms of another latches the channel at 0 and raises EV_HV_ARC_LASTING. HV_ARC_HOLD_END lets the output ramp again
1 ms after the arc, HV_ARC_WINDOW_END raises EV_HV_ARC for a single arc after 100 ms, and HV_RAMP_TIMEOUT raises EV_HV_RAMP_FAIL where
AT_SET is late. Completes: hvRampStep, hvMonitorSample, hvArcHoldEnd, hvArcWindowEnd, hvRampTimeout. (07_ep_stations.md) -/
def Obligations.HighVoltageChannels : Prop :=
  (∀ (c : Fin 16) (u s : State), u = s.advanceTo ((s.hvCh c.val).stepAt + 6000) → (s.hvCh c.val).holdAt = none →
    (∀ k, (s.station (c.val / 4)).phase ≠ .disarming k) → ∃ t : State,
    Writes [(F.EPS_HV_STATUS_OUT c.val,
          ux 16 (rampTo (s.fs (F.EPS_HV_STATUS_OUT c.val)) (s.hvTarget c.val) (s.f (F.EPS_HV_RAMP_RAMP c.val)))),
        (F.EPS_HV_STATUS_RAMPING c.val, b2n (decide
          (rampTo (s.fs (F.EPS_HV_STATUS_OUT c.val)) (s.hvTarget c.val) (s.f (F.EPS_HV_RAMP_RAMP c.val)) ≠ s.hvTarget c.val)))]
      { u with hv := t.hv } t ∧ (t.hvCh c.val).stepAt = u.time ∧ exec (.hvRampStep c) s = .next t.keepalives) ∧
  (∀ (c : Fin 16) (a : Nat) (u s : State), u = s.advanceTo ((s.hvCh c.val).stepAt + 6000) → (s.hvCh c.val).holdAt = some a →
    (∀ k, (s.station (c.val / 4)).phase ≠ .disarming k) →
    exec (.hvRampStep c) s = .next (u.setHv c.val { s.hvCh c.val with stepAt := u.time })) ∧
  (∀ (c : Fin 16) (raw : BitVec 12) (m : Int) (u s : State), u = s.advanceTo ((s.hvCh c.val).monAt + 12000) →
    m = monOf raw.toNat (s.f (F.EPS_HV_RAMP_MGAIN c.val)) → s.f (F.EPS_HV_CFG_MON c.val) < 16 → s.on (F.EPS_HV_CFG_ARCEN c.val) = false →
    (s.hvCh c.val).holdAt = none → ∃ t : State,
    Writes [(F.EPS_HV_MON c.val, ux 16 m), (F.EPS_HV_STATUS_AT_SET c.val,
        b2n (decide ((m - s.fs (F.EPS_HV_STATUS_OUT c.val)).natAbs ≤ s.f (F.EPS_HV_CFG_TOL c.val) * 16)))]
      { u with hv := t.hv } t ∧ (t.hvCh c.val).fltRun = 0 ∧ (t.hvCh c.val).arcRun = 0 ∧ (t.hvCh c.val).monAt = u.time ∧
    exec (.hvMonitorSample c raw false) s = .next t) ∧
  (∀ (c : Fin 16) (raw : BitVec 12) (a : Nat) (s : State), 1 ≤ (s.hvCh c.val).fltRun → (s.hvCh c.val).holdAt = none →
    (s.hvCh c.val).arcAt = some a → s.on (F.EPS_HV_CFG_EN c.val) = true → s.on (F.EPS_HV_STATUS_ARC_LATCH c.val) = false → ∃ t : State,
    t.f (F.EPS_HV_STATUS_OUT c.val) = 0 ∧ t.f (F.EPS_HV_STATUS_ARC c.val) = 1 ∧ t.f (F.EPS_HV_STATUS_ARC_LATCH c.val) = 1 ∧
    t.f (F.EPS_HV_STATUS_AT_SET c.val) = 0 ∧ t.f (F.EPS_S_STATUS_HV_ARC (c.val / 4)) = 1 ∧ (t.hvCh c.val).arcAt = none ∧
    exec (.hvMonitorSample c raw true) s = .next ((t.logRetry 2 EV.HV_ARC c.val).raise EV.HV_ARC_LASTING c.val)) ∧
  (∀ (c : Fin 16) (a : Nat) (s : State), (s.hvCh c.val).holdAt = some a →
    exec (.hvArcHoldEnd c) s = .next ((s.advanceTo (a + 600000)).setHv c.val { s.hvCh c.val with holdAt := none })) ∧
  (∀ (c : Fin 16) (a : Nat) (s : State), (s.hvCh c.val).arcAt = some a → exec (.hvArcWindowEnd c) s = .next
    ((((s.advanceTo (a + 60000000)).setHv c.val { s.hvCh c.val with arcAt := none }).logRetry 1 EV.HV_ARC c.val).raiseOwn EV.HV_ARC c.val)) ∧
  (∀ (c : Fin 16) (a : Nat) (s : State), (s.hvCh c.val).rampBy = some a → s.on (F.EPS_HV_STATUS_AT_SET c.val) = false →
    exec (.hvRampTimeout c) s = .next
      (((s.advanceTo a).setHv c.val { s.hvCh c.val with rampBy := none }).raise EV.HV_RAMP_FAIL c.val)) ∧
  ∀ (c : Fin 16) (s : State), s.on (F.EPS_HV_STATUS_AT_SET c.val) = true → exec (.hvRampTimeout c) s = .next s

/-- ZC_EDGE adds M, at most N, to each zone's accumulator and heats the zone in the cycle in which it reaches N, which it then
subtracts, unless the device holds the zone low. ZC_LOST, with a zone enabled, turns both off, sets ZC_LOST and raises EV_FUSER_ZC_LOST.
FUSER_CUT with a threshold set turns the zone off, sets CUT, drives KA_FUSER static and raises EV_FUSER_CUT. FUSER_CUT_CLEAR clears CUT
only with the zone disabled and its input above the threshold. The keepalives follow. Completes: zcEdge, zcLost, fuserCut,
fuserCutClear. (07_ep_stations.md) -/
def Obligations.FuserZones : Prop :=
  (∀ (s : State) (d m : Nat → Nat), (∀ z, d z = max 1 (s.f (F.EPS_FZ_DUTY_N z))) → (∀ z, m z = min (d z) (s.f (F.EPS_FZ_DUTY_M z))) →
    ∃ t : State,
    Writes [(F.EPS_FZ_STATUS_HEAT 0, b2n (decide (d 0 ≤ (s.zone 0).acc + m 0) && !s.fuserHeld 0)),
        (F.EPS_FZ_STATUS_HEAT 1, b2n (decide (d 1 ≤ (s.zone 1).acc + m 1) && !s.fuserHeld 1))]
      { s with zcAt := s.time, fuser := t.fuser, count := t.count, life := t.life } t ∧
    (∀ z, z < 2 → (t.zone z).acc = if d z ≤ (s.zone z).acc + m z then (s.zone z).acc + m z - d z else (s.zone z).acc + m z) ∧
    exec .zcEdge s = .next t) ∧
  (∀ s : State, (s.on (F.EPS_FZ_CTL_EN 0) = true ∨ s.on (F.EPS_FZ_CTL_EN 1) = true) → ∃ t : State,
    Writes [(F.EPS_FZ_STATUS_HEAT 0, 0), (F.EPS_FZ_STATUS_HEAT 1, 0), (F.EPS_FZ_STATUS_ZC_LOST 0, 1), (F.EPS_FZ_STATUS_ZC_LOST 1, 1)]
      { s.advanceTo (s.zcAt + 24000000) with fuser := t.fuser } t ∧ (t.zone 0).ssr = false ∧ (t.zone 1).ssr = false ∧
    t.keepalives.on F.EVT_KA_STATUS_FUSER = false ∧
    exec .zcLost s = .next (t.keepalives.raiseX EV.FUSER_ZC_LOST)) ∧
  (∀ s : State, s.on (F.EPS_FZ_CTL_EN 0) = false → s.on (F.EPS_FZ_CTL_EN 1) = false → exec .zcLost s = .next s) ∧
  (∀ (z : Fin 2) (s : State), s.f (F.EPS_FZ_CUT z.val) ≠ 0 → ∃ t : State,
    Writes [(F.EPS_FZ_STATUS_HEAT z.val, 0), (F.EPS_FZ_STATUS_CUT z.val, 1)]
      (s.setZone z.val { s.zone z.val with ssr := false }) t ∧ t.keepalives.on F.EVT_KA_STATUS_FUSER = false ∧
    exec (.fuserCut z) s = .next (t.keepalives.raise EV.FUSER_CUT z.val)) ∧
  (∀ (z : Fin 2) (s : State), s.f (F.EPS_FZ_CUT z.val) = 0 → exec (.fuserCut z) s = .next s) ∧
  (∀ (z : Fin 2) (s : State), s.on (F.EPS_FZ_CTL_EN z.val) = false → ∃ t : State,
    Writes [(F.EPS_FZ_STATUS_CUT z.val, 0)] s t ∧ exec (.fuserCutClear z true) s = .next t.keepalives) ∧
  ∀ (z : Fin 2) (above : Bool) (s : State), (above = false ∨ s.on (F.EPS_FZ_CTL_EN z.val) = true) →
    exec (.fuserCutClear z above) s = .next s

/-- CONFIRM_CHECK of a staged line at its check time, 1,800 ticks or more before its fire time, no change set being due and no G4: with
|e| within CWIN the effect, oldest of its region, leaves and the line is committed; beyond it the effect and all younger ones go, the
mallet resumes at SQH two ticks later with cause CONFIRM, the line is squashed and EV_SPEC_SQUASH is raised. A line that is not staged
is left as it is. HELD_SQUASH squashes a confirmed line held behind an older effect, and does nothing to one not confirmed. Completes:
confirmCheck, heldSquash. (08_job_change_speculation_ledger.md, 10_mallet_instructions.md) -/
def Obligations.ConfirmOfLines : Prop :=
  (∀ (n : Fin 8) (lpos : BitVec 32) (count : BitVec 64) (x : Line) (e : Effect) (u v s : State) (pm : Int),
    s.lineAt n.val lpos.toInt = some x → x.phase = .staged → (s.mallet x.mallet).region.effs = [e] → e.eff = .line n.val lpos.toInt →
    u = s.advanceTo (max (x.fire - s.clead n.val) x.staged) → (pm, v) = u.measured count.toInt →
    (s.on F.WEB_STATUS_COASTING = true ∨ (v.confirmError n.val pm x).natAbs ≤ s.cwin n.val * 256) →
    (s.csOrder fun q => s.csOpen q n.val) = [] → s.g4 = false → u.time + 1800 ≤ x.fire → ∃ t : State,
    exec (.confirmCheck n lpos count) s = .next t ∧
    (t.lineAt n.val lpos.toInt).map (fun y => { y with msgs := x.msgs }) = some { x with phase := .committed } ∧ (t.mallet x.mallet).region.effs = [] ∧ t.time = u.time ∧
    t.regs = s.regs) ∧
  (∀ (n : Fin 8) (lpos : BitVec 32) (count : BitVec 64) (x : Line) (e : Effect) (u v s : State) (pm : Int),
    s.lineAt n.val lpos.toInt = some x → x.phase = .staged → (s.mallet x.mallet).region.effs = [e] → e.eff = .line n.val lpos.toInt →
    (s.mallet x.mallet).run = .running → u = s.advanceTo (max (x.fire - s.clead n.val) x.staged) → (pm, v) = u.measured count.toInt →
    s.on F.WEB_STATUS_COASTING = false → s.cwin n.val * 256 < (v.confirmError n.val pm x).natAbs → ∃ t : State,
    exec (.confirmCheck n lpos count) s = .next (t.raiseLow EV.SPEC_SQUASH n.val) ∧
    Writes [(F.CHG_S_STATUS_SQUASH n.val, 1)] { v with st := t.st, mlt := t.mlt, count := t.count } t ∧
    t.lineAt n.val lpos.toInt = some { x with phase := .squashed } ∧ (t.mallet x.mallet).region.effs = [] ∧
    (t.mallet x.mallet).pc = (s.mallet x.mallet).sqh ∧ (t.mallet x.mallet).k = e.cp.k ∧ (t.mallet x.mallet).ready = u.time + 2 ∧
    (t.mallet x.mallet).cause = BitVec.ofNat 32 (Squash.CONFIRM + e.port % 256 * 256)) ∧
  (∀ (n : Fin 8) (lpos : BitVec 32) (count : BitVec 64) (x : Line) (s : State), s.lineAt n.val lpos.toInt = some x → x.phase ≠ .staged →
    exec (.confirmCheck n lpos count) s = .next s ∧ exec (.heldSquash n lpos) s = .next s) ∧
  (∀ (n : Fin 8) (lpos : BitVec 32) (count : BitVec 64) (s : State), s.lineAt n.val lpos.toInt = none →
    exec (.confirmCheck n lpos count) s = .next s ∧ exec (.heldSquash n lpos) s = .next s) ∧
  ∀ (n : Fin 8) (lpos : BitVec 32) (x : Line) (d e : Effect) (s : State), s.lineAt n.val lpos.toInt = some x → x.phase = .staged →
    (s.mallet x.mallet).region.effs = [d, e] → d.eff ≠ .line n.val lpos.toInt → e.eff = .line n.val lpos.toInt →
    (e.conf = false → exec (.heldSquash n lpos) s = .next s) ∧
    (e.conf = true → (s.mallet x.mallet).run = .running → ∃ t : State,
      exec (.heldSquash n lpos) s = .next (t.raiseLow EV.SPEC_SQUASH n.val) ∧ (t.mallet x.mallet).region.effs = [d] ∧
      (t.mallet x.mallet).cause = BitVec.ofNat 32 (Squash.HELD + e.port % 256 * 256) ∧
      (t.mallet x.mallet).pc = (s.mallet x.mallet).sqh ∧ t.time = (s.advanceTo (x.fire - 1800)).time)

/-- CS_QUEUE gives the record, where no check of R239 fails, to the lowest free slot with the next epoch, its mask, job and splice, and
raises EV_CS_QUEUED; the failing check's code otherwise stands in RESULT.REJ with EV_CS_REJECT. CS_CANCEL of an unknown epoch is refused
with 9 and of one some station applied with 8; the cancel of the only pending change set frees its slot and raises EV_CS_CANCELLED.
Completes: csQueue, csCancel. (08_job_change_speculation_ledger.md) -/
def Obligations.ChangeSets : Prop :=
  (∀ (a q : Nat) (s : State), a = s.addr F.CHG_CS_ADDR_HI F.CHG_CS_ADDR_LO → s.csFree = some q → s.csRefusal a = 0 → ∃ t : State,
    Writes [(F.CHG_CS_STATE_EPOCH q, s.nextEpoch), (F.CHG_CS_STATE_MASK q, s.memNat (a + 0x14) 1), (F.CHG_CS_STATE_STATE q, 1),
        (F.CHG_CS_DONE_APPLIED q, 0), (F.CHG_CS_DONE_NOTAPP q, 0), (F.CHG_CS_JOB q, s.memNat (a + 0x10) 4),
        (F.CHG_CS_RESULT_EPOCH, s.nextEpoch), (F.CHG_CS_RESULT_REJ, 0), (F.CHG_CS_SPLICE_LO q, s.memNat (a + 8) 8),
        (F.CHG_CS_SPLICE_HI q, s.memNat (a + 8) 8 / 2 ^ (F.CHG_CS_SPLICE_LO q).width),
        (F.CHG_STATUS_PEND, ((upFrom 0 4).filter fun p => decide (p = q ∨ s.f (F.CHG_CS_STATE_STATE p) ≠ 0)).length)]
      { s with cs := tput CsExtra.reset s.cs q (s.csExtraAt a), nextEpoch := nextEpochOf s.nextEpoch } t ∧
    exec (.csQueue .clean) s = .next (t.raise EV.CS_QUEUED s.nextEpoch)) ∧
  (∀ (a : Nat) (s : State), a = s.addr F.CHG_CS_ADDR_HI F.CHG_CS_ADDR_LO → s.csRefusal a ≠ 0 → ∃ t : State,
    Writes [(F.CHG_CS_RESULT_REJ, s.csRefusal a), (F.CHG_STATUS_REJECTED, 1)] s t ∧
    exec (.csQueue .clean) s = .next (t.raise EV.CS_REJECT 0)) ∧
  (∀ (e : Nat) (s : State), e = s.f F.CHG_CS_CMD_EPOCH →
    (∀ q, q < 4 → s.f (F.CHG_CS_STATE_STATE q) ≠ 0 → s.f (F.CHG_CS_STATE_EPOCH q) ≠ e) → ∃ t : State,
    Writes [(F.CHG_CS_RESULT_REJ, 9), (F.CHG_STATUS_REJECTED, 1)] s t ∧ exec .csCancel s = .next (t.raise EV.CS_REJECT e)) ∧
  (∀ (e q : Nat) (s : State), e = s.f F.CHG_CS_CMD_EPOCH → (s.csOrder fun q => decide (s.f (F.CHG_CS_STATE_STATE q) ≠ 0)) = [q] →
    s.f (F.CHG_CS_STATE_EPOCH q) = e → s.f (F.CHG_CS_DONE_APPLIED q) ≠ 0 → ∃ t : State,
    Writes [(F.CHG_CS_RESULT_REJ, 8), (F.CHG_STATUS_REJECTED, 1)] s t ∧ exec .csCancel s = .next (t.raise EV.CS_REJECT e)) ∧
  ∀ (e q : Nat) (s : State), e = s.f F.CHG_CS_CMD_EPOCH → (s.csOrder fun q => decide (s.f (F.CHG_CS_STATE_STATE q) ≠ 0)) = [q] →
    s.f (F.CHG_CS_STATE_EPOCH q) = e → s.f (F.CHG_CS_DONE_APPLIED q) = 0 → ∃ t : State,
    t.f (F.CHG_CS_STATE_STATE q) = 0 ∧ t.f F.CHG_STATUS_CANCELLED = 1 ∧ t.f F.CHG_CS_RESULT_REJ = 0 ∧ t.f F.CHG_CS_RESULT_EPOCH = e ∧
    exec .csCancel s = .next (t.raise EV.CS_CANCELLED e)

/-- ROLE_ASSIGN is refused with the code of its first failing check, and otherwise gives the role's next epoch to the mallet, loads the
image and starts it at ENTRY. ROLE_RELEASE of a role bound to an armed station is refused with 4, and otherwise leaves its mallet idle
without messages. HOST_HALT halts a running mallet with reason 2 and leaves an idle one. WDOG takes exception 0x0D WDOG ticks after the
last wait. TAKEOVER_START starts a loading spare at TAKE. Completes: roleAssign, roleRelease, hostHalt, wdog, takeoverStart.
(09_mallets_programming_model.md) -/
def Obligations.RoleCommands : Prop :=
  (∀ (role mallet : BitVec 6) (s : State), 35 < mallet.toNat → ∃ t : State,
    Writes [(F.MLT_ASSIGN_RESULT_EPOCH, (s.role role.toNat).epoch), (F.MLT_ASSIGN_RESULT_ERR, 7)] s t ∧
    exec (.roleAssign role mallet) s = .next t) ∧
  (∀ (role mallet : BitVec 6) (s : State), mallet.toNat ≤ 35 →
    ((s.mallet mallet.toNat).role ≠ none ∨ s.reserved mallet.toNat = true) → ∃ t : State,
    Writes [(F.MLT_ASSIGN_RESULT_EPOCH, (s.role role.toNat).epoch), (F.MLT_ASSIGN_RESULT_ERR, 1)] s t ∧
    exec (.roleAssign role mallet) s = .next t) ∧
  (∀ (role mallet : BitVec 6) (s : State), mallet.toNat ≤ 35 → (s.mallet mallet.toNat).role = none → s.reserved mallet.toNat = false →
    (s.role role.toNat).image = none → ∃ t : State,
    Writes [(F.MLT_ASSIGN_RESULT_EPOCH, (s.role role.toNat).epoch), (F.MLT_ASSIGN_RESULT_ERR, 3)] s t ∧
    exec (.roleAssign role mallet) s = .next t) ∧
  (∀ (role mallet : BitVec 6) (r m : Nat) (bs : List Byte) (code : Nat) (s : State), r = role.toNat → m = mallet.toNat → m ≤ 35 →
    (s.mallet m).role = none → s.reserved m = false → (s.role r).image = some bs →
    code = (if imgKind bs ≠ malletKind m then 2 else if s.roleArmed r = true then 4 else if malletSpare m = 1 then 5
      else if s.powered (malletDomain m) = false then 8 else 0) →
    (code ≠ 0 → ∃ t : State, Writes [(F.MLT_ASSIGN_RESULT_EPOCH, (s.role r).epoch), (F.MLT_ASSIGN_RESULT_ERR, code)] s t ∧
      exec (.roleAssign role mallet) s = .next t) ∧
    (code = 0 → (s.role r).holder = none → ∃ t : State, exec (.roleAssign role mallet) s = .next t ∧
      t.f F.MLT_ASSIGN_RESULT_ERR = 0 ∧ t.f F.MLT_ASSIGN_RESULT_EPOCH = (t.role r).epoch % 65536 ∧ (t.role r).holder = some m ∧
      (t.role r).epoch = (if (s.role r).epoch = 65535 then 1 else (s.role r).epoch + 1) ∧ (t.mallet m).run = .running ∧
      (t.mallet m).role = some r ∧ (t.mallet m).pc = (s.role r).entry % 16384 ∧ (t.mallet m).wait = none ∧
      (∀ i, i < imgIcount bs → i < 16384 → tget 0 t.imem (16384 * m + i) = BitVec.ofNat 32 (numAt bs (64 + i * 4) 4)) ∧
      t = { s with regs := t.regs, mlt := t.mlt, roles := t.roles, imem := t.imem, dmem := t.dmem, mltPoison := t.mltPoison })) ∧
  (∀ (role : BitVec 6) (s : State), s.roleArmed role.toNat = true → ∃ t : State,
    Writes [(F.MLT_ASSIGN_RESULT_EPOCH, (s.role role.toNat).epoch), (F.MLT_ASSIGN_RESULT_ERR, 4)] s t ∧
    exec (.roleRelease role) s = .next t) ∧
  (∀ (role : BitVec 6) (m : Nat) (s : State), s.roleArmed role.toNat = false → (s.role role.toNat).holder = some m →
    (s.mallet m).region.effs = [] → ∃ t : State, exec (.roleRelease role) s = .next t ∧ (t.role role.toNat).holder = none ∧
    (t.mallet m).run = .idle ∧ (t.mallet m).role = none ∧ (t.mallet m).inq = [] ∧ t.f F.MLT_ASSIGN_RESULT_ERR = 0 ∧
    t = { s with regs := t.regs, mlt := t.mlt, roles := t.roles, count := t.count }) ∧
  (∀ (m : Fin 36) (r : Nat) (s : State), (s.mallet m.val).run = .running → (s.mallet m.val).role = some r →
    (s.mallet m.val).region.effs = [] → ∃ t : State, exec (.hostHalt m) s = .next (t.raise EV.MLT_HALT m.val) ∧
    t = { s with mlt := t.mlt, count := t.count } ∧ (t.mallet m.val).run = .halted ∧ (t.mallet m.val).why = 2 ∧
    (t.mallet m.val).wait = none ∧ (t.mallet m.val).k = (s.mallet m.val).k) ∧
  (∀ (m : Fin 36) (s : State), ((s.mallet m.val).run = .idle ∨ (s.mallet m.val).run = .halted) → exec (.hostHalt m) s = .next s) ∧
  (∀ (m : Fin 36) (u s : State), (s.mallet m.val).run = .running → (s.mallet m.val).wait = none → s.f (F.MLT_M_WDOG m.val) ≠ 0 →
    (s.mallet m.val).exl = false → (s.mallet m.val).region.isOpen = false →
    u = s.advanceTo ((s.mallet m.val).lastWait + s.f (F.MLT_M_WDOG m.val)) → ∃ t : State,
    Writes [(F.MLT_M_STATUS_EXC m.val, 1)] { u with mlt := t.mlt, count := t.count } t ∧ (t.mallet m.val).exl = true ∧
    (t.mallet m.val).epc = (s.mallet m.val).pc % 16384 ∧ (t.mallet m.val).pc = (s.mallet m.val).evec % 16384 ∧
    (t.mallet m.val).cause = 0x0D ∧ (t.mallet m.val).ready = u.time + 1 ∧ (∀ k, k ≠ m.val → t.mallet k = s.mallet k) ∧
    exec (.wdog m) s = .next ((t.raise EV.MLT_EXC m.val).mapMallet m.val fun y => { y with lastWait := u.time })) ∧
  (∀ (m : Fin 36) (s : State), ((s.mallet m.val).wait ≠ none ∨ s.f (F.MLT_M_WDOG m.val) = 0) → exec (.wdog m) s = .next s) ∧
  (∀ (m : Fin 36) (r : Nat) (s : State), (s.mallet m.val).run = .loading → (s.mallet m.val).role = some r → ∃ t : State,
    (t.mallet m.val).run = .running ∧ (t.mallet m.val).pc = (s.role r).take % 16384 ∧ (t.mallet m.val).role = some r ∧
    t = { s with regs := t.regs, mlt := t.mlt, imem := t.imem, dmem := t.dmem, mltPoison := t.mltPoison, count := t.count } ∧
    exec (.takeoverStart m) s = .next (t.raise EV.MLT_TAKEOVER m.val)) ∧
  ∀ (m : Fin 36) (s : State), (s.mallet m.val).run ≠ .loading → exec (.takeoverStart m) s = .next s

/-- HOST_SEND puts the four words of MLT_HOST_TX on the carillon from role 62; HOST_RX_POP drops the oldest received message.
CARILLON_DELIVER gives a sender's oldest message to the holder of its role where the epoch is the present one and the queue has room; a
message of the host to a role without a holder comes back with reason 3. TIMED_PIN_ACTION acts on the pin at its tick. LOOP_TIMER_ENABLE
starts a timer or refuses a role that is taken; LOOP_TIMER_FIRE passes to the next firing and wakes the role's waiting mallet 8 ticks
later, or counts LATE. Completes: hostSend, hostRxPop, carillonDeliver, timedPinAction, loopTimerEnable, loopTimerFire.
(09_mallets_programming_model.md, 11_loops_and_axes.md) -/
def Obligations.CarillonAndTimers : Prop :=
  (∀ s : State, exec .hostSend s = .next { s with flights := s.flights ++ [⟨62, 0, none,
    ⟨BitVec.ofNat 32 (s.f (F.MLT_HOST_TX 0)), BitVec.ofNat 32 (s.f (F.MLT_HOST_TX 1)), BitVec.ofNat 32 (s.f (F.MLT_HOST_TX 2)),
      BitVec.ofNat 32 (s.f (F.MLT_HOST_TX 3))⟩⟩] }) ∧
  (∀ s : State, exec .hostRxPop s = .next { s with hostRx := s.hostRx.drop 1 }) ∧
  (∀ (x : BitVec 6) (s : State), (∀ f ∈ s.flights, f.from_ ≠ x.toNat) → exec (.carillonDeliver x) s = .next s) ∧
  (∀ (x : BitVec 6) (f : Flight) (rest : List Flight) (m : Nat) (s : State), takeFlight x.toNat s.flights = some (f, rest) →
    f.msg.drole < 62 → (s.role f.msg.drole).holder = some m → f.msg.epoch = (s.role f.msg.drole).epoch →
    (s.mallet m).inq.length < 64 → exec (.carillonDeliver x) s = .next
      (({ s with flights := rest }.setMallet m { s.mallet m with inq := (s.mallet m).inq ++ [f.delivered] }).tally 0x008 1)) ∧
  (∀ (x : BitVec 6) (f : Flight) (rest : List Flight) (u s : State), takeFlight x.toNat s.flights = some (f, rest) →
    f.msg.drole < 62 → (s.role f.msg.drole).holder = none → f.mallet = none → f.from_ = 62 → s.hostRx.length < 64 →
    u = ({ s with flights := rest }.tally 0x009 1).raiseX EV.MLT_BOUNCE → exec (.carillonDeliver x) s = .next
      { u with hostRx := s.hostRx ++ [(true, { f.msg with w0 := header 0 f.msg.drole 3 f.msg.tag })] }) ∧
  (∀ s : State, s.timed = [] → exec .timedPinAction s = .next s) ∧
  (∀ (a g act w : Nat) (u s : State), s.timed = [(a, g, act, w)] → u = s.advanceTo a → ∃ t : State, exec .timedPinAction s = .next t ∧
    t = { u with timed := t.timed, gpio := t.gpio } ∧
    tget 0 t.gpio g = (if act = 0 then 0 else if act = 2 then 1 - tget 0 s.gpio g else 1) ∧
    (∀ k, k ≠ g → tget 0 t.gpio k = tget 0 s.gpio k) ∧ t.timed = if act < 3 then [] else [(u.time + w, g, 0, 0)]) ∧
  (∀ (t : Fin 16) (role : BitVec 6) (s : State), s.on (F.AXS_LT_CTL_EN t.val) = false → role.toNat ≠ 62 →
    (∀ i, i < 16 → i ≠ t.val → s.on (F.AXS_LT_CTL_EN i) = true → s.f (F.AXS_LT_CTL_ROLE i) ≠ role.toNat) → ∃ u : State,
    Writes [(F.AXS_LT_CTL_ROLE t.val, role.toNat), (F.AXS_LT_CTL_EN t.val, 1), (F.AXS_LT_STATUS_RUNNING t.val, 1)]
      { s with timers := tput 0 s.timers t.val s.time } u ∧ exec (.loopTimerEnable t role) s = .next u) ∧
  (∀ (t : Fin 16) (i : Nat) (role : BitVec 6) (s : State), s.on (F.AXS_LT_CTL_EN t.val) = false →
    (role.toNat = 62 ∨ role.toNat < 62 ∧ i < 16 ∧ i ≠ t.val ∧ s.on (F.AXS_LT_CTL_EN i) = true ∧ s.f (F.AXS_LT_CTL_ROLE i) = role.toNat) →
    ∃ u : State, Writes [(F.AXS_LT_CTL_ROLE t.val, role.toNat), (F.AXS_LT_STATUS_REFUSED t.val, 1)] s u ∧
    exec (.loopTimerEnable t role) s = .next u) ∧
  (∀ (t : Fin 16) (l : List AxisSample) (s : State), s.on (F.AXS_LT_CTL_EN t.val) = false → exec (.loopTimerFire t l) s = .next s) ∧
  (∀ (t : Fin 16) (l : List AxisSample) (m : Nat) (u s : State), s.on (F.AXS_LT_CTL_EN t.val) = true →
    (∀ a, a < 24 → s.on (F.AXS_A_CTL_EN a) = true → s.f (F.AXS_A_CFG_TIMER a) ≠ t.val) → s.f (F.AXS_LT_CTL_ROLE t.val) < 62 →
    (s.role (s.f (F.AXS_LT_CTL_ROLE t.val))).holder = some m → (s.mallet m).run = .running → (s.mallet m).waitsTimer = true →
    u = s.advanceTo (s.nextFiring t.val) → exec (.loopTimerFire t l) s = .next
      (({ u with timers := tput 0 s.timers t.val (s.nextFiring t.val) }.tally (0x1F0 + t.val) 1).setMallet m
        { s.mallet m with timerAt := some (u.time + 8) })) ∧
  (∀ (t : Fin 16) (l : List AxisSample) (s : State), s.on (F.AXS_LT_CTL_EN t.val) = true →
    (∀ a, a < 24 → s.on (F.AXS_A_CTL_EN a) = true → s.f (F.AXS_A_CFG_TIMER a) ≠ t.val) → s.f (F.AXS_LT_CTL_ROLE t.val) < 62 →
    (s.role (s.f (F.AXS_LT_CTL_ROLE t.val))).holder = none → ∃ v : State,
    Writes [(F.AXS_LT_STATUS_LATE t.val, min (s.f (F.AXS_LT_STATUS_LATE t.val) + 1) (2 ^ (F.AXS_LT_STATUS_LATE t.val).width - 1))]
      { s.advanceTo (s.nextFiring t.val) with timers := tput 0 s.timers t.val (s.nextFiring t.val), count := v.count } v ∧
    exec (.loopTimerFire t l) s = .next v) ∧
  ∀ (t : Fin 16) (s : State), 4000 ≤ s.f (F.AXS_LT_PERIOD t.val) →
    tget 0 s.timers t.val < s.nextFiring t.val ∧ s.nextFiring t.val ≤ tget 0 s.timers t.val + s.f (F.AXS_LT_PERIOD t.val) ∧
    s.nextFiring t.val % s.f (F.AXS_LT_PERIOD t.val) = s.f (F.AXS_LT_PHASE t.val) % s.f (F.AXS_LT_PERIOD t.val)

/-- AXIS_ENABLE of an axis whose inputs clash, do not fit or whose home ball is wrong sets CFG_ERR; otherwise the axis is IDLE on its
main input with EN set. AXIS_SWITCH asks for the main input. AXIS_COAST_EXPIRED, one coast time after the coast began, sets COAST_EXP,
clears HOMED and raises EV_AXS_COAST_EXPIRED. AXS_TABLE_LOAD, CLEAR and SWAP act in the states R146 allows and otherwise leave ERR 6, or
1 for an unknown kind, with EV_AXS_TBL_LOAD_ERR; a good load puts the image's entries in the bank, and INDEX_PULSE swaps a READY bank
that is pending. Completes: axisEnable, axisSwitch, axisCoastExpired, axsTableLoad, axsTableLoadDone, axsTableClear, axsTableSwap,
indexPulse. (11_loops_and_axes.md) -/
def Obligations.AxisEnables : Prop :=
  (∀ (a : Fin 24) (s : State), s.on (F.AXS_A_CTL_EN a.val) = true → exec (.axisEnable a) s = .next s) ∧
  (∀ (a : Fin 24) (s : State), s.on (F.AXS_A_CTL_EN a.val) = false → s.homeFits a.val = true →
    (∀ i ∈ s.axInputsUsed a.val, s.axSsiFits a.val i = true ∧ s.webClaims i = false ∧
      ∀ b : Fin 24, b ≠ a → s.on (F.AXS_A_CTL_EN b.val) = true → i ∉ s.axInputsUsed b.val) → ∃ t : State,
    Writes [(F.AXS_A_CTL_EN a.val, 1), (F.AXS_A_STATUS_CFG_ERR a.val, 0), (F.AXS_A_STATUS_STATE a.val, Ax.IDLE),
        (F.AXS_A_STATUS_FBUSE a.val, 0), (F.AXS_A_STATUS_COASTING a.val, 0), (F.AXS_A_STATUS_SYNC a.val, 0),
        (F.AXS_A_GSTAT_HOLDING a.val, 0), (F.AXS_A_GSTAT_ABSORB a.val, 0)] { s with axes := t.axes } t ∧
    (t.axis a.val).x = (s.axis a.val).x ∧ (t.axis a.val).v = 0 ∧ (∀ b, b ≠ a.val → t.axis b = s.axis b) ∧
    exec (.axisEnable a) s = .next t) ∧
  (∀ (a b : Fin 24) (i : Nat) (s : State), s.on (F.AXS_A_CTL_EN a.val) = false →
    (s.homeFits a.val = false ∨ i ∈ s.axInputsUsed a.val ∧ (s.axSsiFits a.val i = false ∨ s.webClaims i = true ∨
      b ≠ a ∧ s.on (F.AXS_A_CTL_EN b.val) = true ∧ i ∈ s.axInputsUsed b.val)) → ∃ t : State,
    Writes [(F.AXS_A_STATUS_CFG_ERR a.val, 1)] s t ∧ exec (.axisEnable a) s = .next t) ∧
  (∀ (a : Fin 24) (s : State), exec (.axisSwitch a) s = .next (s.setAxis a.val { s.axis a.val with switchReq := true })) ∧
  (∀ (a : Fin 24) (c : Nat) (s : State), (s.axis a.val).coastAt = some c → s.on (F.AXS_A_STATUS_COASTING a.val) = true →
    (s.axis a.val).expired = false → ∃ t : State,
    Writes [(F.AXS_A_STATUS_COAST_EXP a.val, 1), (F.AXS_A_STATUS_HOMED a.val, 0)]
      ((s.advanceTo (c + s.axCoastTicks a.val)).setAxis a.val { s.axis a.val with expired := true }) t ∧
    exec (.axisCoastExpired a) s = .next (t.raise EV.AXS_COAST_EXPIRED a.val)) ∧
  (∀ (a : Fin 24) (s : State), (s.axis a.val).coastAt = none → exec (.axisCoastExpired a) s = .next s) ∧
  (∀ (unit : BitVec 5) (kind : BitVec 4) (s : State), axUnit kind.toNat unit.toNat = true →
    [Bank.IDLE, Bank.READY].contains (s.f (axBankState kind.toNat unit.toNat)) = true → ∃ t : State,
    Writes [(axBankState kind.toNat unit.toNat, Bank.BUSY), (F.AXS_TCMD_GO, 1)] { s with loadAt := t.loadAt } t ∧
    tget 0 t.loadAt (axLoadKey kind.toNat unit.toNat) = s.addr F.AXS_TADDR_HI F.AXS_TADDR_LO + 1 ∧
    exec (.axsTableLoad unit kind) s = .next t) ∧
  (∀ (unit : BitVec 5) (kind : BitVec 4) (s : State), kind ≠ 4 → kind ≠ 5 → ∃ t : State, Writes [(F.AXS_TERR, 1)] s t ∧
    exec (.axsTableLoad unit kind) s = .next (t.raise EV.AXS_TBL_LOAD_ERR unit.toNat) ∧
    exec (.axsTableClear unit kind) s = .next (t.raise EV.AXS_TBL_LOAD_ERR unit.toNat) ∧
    exec (.axsTableSwap unit kind) s = .next (t.raise EV.AXS_TBL_LOAD_ERR unit.toNat)) ∧
  (∀ (unit : BitVec 5) (kind : BitVec 4) (s : State), axUnit kind.toNat unit.toNat = true →
    s.f (axBankState kind.toNat unit.toNat) = Bank.BUSY → ∃ t : State, Writes [(F.AXS_TERR, 6)] s t ∧
    exec (.axsTableLoad unit kind) s = .next (t.raise EV.AXS_TBL_LOAD_ERR unit.toNat) ∧
    exec (.axsTableClear unit kind) s = .next (t.raise EV.AXS_TBL_LOAD_ERR unit.toNat)) ∧
  (∀ (unit : BitVec 5) (kind : BitVec 4) (a : Nat) (s : State), axUnit kind.toNat unit.toNat = true →
    s.f (axBankState kind.toNat unit.toNat) = Bank.BUSY → tget 0 s.loadAt (axLoadKey kind.toNat unit.toNat) = a + 1 →
    s.axImageErr kind.toNat a = 0 → ∃ t : State, exec (.axsTableLoadDone unit kind .clean) s = .next t ∧
    t.f (axBankState kind.toNat unit.toNat) = Bank.READY ∧ t.f F.AXS_TERR = 0 ∧ t = { s with regs := t.regs, loadAt := t.loadAt, tmem := t.tmem } ∧
    ∀ i, i < (if kind.toNat = 4 then 1024 else 256) →
      t.axEntry kind.toNat unit.toNat (1 - s.f (axActive kind.toNat unit.toNat)) i = s.memNat (a + 64 + i * 2) 2) ∧
  (∀ (unit : BitVec 5) (kind : BitVec 4) (a : Nat) (s : State), axUnit kind.toNat unit.toNat = true →
    s.f (axBankState kind.toNat unit.toNat) = Bank.BUSY → tget 0 s.loadAt (axLoadKey kind.toNat unit.toNat) = a + 1 →
    s.axImageErr kind.toNat a ≠ 0 → ∃ t : State, t = { s with regs := t.regs, loadAt := t.loadAt } ∧
    t.f (axBankState kind.toNat unit.toNat) = Bank.IDLE ∧ t.f F.AXS_TERR = s.axImageErr kind.toNat a ∧
    exec (.axsTableLoadDone unit kind .clean) s = .next (t.raise EV.AXS_TBL_LOAD_ERR unit.toNat)) ∧
  (∀ (unit : BitVec 5) (kind : BitVec 4) (s : State), axUnit kind.toNat unit.toNat = true →
    [Bank.IDLE, Bank.EDIT, Bank.READY].contains (s.f (axBankState kind.toNat unit.toNat)) = true → ∃ t : State,
    Writes [(axBankState kind.toNat unit.toNat, Bank.IDLE), (F.AXS_TERR, 0)] s t ∧ exec (.axsTableClear unit kind) s = .next t) ∧
  (∀ (unit : BitVec 5) (kind : BitVec 4) (s : State), axUnit kind.toNat unit.toNat = true →
    [Bank.IDLE, Bank.BUSY, Bank.EDIT, Bank.READY].contains (s.f (axBankState kind.toNat unit.toNat)) = true → ∃ t : State,
    Writes [(axPend kind.toNat unit.toNat, 1), (F.AXS_TERR, 0)] s t ∧ exec (.axsTableSwap unit kind) s = .next t) ∧
  (∀ (a : Fin 24) (s : State), s.on (F.AXS_A_CTL_EN a.val) = true → s.on (F.AXS_A_TSTAT_PEND a.val) = true →
    s.f (F.AXS_A_TSTAT_STATE a.val) = Bank.READY → ∃ t : State,
    Writes [(F.AXS_A_TSTAT_ACTIVE a.val, 1 - s.f (F.AXS_A_TSTAT_ACTIVE a.val)), (F.AXS_A_TSTAT_PEND a.val, 0),
      (F.AXS_A_TSTAT_STATE a.val, Bank.IDLE)] s t ∧ exec (.indexPulse a) s = .next t) ∧
  ∀ (a : Fin 24) (s : State), (s.on (F.AXS_A_CTL_EN a.val) = false ∨ s.on (F.AXS_A_TSTAT_PEND a.val) = false) →
    exec (.indexPulse a) s = .next s

/-- On a disabled axis every command is refused with 3. Outside a moving group, STOP brings a moving axis to STOPPING, QSTOP any enabled
axis to EDEC, MOVE_ABS and MOVE_REL an idle one to MOVING with their target, VEL to VEL with the velocity clamped to VMAX, GEAR to
GEARED, HOME to HOMING with a search, and DISABLE to DISABLED with EN clear. GROUP_MOVE of an axis that leads no group is refused with
4. In gear mode the moves are refused with 5, toward an active limit with 2, and a UNIDIR axis refuses a move backward with 1 and
EV_AXS_TARGET_BEHIND. Completes: stop, qstop, moveAbs, moveRel, vel, gear, home, disable, groupMove. (11_loops_and_axes.md) -/
def Obligations.AxisCommands : Prop :=
  (∀ (a : Fin 24) (s : State), s.axState a.val = Ax.DISABLED → ∃ t : State,
    Writes [(F.AXS_A_STATUS_REJ a.val, 3), (F.AXS_A_STATUS_CMD_REJ a.val, 1)] s t ∧ ∀ arg : BitVec 32,
    exec (.stop a) s = .next (t.tally 0x1DA 1) ∧ exec (.moveAbs a) s = .next (t.tally 0x1DA 1) ∧
    exec (.moveRel a arg) s = .next (t.tally 0x1DA 1) ∧ exec (.vel a arg) s = .next (t.tally 0x1DA 1) ∧
    exec (.gear a arg) s = .next (t.tally 0x1DA 1) ∧ exec (.qstop a) s = .next (t.tally 0x1DA 1) ∧
    exec (.home a arg) s = .next (t.tally 0x1DA 1) ∧ exec (.disable a) s = .next (t.tally 0x1DA 1) ∧
    exec (.groupMove a) s = .next (t.tally 0x1DA 1)) ∧
  (∀ (a : Fin 24) (s : State), s.axState a.val = Ax.GEARED → s.groupOf a.val = none → ∃ t : State,
    Writes [(F.AXS_A_STATUS_REJ a.val, 5), (F.AXS_A_STATUS_CMD_REJ a.val, 1)] s t ∧ ∀ arg : BitVec 32,
    exec (.moveAbs a) s = .next (t.tally 0x1DA 1) ∧ exec (.moveRel a arg) s = .next (t.tally 0x1DA 1) ∧
    exec (.vel a arg) s = .next (t.tally 0x1DA 1) ∧ exec (.home a arg) s = .next (t.tally 0x1DA 1)) ∧
  (∀ (a : Fin 24) (s : State), s.axState a.val = Ax.IDLE → s.groupOf a.val = none → exec (.stop a) s = .next s) ∧
  (∀ (a : Fin 24) (s : State), s.axState a.val ≠ Ax.DISABLED → s.axState a.val ≠ Ax.EDEC → s.axState a.val ≠ Ax.IDLE →
    s.groupOf a.val = none → ∃ t : State, exec (.stop a) s = .next t ∧
    Writes [(F.AXS_A_STATUS_STATE a.val, Ax.STOPPING), (F.AXS_A_STATUS_SYNC a.val, 0)]
      (s.setAxis a.val { s.axis a.val with searching := false, matched := false }) t) ∧
  (∀ (a : Fin 24) (s : State), s.axState a.val ≠ Ax.DISABLED → s.axState a.val ≠ Ax.EDEC → s.groupOf a.val = none → ∃ t : State,
    exec (.qstop a) s = .next t ∧ Writes [(F.AXS_A_STATUS_STATE a.val, Ax.EDEC), (F.AXS_A_STATUS_SYNC a.val, 0)]
      (s.setAxis a.val { s.axis a.val with searching := false, matched := false }) t) ∧
  (∀ (a : Fin 24) (g : Int) (s : State), s.axState a.val = Ax.IDLE → s.groupOf a.val = none → s.on (F.AXS_A_CFG_UNIDIR a.val) = false →
    g = s.pairS (F.AXS_A_TGT_HI a.val) (F.AXS_A_TGT_LO a.val) → s.limited a.val (g * oneCount - (s.axis a.val).x) = false → ∃ t : State,
    exec (.moveAbs a) s = .next t ∧ t = { s with regs := t.regs, axes := t.axes } ∧ t.axState a.val = Ax.MOVING ∧
    (t.axis a.val).goal = g * oneCount ∧ (t.axis a.val).x = (s.axis a.val).x ∧ t.f (F.AXS_A_STATUS_SYNC a.val) = 0 ∧
    t.pairS (F.AXS_A_TGT_HI a.val) (F.AXS_A_TGT_LO a.val) = g) ∧
  (∀ (a : Fin 24) (g : Int) (arg : BitVec 32) (s : State), s.axState a.val = Ax.IDLE → s.groupOf a.val = none →
    s.on (F.AXS_A_CFG_UNIDIR a.val) = false → g = (s.axis a.val).pos + arg.toInt →
    s.limited a.val (g * oneCount - (s.axis a.val).x) = false → ∃ t : State, exec (.moveRel a arg) s = .next t ∧
    t = { s with regs := t.regs, axes := t.axes } ∧ t.axState a.val = Ax.MOVING ∧ (t.axis a.val).goal = g * oneCount ∧
    t.pairS (F.AXS_A_TGT_HI a.val) (F.AXS_A_TGT_LO a.val) = sx 64 (ux 64 g)) ∧
  (∀ (a : Fin 24) (arg : BitVec 32) (s : State), s.axState a.val = Ax.IDLE → s.groupOf a.val = none →
    s.on (F.AXS_A_CFG_UNIDIR a.val) = false → s.on (F.AXS_A_STATUS_LIMP_ACT a.val) = false → s.on (F.AXS_A_STATUS_LIMN_ACT a.val) = false →
    (∃ t : State, exec (.vel a arg) s = .next t ∧
      Writes [(F.AXS_A_STATUS_STATE a.val, Ax.VEL), (F.AXS_A_STATUS_SYNC a.val, 0)] (s.setAxis a.val { s.axis a.val with
        vel := clampI (-(s.f (F.AXS_A_VMAX a.val) : Int)) (s.f (F.AXS_A_VMAX a.val)) arg.toInt, searching := false, matched := false }) t) ∧
    (∃ t : State, exec (.gear a arg) s = .next t ∧ t = { s with regs := t.regs, axes := t.axes, gear := t.gear } ∧
      t.axState a.val = Ax.GEARED ∧ (t.axis a.val).toPhase = bitOf arg.toNat 0 ∧
      (t.axis a.val).gcount = t.gearedCount a.val s.webPos ∧ (t.axis a.val).matched = false) ∧
    ∃ t : State, exec (.home a arg) s = .next t ∧
      Writes [(F.AXS_A_CHATTER_COUNT a.val, 0), (F.AXS_A_STATUS_HOMED a.val, 0), (F.AXS_A_STATUS_STATE a.val, Ax.HOMING),
        (F.AXS_A_STATUS_SYNC a.val, 0)] { s with axes := t.axes } t ∧ t.axis a.val = { s.axis a.val with
          vel := arg.toInt, hcap := none, accepted := none, searching := true, matched := false } ∧
      ∀ b, b ≠ a.val → t.axis b = s.axis b) ∧
  (∀ (a : Fin 24) (s : State), s.axState a.val ≠ Ax.DISABLED → s.groupOf a.val = none → ∃ t : State, exec (.disable a) s = .next t ∧
    t = { s with regs := t.regs, axes := t.axes } ∧ t.axState a.val = Ax.DISABLED ∧ t.on (F.AXS_A_CTL_EN a.val) = false ∧
    t.on (F.AXS_A_STATUS_HOMED a.val) = false ∧ (t.axis a.val).v = 0 ∧ (t.axis a.val).x = (s.axis a.val).x) ∧
  (∀ (a : Fin 24) (s : State), s.axState a.val = Ax.IDLE → s.groupOf a.val = none → s.leads a.val = none → ∃ t : State,
    Writes [(F.AXS_A_STATUS_REJ a.val, 4), (F.AXS_A_STATUS_CMD_REJ a.val, 1)] s t ∧ exec (.groupMove a) s = .next (t.tally 0x1DA 1)) ∧
  (∀ (a : Fin 24) (g : Nat) (s : State), s.axState a.val = Ax.IDLE → s.groupOf a.val = none → s.leads a.val = some g →
    (∀ i ∈ s.groupAxes g, s.axState i = Ax.IDLE ∧ s.on (F.AXS_A_CFG_UNIDIR i) = false ∧
      s.on (F.AXS_A_STATUS_LIMP_ACT i) = false ∧ s.on (F.AXS_A_STATUS_LIMN_ACT i) = false) → ∃ t : State,
    exec (.groupMove a) s = .next t ∧ t = { s with regs := t.regs, groups := t.groups } ∧ t.f (F.AXS_G_STATUS_STATE g) = 1 ∧
    t.f (F.AXS_G_STATUS_REJ g) = 0 ∧ ∀ i ∈ s.groupAxes g, t.axState i = Ax.GROUP) ∧
  (∀ (a : Fin 24) (s : State), s.axState a.val = Ax.IDLE → s.groupOf a.val = none → s.on (F.AXS_A_CFG_UNIDIR a.val) = true →
    s.pairS (F.AXS_A_TGT_HI a.val) (F.AXS_A_TGT_LO a.val) * oneCount < (s.axis a.val).x → ∃ t : State,
    Writes [(F.AXS_A_STATUS_REJ a.val, 1), (F.AXS_A_STATUS_CMD_REJ a.val, 1), (F.AXS_A_STATUS_BEHIND a.val, 1)] { s with count := t.count } t ∧
    exec (.moveAbs a) s = .next (t.raise EV.AXS_TARGET_BEHIND a.val)) ∧
  ∀ (a : Fin 24) (arg : BitVec 32) (s : State), s.axState a.val = Ax.IDLE → s.groupOf a.val = none → s.on (F.AXS_A_STATUS_LIMP_ACT a.val) = true →
    ∃ t : State, Writes [(F.AXS_A_STATUS_REJ a.val, 2), (F.AXS_A_STATUS_CMD_REJ a.val, 1)] s t ∧
    exec (.gear a arg) s = .next (t.tally 0x1DA 1)

/-- PGEN_UPDATE does nothing in an unpowered domain; with every axis disabled and every group idle it passes to the next multiple of 600
ticks. The acceleration of an update toward a velocity lies within the jerk of the last, and a hard stop lowers the speed by EDEC's
step, not below zero. LIMIT_ACTIVE on an axis in motion sets LIMIT and brings it to EDEC with EV_AXS_LIMIT, at G3 for the drum axis of
an armed station. HOME_HOLDOFF_END with the axis at rest sets HOMED, or HOME_UNSTABLE where the chatter was too much. Completes:
pgenUpdate, limitActive, homeHoldoffEnd. (11_loops_and_axes.md) -/
def Obligations.AxisMotion : Prop :=
  (∀ (io : BitVec 64) (l : List (Fin 24 × BitVec 8)) (s : State), s.powered 10 = false → exec (.pgenUpdate io l) s = .next s) ∧
  (∀ (io : BitVec 64) (l : List (Fin 24 × BitVec 8)) (u s : State), s.powered 10 = true → (∀ a, a < 24 → s.axState a = Ax.DISABLED) →
    (∀ g, g < 4 → s.f (F.AXS_G_STATUS_STATE g) = 0) → u = s.advanceTo ((s.pgenAt / 600 + 1) * 600) → ∃ t : State,
    exec (.pgenUpdate io l) s = .next t ∧ t = { u with pgenAt := u.time / 600 * 600, regs := t.regs, axes := t.axes } ∧
    (∀ a, a < 24 → (t.axis a).x = (s.axis a).x ∧ (t.axis a).v = (s.axis a).v ∧ t.axState a = Ax.DISABLED) ∧
    (∀ a, a < 24 → t.pairS (F.AXS_A_POS_HI a) (F.AXS_A_POS_LO a) = sx 64 (ux 64 (s.axis a).pos)) ∧
    ∀ y : Field, (∀ a, a < 24 → y.key ≠ (F.AXS_A_POS_HI a).key ∧ y.key ≠ (F.AXS_A_POS_LO a).key ∧ y.key ≠ (F.AXS_A_VEL a).key) → t.f y = s.f y) ∧
  (∀ (l : Limits) (v a w : Int), 0 ≤ l.j → a - l.j ≤ towardVel l v a w ∧ towardVel l v a w ≤ a + l.j) ∧
  (∀ (l : Limits) (v a w : Int), 0 ≤ l.j → a.natAbs ≤ l.up → a.natAbs ≤ l.down → l.up = l.down → (towardVel l v a w).natAbs ≤ l.up) ∧
  (∀ (a : Nat) (s : State), s.groupOf a = none → s.axState a = Ax.EDEC →
    ((s.axUpdate a).axis a).v.natAbs = (s.axis a).v.natAbs - (s.axEdec a).toNat ∧
    ((s.axUpdate a).axis a).x = (s.axis a).x + ((s.axUpdate a).axis a).v ∧
    (s.axUpdate a).axState a = if ((s.axUpdate a).axis a).v = 0 then Ax.IDLE else Ax.EDEC) ∧
  (∀ (a : Nat) (s : State), s.groupOf a = none → s.axState a = Ax.VEL →
    ((s.axUpdate a).axis a).a = towardVel (s.axLimits a) (s.axis a).v (s.axis a).a ((s.axis a).vel * 10 ^ 12) ∧
    ((s.axUpdate a).axis a).v = (s.axis a).v + ((s.axUpdate a).axis a).a ∧
    ((s.axUpdate a).axis a).x = (s.axis a).x + ((s.axUpdate a).axis a).v) ∧
  (∀ (a : Fin 24) (neg : Bool) (s : State), s.on (if neg then F.AXS_A_STATUS_LIMN_ACT a.val else F.AXS_A_STATUS_LIMP_ACT a.val) = true →
    exec (.limitActive a neg) s = .next s) ∧
  (∀ (a : Fin 24) (neg : Bool) (s : State),
    s.on (if neg then F.AXS_A_STATUS_LIMN_ACT a.val else F.AXS_A_STATUS_LIMP_ACT a.val) = false → s.axState a.val = Ax.MOVING →
    s.groupOf a.val = none → ∃ t : State,
    Writes [(if neg then F.AXS_A_STATUS_LIMN_ACT a.val else F.AXS_A_STATUS_LIMP_ACT a.val, 1), (F.AXS_A_STATUS_LIMIT a.val, 1),
      (F.AXS_A_STATUS_STATE a.val, Ax.EDEC), (F.AXS_A_STATUS_SYNC a.val, 0)] { s with axes := t.axes } t ∧
    (if neg then (t.axis a.val).limN.active else (t.axis a.val).limP.active) = true ∧
    exec (.limitActive a neg) s = .next (t.raiseAt EV.AXS_LIMIT a.val (if (s.drumOf a.val).isSome then some 3 else none) .byEvent)) ∧
  (∀ (a : Fin 24) (s : State), (s.axis a.val).accepted = none → exec (.homeHoldoffEnd a) s = .next s) ∧
  (∀ (a : Fin 24) (c : Nat) (u s : State) (d : Int), (s.axis a.val).accepted = some c → s.axState a.val = Ax.HOMING → (s.axis a.val).v = 0 →
    (s.axis a.val).a = 0 → s.f (F.AXS_A_CHATTER_COUNT a.val) ≤ s.f (F.AXS_A_CHATTER_CHAT_MAX a.val) →
    u = s.advanceTo (c + s.f (F.AXS_A_HOMECFG_HOLDOFF a.val) * 600) →
    d = s.pairS (F.AXS_A_HOMEPOS_HI a.val) (F.AXS_A_HOMEPOS_LO a.val) - s.pairS (F.AXS_A_HCAP_HI a.val) (F.AXS_A_HCAP_LO a.val) →
    ∃ t : State, t = { u with regs := t.regs, axes := t.axes } ∧ t.axState a.val = Ax.IDLE ∧ t.f (F.AXS_A_STATUS_HOMED a.val) = 1 ∧
    (t.axis a.val).x = (s.axis a.val).x + d * oneCount ∧ (t.axis a.val).searching = false ∧
    exec (.homeHoldoffEnd a) s = .next (t.raise EV.HOME_DONE a.val)) ∧
  ∀ (a : Fin 24) (c : Nat) (s : State), (s.axis a.val).accepted = some c → s.axState a.val = Ax.HOMING → (s.axis a.val).v = 0 →
    (s.axis a.val).a = 0 → s.f (F.AXS_A_CHATTER_CHAT_MAX a.val) < s.f (F.AXS_A_CHATTER_COUNT a.val) → ∃ t : State,
    Writes [(F.AXS_A_STATUS_STATE a.val, Ax.IDLE), (F.AXS_A_STATUS_HOME_UNSTABLE a.val, 1)]
      ((s.advanceTo (c + s.f (F.AXS_A_HOMECFG_HOLDOFF a.val) * 600)).setAxis a.val { s.axis a.val with searching := false, accepted := none }) t ∧
    exec (.homeHoldoffEnd a) s = .next (t.raise EV.HOME_UNSTABLE a.val)

/-- STEPPER_CHOP_PERIOD does nothing on a disabled channel; its period's modulator bits give the phase currents; a stuck input is
retried for one period and the second in a row, or a second overcurrent, turns the channel off with EV_STEP_OVERCURRENT; a good period
keeps the setpoint it followed and forms both duties, and at each full step LOAD is a free value. STEPPER_HOLD_TIMEOUT sets HOLD.
TRACE_ARM while armed or triggered is counted; otherwise it arms the unit. TRACE_FORCE triggers it. TRACE_SAMPLE records a row, and the
last one sets DONE and raises EV_TRACE_DONE. TRACE_READ answers the sample at INDEX and steps INDEX. Completes: stepperChopPeriod,
stepperHoldTimeout, traceArm, traceForce, traceSample, traceRead. (11_loops_and_axes.md, 12_motor_commutation.md) -/
def Obligations.SteppersAndTraces : Prop :=
  (∀ (k : Fin 12) (ia ib : List Bool) (s : State), s.on (F.STP_CTL_EN k.val) = false → exec (.stepperChopPeriod k ia ib) s = .next s) ∧
  (∀ (k : Fin 12) (ia ib : List Bool) (x : Stepper) (a b : Sinc) (u s : State), s.on (F.STP_CTL_EN k.val) = true → x = s.stepper k.val →
    a = x.sa.run s.osr ia → b = x.sb.run s.osr ib → u = s.advanceTo (x.lastAt + 4 * min 15000 (max 1500 (s.f (F.STP_CHOP_PER k.val)))) →
    (x.retry = false → (a.stuck = true ∨ b.stuck = true) → exec (.stepperChopPeriod k ia ib) s =
      .next (u.setStepper k.val { x with lastAt := u.time, sa := a.taken, sb := b.taken, retry := true })) ∧
    (x.retry = true → (a.stuck = true ∨ b.stuck = true) → ∃ t : State,
      Writes [(F.STP_CTL_EN k.val, 0), (F.STP_STATUS_OVERCURRENT k.val, 1)] ((u.logRetry 2 EV.MOT_ISENSE_TRANSIENT k.val).setStepper k.val
        { Stepper.reset with sa := a.taken, sb := b.taken, last := s.stepPos k.val, lastAt := u.time }) t ∧
      exec (.stepperChopPeriod k ia ib) s = .next (t.raise EV.STEP_OVERCURRENT k.val)) ∧
    (x.retry = false → a.stuck = false → b.stuck = false → 1 ≤ x.excess → s.f (F.STP_IMAX k.val) * 8 < a.out.natAbs → ∃ t : State,
      Writes [(F.STP_CTL_EN k.val, 0), (F.STP_STATUS_OVERCURRENT k.val, 1)] (u.setStepper k.val
        { Stepper.reset with sa := a.taken, sb := b.taken, last := s.stepPos k.val, lastAt := u.time }) t ∧
      exec (.stepperChopPeriod k ia ib) s = .next (t.raise EV.STEP_OVERCURRENT k.val)) ∧
    (x.retry = false → a.stuck = false → b.stuck = false → a.out.natAbs ≤ s.f (F.STP_IMAX k.val) * 8 →
      b.out.natAbs ≤ s.f (F.STP_IMAX k.val) * 8 → s.on (F.STP_STALL_EN k.val) = false → ∃ t : State,
      exec (.stepperChopPeriod k ia ib) s = .next t ∧ t = { u with steppers := t.steppers, regs := t.regs, free := t.free, count := t.count } ∧
      (t.stepper k.val).last = s.stepPos k.val ∧ (t.stepper k.val).excess = 0 ∧ (t.stepper k.val).lastAt = u.time ∧
      (t.stepper k.val).dutyA = (phaseLaw (s.f (F.STP_CHOP_KP k.val)) (s.f (F.STP_CHOP_KI k.val))
        ((s.phaseTargets k.val (s.stepPos k.val)).1 * (s.stepCurrent k.val : Int) / 32768) (a.out / 8) x.intA).1 ∧
      (t.stepper k.val).dutyB = (phaseLaw (s.f (F.STP_CHOP_KP k.val)) (s.f (F.STP_CHOP_KI k.val))
        ((s.phaseTargets k.val (s.stepPos k.val)).2 * (s.stepCurrent k.val : Int) / 32768) (b.out / 8) x.intB).1 ∧
      t.free = s.free + (s.stepPos k.val / 256 - x.last / 256).natAbs ∧
      ((s.stepPos k.val / 256 - x.last / 256).natAbs = 1 → t.f (F.STP_STATUS_LOAD k.val) = s.freeNow.toNat % 256) ∧
      (s.stepPos k.val / 256 = x.last / 256 → t = { u with steppers := t.steppers }))) ∧
  (∀ (k : Fin 12) (s : State), s.on (F.STP_CTL_EN k.val) = true → (s.axis (s.f (F.STP_CTL_AXIS k.val))).v = 0 → ∃ t : State,
    Writes [(F.STP_STATUS_HOLD k.val, 1)]
      (s.advanceTo ((s.axis (s.f (F.STP_CTL_AXIS k.val))).stillAt + s.f (F.STP_CUR_HOLD_MS k.val) * 600000)) t ∧
    exec (.stepperHoldTimeout k) s = .next t) ∧
  (∀ (u : Fin 4) (s : State), (s.f (F.TR_STATUS_STATE u.val) = 1 ∨ s.f (F.TR_STATUS_STATE u.val) = 2) → ∃ t : State,
    Writes [(F.AXS_FLAM_COUNT, min (s.f F.AXS_FLAM_COUNT + 1) (2 ^ F.AXS_FLAM_COUNT.width - 1))] s t ∧
    exec (.traceArm u) s = .next (t.tally 0x235 1)) ∧
  (∀ (u : Fin 4) (s : State), s.f (F.TR_STATUS_STATE u.val) ≠ 1 → s.f (F.TR_STATUS_STATE u.val) ≠ 2 → ∃ t : State,
    Writes [(F.TR_CTL_ARM u.val, 1), (F.TR_STATUS_STATE u.val, 1), (F.TR_STATUS_PREVALID u.val, 0)]
      (s.setTrace u.val { Trace.reset with armAt := s.time, lastAt := s.time }) t ∧ exec (.traceArm u) s = .next t ∧
    exec (.traceSample u) s = .next s) ∧
  (∀ (u : Fin 4) (s : State), s.f (F.TR_STATUS_STATE u.val) = 1 → (s.trace u.val).armAt < s.time → ∃ t : State,
    exec (.traceForce u) s = .next t ∧ t = { s with regs := t.regs, traces := t.traces } ∧ t.f (F.TR_STATUS_STATE u.val) = 2 ∧
    t.pair (F.TR_TTIME_HI u.val) (F.TR_TTIME_LO u.val) = s.time % 2 ^ 64 ∧
    (t.trace u.val).rows = (s.trace u.val).rows.take (s.f (F.TR_CTL_PRE u.val)) ∧ (t.trace u.val).left = 8192 - s.f (F.TR_CTL_PRE u.val)) ∧
  (∀ (u : Fin 4) (s : State), (s.f (F.TR_STATUS_STATE u.val) ≠ 1 ∨ s.time ≤ (s.trace u.val).armAt) → exec (.traceForce u) s = .next s) ∧
  (∀ (u : Fin 4) (v s : State), s.f (F.TR_STATUS_STATE u.val) = 2 → (∀ c, c < 8 → s.on (F.TR_SRC_EN u.val c) = false) →
    v = (if s.on (F.TR_CTL_CLKSRC u.val) = true then s.advanceTo ((s.trace u.val).lastAt + max 1 (s.f (F.TR_CTL_DIV u.val)) * 600) else s) →
    (1 < (s.trace u.val).left → exec (.traceSample u) s = .next (v.setTrace u.val { s.trace u.val with
      rows := List.replicate 8 0 :: (s.trace u.val).rows, left := (s.trace u.val).left - 1, prev := some 0, lastAt := v.time })) ∧
    ((s.trace u.val).left ≤ 1 → ∃ t : State, Writes [(F.TR_STATUS_STATE u.val, 3), (F.TR_CTL_ARM u.val, 0)] (v.setTrace u.val
        { s.trace u.val with rows := List.replicate 8 0 :: (s.trace u.val).rows, left := (s.trace u.val).left - 1, prev := some 0, lastAt := v.time }) t ∧
      exec (.traceSample u) s = .next (t.raise EV.TRACE_DONE u.val))) ∧
  ∀ (u : Fin 4) (s : State), ∃ t : State, Writes [(F.TR_RDADDR_INDEX u.val, s.f (F.TR_RDADDR_INDEX u.val) + 1)]
    { s with answer := .word (BitVec.ofNat 32 (s.traceWord u.val)) } t ∧ exec (.traceRead u) s = .next t

/-- MOTOR_ENABLE does nothing on an enabled channel or after G4, sets CFG_ERR on a bus whose chopper registers are not all written or
with a speed or a CPR out of range, and otherwise sets EN and catches or starts. CATCH_WINDOW_END with fewer than two events starts the
channel, with a forward speed in range joins it and raises EV_MOT_CATCH, above the range measures again, and with a reverse speed past
REV_LIM trips it. PWM_PERIOD in VOLT mode takes the estimated angle and applies the commanded voltages; a second overcurrent sample, a
gate fault of two samples, a locked rotor and a late sensorless start turn the channel off with their flags and events. Completes:
motorEnable, pwmPeriod, gateFault, catchWindowEnd, brakeCycleEnd, slsStartTimeout, lockedRotor. (12_motor_commutation.md) -/
def Obligations.MotorChannels : Prop :=
  (∀ (c : Fin 12) (s : State), (s.on (F.MOT_C_CTL_EN c.val) = true ∨ s.on F.EVT_GONG_G4 = true) → exec (.motorEnable c) s = .next s) ∧
  (∀ (c : Fin 12) (s : State), s.on (F.MOT_C_CTL_EN c.val) = false → s.on F.EVT_GONG_G4 = false →
    ((s.busOf (s.f (F.MOT_C_CTL_BUS c.val))).written ≠ 7 ∨ s.f (F.MOT_C_CTL_SENSE c.val) = 1 ∧ s.f (F.MOT_C_CPR c.val) = 0 ∨
      75000000 * 960 < s.poles c.val * s.f (F.MOT_C_SPDMAX c.val) * 8 * s.pwmPer c.val) → ∃ t : State,
    Writes [(F.MOT_C_STATUS_CFG_ERR c.val, 1)] s t ∧ exec (.motorEnable c) s = .next t) ∧
  (∀ (c : Fin 12) (b : Nat) (x : Motor) (s : State), s.on (F.MOT_C_CTL_EN c.val) = false → s.on F.EVT_GONG_G4 = false →
    b = s.f (F.MOT_C_CTL_BUS c.val) → x = s.motor c.val → (s.busOf b).written = 7 →
    (s.f (F.MOT_C_CTL_SENSE c.val) = 1 → s.f (F.MOT_C_CPR c.val) ≠ 0) →
    s.poles c.val * s.f (F.MOT_C_SPDMAX c.val) * 8 * s.pwmPer c.val ≤ 75000000 * 960 →
    (s.on (F.MOT_C_CTL_CATCH_EN c.val) = true → ∃ t : State, exec (.motorEnable c) s = .next t ∧
      Writes [(F.MOT_C_CTL_EN c.val, 1), (F.MOT_C_STATUS_STATE c.val, Mot.CATCHING),
        (F.MOT_C_STATUS_REGLIM c.val, b2n (!s.on (F.MOT_BK_CTL_EN b) || s.on (F.MOT_BK_STATUS_BRK_FAULT b)))]
        (s.setMotor c.val { Motor.reset with
          su := x.su, sv := x.sv, hall := x.hall, enc := x.enc, sector := x.sector, last := s.time, windowAt := s.time
          windowPos := s.pairS (F.MOT_C_POS_HI c.val) (F.MOT_C_POS_LO c.val) }) t) ∧
    (s.on (F.MOT_C_CTL_CATCH_EN c.val) = false → s.f (F.MOT_C_CTL_MODE c.val) ≠ 0 → ∃ t : State, exec (.motorEnable c) s = .next t ∧
      Writes [(F.MOT_C_CTL_EN c.val, 1), (F.MOT_C_STATUS_CATCHING c.val, 0), (F.MOT_C_STATUS_VCLAMP c.val, 0),
        (F.MOT_C_STATUS_STATE c.val, if s.f (F.MOT_C_CTL_SENSE c.val) = 2 then Mot.STARTING else Mot.RUNNING),
        (F.MOT_C_STATUS_REGLIM c.val, b2n (!s.on (F.MOT_BK_CTL_EN b) || s.on (F.MOT_BK_STATUS_BRK_FAULT b)))] { s with motors := t.motors } t ∧
      (t.motor c.val).vd = 0 ∧ (t.motor c.val).vq = 0 ∧ (t.motor c.val).last = s.time ∧ (t.motor c.val).startAt = s.time ∧
      (t.motor c.val).inStep = false)) ∧
  (∀ (c : Fin 12) (m : PwmSample) (s : State), s.on (F.MOT_C_CTL_EN c.val) = false → exec (.pwmPeriod c m) s = .next s) ∧
  (∀ (c : Fin 12) (m : PwmSample) (x : Motor) (q : Nat) (u s : State), s.on (F.MOT_C_CTL_EN c.val) = true →
    s.f (F.MOT_C_STATUS_STATE c.val) = Mot.RUNNING → s.f (F.MOT_C_CTL_SENSE c.val) = 2 → (s.motor c.val).badA = false →
    (s.motor c.val).badI = false → u = s.advanceTo ((s.motor c.val).last + 8 * s.pwmPer c.val) → (x, q) = u.pwmInputs c.val m →
    x.su.stuck = false → x.sv.stuck = false →
    (s.f (F.MOT_C_CTL_MODE c.val) = 0 → s.overcurrent c.val x.su.out x.sv.out = false →
      (clampV (s.f (F.MOT_C_CTL_OVM c.val)) (s.fs (F.MOT_C_VCMD_VD c.val)) (s.fs (F.MOT_C_VCMD_VQ c.val))).2.2 = false → ∃ t : State,
      exec (.pwmPeriod c m) s = .next t ∧ t = { u with regs := t.regs, motors := t.motors, count := t.count, free := t.free } ∧
      t.f (F.MOT_C_ANGLE c.val) = m.angle.toNat ∧ (t.motor c.val).vd = s.fs (F.MOT_C_VCMD_VD c.val) ∧
      (t.motor c.val).vq = s.fs (F.MOT_C_VCMD_VQ c.val) ∧ (t.motor c.val).excess = 0 ∧ (t.motor c.val).last = u.time ∧
      t.f (F.MOT_C_STATUS_VCLAMP c.val) = 0) ∧
    (1 ≤ (s.motor c.val).excess → s.overcurrent c.val x.su.out x.sv.out = true → ∃ t v : State, t.f (F.MOT_C_CTL_EN c.val) = 0 ∧
      t.f (F.MOT_C_STATUS_STATE c.val) = 0 ∧ t.f (F.MOT_C_STATUS_OVERCURRENT c.val) = 1 ∧ (t.motor c.val).vd = 0 ∧
      (t.motor c.val).vq = 0 ∧ (t.motor c.val).legs = [] ∧ v = t.raise EV.MOT_OVERCURRENT c.val ∧ exec (.pwmPeriod c m) s =
        .next (v.setMotor c.val { v.motor c.val with tripAt := some v.time, lockFrom := (s.motor c.val).lockFrom }))) ∧
  (∀ (c : Fin 12) (l : List Bool) (s : State), lowRun 2 l = true → (s.motor c.val).badI = false → (s.motor c.val).badA = false →
    ∃ t : State, Writes [(F.MOT_C_CTL_EN c.val, 0), (F.MOT_C_STATUS_STATE c.val, 0),
      (F.MOT_C_STATUS_CATCHING c.val, 0), (F.MOT_C_STATUS_FBSLS c.val, 0), (F.MOT_C_STATUS_VCLAMP c.val, 0), (F.MOT_C_STATUS_GATE_FLT c.val, 1)]
      ((s.tally 0x210 1).setMotor c.val
        { s.motor c.val with vd := 0, vq := 0, legs := [], legsWas := [], excess := 0, tripAt := none, lockFrom := none }) t ∧
    exec (.gateFault c l) s = .next (t.raise EV.MOT_GATE_FAULT c.val)) ∧
  (∀ (c : Fin 12) (l : List Bool) (s : State), lowRun 2 l = false → exec (.gateFault c l) s = .next s) ∧
  (∀ (c : Fin 12) (z : List (BitVec 3)) (s : State), (s.on (F.MOT_C_CTL_EN c.val) = false ∨
    s.f (F.MOT_C_STATUS_STATE c.val) ≠ Mot.CATCHING) → exec (.catchWindowEnd c z) s = .next s) ∧
  (∀ (c : Fin 12) (z : List (BitVec 3)) (n : Nat) (v : Int) (u s : State), s.on (F.MOT_C_CTL_EN c.val) = true →
    s.f (F.MOT_C_STATUS_STATE c.val) = Mot.CATCHING → u = s.advanceTo ((s.motor c.val).windowAt + 1200000) → (n, v) = s.windowSpeed c.val z →
    ((n < 2 ∨ v = 0) → s.f (F.MOT_C_CTL_MODE c.val) ≠ 0 → ∃ t : State, exec (.catchWindowEnd c z) s = .next t ∧
      Writes [(F.MOT_C_STATUS_STATE c.val, if s.f (F.MOT_C_CTL_SENSE c.val) = 2 then Mot.STARTING else Mot.RUNNING),
        (F.MOT_C_STATUS_CATCHING c.val, 0), (F.MOT_C_STATUS_VCLAMP c.val, 0)] { u with motors := t.motors, count := t.count } t ∧
      (t.motor c.val).startAt = u.time ∧ (t.motor c.val).vd = 0 ∧ (t.motor c.val).vq = 0) ∧
    (2 ≤ n → 0 < v → v ≤ s.f (F.MOT_C_CATCH_CATCH_MAX c.val) * 16 → s.f (F.MOT_C_CTL_MODE c.val) ≠ 0 → ∃ t : State,
      Writes [(F.MOT_C_STATUS_STATE c.val, Mot.RUNNING), (F.MOT_C_STATUS_CATCHING c.val, 0), (F.MOT_C_STATUS_VCLAMP c.val, 0),
        (F.MOT_C_SPEED c.val, ux 32 v)] { u with motors := t.motors, count := t.count } t ∧
      (t.motor c.val).intS = v * 16 ∧ exec (.catchWindowEnd c z) s = .next ((t.tally 0x212 1).raise EV.MOT_CATCH c.val)) ∧
    (2 ≤ n → s.f (F.MOT_C_CATCH_CATCH_MAX c.val) * 16 < v → ∃ t : State, exec (.catchWindowEnd c z) s = .next t ∧
      Writes [(F.MOT_C_STATUS_CATCHING c.val, 1)] { u with motors := t.motors, count := t.count } t ∧ (t.motor c.val).windowAt = u.time) ∧
    (2 ≤ n → v < -(s.f (F.MOT_C_CATCH_REV_LIM c.val) * 16 : Int) → ∃ t : State, t.f (F.MOT_C_CTL_EN c.val) = 0 ∧
      t.f (F.MOT_C_STATUS_SPIN_REVERSE c.val) = 1 ∧ exec (.catchWindowEnd c z) s = .next (t.raise EV.MOT_SPIN_REVERSE c.val))) ∧
  (∀ (c : Fin 12) (u s : State), s.f (F.MOT_C_STATUS_STATE c.val) = Mot.BRAKING → u = s.advanceTo ((s.motor c.val).windowAt + 4800000) →
    ∃ t : State, Writes [(F.MOT_C_STATUS_STATE c.val, Mot.CATCHING)] (u.setMotor c.val { s.motor c.val with
      windowAt := u.time, windowPos := s.pairS (F.MOT_C_POS_HI c.val) (F.MOT_C_POS_LO c.val), windowN := (s.motor c.val).comms }) t ∧
    exec (.brakeCycleEnd c) s = .next t) ∧
  (∀ (c : Fin 12) (s : State), s.f (F.MOT_C_STATUS_STATE c.val) = Mot.STARTING → ∃ t : State, t.f (F.MOT_C_CTL_EN c.val) = 0 ∧
    t.f (F.MOT_C_STATUS_STATE c.val) = 0 ∧ t.f (F.MOT_C_STATUS_SLS_FAIL c.val) = 1 ∧
    t.time = (s.advanceTo ((s.motor c.val).startAt + 1200000000)).time ∧ exec (.slsStartTimeout c) s = .next (t.raise EV.MOT_SLS_FAIL c.val)) ∧
  (∀ (c : Fin 12) (a : Nat) (s : State), s.on (F.MOT_C_CTL_EN c.val) = true → s.f (F.MOT_C_STATUS_STATE c.val) = Mot.RUNNING →
    (s.motor c.val).lockFrom = some a → ∃ t : State, t.f (F.MOT_C_CTL_EN c.val) = 0 ∧ t.f (F.MOT_C_STATUS_LOCKED c.val) = 1 ∧
    t.time = (s.advanceTo (a + s.f (F.MOT_C_LOCK_LOCK_MS c.val) * 600000)).time ∧
    exec (.lockedRotor c) s = .next (t.raise EV.MOT_LOCKED c.val)) ∧
  ∀ (c : Fin 12) (s : State), (s.f (F.MOT_C_STATUS_STATE c.val) ≠ Mot.BRAKING → exec (.brakeCycleEnd c) s = .next s) ∧
    (s.f (F.MOT_C_STATUS_STATE c.val) ≠ Mot.STARTING → exec (.slsStartTimeout c) s = .next s) ∧
    ((s.motor c.val).lockFrom = none → exec (.lockedRotor c) s = .next s)

/-- BUS_VOLTAGE_SAMPLE runs its bits through the filters of the bus; where the last of them completes an output it stores the scaled
voltage; with the chopper enabled it turns on at VON and opens a check window, and with it disabled it is off; the second output in a
row at or above VHARD, or the second stuck one, sets BUS_OV, clears DRVEN, turns every channel of the bus off and raises EV_BUS_OV.
BRAKE_CHECK_END retries the window once and then sets BRK_FAULT and REGLIM of the bus's channels with EV_BRK_FAULT. The clears act only
with the chopper disabled, and below VOFF. Completes: busVoltageSample, brakeCheckEnd, brkFaultClear, busOvClear.
(12_motor_commutation.md) -/
def Obligations.BrakeChoppers : Prop :=
  (∀ (b : Fin 4) (bits : List (Bool × Bool)) (s : State), (s.busOf b.val).sv.n + bits.length < s.osr → ∃ t : State,
    exec (.busVoltageSample b bits) s = .next t ∧ t = { s with buses := t.buses } ∧ (bits ≠ [] →
    t = s.setBus b.val { s.busOf b.val with
      sv := (s.busOf b.val).sv.run s.osr (bits.map (·.1)), si := (s.busOf b.val).si.run s.osr (bits.map (·.2)) })) ∧
  (∀ (b : Fin 4) (bits : List (Bool × Bool)) (x : Bus) (y z : Sinc) (v : Nat) (s : State), x = s.busOf b.val → bits ≠ [] →
    x.sv.n + bits.length = s.osr → y = x.sv.run s.osr (bits.map (·.1)) → z = x.si.run s.osr (bits.map (·.2)) →
    v = (maxI 0 (y.out * (s.f (F.MOT_BK_CTL_FS b.val) : Int) * 10 / 32768)).toNat →
    (y.stuck = false → x.retry = false → x.checkAt = none → s.on (F.MOT_BK_CTL_EN b.val) = false → v < s.f (F.MOT_BK_VHARD_VHARD b.val) →
      ∃ t : State, Writes [(F.MOT_BK_VBUS b.val, v), (F.MOT_BK_STATUS_BRK_ON b.val, 0)]
        { s with buses := t.buses, count := t.count, resid := t.resid } t ∧
      t.busOf b.val = { x with sampleAt := s.time, sv := y.taken, si := z, second := false, high := 0 } ∧
      exec (.busVoltageSample b bits) s = .next t) ∧
    (y.stuck = false → x.retry = false → x.checkAt = none → s.on (F.MOT_BK_CTL_EN b.val) = true → s.on F.EVT_GONG_G4 = false →
      s.on (F.MOT_BK_STATUS_BRK_ON b.val) = false → s.f (F.MOT_BK_VON_VON b.val) ≤ v → v < s.f (F.MOT_BK_VHARD_VHARD b.val) →
      ∃ t : State, Writes [(F.MOT_BK_VBUS b.val, v), (F.MOT_BK_STATUS_BRK_ON b.val, 1)] { s with buses := t.buses } t ∧
      (t.busOf b.val).checkAt = some s.time ∧ (t.busOf b.val).second = false ∧ exec (.busVoltageSample b bits) s = .next t) ∧
    (y.stuck = false → x.retry = false → x.checkAt = none → s.on (F.MOT_BK_CTL_EN b.val) = false → x.high = 1 →
      s.f (F.MOT_BK_VHARD_VHARD b.val) ≤ v → ∃ t : State, t.f (F.MOT_BK_STATUS_BUS_OV b.val) = 1 ∧ t.f (F.MOT_BK_STATUS_DRVEN b.val) = 0 ∧
      (∀ c, c < 12 → s.f (F.MOT_C_CTL_BUS c) = b.val → t.f (F.MOT_C_CTL_EN c) = 0) ∧
      exec (.busVoltageSample b bits) s = .next (t.raise EV.BUS_OV b.val)) ∧
    (y.stuck = true → x.retry = false → s.on (F.MOT_BK_STATUS_BRK_ON b.val) = false → exec (.busVoltageSample b bits) s =
      .next ((s.setBus b.val { x with sv := y, si := z }).setBus b.val { x with sv := y.taken, si := z, sampleAt := s.time, retry := true })) ∧
    (y.stuck = true → x.retry = true → ∃ t : State, t.f (F.MOT_BK_STATUS_BUS_OV b.val) = 1 ∧ t.f (F.MOT_BK_STATUS_DRVEN b.val) = 0 ∧
      (t.busOf b.val).retry = false ∧ exec (.busVoltageSample b bits) s = .next (t.raise EV.BUS_OV b.val))) ∧
  (∀ (b : Fin 4) (a : Nat) (u s : State), (s.busOf b.val).checkAt = some a → u = s.advanceTo (a + s.f (F.MOT_BK_CTL_CHK b.val) * 600) →
    ((s.busOf b.val).second = false →
      exec (.brakeCheckEnd b) s = .next (u.setBus b.val { s.busOf b.val with checkAt := some u.time, second := true })) ∧
    ((s.busOf b.val).second = true → ∃ t : State, t.f (F.MOT_BK_STATUS_BRK_FAULT b.val) = 1 ∧ (t.busOf b.val).checkAt = none ∧
      (∀ c, c < 12 → s.f (F.MOT_C_CTL_BUS c) = b.val → t.f (F.MOT_C_STATUS_REGLIM c) = 1) ∧
      exec (.brakeCheckEnd b) s = .next (t.raise EV.BRK_FAULT b.val))) ∧
  (∀ (b : Fin 4) (s : State), (s.busOf b.val).checkAt = none → exec (.brakeCheckEnd b) s = .next s) ∧
  (∀ (b : Fin 4) (s : State), s.on (F.MOT_BK_CTL_EN b.val) = true → exec (.brkFaultClear b) s = .next s) ∧
  (∀ (b : Fin 4) (s : State), s.on (F.MOT_BK_CTL_EN b.val) = false → ∃ t : State, t = { s with regs := t.regs } ∧
    t.f (F.MOT_BK_STATUS_BRK_FAULT b.val) = 0 ∧ (∀ c, c < 12 → t.f (F.MOT_C_STATUS_REGLIM c) =
      if s.f (F.MOT_C_CTL_BUS c) = b.val then s.f (F.MOT_C_CTL_EN c) else s.f (F.MOT_C_STATUS_REGLIM c)) ∧
    exec (.brkFaultClear b) s = .next t) ∧
  (∀ (b : Fin 4) (s : State), s.f (F.MOT_BK_VON_VOFF b.val) ≤ s.f (F.MOT_BK_VBUS b.val) → exec (.busOvClear b) s = .next s) ∧
  ∀ (b : Fin 4) (s : State), s.f (F.MOT_BK_VBUS b.val) < s.f (F.MOT_BK_VON_VOFF b.val) → ∃ t : State,
    Writes [(F.MOT_BK_STATUS_BUS_OV b.val, 0),
      (F.MOT_BK_STATUS_DRVEN b.val, b2n (decide ((s.busOf b.val).written = 7) && !s.on F.EVT_GONG_G4))] s t ∧
    exec (.busOvClear b) s = .next t

/-- HK_SAMPLE of a disabled channel does nothing but, on an on-die channel, what its shutdown path sees: two readings in a row above 140
°C raise EV_HK_TSD; in SERVICE a supply channel's code is its VALUE; a valid reading not above any threshold enters no level; one above
CRIT for DWELL samples enters CRIT; a first invalid sample is withheld and the second in a row declares the sensor broken with VALUE
0x07D0. HK_REQUAL acts on a broken channel, HK_TEST returns to SLOW unless a station is armed. The demand step rises, falls or stands at
MAXSTEP, and A falls to a lower D at once; the check raises A by one where no armed station's projection exceeds LIMIT, and otherwise
sets DEFER. Completes: hkSample, hkRequal, hkTest, throttleDemandStep, throttleApplyCheck. (13_thermal_and_housekeeping.md) -/
def Obligations.HousekeepingAndThrottling : Prop :=
  (∀ (x : Fin 60) (raw : BitVec 12) (v : BitVec 16) (ok : Bool) (u s : State), s.on (F.HK_CH_CFG_EN x.val) = false →
    u = s.advanceTo ((s.hkCh x.val).last + s.hkInterval x.val) →
    (12 ≤ x.val → exec (.hkSample x raw v ok) s = .next s) ∧
    (x.val < 12 → (ok = false ∨ v.toInt ≤ 1120) →
      exec (.hkSample x raw v ok) s = .next (u.setHk x.val { s.hkCh x.val with last := u.time, hot := 0 }))) ∧
  (∀ (x : Fin 12) (raw : BitVec 12) (v : BitVec 16) (s : State), s.on (F.HK_CH_CFG_EN x.val) = false → (s.hkCh x.val).hot = 1 →
    1120 < v.toInt → ∃ t : State, t.f F.HK_STATUS_TSD = 1 ∧ (t.hkCh x.val).hot = 2 ∧
    exec (.hkSample (x.castLE (by decide)) raw v true) s = .next (t.raise EV.HK_TSD x.val)) ∧
  (∀ (x : Fin 60) (raw : BitVec 12) (v : BitVec 16) (ok : Bool) (u s : State), s.on (F.HK_CH_CFG_EN x.val) = true →
    s.on F.HK_STATUS_MODE = true → u = s.advanceTo ((s.hkCh x.val).last + s.hkInterval x.val) →
    (44 ≤ x.val → ∃ t : State, Writes [(F.HK_CH_TEMP_RAW x.val, raw.toNat), (F.HK_CH_TEMP_VALUE x.val, raw.toNat)] { u with hk := t.hk } t ∧
      t.hkCh x.val = { s.hkCh x.val with last := u.time, slowOk := true } ∧ exec (.hkSample x raw v ok) s = .next t) ∧
    (∀ y : Int, x.val < 28 → (if x.val < 12 then some v.toInt else diodeReading v.toInt (s.f (F.HK_CH_CFG_PARAM x.val))) = some y →
      ok = true → s.on (F.HK_CH_STATUS_BROKEN x.val) = false → (s.hkCh x.val).retry = false →
      ((∀ i, i < 3 → y ≤ s.hkThr x.val i) → y ≤ 1120 → ∃ t : State, exec (.hkSample x raw v ok) s = .next t ∧
        t = { u with regs := t.regs, hk := t.hk, life := t.life } ∧ t.f (F.HK_CH_TEMP_RAW x.val) = raw.toNat ∧
        t.f (F.HK_CH_TEMP_VALUE x.val) = ux 16 y ∧ (t.hkCh x.val).last = u.time ∧ (t.hkCh x.val).enter = [0, 0, 0] ∧
        t.f (F.HK_CH_STATUS_ENTERED x.val) = s.f (F.HK_CH_STATUS_ENTERED x.val)) ∧
      (s.hkThr x.val 2 < y → max 1 (s.f (F.HK_CH_CFG_DWELL x.val)) ≤ nthD 0 (s.hkCh x.val).enter 2 + 1 →
        bitOf (s.hkCh x.val).inside 2 = false → ∃ t : State, exec (.hkSample x raw v ok) s = .next t ∧
        t.f (F.HK_CH_STATUS_LEVEL x.val) = 3 ∧ t.f (F.HK_CH_STATUS_ENTERED x.val) = 1 ∧ t.f F.HK_STATUS_CRIT = 1 ∧
        t.f (F.HK_CH_TEMP_VALUE x.val) = ux 16 y)) ∧
    (x.val < 44 → hkValid x.val raw.toNat ok = false → s.on (F.HK_CH_STATUS_BROKEN x.val) = false → (s.hkCh x.val).retry = false →
      (x.val < 12 → ok = false) → ∃ t : State, Writes [(F.HK_CH_TEMP_RAW x.val, raw.toNat)] { u with hk := t.hk } t ∧
      t.hkCh x.val = { s.hkCh x.val with
        last := u.time, retry := true, hot := if x.val < 12 then 0 else (s.hkCh x.val).hot } ∧ exec (.hkSample x raw v ok) s = .next t) ∧
    (x.val < 44 → hkValid x.val raw.toNat ok = false → s.on (F.HK_CH_STATUS_BROKEN x.val) = false → (s.hkCh x.val).retry = true →
      ∃ t : State, exec (.hkSample x raw v ok) s = .next t ∧ t.f (F.HK_CH_STATUS_BROKEN x.val) = 1 ∧ t.f F.HK_STATUS_BROKEN = 1 ∧
      t.f (F.HK_CH_TEMP_VALUE x.val) = 0x07D0 ∧ 2 ≤ t.f (F.HK_CH_STATUS_LEVEL x.val) ∧ (t.hkCh x.val).retry = false)) ∧
  (∀ (x : Fin 60) (s : State), s.on (F.HK_CH_STATUS_BROKEN x.val) = false → exec (.hkRequal x) s = .next s) ∧
  (∀ (x : Fin 60) (s : State), s.on (F.HK_CH_STATUS_BROKEN x.val) = true → ∃ t : State, Writes [(F.HK_CH_STATUS_REQUAL x.val, 1)]
    (s.setHk x.val { s.hkCh x.val with requal := 0 }) t ∧ exec (.hkRequal x) s = .next t) ∧
  (∀ s : State, s.anyArmed = true → ∃ t : State, Writes [(F.HK_FLAM_COUNT, min (s.f F.HK_FLAM_COUNT + 1) (2 ^ F.HK_FLAM_COUNT.width - 1))] s t ∧
    exec .hkTest s = .next (t.tally 0x235 1)) ∧
  (∀ s : State, s.anyArmed = false → ∃ t : State, Writes [(F.HK_CTL_TEST, 1), (F.HK_STATUS_MODE, 0)] { s with hk := t.hk } t ∧
    (∀ x, x < 60 → t.hkCh x = { s.hkCh x with slowOk := false }) ∧ exec .hkTest s = .next t) ∧
  (∀ (u s : State) (d : Nat), u = s.advanceTo (s.stepAt + max 1 (s.f F.HK_THROT_STEP_INT) * 600000) →
    d = (if s.throttlers fun x => s.on (F.HK_CH_STATUS_BROKEN x) then s.f F.HK_THROT_MAXSTEP
      else if s.throttlers fun x => decide (2 ≤ s.f (F.HK_CH_STATUS_LEVEL x)) then
        (if s.f F.HK_THLIM_D < s.f F.HK_THROT_MAXSTEP then s.f F.HK_THLIM_D + 1 else s.f F.HK_THLIM_D)
      else s.f F.HK_THLIM_D - 1) → ∃ t : State, exec .throttleDemandStep s = .next t ∧
    t = { u with stepAt := u.time, regs := t.regs } ∧ t.f F.HK_THLIM_D = d ∧ t.f F.HK_THLIM_A = min (s.f F.HK_THLIM_A) d ∧
    (d ≤ s.f F.HK_THLIM_A → t.f F.WEB_SLOWDOWN_THERM = 0 ∧ t.f F.HK_STATUS_DEFER = 0)) ∧
  ∀ (u s : State) (a : Nat), u = s.advanceTo (s.checkAt + 600000) → a = s.f F.HK_THLIM_A →
    (a < s.f F.HK_THLIM_D → (∃ n, n < 8 ∧ s.armed n = true ∧
        s.thLimit * sclkShare (a + 1) < s.f (F.SCR_DEMAND_RATIO n) * sclkShare a) → ∃ t : State,
      Writes [(F.HK_STATUS_DEFER, 1)] { u with checkAt := u.time } t ∧ exec .throttleApplyCheck s = .next (t.tally 0x221 1)) ∧
    (a < s.f F.HK_THLIM_D → (∀ n, n < 8 → s.armed n = true →
        s.f (F.SCR_DEMAND_RATIO n) * sclkShare a ≤ s.thLimit * sclkShare (a + 1)) → ∃ t : State,
      exec .throttleApplyCheck s = .next t ∧ t = { u with checkAt := u.time, regs := t.regs } ∧ t.f F.HK_THLIM_A = a + 1 ∧
      t.f F.HK_STATUS_DEFER = 0) ∧
    (s.f F.HK_THLIM_D ≤ a → ∃ t : State, Writes [(F.HK_THLIM_A, s.f F.HK_THLIM_D), (F.WEB_SLOWDOWN_THERM, 0), (F.HK_STATUS_DEFER, 0)]
      { u with checkAt := u.time } t ∧ exec .throttleApplyCheck s = .next t)

/-- G3_STOP and G4 act once for what was raised: G3_STOP flushes the open entries and lets the keepalives follow; G4 makes every
keepalive static, the outputs idle and every drive disabled, and flushes, or lets the keeper save, the open entries, and then reports to
the keeper and sets EVT_GONG.G4; after it G3_STOP only forgets what was raised. DECEL_CHECK passes while the published velocity is
within the bound of R387, and the first failure raises EV_STOP_ENFORCED with cause 1. STOP_TIMEOUT disables every channel, drops
KA_DRIVE and raises it with cause 2. STOP_DONE clears G3, sets STOP_DONE, keeps the stop's record and raises EV_STOP_DONE. KA_HV_TIMEOUT
makes KA_HV static. Completes: g3Stop, decelCheck, stopTimeout, stopDone, g4, kaHvTimeout. (14_faults_events_partners.md) -/
def Obligations.GongStops : Prop :=
  (∀ s : State, s.gong.g3Want = false → exec .g3Stop s = .next s) ∧
  (∀ s : State, s.gong.g3Want = true → s.g4 = true → exec .g3Stop s = .next { s with gong := { s.gong with g3Want := false } }) ∧
  (∀ s : State, s.gong.g3Want = true → s.g4 = false → (∀ q, q < 4 → s.f (F.CHG_CS_STATE_STATE q) = 0) →
    (∀ a, a < 24 → s.on (F.AXS_A_CTL_EN a) = false ∨ s.axisGeared a = true) →
    exec .g3Stop s = .next (({ s with gong := { s.gong with g3Want := false } }.flush none).keepalives)) ∧
  (∀ s : State, (s.on F.EVT_GONG_G3 = false ∨ s.f F.EVT_STOP_DECEL = 0 ∨ s.gong.failed = true) → exec .decelCheck s = .next s) ∧
  (∀ (u s : State) (bound : Int), s.on F.EVT_GONG_G3 = true → s.f F.EVT_STOP_DECEL ≠ 0 → s.gong.failed = false →
    u = s.advanceTo (s.gong.g3At + s.f F.EVT_STOP_GRACE * 600000) →
    bound = maxI 0 (s.gong.v0 * (600000000 * 600000000) - s.f F.EVT_STOP_DECEL * 10 * ((u.time : Int) - s.gong.g3At) * 2 ^ 40) →
    (u.webVel * (600000000 * 600000000) ≤ bound → exec .decelCheck s = .next u) ∧
    (bound < u.webVel * (600000000 * 600000000) → ∃ t : State, t.f F.EVT_GONG_ENFORCED = 1 ∧
      (s.f F.EVT_STOP_AXES = 0 → Writes [(F.EVT_GONG_ENFORCED, 1)] { u with gong := { s.gong with failed := true } } t) ∧
      exec .decelCheck s = .next (t.raise EV.STOP_ENFORCED 1))) ∧
  (∀ s : State, (s.on F.EVT_GONG_G3 = false ∨ s.gong.stopTimed = true) → exec .stopTimeout s = .next s) ∧
  (∀ s : State, s.on F.EVT_GONG_G3 = true → s.gong.stopTimed = false → ∃ t : State,
    t.time = (s.advanceTo (s.gong.g3At + max 1 (s.f F.EVT_STOP_STOPMAX) * 600000000)).time ∧
    t.gong.stopTimed = true ∧ t.gong.driveDrop = true ∧ t.f F.EVT_KA_STATUS_DRIVE = 0 ∧ t.f F.EVT_GONG_ENFORCED = 1 ∧
    (∀ c, c < 12 → t.f (F.MOT_C_CTL_EN c) = 0 ∧ t.f (F.STP_CTL_EN c) = 0 ∧ (t.motor c).vd = 0 ∧ (t.motor c).vq = 0) ∧
    exec .stopTimeout s = .next (t.raise EV.STOP_ENFORCED 2)) ∧
  (∀ s : State, (s.on F.EVT_GONG_G3 = false ∨ s.gong.zeroSince = none ∨ s.stopped = false) → exec .stopDone s = .next s) ∧
  (∀ (z len : Nat) (u s : State), s.on F.EVT_GONG_G3 = true → s.gong.zeroSince = some z → s.stopped = true → s.gong.g3Want = false →
    u = s.advanceTo (z + 60000000) → len = u.time - s.gong.g3At → ∃ t : State, t.time = u.time ∧
    t.f F.EVT_GONG_G3 = 0 ∧ t.f F.EVT_GONG_STOP_DONE = 1 ∧ t.gong.driveDrop = false ∧ t.gong.kaHvOff = false ∧
    t.stops.head? = some (⟨3, s.f F.EVT_GONG_LAST_EVT, s.gong.cls, u.calNow - len * 32768 / 600000000, len / 6000000⟩ : Stop) ∧
    exec .stopDone s = .next (t.raiseX EV.STOP_DONE)) ∧
  (∀ s : State, s.gong.g4Want = false → exec .g4 s = .next s) ∧
  (∀ t s : State, s.gong.g4Want = true → t = s.kaAllStatic.outputsReset → ∃ v : State, t.gong = s.gong ∧
    (∀ p ∈ s.kaWant, t.f p.2.1 = 0) ∧ t.f F.EVT_KA_STATUS_LASER = 0 ∧
    (∀ c, c < 16 → t.f (F.EPS_HV_STATUS_OUT c) = 0) ∧ (∀ z, z < 2 → t.f (F.EPS_FZ_STATUS_HEAT z) = 0) ∧
    (∀ l, l < 18 → t.f (F.INK_L_STATUS_UP l) = 0) ∧ (∀ n, n < 4 → (t.epSt n).lit = false) ∧
    (∀ c, c < 12 → t.f (F.MOT_C_CTL_EN c) = 0 ∧ t.f (F.STP_CTL_EN c) = 0 ∧ (t.motor c).vd = 0 ∧ (t.motor c).vq = 0) ∧
    (∀ b, b < 4 → t.f (F.MOT_BK_STATUS_DRVEN b) = 0 ∧ t.f (F.MOT_BK_STATUS_BRK_ON b) = 0) ∧
    v = (if s.clk.running then t.flush (some Reason.DEVICE_STOP) else t.saveLedger).reportG4 ∧ v.f F.EVT_GONG_G4 = 1 ∧
    v.gong.g4Want = false ∧ exec .g4 s = .next v) ∧
  (∀ s : State, s.on F.EVT_GONG_G3 = false → exec .kaHvTimeout s = .next s) ∧
  ∀ s : State, s.on F.EVT_GONG_G3 = true → ∃ t : State, exec .kaHvTimeout s = .next t ∧ t.f F.EVT_KA_STATUS_HV = 0 ∧
    t = { s.advanceTo (s.gong.g3At + 1200000000) with gong := { s.gong with kaHvOff := true } }.keepalives

/-- HOST_RAISE of an event below EV252 is counted in EVT_FLAM; of EV252 to EV255 it raises the event, and at G0 without a repeat count
the cause, the time, the count and the pending bit are those of the raising and the bit reaches every mallet holding a role where BCAST
is 1. PEND_CLEAR clears the bits of its mask that no raising of the same cycle sets. EVENT_CONFIG_WRITE of a reserved event is counted;
otherwise LEVEL takes an allowed level while unlocked, else it keeps its value and the write of it is counted, and the other fields are
written. FLAM_READ answers a FLAM counter and clears it, COUNT_READ the transient count of a channel; a read of no such register is no
such command, one that is not an aligned word is answered with an abort, and in D3hot the host gets no answer. Completes: hostRaise,
pendClear, eventConfigWrite, flamRead, countRead. (00_scope.md, 14_faults_events_partners.md) -/
def Obligations.HostRaisesPendingBitsAndCounts : Prop :=
  (∀ (e : BitVec 8) (cause : BitVec 16) (s : State), e.toNat < 252 → ∃ t : State,
    Writes [(F.EVT_RAISE_EVENT, e.toNat), (F.EVT_RAISE_CAUSE, cause.toNat),
      (F.EVT_FLAM_COUNT, min (s.f F.EVT_FLAM_COUNT + 1) (2 ^ F.EVT_FLAM_COUNT.width - 1))] s t ∧
    exec (.hostRaise e cause) s = .next (t.tally 0x235 1)) ∧
  (∀ (e : BitVec 8) (cause : BitVec 16) (s : State), 252 ≤ e.toNat → ∃ t : State,
    Writes [(F.EVT_RAISE_EVENT, e.toNat), (F.EVT_RAISE_CAUSE, cause.toNat)] s t ∧
    exec (.hostRaise e cause) s = .next (t.raise e.toNat cause.toNat)) ∧
  (∀ (e : BitVec 8) (cause : BitVec 16) (s : State), 252 ≤ e.toNat → s.f (F.EVT_E_CFG_LEVEL e.toNat) = 0 →
    s.f (F.EVT_E_CFG_REPN e.toNat) < 2 → ∃ t : State, exec (.hostRaise e cause) s = .next t ∧
    t.f (F.EVT_E_CAUSE e.toNat) = cause.toNat ∧ t.f (F.EVT_E_TIME e.toNat) = s.time % 2 ^ 32 ∧
    t.f (F.EVT_E_COUNT e.toNat) = min (s.f (F.EVT_E_COUNT e.toNat) + 1) (2 ^ (F.EVT_E_COUNT e.toNat).width - 1) ∧
    bitOf (t.f (F.EVT_PEND (e.toNat / 32))) (e.toNat % 32) = true ∧
    (∀ m, m < 36 → s.on (F.EVT_E_CFG_BCAST e.toNat) = true → (s.mallet m).role.isSome = true →
      (t.mallet m).pend = (s.mallet m).pend ||| BitVec.ofNat 256 (2 ^ e.toNat))) ∧
  (∀ (k : Fin 8) (mask met : BitVec 32) (s : State), ∃ t : State, exec (.pendClear k mask met) s = .next t ∧
    t = { s with regs := t.regs, count := t.count, pba := t.pba, gong := t.gong } ∧
    (∀ i, i < 32 → bitOf (t.f (F.EVT_PEND k.val)) i =
      (bitOf (s.f (F.EVT_PEND k.val)) i && !(bitOf mask.toNat i && !bitOf met.toNat i))) ∧
    (met = 0 → t = { s with regs := t.regs } ∧ ∀ y : Field, y.key ≠ (F.EVT_PEND k.val).key → t.f y = s.f y)) ∧
  (∀ (e : BitVec 8) (v : BitVec 32) (s : State), evNamed e.toNat = false → ∃ t : State,
    Writes [(F.EVT_FLAM_COUNT, min (s.f F.EVT_FLAM_COUNT + 1) (2 ^ F.EVT_FLAM_COUNT.width - 1))] s t ∧
    exec (.eventConfigWrite e v) s = .next (t.tally 0x235 1)) ∧
  (∀ (e : BitVec 8) (v : BitVec 32) (k lvl : Nat) (s : State), k = e.toNat → lvl = bitsOf v.toNat 31 29 → evNamed k = true →
    (lvl = s.f (F.EVT_E_CFG_LEVEL k) ∨ bitOf (s.f (F.EVT_E_CFG_ALLOW k)) lvl = true ∧ s.on F.EVT_LOCK_LOCK = false) → ∃ t : State,
    Writes [(F.EVT_E_CFG_LEVEL k, lvl), (F.EVT_E_CFG_BCAST k, v.toNat / 2 ^ 22), (F.EVT_E_CFG_HOST_EN k, v.toNat / 2 ^ 21),
      (F.EVT_E_CFG_REPN k, v.toNat / 2 ^ 16), (F.EVT_E_CFG_REPWIN k, v.toNat / 2 ^ 8), (F.EVT_E_CFG_VEC k, v.toNat)] s t ∧
    exec (.eventConfigWrite e v) s = .next t) ∧
  (∀ (e : BitVec 8) (v : BitVec 32) (k lvl : Nat) (s : State), k = e.toNat → lvl = bitsOf v.toNat 31 29 → evNamed k = true →
    lvl ≠ s.f (F.EVT_E_CFG_LEVEL k) → (bitOf (s.f (F.EVT_E_CFG_ALLOW k)) lvl = false ∨ s.on F.EVT_LOCK_LOCK = true) → ∃ t : State,
    Writes [(F.EVT_E_CFG_BCAST k, v.toNat / 2 ^ 22), (F.EVT_E_CFG_HOST_EN k, v.toNat / 2 ^ 21),
      (F.EVT_E_CFG_REPN k, v.toNat / 2 ^ 16), (F.EVT_E_CFG_REPWIN k, v.toNat / 2 ^ 8), (F.EVT_E_CFG_VEC k, v.toNat),
      (F.EVT_FLAM_COUNT, min (s.f F.EVT_FLAM_COUNT + 1) (2 ^ F.EVT_FLAM_COUNT.width - 1))] s t ∧
    exec (.eventConfigWrite e v) s = .next (t.tally 0x235 1)) ∧
  (∀ (who : Reader) (off : BitVec 26) (len : BitVec 13) (s : State), isFlam (off.toNat / 4 * 4) = false → exec (.flamRead who off len) s = .next s) ∧
  (∀ (who : Reader) (off : BitVec 26) (p : RegDef × Nat × Nat) (x : Field) (s : State), isFlam off.toNat = true →
    regAt off.toNat = some p → p.1.fields p.2.1 p.2.2 = [(x, .rc)] → s.reaches who off.toNat = true → s.d3hot = false → ∃ t : State,
    Writes [(x, 0)] { s with answer := .word (BitVec.ofNat 32 (s.f x * 2 ^ x.lo)) } t ∧ exec (.flamRead who off 4) s = .next t) ∧
  (∀ (who : Reader) (off : BitVec 26) (len : BitVec 13) (s : State), isFlam (off.toNat / 4 * 4) = true → s.d3hot = false →
    (off.toNat % 4 ≠ 0 ∨ len ≠ 4) → exec (.flamRead who off len) s = .next { s with answer := .abort }) ∧
  (∀ (who : Reader) (off : BitVec 26) (len : BitVec 13) (s : State), isFlam (off.toNat / 4 * 4) = true →
    exec (.countRead who .bar0 off len) s = .next s) ∧
  (∀ (bar : Bar) (off : BitVec 26) (len : BitVec 13) (s : State), (bar ≠ .bar0 ∨ isFlam (off.toNat / 4 * 4) = false) →
    (s.d3hot = true → exec (.countRead .host bar off len) s = .next s) ∧
    (s.d3hot = false → (off.toNat % 4 ≠ 0 ∨ len ≠ 4) → exec (.countRead .host bar off len) s = .next { s with answer := .abort })) ∧
  ∀ (who : Reader) (x : Fin 60) (off : BitVec 26) (s : State), off.toNat = (F.HK_CH_STATUS_TRANS x.val).off →
    s.reaches who off.toNat = true → s.d3hot = false → ∃ t : State,
    Writes [(F.HK_CH_STATUS_TRANS x.val, 0)] { s with answer := t.answer } t ∧ exec (.countRead who .bar0 off 4) s = .next t ∧
    ∃ w : BitVec 32, t.answer = .word w ∧ w.toNat / 2 ^ 16 % 2 ^ 8 = s.f (F.HK_CH_STATUS_TRANS x.val) ∧
    w.toNat % 4 = s.f (F.HK_CH_STATUS_LEVEL x.val)

/-- COUNTER_READ answers bits 31:0 of the counter and puts bits 47:32 into the reader's shadow, and changes nothing else; a following
read of CNTi_HI by the same reader, through BAR0 or BAR4 alike, in any later state in which that shadow stands, returns it. A write of
CNTi_HI through BAR0 changes only the staging register; in any later state in which that staging register stands the next write of
CNTi_LO sets all 48 bits at one tick, and an increment of that tick leaves them. Completes: counterRead, cntHiWrite, cntLoWrite. (R440) -/
def Obligations.CounterWindows : Prop :=
  (∀ (who : Reader) (bar : Bar) (i : Fin 56) (s : State), (bar = .bar0 ∨ s.on F.GCTL_USERPAGE_CNT_EN = true) → ∃ t : State,
    exec (.counterRead who bar i) s = .next t ∧
    t = { s with answer := .word (BitVec.ofNat 32 (s.counter i.val % 2 ^ 32)), shadow := t.shadow } ∧
    (∀ (who' : Reader) (off : Nat), off < 2 ^ 26 → (who'.id ≠ who.id ∨ off ≠ (F.CNT_HI i.val).off) → t.shadowOf who'.id off = s.shadowOf who'.id off) ∧
    ∀ w : State, w.shadowOf who.id (F.CNT_HI i.val).off = t.shadowOf who.id (F.CNT_HI i.val).off →
      (w.reaches who (F.CNT_HI i.val).off = true →
        (w.busRead who .bar0 (F.CNT_HI i.val).off 4).answer = .word (BitVec.ofNat 32 (s.counter i.val / 2 ^ 32))) ∧
      (w.d3hot = false → w.on F.GCTL_USERPAGE_CNT_EN = true →
        (w.busRead who .bar4 (0x1004 + i.val * 8) 4).answer = .word (BitVec.ofNat 32 (s.counter i.val / 2 ^ 32)))) ∧
  ∀ (i : Fin 56) (hi lo : BitVec 32) (s : State), ∃ t : State,
    exec (.cntHiWrite .bar0 i hi) s = .next t ∧ t = { s with cntStage := t.cntStage } ∧
    ∀ w : State, tget 0 w.cntStage i.val = tget 0 t.cntStage i.val → ∃ v : State,
      exec (.cntLoWrite .bar0 i lo) w = .next v ∧ v.time = w.time ∧ v.counter i.val = 2 ^ 32 * (hi.toNat % 2 ^ 16) + lo.toNat ∧
      ∀ k n : Nat, k = i.val → ((v.ctr k).gain v.time n).value = (v.ctr k).value

/-- COUNTER_ENABLE stores a configuration only while EN is 0, enables a source that fits the mode and refuses another with CFG_ERR.
While CNT_EN is 0 a BAR4 read answers zero and latches nothing. A write through BAR4 is dropped and counted in CNT_FLAM (the model's
reading of R447, log entry 77). A write that meets a wrap sets OVF, raises EV_CNT_OVF and stands. COUNTER_WRAP reloads a sampling
counter, records STIME, sets OVF and raises EV_CNT_SAMPLE, and takes any other counter modulo 2^48. A write of FREEZE acts from the next
tick; then no value changes. SNAPSHOT stores the tick, and every counter's value at the end of that tick is kept. Completes:
counterEnable, counterRead, cntHiWrite, cntLoWrite, counterWrap, counterFreeze, snapshot. (16_event_counters.md) -/
def Obligations.CountersWrapFreezeAndSnapshot : Prop :=
  (∀ (i : Fin 56) (v : BitVec 32) (L : List (Field × Nat)) (s : State), s.on (F.CNT_CFG_EN i.val) = false → bitOf v.toNat 24 = false →
    L = [(F.CNT_CFG_MODE i.val, bitsOf v.toNat 30 29), (F.CNT_CFG_SAMPLE i.val, bitsOf v.toNat 28 28), (F.CNT_CFG_SRC i.val, bitsOf v.toNat 9 0)] →
    ∃ t : State, exec (.counterEnable i v) s = .next t ∧
    (bitOf v.toNat 31 = false → Writes L s t) ∧
    (bitOf v.toNat 31 = true → modeFits (bitsOf v.toNat 30 29) (bitsOf v.toNat 9 0) = true → Writes (L ++ [(F.CNT_CFG_EN i.val, 1)]) s t) ∧
    (bitOf v.toNat 31 = true → modeFits (bitsOf v.toNat 30 29) (bitsOf v.toNat 9 0) = false →
      Writes (L ++ [(F.CNT_CFG_CFG_ERR i.val, 1)]) s t)) ∧
  (∀ (i : Fin 56) (v : BitVec 32) (s : State), s.on (F.CNT_CFG_EN i.val) = true → bitOf v.toNat 24 = false → i.val < 48 →
    bitOf v.toNat 31 = false → ∃ t : State, Writes [(F.CNT_CFG_EN i.val, 0)] s t ∧ exec (.counterEnable i v) s = .next t) ∧
  (∀ (i : Fin 56) (v : BitVec 32) (s : State), s.on (F.CNT_CFG_EN i.val) = true → bitOf v.toNat 24 = false →
    (48 ≤ i.val ∨ bitOf v.toNat 31 = true) → ∃ t : State,
    Writes [(F.CNT_FLAM_COUNT, min (s.f F.CNT_FLAM_COUNT + 1) (2 ^ F.CNT_FLAM_COUNT.width - 1))] s t ∧
    exec (.counterEnable i v) s = .next (t.tally 0x235 1)) ∧
  (∀ (who : Reader) (i : Fin 56) (s : State), s.on F.GCTL_USERPAGE_CNT_EN = false →
    exec (.counterRead who .bar4 i) s = .next { s with answer := .word 0 }) ∧
  (∀ (i : Fin 56) (v : BitVec 32) (s : State), ∃ t : State,
    Writes [(F.CNT_FLAM_COUNT, min (s.f F.CNT_FLAM_COUNT + 1) (2 ^ F.CNT_FLAM_COUNT.width - 1))] s t ∧
    exec (.cntHiWrite .bar4 i v) s = .next (t.tally 0x235 1) ∧ exec (.cntLoWrite .bar4 i v) s = .next (t.tally 0x235 1)) ∧
  (∀ (i : Fin 56) (v : BitVec 32) (s : State), 2 ^ 48 ≤ (s.ctr i.val).value →
    bitOf (s.f (if i.val < 32 then F.CNT_OVF_LO else F.CNT_OVF_HI)) (i.val % 32) = false → ∃ t : State,
    Writes [(if i.val < 32 then F.CNT_OVF_LO else F.CNT_OVF_HI,
      s.f (if i.val < 32 then F.CNT_OVF_LO else F.CNT_OVF_HI) + 2 ^ (i.val % 32))] s t ∧
    ∃ w : State, w = t.raise EV.CNT_OVF i.val ∧ exec (.cntLoWrite .bar0 i v) s = .next { w with
      count := tput Counter.reset w.count i.val ⟨2 ^ 32 * tget 0 w.cntStage i.val + v.toNat, w.time + 1,
        if (w.ctr i.val).wroteAt = w.time + 1 then (w.ctr i.val).was else (w.ctr i.val).value % 2 ^ 48,
        (w.ctr i.val).due, (w.ctr i.val).snap⟩ }) ∧
  (∀ (i : Fin 56) (s : State), 2 ^ 48 ≤ (s.ctr i.val).was → ∃ u : State,
    u = { s with count := tput Counter.reset s.count i.val { s.ctr i.val with was := (s.ctr i.val).was % 2 ^ 48 } } ∧
    (bitOf (s.f (if i.val < 32 then F.CNT_OVF_LO else F.CNT_OVF_HI)) (i.val % 32) = false → ∃ t : State,
      Writes [(if i.val < 32 then F.CNT_OVF_LO else F.CNT_OVF_HI,
        s.f (if i.val < 32 then F.CNT_OVF_LO else F.CNT_OVF_HI) + 2 ^ (i.val % 32))] u t ∧
      exec (.counterWrap i) s = exec (.counterWrap i) (t.raise EV.CNT_OVF i.val)) ∧
    (bitOf (s.f (if i.val < 32 then F.CNT_OVF_LO else F.CNT_OVF_HI)) (i.val % 32) = true →
      exec (.counterWrap i) s = exec (.counterWrap i) u)) ∧
  (∀ (i : Fin 56) (s : State), (s.ctr i.val).was < 2 ^ 48 → (s.ctr i.val).value < 2 ^ 48 → s.tickGain 1 i.val = 0 → exec (.counterWrap i) s = .next s) ∧
  (∀ (i : Fin 56) (u s : State) (g : Nat), g = s.tickGain 1 i.val → (s.ctr i.val).was < 2 ^ 48 → (s.ctr i.val).value < 2 ^ 48 → g ≠ 0 →
    u = s.advanceTo (s.time + (2 ^ 48 - (s.ctr i.val).value + g - 1) / g) → (u.ctr i.val).was < 2 ^ 48 → 2 ^ 48 ≤ (u.ctr i.val).value →
    exec (.counterWrap i) s = exec (.counterWrap i) u) ∧
  (∀ (i : Fin 56) (s : State), (s.ctr i.val).was < 2 ^ 48 → 2 ^ 48 ≤ (s.ctr i.val).value →
    bitOf (s.f (if i.val < 32 then F.CNT_OVF_LO else F.CNT_OVF_HI)) (i.val % 32) = true →
    (s.on (F.CNT_CFG_SAMPLE i.val) = false → ∃ t : State, exec (.counterWrap i) s = .next t ∧
      Writes [] { s with count := t.count } t ∧ t.counter i.val = s.counter i.val) ∧
    (s.on (F.CNT_CFG_SAMPLE i.val) = true → ∃ t : State, exec (.counterWrap i) s = .next (t.raise EV.CNT_SAMPLE i.val) ∧
      Writes [(F.CNT_STIME_LO i.val, s.time), (F.CNT_STIME_HI i.val, s.time / 2 ^ 32)] { s with count := t.count } t ∧
      t.counter i.val = (s.pair (F.CNT_RELOAD_HI i.val) (F.CNT_RELOAD_LO i.val) + ((s.ctr i.val).value - 2 ^ 48)) % 2 ^ 48)) ∧
  (∀ (i : Fin 56) (s : State), (s.ctr i.val).was < 2 ^ 48 → 2 ^ 48 ≤ (s.ctr i.val).value → s.on (F.CNT_CFG_SAMPLE i.val) = false →
    bitOf (s.f (if i.val < 32 then F.CNT_OVF_LO else F.CNT_OVF_HI)) (i.val % 32) = false → ∃ t : State,
    Writes [(if i.val < 32 then F.CNT_OVF_LO else F.CNT_OVF_HI,
      s.f (if i.val < 32 then F.CNT_OVF_LO else F.CNT_OVF_HI) + 2 ^ (i.val % 32))] { s with count := t.count } t ∧
    t.counter i.val = s.counter i.val ∧ exec (.counterWrap i) s = .next (t.raise EV.CNT_OVF i.val)) ∧
  (∀ (on : Bool) (s : State), ∃ t : State, Writes [(F.CNT_CTL_FREEZE, b2n on)] { s with freeze := some (s.time, s.frozen) } t ∧
    exec (.counterFreeze on) s = .next t ∧ t.frozen = s.frozen ∧
    ∀ w : State, w.freeze = t.freeze → w.on F.CNT_CTL_FREEZE = on → w.time ≠ s.time → w.frozen = on ∧
      (on = true → (∀ code n : Nat, w.tally code n = w) ∧ ∀ n i : Nat, i < 56 → ((w.advance n).ctr i).value = (w.ctr i).value)) ∧
  ∀ s : State, ∃ t : State, exec .snapshot s = .next t ∧ t = { s with regs := t.regs, count := t.count } ∧
    t.pair F.CNT_SNAP_TIME_HI F.CNT_SNAP_TIME_LO = s.time % 2 ^ 64 ∧
    ∀ i, i < 56 → t.ctr i = { s.ctr i with due := true } ∧
      ∀ n : Nat, t.clk.running = true → 0 < n → ((t.advance n).ctr i).snap = s.counter i

/-- OTP_READ answers the word, or 0 with ABSENT, and marks a transient or marginal read; OTP_PROG is refused with the first code of R413
that applies or starts; OTP_PROG_DONE ends it with success, with PROG_FAIL after four attempts, or counts the attempt. A GO while BUSY
is counted. KEY_SET stores a key whose hash matches; KEY_REVOKE blows the target's bit. FW_UPDATE writes the inactive slot; FW_SWITCH
starts it as TRIAL; FW_SWITCHED, FW_SWITCH_TIMEOUT, FW_CONFIRM and KEEPER_WDOG confirm or leave it. Completes: otpKeyWrite, otpRead,
otpProg, otpProgDone, keySet, keyRevoke, fwUpdate, fwSwitch, fwConfirm, fwSwitched, fwSwitchTimeout, keeperWdog. Which standards verify
a key (log entry 32) and that a mailbox command completes at once are the model's. (15_keeper_otp_and_life.md) -/
def Obligations.OtpKeysAndFirmware : Prop :=
  ∀ D : Nat → Nat → List Nat → List (Field × Nat),
  D = (fun op r rsp => (F.MBX_CMD_OP, op) :: (upFrom 0 8).map (fun i => (F.MBX_RSP i, nthD 0 rsp i)) ++
    [(F.MBX_CMD_GO, 0), (F.MBX_STATUS_BUSY, 0), (F.MBX_STATUS_RESULT, r)]) →
  (∀ (v : BitVec 32) (s : State), exec (.otpKeyWrite v) s =
    .next { s with keeper := { s.keeper with key := decide (v.toNat = 0x4F545021) } }) ∧
  (∀ (g : BitVec 4) (w : BitVec 5) (fo : Bool) (r : OtpRead) (s : State), s.on F.OTP_STATUS_BUSY = true → ∃ t : State,
    Writes [(F.OTP_FLAM_COUNT, min (s.f F.OTP_FLAM_COUNT + 1) (2 ^ F.OTP_FLAM_COUNT.width - 1))]
      { s with keeper := { s.keeper with key := false } } t ∧
    exec (.otpRead g w fo r) s = .next (t.tally 0x235 1) ∧ exec (.otpProg g w fo) s = .next (t.tally 0x235 1)) ∧
  (∀ (g : BitVec 4) (w : BitVec 5) (fo : Bool) (r : OtpRead) (v : Nat) (s : State), s.on F.OTP_STATUS_BUSY = false →
    v = s.otpWord (if fo then s.otpReader g.toNat else g.toNat) w.toNat ^^^ (if r.normal = r.tight then r.normal else r.normal2).toNat →
    (bitOf (s.f F.OTP_GSUP_ABSENT) g.toNat = true → ∃ t : State, Writes [(F.OTP_CMD_OP, 1), (F.OTP_CMD_GROUP, g.toNat), (F.OTP_CMD_WORD, w.toNat),
        (F.OTP_CMD_FOLLOW, b2n fo), (F.OTP_RDATA, 0), (F.OTP_STATUS_ERR, 7)] { s with keeper := { s.keeper with key := false } } t ∧
      exec (.otpRead g w fo r) s = .next (t.tally 0x242 1)) ∧
    (bitOf (s.f F.OTP_GSUP_ABSENT) g.toNat = false → r.normal = r.tight → ∃ t : State, Writes [(F.OTP_CMD_OP, 1), (F.OTP_CMD_GROUP, g.toNat),
        (F.OTP_CMD_WORD, w.toNat), (F.OTP_CMD_FOLLOW, b2n fo), (F.OTP_RDATA, v), (F.OTP_STATUS_ERR, 0)]
        { s with keeper := { s.keeper with key := false } } t ∧ exec (.otpRead g w fo r) s = .next (t.tally 0x242 1)) ∧
    (bitOf (s.f F.OTP_GSUP_ABSENT) g.toNat = false → r.normal ≠ r.tight → r.normal2 = r.tight2 → ∃ t : State, t.f F.OTP_RDATA = v % 2 ^ 32 ∧
      t.f F.OTP_STATUS_TRANSIENT = 1 ∧ exec (.otpRead g w fo r) s = .next (t.raiseX EV.OTP_TRANSIENT)) ∧
    (bitOf (s.f F.OTP_GSUP_ABSENT) g.toNat = false → r.normal ≠ r.tight → r.normal2 ≠ r.tight2 → ∃ t : State, t.f F.OTP_RDATA = v % 2 ^ 32 ∧
      t.f F.OTP_STATUS_MARGINAL = 1 ∧ exec (.otpRead g w fo r) s = .next (t.raiseX EV.OTP_MARGINAL))) ∧
  (∀ (g : BitVec 4) (w : BitVec 5) (fo : Bool) (e d old : Nat) (s : State), s.on F.OTP_STATUS_BUSY = false → d = s.f F.OTP_WDATA →
    old = s.otpWord g.toNat w.toNat →
    e = (if g.toNat < 4 then 2 else if s.keeper.key = false then 3 else if s.anyArmed = true then 6 else if s.otpTemp = true then 8
      else if s.otpLocked g.toNat = true ∧ (w.toNat ≠ 30 ∨ d % 65536 &&& (0xFFFF - s.otpWord g.toNat 30 % 65536) ≠ 0) then 1
      else if old &&& d ≠ old then 4 else 0) → ∃ t : State, exec (.otpProg g w fo) s = .next t ∧
    (e ≠ 0 → Writes [(F.OTP_CMD_OP, 2), (F.OTP_CMD_GROUP, g.toNat), (F.OTP_CMD_WORD, w.toNat), (F.OTP_CMD_FOLLOW, b2n fo),
      (F.OTP_STATUS_ERR, e), (F.OTP_STATUS_ATTEMPTS, 0)] { s with keeper := { s.keeper with key := false } } t) ∧
    (e = 0 → Writes [(F.OTP_CMD_OP, 2), (F.OTP_CMD_GROUP, g.toNat), (F.OTP_CMD_WORD, w.toNat), (F.OTP_CMD_FOLLOW, b2n fo),
      (F.OTP_STATUS_ERR, 0), (F.OTP_STATUS_ATTEMPTS, 0), (F.OTP_STATUS_BUSY, 1), (F.OTP_CMD_GO, 1)]
      { s with keeper := { s.keeper with key := false, prog := some (g.toNat * 32 + w.toNat, old ||| d) } } t)) ∧
  (∀ (v : BitVec 32) (s : State), s.keeper.prog = none → exec (.otpProgDone v) s = .next s) ∧
  (∀ (v : BitVec 32) (i target n : Nat) (s : State), s.keeper.prog = some (i, target) → n = s.f F.OTP_STATUS_ATTEMPTS + 1 →
    (v.toNat = target → ∃ t : State, exec (.otpProgDone v) s = .next t ∧ tget 0 t.otp i = tget 0 s.otp i ||| target ∧
      t.f F.OTP_STATUS_BUSY = 0 ∧ t.f F.OTP_STATUS_ERR = 0 ∧ t.keeper.prog = none) ∧
    (v.toNat ≠ target → 4 ≤ n → ∃ t : State, tget 0 t.otp i = tget 0 s.otp i ||| (v.toNat &&& target) ∧ t.f F.OTP_STATUS_BUSY = 0 ∧
      t.f F.OTP_STATUS_ERR = 5 ∧ t.f F.OTP_STATUS_PROG_FAIL = 1 ∧ t.keeper.prog = none ∧
      exec (.otpProgDone v) s = .next (t.raiseX EV.OTP_PROG_FAIL)) ∧
    (v.toNat ≠ target → n < 4 → ∃ t : State, Writes [(F.OTP_STATUS_ATTEMPTS, n)] { s with otp := t.otp } t ∧
      tget 0 t.otp i = tget 0 s.otp i ||| (v.toNat &&& target) ∧ exec (.otpProgDone v) s = .next t)) ∧
  (∀ (host : List (BitVec 8)) (ecc : Ecc) (k : Nat) (s : State), s.on F.MBX_STATUS_READY = true → s.f F.MBX_STATUS_MODE = 1 →
    k = s.f (F.MBX_ARG 0) → isHost (s.argAddr 1) = true → host.length = 97 →
    (3 < k → ∃ t : State, Writes (D 0x34 2 []) s t ∧ exec (.keySet host ecc) s = .next (t.tally 0x245 1)) ∧
    (k ≤ 3 → sha384 host ≠ s.keyHash k → ∃ t : State, Writes (D 0x34 3 []) s t ∧ exec (.keySet host ecc) s = .next (t.tally 0x245 1)) ∧
    (k ≤ 3 → sha384 host = s.keyHash k → ∃ t : State,
      Writes (D 0x34 0 []) { s with keeper := { s.keeper with keys := tput [] s.keeper.keys k host } } t ∧
      exec (.keySet host ecc) s = .next (t.tally 0x245 1))) ∧
  (∀ (host : List (BitVec 8)) (ecc : Ecc) (blown : Bool) (s : State), s.on F.MBX_STATUS_READY = true → s.f F.MBX_STATUS_MODE = 1 →
    isHost (s.argAddr 0) = true → host.length = 128 →
    (s.revokeRefusal host ≠ 0 → ∃ t : State, Writes (D 0x33 (s.revokeRefusal host) []) s t ∧
      exec (.keyRevoke host ecc blown) s = .next (t.tally 0x245 1)) ∧
    (s.revokeRefusal host = 0 → ∃ t : State, exec (.keyRevoke host ecc blown) s = .next t ∧
      (blown = true → t.f F.MBX_STATUS_RESULT = 0 ∧ t.keyRevoked (numAt host 4 1) = true) ∧
      (blown = false → t.f F.MBX_STATUS_RESULT = 4 ∧ t.f F.OTP_STATUS_PROG_FAIL = 1 ∧ t.otp = s.otp))) ∧
  (∀ (fw : Fw) (flashOk : Bool) (s : State), s.on F.MBX_STATUS_READY = true → s.f F.MBX_STATUS_MODE = 1 → isHost (s.argAddr 0) = true →
    (fw.ok = false → ∃ t : State, Writes (D 0x20 3 []) s t ∧ exec (.fwUpdate fw flashOk) s = .next (t.tally 0x245 1)) ∧
    (fw.ok = true → fw.sec.toNat < s.secFloor → ∃ t : State, Writes (D 0x20 4 []) s t ∧
      exec (.fwUpdate fw flashOk) s = .next (t.tally 0x245 1)) ∧
    (fw.ok = true → s.secFloor ≤ fw.sec.toNat → flashOk = false → ∃ t : State, Writes (D 0x20 6 []) s t ∧
      exec (.fwUpdate fw flashOk) s = .next (t.tally 0x245 1)) ∧
    (fw.ok = true → s.secFloor ≤ fw.sec.toNat → flashOk = true → ∃ t : State, Writes (D 0x20 0 [fw.version.toNat])
      { s with keeper := if s.keeper.active = 0 then { s.keeper with slotB := fw } else { s.keeper with slotA := fw } } t ∧
      exec (.fwUpdate fw flashOk) s = .next (t.tally 0x245 1))) ∧
  (∀ s : State, s.on F.MBX_STATUS_READY = true → s.f F.MBX_STATUS_MODE = 1 → ∃ t : State,
    exec .fwSwitch s = .next t ∧ t.keeper = { s.keeper with active := 1 - s.keeper.active, trial := true, back := false, modeWas := 1 } ∧
    t.f F.MBX_STATUS_MODE = 3 ∧ t.f F.MBX_STATUS_READY = 0 ∧ t.f F.MBX_STATUS_RESULT = 0) ∧
  (∀ s : State, s.on F.MBX_STATUS_READY = true → s.f F.MBX_STATUS_MODE = 1 → ∃ u : State,
    exec .fwConfirm s = .next u ∧ u.keeper = { s.keeper with trial := false } ∧ u.f F.MBX_STATUS_TRIAL = 0 ∧ u.f F.MBX_STATUS_RESULT = 0) ∧
  (∀ s : State, s.f F.MBX_STATUS_MODE ≠ 3 → exec .fwSwitched s = .next s ∧ exec .fwSwitchTimeout s = .next s) ∧
  (∀ s : State, s.f F.MBX_STATUS_MODE = 3 → ∃ t : State, t.f F.MBX_STATUS_READY = 1 ∧ t.f F.MBX_STATUS_MODE = s.keeper.modeWas % 4 ∧
    t.f F.MBX_STATUS_SLOT = s.keeper.active % 2 ∧ t.f F.MBX_STATUS_TRIAL = b2n s.keeper.trial ∧
    exec .fwSwitched s = .next (if s.keeper.back then t else t.raiseX EV.FW_SWITCHED).mbxResume) ∧
  (∀ s : State, s.f F.MBX_STATUS_MODE = 3 → s.keeper.back = true → exec .fwSwitchTimeout s = .next (s.raiseX EV.KEEPER_FAULT)) ∧
  (∀ s : State, s.f F.MBX_STATUS_MODE = 3 → s.keeper.back = false → ∃ t : State, exec .fwSwitchTimeout s = .next (t.raiseX EV.FW_REVERT) ∧
    t.keeper = { s.keeper with active := 1 - s.keeper.active, trial := false, back := true }) ∧
  (∀ s : State, s.f F.MBX_STATUS_MODE ≠ 3 → s.keeper.trial = false → (∀ w, s.keeper.wdogAt = some w → w + 327680 ≤ s.calNow) →
    exec .keeperWdog s = .next { s with keeper := { s.keeper with wdogAt := some s.calNow } }) ∧
  ∀ s : State, s.f F.MBX_STATUS_MODE ≠ 3 → (s.keeper.trial = true ∨ ∃ w, s.keeper.wdogAt = some w ∧ s.calNow < w + 327680) → ∃ t : State,
    exec .keeperWdog s = .next (t.raiseX EV.FW_REVERT) ∧ t.f F.MBX_STATUS_MODE = 3 ∧ t.f F.MBX_STATUS_READY = 0 ∧
    t.keeper.active = 1 - s.keeper.active ∧ t.keeper.trial = false ∧ t.keeper.back = true ∧ t.keeper.modeWas = s.f F.MBX_STATUS_MODE

/-- While READY is clear every mailbox command waits with its OP and GO. In normal mode GET_INFO answers versions and boot count; RESET
with its key asks for a reset 1 ms later and otherwise is BAD_ARG; CLOSE_CONFIG sets the locks; SET_TCOMP stores and applies a table;
CAL_SET sets the calendar; IMG_LOAD and IMG_STAGE load a verified image from host memory into a mallet; IMG_REMOVE frees the role;
PKG_LOAD answers the block's ERR; LOG_READ and LIFE_READ to host memory answer bytes; MARGIN_RUN asks for a review. A review plans the
supply, SUPPLY_STEP moves it, and LIFE_COUNT_WRITE saves the life counts. Completes: getInfo, reset, closeConfig, setTcomp, calSet,
imgLoad, imgStage, imgRemove, pkgLoad, logRead, lifeRead, marginRun, marginReview, supplyStep, lifeCountWrite.
(15_keeper_otp_and_life.md) -/
def Obligations.MailboxCommands : Prop :=
  ∀ D : Nat → Nat → List Nat → List (Field × Nat),
  D = (fun op r rsp => (F.MBX_CMD_OP, op) :: (upFrom 0 8).map (fun i => (F.MBX_RSP i, nthD 0 rsp i)) ++
    [(F.MBX_CMD_GO, 0), (F.MBX_STATUS_BUSY, 0), (F.MBX_STATUS_RESULT, r)]) →
  (∀ (host layout : List (BitVec 8)) (ecc : Ecc) (fw : Fw) (flash blown : Bool) (spoilt : List (BitVec 32 × List (BitVec 8))) (copies : Copies)
      (c : Instr) (op : Nat) (s : State), (c, op) ∈ [(Instr.getInfo false, 0x01), (.reset, 0x02), (.closeConfig, 0x03), (.setTcomp, 0x04),
      (.calSet false, 0x05), (.imgLoad host ecc, 0x10), (.imgStage host ecc, 0x11), (.imgRemove, 0x12), (.pkgLoad host ecc, 0x13),
      (.fwUpdate fw flash, 0x20), (.fwSwitch, 0x21), (.fwConfirm, 0x22), (.logRead spoilt, 0x30), (.lifeRead layout copies, 0x31),
      (.marginRun false, 0x32), (.keyRevoke host ecc blown, 0x33), (.keySet host ecc, 0x34)] →
    s.on F.MBX_STATUS_READY = false → ∃ t : State, Writes [(F.MBX_CMD_OP, op), (F.MBX_CMD_GO, 1)] s t ∧ exec c s = .next t) ∧
  (∀ s : State, s.on F.MBX_STATUS_READY = true → s.f F.MBX_STATUS_MODE = 1 → ∃ t : State, exec (.getInfo false) s = .next t ∧
    t = { s with regs := t.regs, count := t.count } ∧ t.f F.MBX_STATUS_RESULT = 0 ∧
    t.f (F.MBX_RSP 1) = s.keeper.slotA.version.toNat % 2 ^ 32 ∧ t.f (F.MBX_RSP 2) = s.keeper.slotB.version.toNat % 2 ^ 32 ∧
    t.f (F.MBX_RSP 4) = s.boots % 2 ^ 32 ∧ t.f (F.MBX_RSP 5) = s.boots / 2 ^ 32 % 2 ^ 32) ∧
  (∀ s : State, s.on F.MBX_STATUS_READY = true → s.f F.MBX_STATUS_MODE = 1 → 
    (s.f (F.MBX_ARG 0) = 0x52535421 → ∃ u : State,
      Writes (D 2 0 []) { s with keeper := { s.keeper with resetAt := some (s.time + 600000) } } u ∧ exec .reset s = .next (u.tally 0x245 1)) ∧
    (s.f (F.MBX_ARG 0) ≠ 0x52535421 → ∃ u : State, Writes (D 2 2 []) s u ∧ exec .reset s = .next (u.tally 0x245 1))) ∧
  (∀ s : State, s.on F.MBX_STATUS_READY = true → s.f F.MBX_STATUS_MODE = 1 → ∃ v : State, Writes ([(F.EVT_LOCK_LOCK, 1), (F.MLT_LOCK_LOCK, 1),
    (F.CHG_LOCK_LOCK, 1), (F.EPS_LOCK_LOCK, 1), (F.PWR_LOCK_LOCK, 1)] ++ D 3 0 []) s v ∧ exec .closeConfig s = .next (v.tally 0x245 1)) ∧
  (∀ s : State, s.on F.MBX_STATUS_READY = true → s.f F.MBX_STATUS_MODE = 1 → 
    (2 ≤ s.f (F.MBX_ARG 0) → ∃ w : State, Writes (D 4 2 []) s w ∧ exec .setTcomp s = .next (w.tally 0x245 1)) ∧
    (s.f (F.MBX_ARG 0) = 0 → ∃ w : State, exec .setTcomp s = .next w ∧
      w = { s with regs := w.regs, count := w.count, keeper := { s.keeper with xtab := s.tableArgs } } ∧ w.f F.MBX_STATUS_RESULT = 0 ∧
      ∀ i, i < 17 → w.f (F.CLK_XTAB_PPM i) = s.f (F.MBX_ARG (1 + i / 2)) / 65536 ^ (i % 2) % 65536) ∧
    (s.f (F.MBX_ARG 0) = 1 → ∃ w : State, exec .setTcomp s = .next w ∧
      w = { s with regs := w.regs, count := w.count, keeper := { s.keeper with ctab := s.tableArgs } } ∧ w.f F.MBX_STATUS_RESULT = 0 ∧
      ∀ i, i < 17 → w.f (F.CLK_CTAB_PPM i) = s.f (F.MBX_ARG (1 + i / 2)) / 65536 ^ (i % 2) % 65536)) ∧
  (∀ s : State, s.on F.MBX_STATUS_READY = true → s.f F.MBX_STATUS_MODE = 1 → ∃ x : State,
    Writes (D 0x32 0 []) { s with keeper := { s.keeper with reviewAsked := true } } x ∧
    exec (.marginRun false) s = .next (x.tally 0x245 1)) ∧
  (∀ s : State, s.on F.MBX_STATUS_READY = true → s.f F.MBX_STATUS_MODE = 1 →
    (32767 < s.f (F.MBX_ARG 2) → ∃ t : State, Writes (D 5 2 []) s t ∧ exec (.calSet false) s = .next (t.tally 0x245 1)) ∧
    (s.f (F.MBX_ARG 2) ≤ 32767 → ∃ t : State, exec (.calSet false) s = .next t ∧
      t.calSec = 2 ^ 32 * s.f (F.MBX_ARG 1) + s.f (F.MBX_ARG 0) ∧ t.calFrac = s.f (F.MBX_ARG 2) ∧ t.f F.MBX_STATUS_CAL_VALID = 1 ∧
      t.f F.MBX_STATUS_RESULT = 0 ∧ t.f (F.MBX_RSP 0) = s.calSec % 2 ^ 32 ∧ t.f (F.MBX_RSP 1) = s.calSec / 2 ^ 32 % 2 ^ 32 ∧
      t.f (F.MBX_RSP 2) = s.calFrac % 2 ^ 32) ∧
    (61 < s.f (F.MBX_ARG 0) → ∃ t : State, Writes (D 0x12 2 []) s t ∧ exec .imgRemove s = .next (t.tally 0x245 1)) ∧
    (s.f (F.MBX_ARG 0) ≤ 61 → s.roleArmed (s.f (F.MBX_ARG 0)) = true → ∃ t : State, Writes (D 0x12 4 []) s t ∧
      exec .imgRemove s = .next (t.tally 0x245 1)) ∧
    (s.f (F.MBX_ARG 0) ≤ 61 → s.roleArmed (s.f (F.MBX_ARG 0)) = false → ∃ t : State, exec .imgRemove s = .next t ∧
      t.f F.MBX_STATUS_RESULT = 0 ∧ (t.role (s.f (F.MBX_ARG 0))).image = none ∧ (t.role (s.f (F.MBX_ARG 0))).staged = none)) ∧
  (∀ (host : List (BitVec 8)) (ecc : Ecc) (m len : Nat) (s : State), s.on F.MBX_STATUS_READY = true → s.f F.MBX_STATUS_MODE = 1 →
    isHost (s.argAddr 0) = true → len = s.f (F.MBX_ARG 2) → host.length = len → 160 ≤ len → len ≤ 84128 → imgHeaderOk host len = true →
    s.signed (imgKey host) (host.take (len - 96)) (host.drop (len - 96)) = true → s.bindingsOk host = true →
    ((s.f (F.MBX_ARG 3) ≤ 35 ∨ s.f (F.MBX_ARG 3) = 63) → s.roleArmed (imgRole host) = false →
      s.mallet? host (s.f (F.MBX_ARG 3)) 62 = some m → ∃ t : State, exec (.imgLoad host ecc) s = .next t ∧ t.f F.MBX_STATUS_RESULT = 0 ∧
      t.f (F.MBX_RSP 0) = imgRole host ∧ (t.role (imgRole host)).holder = some m ∧ (t.role (imgRole host)).image = some host ∧
      (t.mallet m).run = .running ∧ (t.mallet m).role = some (imgRole host) ∧ (t.mallet m).pc = imgEntry host) ∧
    (s.mallet? host 63 (imgRole host) = some m → ∃ t : State, exec (.imgStage host ecc) s = .next t ∧ t.f F.MBX_STATUS_RESULT = 0 ∧
      t.f (F.MBX_RSP 0) = imgRole host ∧ t.f (F.MBX_RSP 1) = m ∧ (t.role (imgRole host)).staged = some (m, host) ∧
      (t.role (imgRole host)).holder = (s.role (imgRole host)).holder)) ∧
  (∀ (host : List (BitVec 8)) (ecc : Ecc) (len : Nat) (s : State), s.on F.MBX_STATUS_READY = true → s.f F.MBX_STATUS_MODE = 1 →
    isHost (s.argAddr 0) = true → len = s.f (F.MBX_ARG 2) → host.length = len → 164 ≤ len → s.f (F.MBX_ARG 3) < 8 →
    numAt host 12 4 + 164 = len →
    (s.signed (numAt host (len - 4) 4) (host.take (len - 100)) ((host.drop (len - 100)).take 96) = false → ∃ t : State,
      Writes (D 0x13 3 []) s t ∧ exec (.pkgLoad host ecc) s = .next (t.tally 0x245 1)) ∧
    (s.signed (numAt host (len - 4) 4) (host.take (len - 100)) ((host.drop (len - 100)).take 96) = true → ∃ t : State,
      exec (.pkgLoad host ecc) s = .next t ∧ t.f F.MBX_STATUS_RESULT = 0 ∧
      t.f (F.MBX_RSP 0) = s.pkgScrErr (s.f (F.MBX_ARG 3)) (host.take (len - 100)) % 2 ^ 32)) ∧
  (∀ (id : Nat) (layout : List (BitVec 8)) (s : State), s.on F.MBX_STATUS_READY = true → s.f F.MBX_STATUS_MODE = 1 →
    isHost (s.argAddr 0) = true → id = s.f (F.MBX_ARG 2) →
    ((id = 0 ∨ 11 < id) → ∃ t : State, Writes (D 0x31 2 []) s t ∧ exec (.lifeRead layout .good) s = .next (t.tally 0x245 1)) ∧
    (1 ≤ id → id ≤ 8 → ∃ t : State, Writes (D 0x31 0 [layout.length]) { s with answer := .bytes layout false } t ∧
      exec (.lifeRead layout .good) s = .next (t.tally 0x245 1)) ∧
    (s.f (F.MBX_ARG 3) = 0x70001 → s.log = [] → ∃ t : State, Writes (D 0x30 0 [0, s.logSeq, 0]) { s with answer := .bytes [] false } t ∧
      exec (.logRead []) s = .next (t.tally 0x245 1)) ∧
    (4096 < s.f (F.MBX_ARG 3) % 65536 → ∃ t : State, Writes (D 0x30 2 []) s t ∧ exec (.logRead []) s = .next (t.tally 0x245 1)) ∧
    (∀ r : LogRec, s.f (F.MBX_ARG 3) = 0x70001 → s.log = [r] → id ≤ r.seq → crc16 (r.bytes.take 30) = numAt r.bytes 30 2 → ∃ t : State,
      Writes (D 0x30 0 [1, r.seq, 0]) { s with answer := .bytes r.bytes false } t ∧ exec (.logRead []) s = .next (t.tally 0x245 1))) ∧
  (∀ (r : Review) (p z : BitVec 16) (s : State), s.f F.MBX_STATUS_MODE = 3 →
    exec (.marginReview r p z) s = .next { s with keeper := { s.keeper with reviewAsked := true } }) ∧
  (∀ (r : Review) (p z : BitVec 16) (s : State), s.f F.MBX_STATUS_MODE ≠ 3 → ∃ t : State, exec (.marginReview r p z) s = .next t ∧
    t.keeper.vplan = min 950 (max 650 r.vcore.toNat) / 5 * 5 ∧ t.keeper.guardPlan = (r.guards.take 12).map (·.toNat) ∧
    t.keeper.reviewAsked = false ∧ (s.anyArmed = true → t.f F.PWR_VCORE = s.f F.PWR_VCORE ∧ t.keeper.guards = s.keeper.guards)) ∧
  (∀ s : State, s.f F.PWR_VCORE < s.keeper.vplan → s.keeper.vplan < 65536 → ∃ t : State,
    Writes [(F.PWR_VCORE, min s.keeper.vplan (s.f F.PWR_VCORE + 5))] s t ∧ exec .supplyStep s = .next t) ∧
  (∀ s : State, s.keeper.vplan ≤ s.f F.PWR_VCORE → s.anyArmed = true → exec .supplyStep s = .next s) ∧
  (∀ s : State, s.keeper.vplan ≤ s.f F.PWR_VCORE → s.anyArmed = false → ∃ t : State, Writes [(F.PWR_VCORE, s.keeper.vplan)]
    { s with keeper := { s.keeper with guards := s.keeper.guardPlan } } t ∧ exec .supplyStep s = .next t) ∧
  ∀ s : State, exec .lifeCountWrite s = .next { s with lifeSaved := s.life }

/-- DOMAIN_REQUEST is counted while BUSY, refused as a whole with DEPEND, IN_USE or FIXED, or served: a powered domain whose bit of
PWR_DOMREQ clears goes off, and BUSY stands while a domain is still to come up. DOMAIN_POWER_UP powers the next one; DOMAIN_PG_LOST
reports a lost one. STANDBY_REQUEST is refused while a station is armed, else takes every domain off but KEEP and PCIE. RESET_PIN,
DEVICE_RESET and RESET_ISOLATE take a reset through; POR and KEEPER_RELEASE start the device in the mode the OTP gives. VIN_SAMPLE,
VIN_UVLO, REG_FAULT, VBAT_LOW, the VIO supplies and the power state do what their rules say. Start-up as one command is the model's
choice. Completes: domainRequest, domainPowerUp, domainPgLost, standbyRequest, por, resetPin, deviceReset, resetIsolate, keeperRelease,
vinSample, vinUvlo, regFault, vbatLow, powerManagementState, vioSupplyChange. (15_keeper_otp_and_life.md, 17_balls_power_and_reset.md) -/
def Obligations.PowerDomainsResetAndSupplies : Prop :=
  (∀ (req : BitVec 12) (s : State), s.on F.PWR_STATUS_BUSY = true → ∃ t : State,
    Writes [(F.PWR_FLAM_COUNT, min (s.f F.PWR_FLAM_COUNT + 1) (2 ^ F.PWR_FLAM_COUNT.width - 1))] s t ∧
    exec (.domainRequest req) s = .next (t.tally 0x235 1)) ∧
  (∀ (req : BitVec 12) (s : State), s.on F.PWR_STATUS_BUSY = false → (bitOf req.toNat 0 = false ∨ bitOf req.toNat 8 = false) →
    ∃ t : State, Writes [(F.PWR_ERR, 3)] s t ∧ exec (.domainRequest req) s = .next (t.raiseX EV.PWR_REFUSED)) ∧
  (∀ (req : BitVec 12) (up down left d : Nat) (s : State), s.on F.PWR_STATUS_BUSY = false → bitOf req.toNat 0 = true → bitOf req.toNat 8 = true →
    up = req.toNat &&& (0xFFF - s.f F.PWR_DOMREQ) → down = s.f F.PWR_DOMREQ &&& (0xFFF - req.toNat) →
    left = ((s.f F.PWR_DOMSTAT_ON &&& (0xFFF - down)) ||| up) → d < 12 →
    (bitOf up d = true ∨ bitOf left d = true ∧ Dom.requires d &&& down ≠ 0) → Dom.requires d &&& left ≠ Dom.requires d → ∃ t : State,
    Writes [(F.PWR_ERR, 1)] s t ∧ exec (.domainRequest req) s = .next (t.raiseX EV.PWR_REFUSED)) ∧
  (∀ (req : BitVec 12) (up down left : Nat) (s : State), s.on F.PWR_STATUS_BUSY = false → bitOf req.toNat 0 = true → bitOf req.toNat 8 = true →
    up = req.toNat &&& (0xFFF - s.f F.PWR_DOMREQ) → down = s.f F.PWR_DOMREQ &&& (0xFFF - req.toNat) →
    left = ((s.f F.PWR_DOMSTAT_ON &&& (0xFFF - down)) ||| up) →
    (∀ d, d < 12 → (bitOf up d = true ∨ bitOf left d = true ∧ Dom.requires d &&& down ≠ 0) → Dom.requires d &&& left = Dom.requires d) →
    (∀ d : Nat, d < 12 → bitOf down d = true → s.powered d = true → s.inUse d = true → ∃ t : State,
      Writes [(F.PWR_ERR, 2)] s t ∧ exec (.domainRequest req) s = .next (t.raiseX EV.PWR_REFUSED)) ∧
    ((∀ d, d < 12 → bitOf down d = true → s.powered d = true → s.inUse d = false) → ∃ t : State,
      exec (.domainRequest req) s = .next t ∧ t.f F.PWR_DOMREQ = req.toNat ∧ t.keeper.ups = up ∧
      (∀ d, d < 12 → t.powered d = (s.powered d && !bitOf down d)) ∧
      t.f F.PWR_STATUS_BUSY = b2n ((upFrom 0 12).any fun d =>
        decide (d ≠ 0) && decide (d ≠ 8) && bitOf up d && !s.powered d))) ∧
  (∀ (d : Fin 12) (s : State), (s.on F.PWR_STATUS_BUSY = false ∨ s.nextUp ≠ some d.val) → exec (.domainPowerUp d) s = .next s) ∧
  (∀ (d : Fin 12) (s : State), s.on F.PWR_STATUS_BUSY = true → s.nextUp = some d.val → ∃ t : State, exec (.domainPowerUp d) s = .next t ∧
    (∀ k, k < 12 → t.powered k = (s.powered k || decide (k = d.val))) ∧ t.f F.PWR_STATUS_BUSY = b2n t.nextUp.isSome ∧
    t.f F.PWR_DOMREQ = s.f F.PWR_DOMREQ) ∧
  (∀ (d : Fin 12) (s : State), s.powered d.val = false → exec (.domainPgLost d) s = .next s) ∧
  (∀ (d : Fin 12) (s : State), s.powered d.val = true → ∃ t : State, t.powered d.val = false ∧
    bitOf (t.f F.PWR_DOMSTAT_PG_LOST) d.val = true ∧ t = { s with regs := t.regs, clk := t.clk, hk := t.hk } ∧
    (d.val ≠ 11 → t = { s with regs := t.regs }) ∧ (d.val = 11 → t.clk = { s.clk with running := false } ∧ t.f F.HK_STATUS_MODE = 0) ∧
    exec (.domainPgLost d) s = .next ((t.dropRetries d.val).raise EV.DOMAIN_PG d.val)) ∧
  (∀ s : State, s.anyArmed = true → ∃ t : State, Writes [(F.PWR_ERR, 2)] s t ∧ exec .standbyRequest s = .next (t.raiseX EV.PWR_REFUSED)) ∧
  (∀ s : State, s.anyArmed = false → s.on F.PWR_STATUS_BUSY = true → ∃ t : State,
    Writes [(F.PWR_FLAM_COUNT, min (s.f F.PWR_FLAM_COUNT + 1) (2 ^ F.PWR_FLAM_COUNT.width - 1))] s t ∧
    exec .standbyRequest s = .next (t.tally 0x235 1)) ∧
  (∀ s : State, s.anyArmed = false → s.on F.PWR_STATUS_BUSY = false → ∃ t : State, exec .standbyRequest s = .next t ∧
    t.f F.PWR_DOMREQ = 0x101 ∧ t.f F.PWR_STATUS_STBY = 1 ∧ t.lifeSaved = s.life ∧ t.keeper = { s.keeper with selfRefresh := true } ∧
    (∀ d, d < 12 → d ≠ 0 → d ≠ 8 → t.powered d = false) ∧ t.powered 0 = s.powered 0 ∧ t.powered 8 = s.powered 8 ∧
    t.otp = s.otp ∧ t.mem.bytes = s.mem.bytes) ∧
  (∀ (kept : Bool) (s : State), s.keeper.supplied = true → exec (.por kept) s = .next s) ∧
  (∀ (kept : Bool) (s : State), s.keeper.supplied = false → ∃ t : State, exec (.por kept) s = .next t ∧ t.regs = State.reset.regs ∧
    t.otp = s.otp ∧ t.log = s.log ∧ t.keeper.supplied = true ∧ t.keeper.released = false ∧
    t.keeper.cause = (if kept && s.keeper.vfail then 8 else 1) ∧ tget 0 t.life 0x70 = tget 0 s.life 0x70 + 1 ∧
    (kept = true → t.calSec = s.calSec ∧ t.calFrac = s.calFrac) ∧ (kept = false → t.calSec = 0 ∧ t.calFrac = 0 ∧ t.keeper.calValid = false)) ∧
  (∀ (samples : List Bool) (s : State), (lowRun 8 samples = false ∨ s.keeper.supplied = false ∨ s.keeper.released = false ∨
      s.keeper.resetT0.isSome = true) → exec (.resetPin samples) s = .next s) ∧
  (∀ (a z : List Bool) (s : State), s.keeper.supplied = true → s.keeper.released = true → s.keeper.resetT0 = none →
    exec (.resetPin (a ++ List.replicate 8 false ++ z)) s = .next { s with keeper := { s.keeper with accepted := true } }) ∧
  (∀ s : State, (s.keeper.resetT0.isSome = true ∨ s.keeper.accepted = false ∧ s.keeper.resetAt = none) → exec .deviceReset s = .next s) ∧
  (∀ (u s : State) (cause : Nat), s.keeper.resetT0 = none → (s.keeper.accepted = true ∧ u = s ∧ cause = 2 ∨
      s.keeper.accepted = false ∧ (∃ w, s.keeper.resetAt = some w ∧ u = s.advanceTo w) ∧ cause = 4) → ∃ t : State,
    t.keeper = { s.keeper with accepted := false, resetAt := none, resetT0 := some u.time, cause := cause } ∧
    t.f F.PWR_STATUS_PG = 0 ∧ (∀ p ∈ s.kaWant, t.f p.2.1 = 0) ∧ t.f F.EVT_KA_STATUS_LASER = 0 ∧
    (∀ c, c < 16 → t.f (F.EPS_HV_STATUS_OUT c) = 0) ∧ (∀ c, c < 12 → t.f (F.MOT_C_CTL_EN c) = 0 ∧ t.f (F.STP_CTL_EN c) = 0) ∧
    exec .deviceReset s = .next (if s.clk.running then t.flush (some Reason.DEVICE_STOP) else t.saveLedger).reportG4) ∧
  (∀ s : State, s.keeper.resetT0 = none → exec .resetIsolate s = .next s) ∧
  (∀ (w : Nat) (s : State), s.keeper.resetT0 = some w → ∃ t : State, exec .resetIsolate s = .next t ∧ t.regs = State.reset.regs ∧
    t.mlt = State.reset.mlt ∧ t.st = State.reset.st ∧ t.otp = s.otp ∧ t.log = (s.advanceTo (w + 18000)).endRetries.log ∧ t.boots = s.boots ∧ t.mem.bytes = s.mem.bytes ∧
    t.keeper.released = false ∧ t.keeper.resetT0 = none ∧ t.keeper.selfRefresh = true ∧ t.keeper.cause = s.keeper.cause) ∧
  (∀ s : State, (s.keeper.supplied = false ∨ s.keeper.released = true) → ∀ b : Boot, exec (.keeperRelease b) s = .next s) ∧
  (∀ (b : Boot) (s : State), s.keeper.supplied = true → s.keeper.released = false → s.on F.MBX_CMD_GO = false → ∃ t : State, exec (.keeperRelease b) s = .next t ∧
    t.boots = s.boots + 1 ∧ t.keeper.released = true ∧ t.keeper.octal = b.octal ∧ t.link = trainLink b.widths b.speeds ∧
    t.f F.MBX_STATUS_READY = 1 ∧ t.f F.GCTL_SERIAL_LO = s.otpWord 0 0 % 2 ^ 32 ∧
    t.f F.GCTL_SERIAL_HI = s.otpWord 0 1 % 2 ^ 32 ∧ t.f F.PWR_RSTCAUSE_POR = s.keeper.cause % 2 ∧
    t.f F.PWR_RSTCAUSE_PIN = s.keeper.cause / 2 % 2 ∧ t.f F.PWR_RSTCAUSE_MBX = s.keeper.cause / 4 % 2 ∧ t.otp = s.otp ∧
    (s.bootMode = 2 → t.f F.MBX_STATUS_MODE = 2 ∧ t.f F.PWR_DOMSTAT_ON = 0x101) ∧
    (∀ n, n < 2 → s.bootMode ≠ 2 → s.bootSlot = some n → t.f F.MBX_STATUS_MODE = 1 ∧ t.f F.MBX_STATUS_SLOT = n ∧ t.f F.PWR_DOMSTAT_ON = 0x983 ∧
      t.keeper.memRate = pickRate b.memRates) ∧
    (s.bootMode ≠ 2 → s.bootSlot = none → t.f F.MBX_STATUS_MODE = 0)) ∧
  (∀ (mv : BitVec 16) (s : State), ∃ t : State, exec (.vinSample mv) s = .next t ∧ t.f F.PWR_VIN_VIN = mv.toNat ∧
    (s.f F.PWR_VINMON ≤ mv.toNat → s.keeper.vlow ≠ 1 →
      Writes [(F.PWR_VIN_VIN, mv.toNat)] { s with keeper := { s.keeper with vlow := 0 } } t) ∧
    (s.f F.PWR_VINMON ≤ mv.toNat → s.keeper.vlow = 1 → Writes [(F.PWR_VIN_VIN, mv.toNat),
      (F.PWR_STATUS_VTRANS, min (s.f F.PWR_STATUS_VTRANS + 1) 255)] { s with keeper := { s.keeper with vlow := 0 } } t) ∧
    (mv.toNat < s.f F.PWR_VINMON → s.keeper.vlow ≠ 1 →
      Writes [(F.PWR_VIN_VIN, mv.toNat)] { s with keeper := { s.keeper with vlow := s.keeper.vlow + 1 } } t) ∧
    (mv.toNat < s.f F.PWR_VINMON → s.keeper.vlow = 1 → t.f F.PWR_STATUS_PG = 0 ∧ t.keeper.vlow = 2 ∧ t.keeper.vfail = true)) ∧
  (∀ s : State, ∃ t : State, exec .vinUvlo s = .next t ∧ t.keeper.supplied = false ∧ t.regs = State.reset.regs ∧ t.life = s.lifeSaved ∧
    t.otp = s.otp ∧ t.log = s.endRetries.log) ∧
  (∀ (r : BitVec 4) (s : State), ∃ t : State, Writes [(F.PWR_STATUS_REG_FLT, 1)] s t ∧
    exec (.regFault r) s = .next (t.raise EV.REG_FAULT r.toNat)) ∧
  (∀ (mv : BitVec 16) (s : State), mv.toNat < 1900 → ∃ t : State,
    Writes [(F.PWR_VIN_VBAT, mv.toNat), (F.PWR_STATUS_VBAT_LOW, 1)] s t ∧ exec (.vbatLow mv) s = .next (t.raiseX EV.VBAT_LOW)) ∧
  (∀ (mv : BitVec 16) (s : State), 1900 ≤ mv.toNat → ∃ t : State, Writes [(F.PWR_VIN_VBAT, mv.toNat)] s t ∧
    exec (.vbatLow mv) s = .next t) ∧
  ∀ (b up : Bool) (s : State), exec (.powerManagementState b) s = .next { s with d3hot := b } ∧
    exec (.vioSupplyChange b up) s = .next { s with keeper := if b then { s.keeper with vioB := up } else { s.keeper with vioA := up } }

/-- A write of either half of WEB_STn_OFS by a reader that reaches it is taken while station n is not armed and changes nothing else;
while station n is armed it changes nothing but WEB_FLAM, which counts it, so an offset changes only after a disarm. A write that is not
one aligned word is dropped and counted in GCTL_FLAM, a host's in D3hot is dropped. Completes: registerWrite. (A write while the station
arms or disarms is taken: the model's choice, log entry 51.) (R76) -/
def Obligations.OffsetWrittenWhileUnarmed : Prop :=
  (∀ (who : Reader) (n : Fin 8) (x : Field) (off : BitVec 26) (v met : BitVec 32) (s : State),
    (x = F.WEB_ST_OFS_LO n.val ∨ x = F.WEB_ST_OFS_HI n.val) → off.toNat = x.off → s.reaches who x.off = true →
    (s.armed n.val = false → ∃ t : State, exec (.registerWrite who .bar0 off 4 v met) s = .next t ∧ Writes [(x, v.toNat)] s t) ∧
    (s.armed n.val = true → ∃ t : State, exec (.registerWrite who .bar0 off 4 v met) s = .next (t.tally 0x235 1) ∧
      Writes [(F.WEB_FLAM_COUNT, min (s.f F.WEB_FLAM_COUNT + 1) (2 ^ F.WEB_FLAM_COUNT.width - 1))] s t) ∧
    ∀ (bar : Bar) (a : BitVec 26) (len : BitVec 13), (a.toNat % 4 ≠ 0 ∨ len ≠ 4) → ∃ t : State,
      exec (.registerWrite who bar a len v met) s = .next (t.tally 0x235 1) ∧
      Writes [(F.GCTL_FLAM_COUNT, min (s.f F.GCTL_FLAM_COUNT + 1) (2 ^ F.GCTL_FLAM_COUNT.width - 1))] s t) ∧
  ∀ (bar : Bar) (a : BitVec 26) (len : BitVec 13) (v met : BitVec 32) (s : State), s.d3hot = true →
    exec (.registerWrite .host bar a len v met) s = .next s

/-- An arm request leaves a station that is not unarmed as it is, is refused with EV_SLOT_REFUSED and its code, or starts the arm steps
of the station's kind. INK_ARM_STEP and EP_ARM_STEP take the next step where its condition holds, arm the station after the last, and
refuse the arm with its code and detail where the limit passes. INK_DISARM and EP_DISARM begin a disarm, or end the arm steps; CAP and
EP_DISARM_DONE complete it. A station of the other kind or in another phase is unchanged, and under G4 no arm step is taken. That an arm
request after G4 has code 7 is the model's choice (log entry 45). Completes: armRequest, inkArmStep, epArmStep, inkDisarm, cap,
epDisarm, epDisarmDone. (00_scope.md, 06_inkjet_stations.md, 07_ep_stations.md) -/
def Obligations.ArmAndDisarm : Prop :=
  (∀ (mask kinds : BitVec 8) (s : State), (∀ n, n < 8 → mask.getLsbD n = true → (s.station n).phase ≠ .unarmed) →
    exec (.armRequest mask kinds) s = .next s) ∧
  (∀ (n : Fin 8) (mask kinds : BitVec 8) (s : State), (∀ k, k < 8 → mask.getLsbD k = decide (k = n.val)) →
    (s.station n.val).phase = .unarmed →
    (kinds.getLsbD n.val = true → 4 ≤ n.val → exec (.armRequest mask kinds) s = .next (s.raise EV.SLOT_REFUSED (n.val + 1 * 2 ^ 8))) ∧
    ∀ ep : Bool, kinds.getLsbD n.val = ep → (ep = false ∨ n.val < 4) →
    (∀ d, findFirst (fun d => !s.powered d && !s.downNow d) (armDomains n.val ep) = some d →
      exec (.armRequest mask kinds) s = .next (s.raise EV.SLOT_REFUSED (n.val + 2 * 2 ^ 8 + d * 2 ^ 16))) ∧
    (findFirst (fun d => !s.powered d && !s.downNow d) (armDomains n.val ep) = none →
      (∀ x, ep = true → s.resourceTaken n.val = some x →
        exec (.armRequest mask kinds) s = .next (s.raise EV.SLOT_REFUSED (n.val + 3 * 2 ^ 8 + x * 2 ^ 16))) ∧
      ∀ c : Nat, (ep = false ∨ s.resourceTaken n.val = none) →
        c = (if s.observing = false then 4 else if s.hasRole n.val = false then 5 else if s.on F.HK_STATUS_MODE = false then 9
          else if s.on F.EVT_GONG_G3 = true ∨ s.g4 = true then 7 else if s.f F.MBX_STATUS_MODE = 2 then 8 else 0) →
        (c ≠ 0 → exec (.armRequest mask kinds) s = .next (s.raise EV.SLOT_REFUSED (n.val + c * 2 ^ 8))) ∧
        (∀ d, c = 0 → findFirst (fun d => s.downNow d) (armDomains n.val ep) = some d →
          exec (.armRequest mask kinds) s = .next (s.raise EV.SLOT_REFUSED (n.val + 6 * 2 ^ 8 + d * 2 ^ 16))) ∧
        (c = 0 → findFirst (fun d => s.downNow d) (armDomains n.val ep) = none → ∃ t : State,
          exec (.armRequest mask kinds) s = .next t ∧ (t.station n.val).phase = .arming 1 ∧ t.f (F.SCR_CFG_KIND n.val) = b2n ep ∧
          (∀ k, k ≠ n.val → t.station k = s.station k) ∧ (ep = false → (t.inkSt n.val).armAt = s.time) ∧
          (ep = true → t.f (F.EPS_S_STATUS_STATE n.val) = 1 ∧ t.f (F.EPS_S_STATUS_STEP n.val) = 1 ∧ (t.epSt n.val).stepAt = s.time ∧
            ∀ i, i < 4 → (t.hvCh (4 * n.val + i)).down = true)))) ∧
  (∀ (n : Fin 8) (r : InkStep) (s : State), (s.g4 = true ∨ s.on (F.SCR_CFG_KIND n.val) = true ∨ (s.station n.val).phase = .unarmed ∨
    (s.station n.val).phase = .armed) → exec (.inkArmStep n r) s = .next s) ∧
  (∀ (n : Fin 8) (r : InkStep) (s : State), s.g4 = false → s.on (F.SCR_CFG_KIND n.val) = false →
    ((s.station n.val).phase = .arming 1 → (∀ l ∈ s.lanesOf n.val, s.on (F.INK_L_STATUS_UP l) = true) → ∃ t : State,
      exec (.inkArmStep n r) s = .next t ∧ (t.station n.val).phase = .arming 2) ∧
    ((s.station n.val).phase = .arming 2 → (∀ l ∈ s.lanesOf n.val, s.assigned l = true ∧ s.delayOk l = true) → ∃ t : State,
      exec (.inkArmStep n r) s = .next t ∧ (t.station n.val).phase = .arming 3) ∧
    ((s.station n.val).phase = .arming 3 → (∀ l ∈ s.lanesOf n.val, s.on (F.INK_L_STATUS_TBLOCK l) = true) → ∃ t : State,
      exec (.inkArmStep n r) s = .next t ∧ (t.station n.val).phase = .arming 4) ∧
    (∀ l, (s.station n.val).phase = .arming 3 → findFirst (fun l => !s.on (F.INK_L_STATUS_TBLOCK l)) (s.lanesOf n.val) = some l → ∃ t : State,
      exec (.inkArmStep n .late) s = .next (t.raise EV.SLOT_REFUSED (n.val + 18 * 2 ^ 8 + l * 2 ^ 16)) ∧
      (t.station n.val).phase = .unarmed ∧ t.time = (s.advanceTo ((s.inkSt n.val).armAt + 180000)).time) ∧
    ((s.station n.val).phase = .arming 4 → ∃ t : State, exec (.inkArmStep n .late) s = .next t ∧ (t.station n.val).phase = .arming 5) ∧
    ((s.station n.val).phase = .arming 5 → exec (.inkArmStep n .check) s = .next s) ∧
    (∀ mem : List (List (BitVec 8)), (s.station n.val).phase = .arming 5 → (s.takeHeads n.val (s.headsOn n.val) mem).2 = none →
      ∃ t : State, exec (.inkArmStep n (.heads mem)) s = .next t ∧ (t.station n.val).phase = .arming 6 ∧
      t.heads = (s.takeHeads n.val (s.headsOn n.val) mem).1.heads) ∧
    ((s.station n.val).phase = .arming 6 → s.wavesOut n.val = false →
      (s.setF (F.WEB_ST_FLIM_LIMIT n.val) (s.inkLimit n.val)).badHead n.val = none → ∃ t : State,
      exec (.inkArmStep n r) s = .next t ∧ (t.station n.val).phase = .armed ∧ t.f (F.WEB_ST_FLIM_LIMIT n.val) = s.inkLimit n.val % 2 ^ 18 ∧
      t.lbias n.val = 0 ∧ (t.station n.val).frames = [] ∧ ∀ i, i < 256 → t.slot n.val i = none)) ∧
  (∀ (n : Fin 4) (r : EpStep) (s : State), (s.g4 = true ∨ s.on (F.SCR_CFG_KIND n.val) = false ∨ (s.station n.val).phase = .unarmed ∨
    (s.station n.val).phase = .armed) → exec (.epArmStep n r) s = .next s) ∧
  (∀ (n : Fin 4) (r : EpStep) (s : State), s.g4 = false → s.on (F.SCR_CFG_KIND n.val) = true →
    ((s.station n.val).phase = .arming 2 → s.on (F.CLK_MDLL_STATUS_LOCKED n.val) = true → ∃ t : State,
      exec (.epArmStep n r) s = .next t ∧ (t.station n.val).phase = .arming 3 ∧ (t.epSt n.val).stepAt = s.time ∧
      t.f (F.EPS_S_STATUS_STEP n.val) = 3) ∧
    ((s.station n.val).phase = .arming 2 → s.on (F.CLK_MDLL_STATUS_LOCKED n.val) = false → exec (.epArmStep n .check) s = .next s ∧ ∃ t : State,
      exec (.epArmStep n .late) s = .next (t.raise EV.SLOT_REFUSED (n.val + 35 * 2 ^ 8)) ∧ (t.station n.val).phase = .unarmed ∧
      t.f (F.EPS_S_STATUS_STEP n.val) = 2 ∧ t.time = (s.advanceTo ((s.epSt n.val).stepAt + 600000)).time) ∧
    ((s.station n.val).phase = .arming 9 → s.hvAtSet (4 * n.val + 2) = true → ∃ t : State, exec (.epArmStep n r) s = .next t ∧
      (t.station n.val).phase = .armed ∧ t.f (F.EPS_S_STATUS_STATE n.val) = 2 ∧ t.f (F.WEB_ST_FLIM_LIMIT n.val) = s.epLimit n.val ∧
      t.lbias n.val = 0)) ∧
  (∀ (n : Fin 8) (s : State), (s.on (F.SCR_CFG_KIND n.val) = true ∨ (s.station n.val).phase = .unarmed) → exec (.inkDisarm n) s = .next s) ∧
  (∀ (n : Fin 8) (s : State), s.on (F.SCR_CFG_KIND n.val) = false → (s.station n.val).phase = .armed → ∃ t : State,
    exec (.inkDisarm n) s = .next t ∧ (t.station n.val).phase = .disarming 1 ∧ (t.inkSt n.val).capDue.isSome = true) ∧
  (∀ (n : Fin 8) (k : Nat) (s : State), s.on (F.SCR_CFG_KIND n.val) = false → (s.station n.val).phase = .arming k → ∃ t : State,
    exec (.inkDisarm n) s = .next t ∧ (t.station n.val).phase = .unarmed) ∧
  (∀ (n : Fin 8) (s : State), ((s.inkSt n.val).capDue = none ∨ (s.station n.val).phase = .armed) → exec (.cap n) s = .next s) ∧
  (∀ (n : Fin 8) (k : Nat) (s : State), (s.inkSt n.val).capDue.isSome = true → (s.station n.val).phase = .disarming k → ∃ t : State,
    exec (.cap n) s = .next t ∧ (t.station n.val).phase = .unarmed ∧ (t.inkSt n.val).capDue = none) ∧
  (∀ (n : Fin 4) (s : State), (s.on (F.SCR_CFG_KIND n.val) = false ∨ (s.station n.val).phase = .unarmed) → exec (.epDisarm n) s = .next s) ∧
  (∀ (n : Fin 4) (s : State), s.on (F.SCR_CFG_KIND n.val) = true →
    (s.station n.val).phase = .armed → ∃ t : State, exec (.epDisarm n) s = .next t ∧ (t.station n.val).phase = .disarming 1 ∧
      (t.epSt n.val).enabled = 0 ∧ (t.epSt n.val).lit = false) ∧
  (∀ (n : Fin 4) (k : Nat) (s : State), s.on (F.SCR_CFG_KIND n.val) = true → 4 ≤ k → (s.station n.val).phase = .arming k → ∃ t : State,
    exec (.epDisarm n) s = .next t ∧ (t.station n.val).phase = .disarming 1 ∧ (t.epSt n.val).enabled = 0 ∧ (t.epSt n.val).lit = false) ∧
  (∀ (n : Fin 4) (k : Nat) (s : State), s.on (F.SCR_CFG_KIND n.val) = true → k < 4 → (s.station n.val).phase = .arming k → ∃ t : State,
    exec (.epDisarm n) s = .next t ∧ (t.station n.val).phase = .unarmed ∧ t.f (F.EPS_S_STATUS_STATE n.val) = 0 ∧
    (k = 3 → t.f (F.MOT_C_SPD (s.f (F.EPS_S_POLY_CHAN n.val))) = 0)) ∧
  (∀ (n : Fin 4) (s : State), (s.on (F.SCR_CFG_KIND n.val) = false ∨ (s.station n.val).phase = .armed ∨
    (s.hvCh (4 * n.val + 3)).down = false) → exec (.epDisarmDone n) s = .next s) ∧
  ∀ (n : Fin 4) (k : Nat) (s : State), s.on (F.SCR_CFG_KIND n.val) = true → (s.station n.val).phase = .disarming k →
    (s.hvCh (4 * n.val + 3)).down = true →
    (∀ i, i < 4 → s.f (F.EPS_HV_STATUS_OUT (4 * n.val + i)) = 0 ∧
      (s.fs (F.EPS_HV_MON (4 * n.val + i))).natAbs ≤ s.f (F.EPS_HV_CFG_TOL (4 * n.val + i)) * 16) → ∃ t : State,
    exec (.epDisarmDone n) s = .next t ∧ (t.station n.val).phase = .unarmed ∧ t.f (F.EPS_S_STATUS_STATE n.val) = 0 ∧
    ∀ i, i < 4 → (t.hvCh (4 * n.val + i)).down = (s.hvCh (4 * n.val + i)).down ∧ t.f (F.EPS_HV_STATUS_ARC_LATCH (4 * n.val + i)) = 0

/-- For a mallet that can run and whose fetch is clean, ADD to MOVHI and MAC to DIFF take their cycles, write the result that the manual
gives to the named registers or the accumulator, set exactly the flags that the manual names, and change nothing else of the device; an
odd register number for a pair, a shift selector of 3, DIFF with kd = kb, TLU with n outside 1 to 11 and a loop-profile instruction on
an event mallet take ILLEGAL. Completes: add, addC, sub, subC, cmp, and, or, xor, mov, shl, shr, sar, shiftImm, mul, mulW, mulWu,
addImm, cmpImm, movi, andImm, orImm, xorImm, movhi, mac, macZ, msu, satq, lim, intg, diff, tlu. (09_mallets_programming_model.md,
10_mallet_instructions.md, 11_loops_and_axes.md) -/
def Obligations.MalletArithmetic : Prop :=
  ∀ (x : Fetch) (kd ka kb : BitVec 4) (m : Nat) (a b : Word) (u s : State) (p : Mallet), m = x.m.val → p = s.mallet m →
  s.canRun m = true → x.ecc = .clean → u = s.advanceTo p.ready → a = p.kr ka.toNat → b = p.kr kb.toNat →
  RunsAs x (.add x kd ka kb) 1 (fun y => { y.setK kd.toNat (a + b) with
    z := decide (a + b = 0), n := (a + b).msb,
    c := decide (2 ^ 32 ≤ a.toNat + b.toNat), v := decide ((a + b).toInt ≠ a.toInt + b.toInt) }) s ∧
  (∀ (k : Nat) (r : Word), k = b2n p.c → r = a + b + BitVec.ofNat 32 k → RunsAs x (.addC x kd ka kb) 1 (fun y => { y.setK kd.toNat r with
    z := decide (r = 0), n := r.msb, c := decide (2 ^ 32 ≤ a.toNat + b.toNat + k), v := decide (r.toInt ≠ a.toInt + b.toInt + k) }) s) ∧
  RunsAs x (.sub x kd ka kb) 1 (fun y => { y.setK kd.toNat (a - b) with
    z := decide (a - b = 0), n := (a - b).msb,
    c := decide (b.toNat ≤ a.toNat), v := decide ((a - b).toInt ≠ a.toInt - b.toInt) }) s ∧
  (∀ (k : Nat) (r : Word), k = 1 - b2n p.c → r = a - b - BitVec.ofNat 32 k → RunsAs x (.subC x kd ka kb) 1 (fun y => { y.setK kd.toNat r with
    z := decide (r = 0), n := r.msb, c := decide (b.toNat + k ≤ a.toNat), v := decide (r.toInt ≠ a.toInt - b.toInt - k) }) s) ∧
  RunsAs x (.cmp x ka kb) 1 (fun y => { y with
    z := decide (a = b), n := (a - b).msb, c := decide (b.toNat ≤ a.toNat),
    v := decide ((a - b).toInt ≠ a.toInt - b.toInt) }) s ∧
  (∀ (c : Instr) (r : Word), (c, r) ∈ [(Instr.and x kd ka kb, a &&& b), (.or x kd ka kb, a ||| b), (.xor x kd ka kb, a ^^^ b)] →
    RunsAs x c 1 (fun y => { y.setK kd.toNat r with z := decide (r = 0), n := r.msb }) s) ∧
  RunsAs x (.mov x kd ka) 1 (fun y => y.setK kd.toNat a) s ∧
  (∀ (c : Instr) (n : Nat) (r : Word) (i : Nat), n = b.toNat % 32 → (c, r, i) ∈ [(Instr.shl x kd ka kb, a <<< n, 32 - n),
      (.shr x kd ka kb, a >>> n, n - 1), (.sar x kd ka kb, a.sshiftRight n, n - 1)] →
    RunsAs x c 1 (fun y => { y.setK kd.toNat r with z := decide (r = 0), n := r.msb, c := if n = 0 then p.c else a.getLsbD i }) s) ∧
  (∀ (n op : Nat) (r : Word) (i : Nat), n < 32 → (op, r, i) ∈ [(0, a <<< n, 32 - n), (1, a >>> n, n - 1), (2, a.sshiftRight n, n - 1)] →
    RunsAs x (.shiftImm x kd ka (BitVec.ofNat 2 op) (BitVec.ofNat 5 n)) 1 (fun y => { y.setK kd.toNat r with
      z := decide (r = 0), n := r.msb, c := if n = 0 then p.c else a.getLsbD i }) s) ∧
  RunsAs x (.mul x kd ka kb) 2 (fun y => { y.setK kd.toNat (a * b) with z := decide (a * b = 0), n := (a * b).msb }) s ∧
  (∀ (c : Instr) (r : BitVec 64), kd.toNat % 2 = 0 → (c, r) ∈ [(Instr.mulW x kd ka kb, a.signExtend 64 * b.signExtend 64),
      (.mulWu x kd ka kb, a.zeroExtend 64 * b.zeroExtend 64)] →
    RunsAs x c 2 (fun y => { (y.setK kd.toNat (r.setWidth 32)).setK (kd.toNat + 1) ((r >>> 32).setWidth 32) with
      z := decide (r = 0), n := r.msb }) s) ∧
  (∀ (i : BitVec 18) (w : Word), w = i.signExtend 32 →
    RunsAs x (.addImm x kd ka i) 1 (fun y => { y.setK kd.toNat (a + w) with
      z := decide (a + w = 0), n := (a + w).msb,
      c := decide (2 ^ 32 ≤ a.toNat + w.toNat), v := decide ((a + w).toInt ≠ a.toInt + w.toInt) }) s ∧
    RunsAs x (.cmpImm x ka i) 1 (fun y => { y with
      z := decide (a = w), n := (a - w).msb, c := decide (w.toNat ≤ a.toNat),
      v := decide ((a - w).toInt ≠ a.toInt - w.toInt) }) s ∧ RunsAs x (.movi x kd i) 1 (fun y => y.setK kd.toNat w) s) ∧
  (∀ (i : BitVec 18) (c : Instr) (r : Word), (c, r) ∈ [(Instr.andImm x kd ka i, a &&& i.zeroExtend 32),
      (.orImm x kd ka i, a ||| i.zeroExtend 32), (.xorImm x kd ka i, a ^^^ i.zeroExtend 32)] →
    RunsAs x c 1 (fun y => { y.setK kd.toNat r with z := decide (r = 0), n := r.msb }) s) ∧
  (∀ i : BitVec 18, RunsAs x (.movhi x kd ka i) 1 (fun y => y.setK kd.toNat (BitVec.ofNat 32 (i.toNat * 2 ^ 14 + a.toNat % 2 ^ 14))) s) ∧
  (malletKind m = 1 →
    (∀ (c : Instr) (z : Int), (c, z) ∈ [(Instr.mac x ka kb, p.acc + a.toInt * b.toInt), (.macZ x ka kb, a.toInt * b.toInt),
        (.msu x ka kb, p.acc - a.toInt * b.toInt)] → RunsAs x c 1 (fun y => { y with
        acc := max (-(2 ^ 63)) (min (2 ^ 63 - 1) z), v := decide (z < -(2 ^ 63) ∨ 2 ^ 63 ≤ z), afterMac := true }) s) ∧
    (∀ (sh : BitVec 5) (q15 clr : Bool) (r lim c : Int), r = p.acc / 2 ^ sh.toNat → lim = (if q15 then 2 ^ 15 else 2 ^ 31) →
      c = max (-lim) (min (lim - 1) r) → RunsAs x (.satq x kd sh q15 clr) (if p.afterMac then 2 else 1) (fun y =>
        { y.setK kd.toNat (BitVec.ofInt 32 c) with v := decide (c ≠ r), acc := if clr then 0 else p.acc }) s) ∧
    (∀ lo hi z l g : Int, kb.toNat % 2 = 0 → lo = b.toInt → hi = (p.kr (kb.toNat + 1)).toInt →
      z = (p.kr kd.toNat).toInt + a.toInt → l = (if hi < lo then lo else min (max a.toInt lo) hi) → g = min (max z lo) hi →
      RunsAs x (.lim x kd ka kb) 1 (fun y => { y.setK kd.toNat (BitVec.ofInt 32 l) with v := decide (l ≠ a.toInt) }) s ∧
      RunsAs x (.intg x kd ka kb) 1 (fun y => { y.setK kd.toNat (BitVec.ofInt 32 g) with v := decide (g ≠ z) }) s) ∧
    (∀ z : Int, kd ≠ kb → z = a.toInt - b.toInt → RunsAs x (.diff x kd ka kb) 1 (fun y =>
      { (y.setK kd.toNat (BitVec.ofInt 32 (max (-(2 ^ 31)) (min (2 ^ 31 - 1) z)))).setK kb.toNat a with
        v := decide (z < -(2 ^ 31) ∨ 2 ^ 31 ≤ z) }) s) ∧
    (∀ (n : BitVec 4) (T : Nat → Int) (i f : Nat), 1 ≤ n.toNat → n.toNat ≤ 11 → b.toNat % 4 = 0 →
      b.toNat + 4 * (2 ^ n.toNat + 1) ≤ 0x4000 → s.mltPoison = [] → i = a.toNat / 2 ^ (32 - n.toNat) → f = a.toNat * 2 ^ n.toNat % 2 ^ 32 →
      T = (fun j => sx 32 (ofLE (tgets 0 s.dmem (16384 * m + b.toNat + 4 * j) 4))) →
      RunsAs x (.tlu x kd ka kb n .clean) 3 (fun y => { y.setK kd.toNat (BitVec.ofInt 32 (T i + (T (i + 1) - T i) * f / 2 ^ 32)) with
        v := false }) s)) ∧
  (p.exl = false → p.region.isOpen = false →
    (kd.toNat % 2 = 1 → Traps x (.mulW x kd ka kb) 0x01 0 s ∧ Traps x (.mulWu x kd ka kb) 0x01 0 s) ∧
    (∀ n : BitVec 5, Traps x (.shiftImm x kd ka 3 n) 0x01 0 s) ∧
    (malletKind m = 1 → (kb.toNat % 2 = 1 → Traps x (.lim x kd ka kb) 0x01 0 s ∧ Traps x (.intg x kd ka kb) 0x01 0 s) ∧
      (kd = kb → Traps x (.diff x kd ka kb) 0x01 0 s) ∧
      ∀ n : BitVec 4, n.toNat = 0 ∨ 11 < n.toNat → Traps x (.tlu x kd ka kb n .clean) 0x01 0 s) ∧
    (malletKind m = 0 → ∀ c : Instr, c ∈ [Instr.mac x ka kb, .macZ x ka kb, .msu x ka kb, .satq x kd 0 false false, .lim x kd ka kb,
      .intg x kd ka kb, .diff x kd ka kb, .tlu x kd ka kb 1 .clean] → Traps x c 0x01 0 s))

/-- For a mallet that can run and whose fetch is clean, a load or store in range and aligned moves its bytes, LDX takes its own newest
buffered value or the word of MSM, STX enters the store buffer or stalls, branches and calls go to the offset from their own index, RETE
returns to EPC, waits end at once or begin, MFS, MTS and CNT move registers, FENCE, DRAIN and HALT act on the buffer. The exceptions of
R275 are taken where they apply. A store leaves the buffer in order, and a wait ends with its C, its register and its cycle. Cycles of
an MSM access are free values in the manual's range (log entry 4). Completes: ldB, ldH, ld, stB, stH, st, ldx, stx, br, call, ret, rete,
waitt, waitp, waite, mfs, mts, cnt, fence, drain, halt, waitResume, storeBufferLeave. (09_mallets_programming_model.md,
10_mallet_instructions.md) -/
def Obligations.MalletMemoryAndFlow : Prop :=
  (∀ (x : Fetch) (kd ka : BitVec 4) (m a : Nat) (i : BitVec 18) (u s : State) (p : Mallet), m = x.m.val → p = s.mallet m →
  s.canRun m = true → x.ecc = .clean → u = s.advanceTo p.ready → a = (p.kr ka.toNat + i.signExtend 32).toNat →
  (∀ (n : Nat) (c : Instr), (n, c) ∈ [(1, Instr.ldB x kd ka i .clean), (2, .ldH x kd ka i .clean), (4, .ld x kd ka i .clean)] →
    (a + n ≤ 0x4000 → a % n = 0 → (∀ w ∈ s.mltPoison, w ≠ 4096 * m + a / 4) →
      RunsAs x c 1 (fun y => y.setK kd.toNat (BitVec.ofNat 32 (ofLE (tgets 0 s.dmem (16384 * m + a) n)))) s) ∧
    (p.exl = false → p.region.isOpen = false → (0x4000 < a + n → Traps x c 0x02 0 s) ∧
      (a + n ≤ 0x4000 → a % n ≠ 0 → Traps x c 0x03 0 s) ∧
      (a + n ≤ 0x4000 → a % n = 0 → 4096 * m + a / 4 ∈ s.mltPoison → Traps x c 0x0C 0 s))) ∧
  (∀ (n : Nat) (c : Instr), (n, c) ∈ [(1, Instr.stB x kd ka i), (2, .stH x kd ka i), (4, .st x kd ka i)] →
    (a + n ≤ 0x4000 → a % n = 0 → ∃ v t : State, Begins x 1 s v ∧ exec c s = .next t ∧
      t = { v with dmem := t.dmem, mltPoison := t.mltPoison } ∧ tgets 0 t.dmem (16384 * m + a) n = toLE (p.kr kd.toNat).toNat n ∧
      (∀ b, (b < 16384 * m + a ∨ 16384 * m + a + n ≤ b) → tget 0 t.dmem b = tget 0 s.dmem b) ∧
      (∀ w, w ∈ t.mltPoison ↔ w ∈ s.mltPoison ∧ ¬(n = 4 ∧ w = 4096 * m + a / 4))) ∧
    (p.exl = false → p.region.isOpen = false → (0x4000 < a + n → Traps x c 0x02 0 s) ∧
      (a + n ≤ 0x4000 → a % n ≠ 0 → Traps x c 0x03 0 s))) ∧
  (a < 0x200000 → a % 4 = 0 → ∃ v : State, Begins x 1 s v ∧
    ((∀ y ∈ p.sb, y.addr ≠ a) → (∀ w ∈ s.mltPoison, w ≠ 2 ^ 20 + a / 4) → ∃ t : State, exec (.ldx x kd ka i .clean) s = .next t ∧
      t = { v with mlt := t.mlt, free := s.free + 1 } ∧ t.mallet m = { (v.mallet m).setK kd.toNat (BitVec.ofNat 32 (ofLE (tgets 0 s.msm a 4))) with
        ready := u.time + (4 + s.freeNow.toNat % 9) }) ∧
    (∀ (l : List Store) (y : Store), p.sb = l ++ [y] → y.addr = a → ∃ t : State, exec (.ldx x kd ka i .clean) s = .next t ∧
      t = { v with mlt := t.mlt, free := s.free + 1 } ∧ (t.mallet m).k = p.k.setIfInBounds kd.toNat y.val) ∧
    (p.region.isOpen = false → ∃ t : State, exec (.stx x kd ka i) s = .next t ∧
      (p.sb.length < 4 → t = { v with mlt := t.mlt, free := s.free + 1, storeSeq := s.storeSeq + 1 } ∧ t.mallet m = { v.mallet m with
        ready := u.time + (4 + s.freeNow.toNat % 9), sb := p.sb ++ [⟨a, p.kr kd.toNat, p.fence, s.storeSeq⟩] }) ∧
      (4 ≤ p.sb.length → t = { v with mlt := t.mlt, free := s.free + 1 } ∧ (t.mallet m).stall = .store a (p.kr kd.toNat)))) ∧
  (p.exl = false → p.region.isOpen = false →
    (¬(a < 0x200000 ∨ 0x40000000 ≤ a ∧ a < 0x41000000) → Traps x (.ldx x kd ka i .clean) 0x04 0 s ∧ Traps x (.stx x kd ka i) 0x04 0 s) ∧
    (a < 0x200000 → a % 4 ≠ 0 → Traps x (.ldx x kd ka i .clean) 0x03 0 s ∧ Traps x (.stx x kd ka i) 0x03 0 s) ∧
    (0x40000000 ≤ a → a < 0x41000000 → a % 4 = 0 → s.may m 2 = false → Traps x (.ldx x kd ka i .clean) 0x05 0 s) ∧
    (0x40000000 ≤ a → a < 0x41000000 → a % 4 = 0 → s.mayWrite m a = false → Traps x (.stx x kd ka i) 0x05 0 s)) ∧
  (∀ (off : BitVec 22) (g : Nat), g = (((p.pc : Int) + off.toInt) % 16384).toNat →
    (∀ (cond : BitVec 4) (b : Bool), (cond, b) ∈ [(0#4, true), (1, p.z), (2, !p.z), (3, p.c), (4, !p.c), (5, p.n), (6, !p.n), (7, p.v),
        (8, !p.v), (9, p.c && !p.z), (10, !p.c || p.z), (11, p.n == p.v), (12, p.n != p.v), (13, !p.z && p.n == p.v),
        (14, p.z || p.n != p.v)] →
      RunsAs x (.br x cond off) 1 (fun y => if b then { y with pc := g, ready := u.time + 2 } else y) s) ∧
    (p.exl = false → p.region.isOpen = false → Traps x (.br x 15 off) 0x01 0 s) ∧
    RunsAs x (.call x off) 2 (fun y => { y.setK 15 (BitVec.ofNat 32 (p.pc + 1)) with pc := g }) s) ∧
  RunsAs x (.ret x) 2 (fun y => { y with pc := (p.kr 15).toNat % 16384 }) s ∧
  RunsAs x (.rete x) 2 (fun y => { y with pc := p.epc % 16384, exl := false }) s ∧
  (∀ T : Nat, ka.toNat % 2 = 0 → T = 2 ^ 32 * (p.kr (ka.toNat + 1)).toNat + (p.kr ka.toNat).toNat → RunsAs x (.waitt x ka) 1 (fun y =>
    if T ≤ u.time then { y with timerAt := none, c := true, ready := u.time + 2, lastWait := u.time }
    else { y with wait := some (.time T), lastWait := u.time }) s) ∧
  (∀ (n : Nat) (z : Int), ka.toNat % 2 = 0 → s.boundStation m = some n →
    z = (p.kr ka.toNat).toInt * 65536 + ((p.kr (ka.toNat + 1)).toNat % 65536 : Nat) → RunsAs x (.waitp x ka 0 false) 1 (fun y =>
    if z ≤ u.lpos n then { y with timerAt := none, c := true, ready := u.time + 2, lastWait := u.time }
    else { y with wait := some (.pos z none), lastWait := u.time }) s) ∧
  (p.exl = false → p.region.isOpen = false → (ka.toNat % 2 = 1 → Traps x (.waitt x ka) 0x01 0 s) ∧
    (s.boundStation m = none → Traps x (.waitp x ka 0 false) 0x01 0 s)) ∧
  (∀ (b : Nat) (mask : BitVec 256), b = (p.kr ka.toNat).toNat → b % 4 = 0 → b + 32 ≤ 0x4000 → s.mltPoison = [] →
    mask = BitVec.ofNat 256 (ofLE (tgets 0 s.dmem (16384 * m + b) 32)) →
    (p.pendingIn mask = none → RunsAs x (.waite x kd ka 0 false false false .clean) 1 (fun y =>
      { y with timerAt := none, wait := some (.event kd.toNat mask none false false), lastWait := u.time }) s) ∧
    (∀ e, p.pendingIn mask = some e → RunsAs x (.waite x kd ka 0 false false false .clean) 1 (fun y => { y.setK kd.toNat (BitVec.ofNat 32 e) with
      pend := p.pend &&& ~~~(1#256 <<< e), timerAt := none, c := true, ready := u.time + 2, lastWait := u.time }) s)) ∧
  (∀ (sr v : Nat), (sr, v) ∈ [(4, p.role.getD 0x3F), (7, p.cause.toNat), (8, p.flagWord), (9, p.epc), (10, p.evec), (11, p.sqh), (12, m),
      (14, p.bounce.length), (15, p.inq.length)] → RunsAs x (.mfs x kd (BitVec.ofNat 5 sr)) 1 (fun y => y.setK kd.toNat (BitVec.ofNat 32 v)) s) ∧
  (∀ w : Word, w = p.kr ka.toNat → RunsAs x (.mts x ka 7) 1 (fun y => { y with cause := w &&& 0xFFFF#32 }) s ∧
    RunsAs x (.mts x ka 9) 1 (fun y => { y with epc := w.toNat % 16384 }) s ∧
    RunsAs x (.mts x ka 10) 1 (fun y => { y with evec := w.toNat % 16384 }) s ∧
    RunsAs x (.mts x ka 8) 1 (fun y => { y with z := w.getLsbD 0, n := w.getLsbD 1, c := w.getLsbD 2, v := w.getLsbD 3, exl := w.getLsbD 8 }) s) ∧
  (p.exl = false → p.region.isOpen = false → ∀ sr : BitVec 5, (16 ≤ sr.toNat → Traps x (.mfs x kd sr) 0x0B 0 s) ∧
    (sr.toNat < 7 ∨ 10 < sr.toNat → Traps x (.mts x ka sr) 0x0B 0 s)) ∧
  (∀ j : BitVec 6, j.toNat < 56 → kd.toNat % 2 = 0 →
    (s.may m 0 = true → RunsAs x (.cnt x kd j) 2 (fun y => (y.setK kd.toNat (BitVec.ofNat 32 (u.counter j.toNat))).setK (kd.toNat + 1)
      (BitVec.ofNat 32 (u.counter j.toNat / 2 ^ 32))) s) ∧
    (s.may m 0 = false → p.exl = false → p.region.isOpen = false → Traps x (.cnt x kd j) 0x06 j.toNat s)) ∧
  RunsAs x (.fence x) 1 (fun y => { y with fence := p.fence + 1 }) s ∧
  RunsAs x (.drain x) 1 (fun y => if p.sb = [] then y else { y with stall := .drain }) s ∧
  (p.sb ≠ [] → RunsAs x (.halt x) 1 (fun y => { y with stall := .halt }) s) ∧
  (p.sb = [] → p.region.effs = [] → ∃ v t : State, Begins x 1 s v ∧ t = { v with mlt := t.mlt, count := t.count } ∧
    t.mallet m = { v.mallet m with run := .halted, why := 1, region := { p.region with isOpen := false, closing := false } } ∧
    exec (.halt x) s = .next (if p.role.isSome then t.raise EV.MLT_HALT m else t))) ∧
  (∀ (h : Fin 36) (w : State) (q : Mallet), q = w.mallet h.val →
    (q.wait = none → exec (.waitResume h) w = .next w) ∧
    (∀ T, q.wait = some (.time T) → ∃ t : State, exec (.waitResume h) w = .next t ∧ t = { w.advanceTo T with mlt := t.mlt } ∧
      t.mallet h.val = { q with wait := none, timerAt := none, c := false, ready := max T q.lastWait + 2, lastWait := max T q.lastWait }) ∧
    (∀ (n : Nat) (z : Int), q.wait = some (.pos z none) → w.boundStation h.val = some n →
      (w.tickAtLpos n z = none → exec (.waitResume h) w = .next w) ∧
      (∀ T, w.tickAtLpos n z = some T → ∃ t : State, exec (.waitResume h) w = .next t ∧ t = { w.advanceTo T with mlt := t.mlt } ∧
        t.mallet h.val = { q with wait := none, timerAt := none, c := false, ready := T + 2, lastWait := T })) ∧
    (∀ (d l : Nat) (mask : BitVec 256), q.wait = some (.event d mask (some l) false false) → q.pendingIn mask = none → ∃ t : State,
      exec (.waitResume h) w = .next t ∧ t = { w.advanceTo l with mlt := t.mlt } ∧ t.mallet h.val = { q.setK d 0x200 with
        wait := none, timerAt := none, c := true, ready := l + 2, lastWait := l })) ∧
  ∀ (h : Fin 36) (j : BitVec 2) (w : State) (q : Mallet), q = w.mallet h.val →
    (q.sb.length ≤ j.toNat → exec (.storeBufferLeave h j) w = .next w) ∧
    (∀ (y : Store) (r : List Store), q.sb = y :: r → y.addr < 0x200000 → q.stall = .none → ∃ t : State,
      exec (.storeBufferLeave h 0) w = .next t ∧ t = { w with mlt := t.mlt, msm := t.msm, mltPoison := t.mltPoison } ∧
      t.mallet h.val = { q with sb := r } ∧ tgets 0 t.msm y.addr 4 = toLE y.val.toNat 4 ∧
      ∀ b, (b < y.addr ∨ y.addr + 4 ≤ b) → tget 0 t.msm b = tget 0 w.msm b) ∧
    (∀ (y z : Store) (r : List Store), q.sb = y :: z :: r → (y.addr = z.addr ∨ y.fence ≠ z.fence) →
      exec (.storeBufferLeave h 1) w = .next w)

/-- Every instruction leaves the device as it is where its mallet cannot run, and halts the mallet with ECC where the fetch is
uncorrectable or its correction does not hold. SPEC opens a region with its checkpoint; STAGE places a PIN or EVENT effect with its
checkpoint; COMMIT takes a checkpoint and confirms the program's effects; SQUASH of an empty region restores its base and goes to the
handler. EMIT outside a region acts at its port's target in the next tick, and inside one a stageable port is staged; SIGNAL raises a
user event; SEND puts a message on the carillon; RECV takes the oldest bounce, else the oldest message, else sets Z. What R266, R273,
R275 and R283 forbid takes the exception, and an undefined word takes ILLEGAL. Completes: spec, stage, emit, signal, commit, squash,
send, recv, undefinedInstruction. (08_job_change_speculation_ledger.md, 09_mallets_programming_model.md, 10_mallet_instructions.md) -/
def Obligations.MalletPortsRegionsAndMessages : Prop :=
  (∀ (c : Instr) (x : Fetch) (s : State), malletOf c = some x → s.canRun x.m.val = false → exec c s = .next s) ∧
  (∀ (c : Instr) (x : Fetch) (u s : State), malletOf c = some x → (∀ y w, c ≠ .undefinedInstruction y w) → s.canRun x.m.val = true →
    (x.ecc = .uncorrectable ∨ x.ecc = .corrected true) → u = s.advanceTo (s.mallet x.m.val).ready →
    exec c s = .next ((u.logRetry 2 EV.MLT_MEM_TRANSIENT x.m.val).halt x.m.val 4)) ∧
  ∀ (x : Fetch) (ka kw : BitVec 4) (m port ty n arg : Nat) (u s : State) (p : Mallet), m = x.m.val → p = s.mallet m →
  s.canRun m = true → x.ecc = .clean → u = s.advanceTo p.ready → port < 256 → ty = s.f (F.MLT_M_PORT_TYPE m port) →
  n = s.f (F.MLT_M_PORT_TARGET m port) → arg = s.f (F.MLT_M_PORT_ARG m port) →
  (∀ w : BitVec 32, (legalWord (decide (malletKind m = 1)) w = true → exec (.undefinedInstruction x w) s = .next s) ∧
    (legalWord (decide (malletKind m = 1)) w = false → p.exl = false → p.region.isOpen = false →
      Traps x (.undefinedInstruction x w) 0x01 0 s)) ∧
  (∀ h : BitVec 14, p.region.isOpen = false →
    (s.may m 3 = true → RunsAs x (.spec x h) 1 (fun y => { y with
      sqh := h.toNat, region := ⟨true, false, p.region.effs, ⟨p.k, p.z, p.n, p.c, p.v, p.acc⟩⟩ }) s) ∧
    (s.may m 3 = false → p.exl = false → Traps x (.spec x h) 0x08 0 s)) ∧
  (∀ (timed : Bool) (e : Eff), s.may m 3 = true → p.region.isOpen = true → p.region.closing = false → p.region.effs.length < 16 →
    kw.toNat % 2 = 0 → (ty = 7 ∧ timed = false ∧ e = .event n (p.kr ka.toNat) ∨
      ty = 1 ∧ e = .pin n (arg % 4) (arg / 4) (if timed then some (2 ^ 32 * (p.kr (kw.toNat + 1)).toNat + (p.kr kw.toNat).toNat) else none)) →
    RunsAs x (.stage x (BitVec.ofNat 8 port) ka kw timed) 1 (fun y => { y with c := false, region := { p.region with
      effs := p.region.effs ++ [⟨e, port, 0, false, ⟨p.k, p.z, p.n, p.c, p.v, p.acc⟩⟩] } }) s ∧
    exec (.emit x (BitVec.ofNat 8 port) ka kw timed) s = exec (.stage x (BitVec.ofNat 8 port) ka kw timed) s) ∧
  (p.region.isOpen = false → p.exl = false → kw.toNat % 2 = 0 →
    ((ty = 0 ∨ 10 < ty) → ∀ timed : Bool, Traps x (.emit x (BitVec.ofNat 8 port) ka kw timed) 0x07 port s ∧
      Traps x (.stage x (BitVec.ofNat 8 port) ka kw timed) 0x07 port s) ∧
    (1 ≤ ty → ty ≤ 10 → Traps x (.stage x (BitVec.ofNat 8 port) ka kw false) 0x08 port s) ∧
    ((ty = 2 ∨ ty = 3) → Traps x (.emit x (BitVec.ofNat 8 port) ka kw false) 0x08 port s) ∧
    (1 ≤ ty → ty ≤ 10 → ty ≠ 1 → Traps x (.emit x (BitVec.ofNat 8 port) ka kw true) 0x01 0 s)) ∧
  (p.region.isOpen = false → kw.toNat % 2 = 0 → ∃ v : State, Begins x 1 s v ∧
    (ty = 1 → exec (.emit x (BitVec.ofNat 8 port) ka kw false) s =
      .next { v with timed := s.timed ++ [(u.time + 1, n, arg % 4, arg / 4)] }) ∧
    (ty = 5 → exec (.emit x (BitVec.ofNat 8 port) ka kw false) s = .next (v.inNext fun y => y.axCommand n arg (p.kr ka.toNat).toInt)) ∧
    (ty = 7 → exec (.emit x (BitVec.ofNat 8 port) ka kw false) s = .next (v.inNext fun y => y.portEvent m n (p.kr ka.toNat).toNat)) ∧
    (ty = 9 → s.f F.INK_DD_CTL_STATION = n → exec (.emit x (BitVec.ofNat 8 port) ka kw false) s =
      .next { v with dd := { s.dd with gapLine := some (p.kr ka.toNat).toInt } }) ∧
    (ty = 10 → exec (.emit x (BitVec.ofNat 8 port) ka kw false) s = .next (v.inNext fun y => y.output n (p.kr ka.toNat))) ∧
    (∀ e : BitVec 8, 252 ≤ e.toNat → exec (.signal x ka e) s = .next (v.inNext fun y => y.portEvent m e.toNat (p.kr ka.toNat).toNat))) ∧
  (∀ e : BitVec 8, p.region.isOpen = false → p.exl = false → e.toNat < 252 → Traps x (.signal x ka e) 0x07 e.toNat s) ∧
  (∀ close : Bool, (p.region.isOpen = false → p.exl = false → Traps x (.commit x close) 0x08 0 s ∧ Traps x (.squash x) 0x08 0 s) ∧
    (p.region.isOpen = true → p.region.effs = [] → RunsAs x (.commit x close) 1 (fun y => { y with
      region := ⟨!(close || p.region.closing), false, [], ⟨p.k, p.z, p.n, p.c, p.v, p.acc⟩⟩ }) s) ∧
    (p.region.isOpen = true → p.region.effs ≠ [] → ∃ v : State, Begins x 1 s v ∧ exec (.commit x close) s =
      .next ((v.setMallet m { v.mallet m with
        region := ⟨true, close || p.region.closing, p.region.effs, ⟨p.k, p.z, p.n, p.c, p.v, p.acc⟩⟩ }).confirm m fun e => !e.hardware))) ∧
  (p.region.isOpen = true → p.region.effs = [] → ∃ v t : State, Begins x 1 s v ∧ exec (.squash x) s = .next t ∧
    t = { v with mlt := t.mlt, count := t.count } ∧ (t.mallet m).k = p.region.base.k ∧ (t.mallet m).acc = p.region.base.acc ∧
    (t.mallet m).z = p.region.base.z ∧ (t.mallet m).c = p.region.base.c ∧ (t.mallet m).cause = 0x20 ∧ (t.mallet m).pc = p.sqh ∧
    (t.mallet m).region.isOpen = false) ∧
  (∀ (h : Word) (r : Nat), ka.toNat % 4 = 0 → h = p.kr ka.toNat → r = h.toNat / 2 ^ 16 % 64 → r < 62 → p.region.isOpen = false →
    (∀ l, p.lastSend = some l → l + 2 ≤ u.time) → ∃ v t : State, Begins x 1 s v ∧ exec (.send x ka) s = .next t ∧
    t.mallet m = { v.mallet m with ready := u.time + 1, lastSend := some u.time } ∧ t = { v with mlt := t.mlt, flights := s.flights ++
      [⟨p.role.getD 63, s.epochOf (p.role.getD 63), some m, ⟨header (tget 0 p.view r) r 0 (h.toNat / 2 ^ 24), p.kr (ka.toNat + 1),
        p.kr (ka.toNat + 2), p.kr (ka.toNat + 3)⟩⟩] }) ∧
  (p.exl = false → p.region.isOpen = false → ka.toNat % 4 ≠ 0 → Traps x (.send x ka) 0x01 0 s ∧ Traps x (.recv x ka) 0x01 0 s) ∧
  (ka.toNat % 4 = 0 →
    (p.bounce = [] → p.inq = [] → RunsAs x (.recv x ka) 1 (fun y => { y with v := false, z := true }) s) ∧
    (∀ (q : Msg) (r : List Msg), p.bounce = [] → p.inq = q :: r → RunsAs x (.recv x ka) 1 (fun y => {
      (((y.setK ka.toNat q.w0).setK (ka.toNat + 1) q.w1).setK (ka.toNat + 2) q.w2).setK (ka.toNat + 3) q.w3 with
      v := false, z := false, inq := r }) s) ∧
    (∀ (q : Msg) (r : List Msg), p.bounce = q :: r → RunsAs x (.recv x ka) 1 (fun y => {
      (((y.setK ka.toNat q.w0).setK (ka.toNat + 1) q.w1).setK (ka.toNat + 2) q.w2).setK (ka.toNat + 3) q.w3 with
      v := true, z := false, bounce := r, view := tput 0 p.view (q.w0.toNat / 2 ^ 16 % 64) (q.w0.toNat % 65536) }) s))
end

