-- ==== Sys2Proof/Laws/Tables.lean ====
section
/-!
SUPPORT. Laws of the sparse table: what a write changes, and that writing keeps the canonical form.
-/
namespace Sys2Proof.Machine

variable {α : Type}

theorem tget_tdel_same (d : α) (t : Tbl α) (k : Nat) : tget d (tdel t k) k = d := by
  induction t with
  | nil => rfl
  | cons x r ih =>
    by_cases h : x.1 = k
    · simp [tdel, h, ih]
    · simp [tdel, tget, h, ih]

theorem tget_tdel_ne (d : α) (t : Tbl α) {j k : Nat} (h : k ≠ j) : tget d (tdel t k) j = tget d t j := by
  induction t with
  | nil => rfl
  | cons x r ih =>
    by_cases hk : x.1 = k
    · have : x.1 ≠ j := fun e => h (hk ▸ e)
      simp [tdel, tget, hk, ih, h]
    · simp only [tdel, hk, if_false, tget, ih]

theorem tget_tins_same (d : α) (t : Tbl α) (k : Nat) (v : α) : tget d (tins t k v) k = v := by
  induction t with
  | nil => simp [tins, tget]
  | cons x r ih =>
    by_cases h1 : k < x.1
    · simp [tins, tget, h1]
    · by_cases h2 : x.1 = k <;> simp [tins, tget, h1, h2, ih]

theorem tget_tins_ne (d : α) (t : Tbl α) {j k : Nat} (v : α) (h : k ≠ j) : tget d (tins t k v) j = tget d t j := by
  induction t with
  | nil => simp [tins, tget, h]
  | cons x r ih =>
    by_cases h1 : k < x.1
    · simp [tins, tget, h1, h]
    · by_cases h2 : x.1 = k
      · have : x.1 ≠ j := fun e => h (h2 ▸ e)
        simp [tins, tget, h2, h]
      · simp only [tins, h1, h2, if_false, tget, ih]

/-- A read of the key just written gives the value written. -/
@[simp] theorem tget_tput_same [DecidableEq α] (d : α) (t : Tbl α) (k : Nat) (v : α) : tget d (tput d t k v) k = v := by
  unfold tput
  split
  · rename_i h; rw [h]; exact tget_tdel_same d t k
  · exact tget_tins_same d t k v

/-- A write leaves every other key alone. -/
theorem tget_tput_ne [DecidableEq α] (d e : α) (t : Tbl α) {j k : Nat} (v : α) (h : k ≠ j) :
    tget e (tput d t k v) j = tget e t j := by
  unfold tput
  split
  · exact tget_tdel_ne e t h
  · exact tget_tins_ne e t v h

/-- A read after a write. -/
theorem tget_tput [DecidableEq α] (d : α) (t : Tbl α) (k j : Nat) (v : α) :
    tget d (tput d t k v) j = if k = j then v else tget d t j := by
  by_cases h : k = j
  · subst h; simp
  · simp [h, tget_tput_ne d d t v h]

theorem tget_tputs_out [DecidableEq α] (d : α) (t : Tbl α) (k : Nat) (vs : List α) (j : Nat) (h : j < k ∨ k + vs.length ≤ j) :
    tget d (tputs d t k vs) j = tget d t j := by
  induction vs generalizing t k with
  | nil => rfl
  | cons v vs ih =>
    simp only [List.length_cons] at h
    rw [tputs, ih _ _ (by omega), tget_tput_ne d d t v (by omega)]

/-! ## Canonical form -/

theorem tsorted_mono (t : Tbl α) {a b : Nat} (h : a ≤ b) (hs : tsorted b t = true) : tsorted a t = true := by
  cases t with
  | nil => rfl
  | cons x r => simp only [tsorted, Bool.and_eq_true, decide_eq_true_eq] at *; exact ⟨by omega, hs.2⟩

theorem tdel_sorted (t : Tbl α) (k lo : Nat) (hs : tsorted lo t = true) : tsorted lo (tdel t k) = true := by
  induction t generalizing lo with
  | nil => rfl
  | cons x r ih =>
    simp only [tsorted, Bool.and_eq_true, decide_eq_true_eq] at hs
    by_cases h : x.1 = k
    · simp only [tdel, h, if_true]; exact ih lo (tsorted_mono r (by omega) hs.2)
    · simp only [tdel, h, if_false, tsorted, Bool.and_eq_true, decide_eq_true_eq]; exact ⟨hs.1, ih _ hs.2⟩

theorem tins_sorted (t : Tbl α) (k lo : Nat) (v : α) (hl : lo ≤ k) (hs : tsorted lo t = true) : tsorted lo (tins t k v) = true := by
  induction t generalizing lo with
  | nil => simp [tins, tsorted, hl]
  | cons x r ih =>
    simp only [tsorted, Bool.and_eq_true, decide_eq_true_eq] at hs
    by_cases h1 : k < x.1
    · simp only [tins, h1, if_true, tsorted, Bool.and_eq_true, decide_eq_true_eq]; exact ⟨hl, by omega, hs.2⟩
    · by_cases h2 : x.1 = k
      · subst h2
        simp only [tins, Nat.lt_irrefl, if_false, if_true, tsorted, Bool.and_eq_true, decide_eq_true_eq]
        exact ⟨hl, hs.2⟩
      · simp only [tins, h1, h2, if_false, tsorted, Bool.and_eq_true, decide_eq_true_eq]
        exact ⟨hs.1, ih _ (by omega) hs.2⟩

theorem tdel_clean [DecidableEq α] (d : Nat → α) (t : Tbl α) (k : Nat) (h : tclean d t = true) : tclean d (tdel t k) = true := by
  induction t with
  | nil => rfl
  | cons x r ih =>
    simp only [tclean, List.all_cons, Bool.and_eq_true] at h ih
    by_cases hk : x.1 = k
    · simp only [tdel, hk, if_true]; exact ih h.2
    · simp only [tdel, hk, if_false, tclean, List.all_cons, Bool.and_eq_true]; exact ⟨h.1, ih h.2⟩

theorem tins_clean [DecidableEq α] (d : Nat → α) (t : Tbl α) (k : Nat) (v : α) (hv : v ≠ d k) (h : tclean d t = true) :
    tclean d (tins t k v) = true := by
  have hv' : (!decide (v = d k)) = true := by simp [hv]
  induction t with
  | nil => simp [tins, tclean, hv]
  | cons x r ih =>
    simp only [tclean, List.all_cons, Bool.and_eq_true] at h ih
    by_cases h1 : k < x.1
    · simp only [tins, h1, if_true, tclean, List.all_cons, Bool.and_eq_true]; exact ⟨hv', h⟩
    · by_cases h2 : x.1 = k
      · subst h2
        simp only [tins, Nat.lt_irrefl, if_false, if_true, tclean, List.all_cons, Bool.and_eq_true]; exact ⟨hv', h.2⟩
      · simp only [tins, h1, h2, if_false, tclean, List.all_cons, Bool.and_eq_true]; exact ⟨h.1, ih h.2⟩

/-- A write keeps the canonical form. -/
theorem tput_twf [DecidableEq α] (d : Nat → α) (t : Tbl α) (k : Nat) (v : α) (h : twf d t = true) :
    twf d (tput (d k) t k v) = true := by
  simp only [twf, Bool.and_eq_true] at *
  unfold tput
  split
  · exact ⟨tdel_sorted t k 0 h.1, tdel_clean d t k h.2⟩
  · rename_i hv; exact ⟨tins_sorted t k 0 v (Nat.zero_le _) h.1, tins_clean d t k v hv h.2⟩

/-- A run of writes keeps the canonical form. -/
theorem tputs_twf [DecidableEq α] (d : α) (t : Tbl α) (k : Nat) (vs : List α) (h : twf (fun _ => d) t = true) :
    twf (fun _ => d) (tputs d t k vs) = true := by
  induction vs generalizing t k with
  | nil => exact h
  | cons v vs ih => exact ih _ _ (tput_twf (fun _ => d) t k v h)

theorem tsorted_filter (p : Nat × α → Bool) (t : Tbl α) (lo : Nat) (h : tsorted lo t = true) : tsorted lo (t.filter p) = true := by
  induction t generalizing lo with
  | nil => rfl
  | cons x r ih =>
    simp only [tsorted, Bool.and_eq_true, decide_eq_true_eq] at h
    by_cases hp : p x = true
    · rw [List.filter_cons_of_pos hp]; simp only [tsorted, Bool.and_eq_true, decide_eq_true_eq]; exact ⟨h.1, ih _ h.2⟩
    · rw [List.filter_cons_of_neg hp]; exact ih lo (tsorted_mono r (by omega) h.2)

/-- Dropping entries keeps the canonical form. -/
theorem twf_filter [DecidableEq α] (d : Nat → α) (p : Nat × α → Bool) (t : Tbl α) (h : twf d t = true) :
    twf d (t.filter p) = true := by
  simp only [twf, Bool.and_eq_true, tclean, List.all_eq_true] at *
  exact ⟨tsorted_filter p t 0 h.1, fun x hx => h.2 x ((List.mem_filter.mp hx).1)⟩

end Sys2Proof.Machine
end

