-- ==== Sys2Proof/Laws/KeptCore.lean ====
section
/-!
SUPPORT. What every operation of the model keeps: the queue, the canonical form of the memories, and every programmed OTP bit.
-/
namespace Sys2Proof.Machine

/-- From s to t the queue is unchanged, the memories' canonical form is kept, and no bit of the OTP has fallen back to zero. -/
def Kept (s t : State) : Prop :=
  t.pending = s.pending ∧ (s.memoryWf = true → t.memoryWf = true) ∧ ∀ k, tget 0 s.otp k &&& tget 0 t.otp k = tget 0 s.otp k

/-- A command's outcome is a next state, and keeps what `Kept` says. -/
structure KeptOut (s : State) (o : Out) : Prop where
  keeps : ∀ t, o = .next t → Kept s t
  runs : ∃ t, o = .next t

theorem Kept.refl (s : State) : Kept s s := ⟨rfl, id, fun _ => Nat.and_self _⟩

theorem Kept.trans {a b c : State} (h1 : Kept a b) (h2 : Kept b c) : Kept a c := by
  refine ⟨h2.1.trans h1.1, fun h => h2.2.1 (h1.2.1 h), fun k => ?_⟩
  have e1 := h1.2.2 k
  have e2 := h2.2.2 k
  have : tget 0 a.otp k &&& tget 0 c.otp k = (tget 0 a.otp k &&& tget 0 b.otp k) &&& tget 0 c.otp k := by rw [e1]
  rw [this, Nat.and_assoc, e2, e1]

theorem Kept.next {s t : State} (h : Kept s t) : KeptOut s (.next t) := by
  refine ⟨fun u hu => ?_, t, rfl⟩
  cases hu
  exact h

theorem Kept.via {z v x : State} (e : x = v) (h : Kept z v) : Kept z x := e ▸ h

/-- A name for a value on the way. -/
theorem Kept.use {s x : State} {q : Prop} (h1 : Kept s x) (h2 : Kept s x → q) : q := h2 h1

theorem Kept.ite {s a b : State} {c : Prop} [Decidable c] (h1 : Kept s a) (h2 : Kept s b) : Kept s (if c then a else b) := by
  split <;> assumption

theorem KeptOut.ite {s : State} {a b : Out} {c : Prop} [Decidable c] (h1 : KeptOut s a) (h2 : KeptOut s b) :
    KeptOut s (if c then a else b) := by
  split <;> assumption

/-- A pair whose first part is kept. -/
structure KeptP {α : Type} (s : State) (p : State × α) : Prop where
  fst : Kept s p.1

/-- A pair whose second part is kept. -/
structure KeptQ {α : Type} (s : State) (p : α × State) : Prop where
  snd : Kept s p.2

/-- A triple whose last part is kept. -/
structure KeptR {α β : Type} (s : State) (p : α × β × State) : Prop where
  last : Kept s p.2.2

/-- A state that an answer may carry. -/
structure KeptO {α : Type} (s : State) (o : Option (α × State)) : Prop where
  keeps : ∀ a t, o = some (a, t) → Kept s t

theorem KeptO.some {α : Type} {z s : State} {a : α} (h : Kept z s) : KeptO z (some (a, s)) :=
  ⟨fun b t e => by cases e; exact h⟩

theorem KeptO.none {α : Type} {z : State} : KeptO z (none : Option (α × State)) := ⟨fun _ _ e => by cases e⟩

theorem KeptO.at {α : Type} {z s : State} {a : α} {o : Option (α × State)} (e : o = Option.some (a, s)) (h : KeptO z o) : Kept z s :=
  h.keeps a s e

theorem KeptP.pair {α : Type} {z s : State} {a : α} (h : Kept z s) : KeptP z (s, a) := ⟨h⟩
theorem KeptQ.pair {α : Type} {z s : State} {a : α} (h : Kept z s) : KeptQ z (a, s) := ⟨h⟩
theorem KeptR.pair {α β : Type} {z s : State} {a : α} {b : β} (h : Kept z s) : KeptR z (a, b, s) := ⟨h⟩

theorem KeptP.at {α : Type} {z s : State} {a : α} {p : State × α} (e : p = (s, a)) (h : KeptP z p) : Kept z s := by
  subst e; exact h.fst

theorem KeptQ.at {α : Type} {z s : State} {a : α} {p : α × State} (e : p = (a, s)) (h : KeptQ z p) : Kept z s := by
  subst e; exact h.snd

theorem KeptR.at {α β : Type} {z s : State} {a : α} {b : β} {p : α × β × State} (e : p = (a, b, s)) (h : KeptR z p) : Kept z s := by
  subst e; exact h.last

theorem KeptP.ite {α : Type} {z : State} {a b : State × α} {c : Prop} [Decidable c] (h1 : KeptP z a) (h2 : KeptP z b) :
    KeptP z (if c then a else b) := by
  split <;> assumption

theorem KeptQ.ite {α : Type} {z : State} {a b : α × State} {c : Prop} [Decidable c] (h1 : KeptQ z a) (h2 : KeptQ z b) :
    KeptQ z (if c then a else b) := by
  split <;> assumption

theorem KeptR.ite {α β : Type} {z : State} {a b : α × β × State} {c : Prop} [Decidable c] (h1 : KeptR z a) (h2 : KeptR z b) :
    KeptR z (if c then a else b) := by
  split <;> assumption

theorem Kept.foldl {α : Type} {z : State} {f : State → α → State} (hf : ∀ s x, Kept z s → Kept z (f s x)) {s : State} {l : List α}
    (h : Kept z s) : Kept z (l.foldl f s) := by
  induction l generalizing s with
  | nil => exact h
  | cons a r ih => exact ih (hf s a h)

theorem Kept.forBelow {z : State} {n : Nat} {g : Nat → State → State} (hg : ∀ i s, Kept z s → Kept z (g i s)) {s : State}
    (h : Kept z s) : Kept z (forBelow n g s) := by
  induction n with
  | zero => exact h
  | succ n ih => exact hg n _ ih

/-- A change of the rest of the state. -/
theorem Kept.mk_iff {z t : State} {p1 p2 : List Nat} {p3 : List (Nat × Option Nat)} {v_free : Nat} {v_answer : Answer} {v_time : Nat} {v_regs : Tbl Nat}
    {v_shadow : Tbl Nat} {v_count : Tbl Counter} {v_freeze : Option (Nat × Bool)} {v_clk : Clk} {v_snare : Tbl Nat}
    {v_web : Web} {v_gear : Tbl Gear} {v_st : Tbl Station} {v_slots : Tbl (Option Slot)} {v_dma : Tbl Dma}
    {v_hostOut : List HostReq} {v_engaged : Tbl Nat} {v_tmem : Tbl Nat} {v_cs : Tbl CsExtra} {v_nextEpoch : Nat}
    {v_ledger : List Entry} {v_mlt : Tbl Mallet} {v_mltPoison : List Nat} {v_roles : Tbl Role} {v_flights : List Flight}
    {v_hostRx : List (Bool × Msg)} {v_gong : Gong} {v_lanes : Tbl Lane} {v_heads : Tbl Head} {v_ink : Tbl InkSt} {v_dd : Dd}
    {v_ddResults : List Word} {v_sb : Sb} {v_spares : Tbl Spare} {v_ep : Tbl Ep} {v_hv : Tbl Hv} {v_fuser : Tbl Fuser}
    {v_zcAt : Nat} {v_resid : Tbl Nat} {v_msix : Tbl Nat} {v_pba : Nat} {v_d3hot : Bool} {v_link : PcieLink}
    {v_log : List LogRec} {v_logKept : Tbl (List LogRec)} {v_logSeq : Nat} {v_finals : List (List Byte)}
    {v_saved : List (List Byte)} {v_calSec : Nat} {v_calFrac : Nat} {v_calSub : Nat} {v_boots : Nat} {v_gpio : Tbl Nat}
    {v_timed : List (Nat × Nat × Nat × Nat)} {v_feedTurn : Nat} {v_storeSeq : Nat} {v_tmemBad : List (Nat × Nat × Nat)}
    {v_loadAt : Tbl Nat} {v_keeperRx : List Msg} {v_eventPort : Tbl Nat} {v_stops : List Stop} {v_stopOpen : Option Stop}
    {v_life : Tbl Nat} {v_lifeSaved : Tbl Nat} {v_timers : Tbl Nat} {v_pgenAt : Nat} {v_axes : Tbl Axis} {v_groups : Tbl Group}
    {v_steppers : Tbl Stepper} {v_traces : Tbl Trace} {v_outs : Tbl Int} {v_motors : Tbl Motor} {v_buses : Tbl Bus}
    {v_hk : Tbl HkCh} {v_stepAt : Nat} {v_checkAt : Nat} {v_keeper : Keeper} {v_fifo : List LogRec} {v_fifoLost : Nat}
    {v_cntStage : Tbl Nat} :
    Kept z
      (State.mk t.pending v_free v_answer v_time v_regs v_shadow v_count v_freeze v_clk v_snare v_web v_gear v_st
        ⟨t.mem.bytes, p1, p2, p3⟩ t.lst v_slots v_dma v_hostOut t.scan v_engaged v_tmem v_cs v_nextEpoch v_ledger v_mlt t.imem
        t.dmem t.msm v_mltPoison v_roles v_flights v_hostRx v_gong v_lanes v_heads v_ink t.waves v_dd v_ddResults v_sb v_spares
        v_ep v_hv v_fuser v_zcAt v_resid v_msix v_pba v_d3hot v_link v_log v_logKept v_logSeq v_finals v_saved v_calSec
        v_calFrac v_calSub v_boots v_gpio v_timed v_feedTurn v_storeSeq v_tmemBad v_loadAt v_keeperRx v_eventPort v_stops
        v_stopOpen v_life v_lifeSaved v_timers v_pgenAt v_axes v_groups v_steppers v_traces v_outs v_motors v_buses v_hk
        v_stepAt v_checkAt t.otp v_keeper v_fifo v_fifoLost v_cntStage) ↔ Kept z t := Iff.rfl

/-- A change of the rest of the state, device memory aside. -/
theorem Kept.mk2_iff {z t : State} {v_free : Nat} {v_answer : Answer} {v_time : Nat} {v_regs : Tbl Nat} {v_shadow : Tbl Nat}
    {v_count : Tbl Counter} {v_freeze : Option (Nat × Bool)} {v_clk : Clk} {v_snare : Tbl Nat} {v_web : Web} {v_gear : Tbl Gear}
    {v_st : Tbl Station} {v_slots : Tbl (Option Slot)} {v_dma : Tbl Dma} {v_hostOut : List HostReq} {v_engaged : Tbl Nat}
    {v_tmem : Tbl Nat} {v_cs : Tbl CsExtra} {v_nextEpoch : Nat} {v_ledger : List Entry} {v_mlt : Tbl Mallet}
    {v_mltPoison : List Nat} {v_roles : Tbl Role} {v_flights : List Flight} {v_hostRx : List (Bool × Msg)} {v_gong : Gong}
    {v_lanes : Tbl Lane} {v_heads : Tbl Head} {v_ink : Tbl InkSt} {v_dd : Dd} {v_ddResults : List Word} {v_sb : Sb}
    {v_spares : Tbl Spare} {v_ep : Tbl Ep} {v_hv : Tbl Hv} {v_fuser : Tbl Fuser} {v_zcAt : Nat} {v_resid : Tbl Nat}
    {v_msix : Tbl Nat} {v_pba : Nat} {v_d3hot : Bool} {v_link : PcieLink} {v_log : List LogRec} {v_logKept : Tbl (List LogRec)}
    {v_logSeq : Nat} {v_finals : List (List Byte)} {v_saved : List (List Byte)} {v_calSec : Nat} {v_calFrac : Nat}
    {v_calSub : Nat} {v_boots : Nat} {v_gpio : Tbl Nat} {v_timed : List (Nat × Nat × Nat × Nat)} {v_feedTurn : Nat}
    {v_storeSeq : Nat} {v_tmemBad : List (Nat × Nat × Nat)} {v_loadAt : Tbl Nat} {v_keeperRx : List Msg} {v_eventPort : Tbl Nat}
    {v_stops : List Stop} {v_stopOpen : Option Stop} {v_life : Tbl Nat} {v_lifeSaved : Tbl Nat} {v_timers : Tbl Nat}
    {v_pgenAt : Nat} {v_axes : Tbl Axis} {v_groups : Tbl Group} {v_steppers : Tbl Stepper} {v_traces : Tbl Trace}
    {v_outs : Tbl Int} {v_motors : Tbl Motor} {v_buses : Tbl Bus} {v_hk : Tbl HkCh} {v_stepAt : Nat} {v_checkAt : Nat}
    {v_keeper : Keeper} {v_fifo : List LogRec} {v_fifoLost : Nat} {v_cntStage : Tbl Nat} :
    Kept z
      (State.mk t.pending v_free v_answer v_time v_regs v_shadow v_count v_freeze v_clk v_snare v_web v_gear v_st t.mem t.lst
        v_slots v_dma v_hostOut t.scan v_engaged v_tmem v_cs v_nextEpoch v_ledger v_mlt t.imem t.dmem t.msm v_mltPoison v_roles
        v_flights v_hostRx v_gong v_lanes v_heads v_ink t.waves v_dd v_ddResults v_sb v_spares v_ep v_hv v_fuser v_zcAt v_resid
        v_msix v_pba v_d3hot v_link v_log v_logKept v_logSeq v_finals v_saved v_calSec v_calFrac v_calSub v_boots v_gpio v_timed
        v_feedTurn v_storeSeq v_tmemBad v_loadAt v_keeperRx v_eventPort v_stops v_stopOpen v_life v_lifeSaved v_timers v_pgenAt
        v_axes v_groups v_steppers v_traces v_outs v_motors v_buses v_hk v_stepAt v_checkAt t.otp v_keeper v_fifo v_fifoLost
        v_cntStage) ↔ Kept z t := Iff.rfl

theorem Kept.lst {z s : State} {l : Tbl Byte} (h : Kept z s) (hl : twf (fun _ => 0) s.lst = true → twf (fun _ => 0) l = true) :
    Kept z { s with lst := l } := by
  refine h.trans ⟨rfl, fun w => ?_, fun _ => Nat.and_self _⟩
  simp only [State.memoryWf, Bool.and_eq_true] at *
  exact ⟨⟨⟨⟨⟨⟨w.1.1.1.1.1.1, hl w.1.1.1.1.1.2⟩, w.1.1.1.1.2⟩, w.1.1.1.2⟩, w.1.1.2⟩, w.1.2⟩, w.2⟩

theorem Kept.msm {z s : State} {l : Tbl Byte} (h : Kept z s) (hl : twf (fun _ => 0) s.msm = true → twf (fun _ => 0) l = true) :
    Kept z { s with msm := l } := by
  refine h.trans ⟨rfl, fun w => ?_, fun _ => Nat.and_self _⟩
  simp only [State.memoryWf, Bool.and_eq_true] at *
  exact ⟨⟨⟨⟨⟨⟨w.1.1.1.1.1.1, w.1.1.1.1.1.2⟩, hl w.1.1.1.1.2⟩, w.1.1.1.2⟩, w.1.1.2⟩, w.1.2⟩, w.2⟩

theorem Kept.imem {z s : State} {l : Tbl Word} (h : Kept z s) (hl : twf (fun _ => 0) s.imem = true → twf (fun _ => 0) l = true) :
    Kept z { s with imem := l } := by
  refine h.trans ⟨rfl, fun w => ?_, fun _ => Nat.and_self _⟩
  simp only [State.memoryWf, Bool.and_eq_true] at *
  exact ⟨⟨⟨⟨⟨⟨w.1.1.1.1.1.1, w.1.1.1.1.1.2⟩, w.1.1.1.1.2⟩, hl w.1.1.1.2⟩, w.1.1.2⟩, w.1.2⟩, w.2⟩

theorem Kept.dmem {z s : State} {l : Tbl Byte} (h : Kept z s) (hl : twf (fun _ => 0) s.dmem = true → twf (fun _ => 0) l = true) :
    Kept z { s with dmem := l } := by
  refine h.trans ⟨rfl, fun w => ?_, fun _ => Nat.and_self _⟩
  simp only [State.memoryWf, Bool.and_eq_true] at *
  exact ⟨⟨⟨⟨⟨⟨w.1.1.1.1.1.1, w.1.1.1.1.1.2⟩, w.1.1.1.1.2⟩, w.1.1.1.2⟩, hl w.1.1.2⟩, w.1.2⟩, w.2⟩

theorem Kept.waves {z s : State} {l : Tbl Byte} (h : Kept z s) (hl : twf (fun _ => 0) s.waves = true → twf (fun _ => 0) l = true) :
    Kept z { s with waves := l } := by
  refine h.trans ⟨rfl, fun w => ?_, fun _ => Nat.and_self _⟩
  simp only [State.memoryWf, Bool.and_eq_true] at *
  exact ⟨⟨⟨⟨⟨⟨w.1.1.1.1.1.1, w.1.1.1.1.1.2⟩, w.1.1.1.1.2⟩, w.1.1.1.2⟩, w.1.1.2⟩, hl w.1.2⟩, w.2⟩

theorem Kept.scan {z s : State} {l : Tbl Byte} (h : Kept z s) (hl : twf (fun _ => 0) s.scan = true → twf (fun _ => 0) l = true) :
    Kept z { s with scan := l } := by
  refine h.trans ⟨rfl, fun w => ?_, fun _ => Nat.and_self _⟩
  simp only [State.memoryWf, Bool.and_eq_true] at *
  exact ⟨⟨⟨⟨⟨⟨w.1.1.1.1.1.1, w.1.1.1.1.1.2⟩, w.1.1.1.1.2⟩, w.1.1.1.2⟩, w.1.1.2⟩, w.1.2⟩, hl w.2⟩

theorem Kept.bytes {z s : State} {l : Tbl Byte} (h : Kept z s) (hl : twf (fun _ => 0) s.mem.bytes = true → twf (fun _ => 0) l = true) :
    Kept z { s with mem := { s.mem with bytes := l } } := by
  refine h.trans ⟨rfl, fun w => ?_, fun _ => Nat.and_self _⟩
  simp only [State.memoryWf, Bool.and_eq_true] at *
  exact ⟨⟨⟨⟨⟨⟨hl w.1.1.1.1.1.1, w.1.1.1.1.1.2⟩, w.1.1.1.1.2⟩, w.1.1.1.2⟩, w.1.1.2⟩, w.1.2⟩, w.2⟩

theorem Kept.msmP {z s : State} {l : Tbl Byte} {p : List Nat} (h : Kept z s) (hl : twf (fun _ => 0) s.msm = true → twf (fun _ => 0) l = true) :
    Kept z { s with msm := l, mltPoison := p } := Kept.msm h hl

theorem Kept.dmemP {z s : State} {l : Tbl Byte} {p : List Nat} (h : Kept z s) (hl : twf (fun _ => 0) s.dmem = true → twf (fun _ => 0) l = true) :
    Kept z { s with dmem := l, mltPoison := p } := Kept.dmem h hl

theorem Kept.poison {z s : State} {l : List Nat} (h : Kept z s) : Kept z { s with mltPoison := l } := h

theorem Kept.otpWord {z s : State} {l : Tbl Nat} (h : Kept z s) (hl : ∀ k, tget 0 s.otp k &&& tget 0 l k = tget 0 s.otp k) :
    Kept z { s with otp := l } := h.trans ⟨rfl, id, hl⟩

/-- A bit set keeps the others. -/
theorem setBit_keeps (n i : Nat) : n &&& setBit n i = n :=
  Nat.eq_of_testBit_eq fun j => by
    rw [Nat.testBit_and, setBit, Nat.testBit_or]
    cases n.testBit j <;> rfl

end Sys2Proof.Machine
end

