-- ==== Sys2Proof/Laws/KeptUnits.lean ====
section
/-!
SUPPORT. Every operation of the gong, the clocks, the pipeline and the screens keeps the queue, the memories' canonical form and the programmed OTP
bits: one lemma per operation, by its parts.
-/
namespace Sys2Proof.Machine

/-! ### Ops -/

theorem State.setF_kept {z s : State} (h : Kept z s) (a1 : Field) (a2 : Nat) : Kept z (State.setF s a1 a2) := by
  unfold State.setF
  repeat' first
    | with_reducible assumption
    | (simp only [Kept.mk2_iff])
    | (simp only [Kept.mk_iff])

theorem State.setB_kept {z s : State} (h : Kept z s) (a1 : Field) (a2 : Bool) : Kept z (State.setB s a1 a2) := by
  unfold State.setB
  repeat' first
    | with_reducible assumption
    | with_reducible apply State.setF_kept

theorem State.setFs_kept {z s : State} (h : Kept z s) (l : List (Field × Nat)) : Kept z (s.setFs l) := by
  induction l generalizing s with
  | nil => exact h
  | cons x r ih => exact ih (State.setF_kept h _ _)

theorem State.addF_kept {z s : State} (h : Kept z s) (a1 : Field) (a2 : Nat) : Kept z (State.addF s a1 a2) := by
  unfold State.addF
  repeat' first
    | with_reducible assumption
    | with_reducible apply State.setF_kept

theorem State.setPair_kept {z s : State} (h : Kept z s) (a1 : Field) (a2 : Field) (a3 : Nat) : Kept z (State.setPair s a1 a2 a3) := by
  unfold State.setPair
  repeat' first
    | with_reducible assumption
    | with_reducible apply State.setF_kept

theorem State.setPairS_kept {z s : State} (h : Kept z s) (a1 : Field) (a2 : Field) (a3 : Int) : Kept z (State.setPairS s a1 a2 a3) := by
  unfold State.setPairS
  repeat' first
    | with_reducible assumption
    | with_reducible apply State.setPair_kept

theorem State.setBitF_kept {z s : State} (h : Kept z s) (a1 : Field) (a2 : Nat) (a3 : Bool) : Kept z (State.setBitF s a1 a2 a3) := by
  unfold State.setBitF
  repeat' first
    | with_reducible assumption
    | with_reducible apply State.setF_kept

theorem State.setStation_kept {z s : State} (h : Kept z s) (a1 : Nat) (a2 : Station) : Kept z (State.setStation s a1 a2) := by
  unfold State.setStation
  repeat' first
    | with_reducible assumption
    | (simp only [Kept.mk2_iff])
    | (simp only [Kept.mk_iff])

theorem State.setGear_kept {z s : State} (h : Kept z s) (a1 : Nat) (a2 : Gear) : Kept z (State.setGear s a1 a2) := by
  unfold State.setGear
  repeat' first
    | with_reducible assumption
    | (simp only [Kept.mk2_iff])
    | (simp only [Kept.mk_iff])

theorem State.setSource_kept {z s : State} (h : Kept z s) (a1 : Nat) (a2 : Src) : Kept z (State.setSource s a1 a2) := by
  unfold State.setSource
  repeat' first
    | with_reducible assumption
    | ((try lift_lets); intro x; clear_value (e : x = _); refine Kept.use (s := z) (x := x) (Kept.via e ?_) (fun h => ?_))
    | ((try lift_lets); intro x; clear_value x)
    | (simp only [Kept.mk2_iff])
    | (simp only [Kept.mk_iff])

theorem State.setMdll_kept {z s : State} (h : Kept z s) (a1 : Nat) (a2 : Mdll) : Kept z (State.setMdll s a1 a2) := by
  unfold State.setMdll
  repeat' first
    | with_reducible assumption
    | ((try lift_lets); intro x; clear_value (e : x = _); refine Kept.use (s := z) (x := x) (Kept.via e ?_) (fun h => ?_))
    | ((try lift_lets); intro x; clear_value x)
    | (simp only [Kept.mk2_iff])
    | (simp only [Kept.mk_iff])

theorem State.setMallet_kept {z s : State} (h : Kept z s) (a1 : Nat) (a2 : Mallet) : Kept z (State.setMallet s a1 a2) := by
  unfold State.setMallet
  repeat' first
    | with_reducible assumption
    | (simp only [Kept.mk2_iff])
    | (simp only [Kept.mk_iff])

theorem State.setRole_kept {z s : State} (h : Kept z s) (a1 : Nat) (a2 : Role) : Kept z (State.setRole s a1 a2) := by
  unfold State.setRole
  repeat' first
    | with_reducible assumption
    | (simp only [Kept.mk2_iff])
    | (simp only [Kept.mk_iff])

theorem State.setLane_kept {z s : State} (h : Kept z s) (a1 : Nat) (a2 : Lane) : Kept z (State.setLane s a1 a2) := by
  unfold State.setLane
  repeat' first
    | with_reducible assumption
    | (simp only [Kept.mk2_iff])
    | (simp only [Kept.mk_iff])

theorem State.setChan_kept {z s : State} (h : Kept z s) (a1 : Nat) (a2 : Dma) : Kept z (State.setChan s a1 a2) := by
  unfold State.setChan
  repeat' first
    | with_reducible assumption
    | (simp only [Kept.mk2_iff])
    | (simp only [Kept.mk_iff])

theorem State.setSlot_kept {z s : State} (h : Kept z s) (a1 : Nat) (a2 : Nat) (a3 : Option Slot) : Kept z (State.setSlot s a1 a2 a3) := by
  unfold State.setSlot
  repeat' first
    | with_reducible assumption
    | (simp only [Kept.mk2_iff])
    | (simp only [Kept.mk_iff])

theorem State.setEp_kept {z s : State} (h : Kept z s) (a1 : Nat) (a2 : Ep) : Kept z (State.setEp s a1 a2) := by
  unfold State.setEp
  repeat' first
    | with_reducible assumption
    | (simp only [Kept.mk2_iff])
    | (simp only [Kept.mk_iff])

theorem State.setInk_kept {z s : State} (h : Kept z s) (a1 : Nat) (a2 : InkSt) : Kept z (State.setInk s a1 a2) := by
  unfold State.setInk
  repeat' first
    | with_reducible assumption
    | (simp only [Kept.mk2_iff])
    | (simp only [Kept.mk_iff])

theorem State.setHead_kept {z s : State} (h : Kept z s) (a1 : Nat) (a2 : Nat) (a3 : Head) : Kept z (State.setHead s a1 a2 a3) := by
  unfold State.setHead
  repeat' first
    | with_reducible assumption
    | (simp only [Kept.mk2_iff])
    | (simp only [Kept.mk_iff])

theorem State.setHv_kept {z s : State} (h : Kept z s) (a1 : Nat) (a2 : Hv) : Kept z (State.setHv s a1 a2) := by
  unfold State.setHv
  repeat' first
    | with_reducible assumption
    | (simp only [Kept.mk2_iff])
    | (simp only [Kept.mk_iff])

theorem State.setZone_kept {z s : State} (h : Kept z s) (a1 : Nat) (a2 : Fuser) : Kept z (State.setZone s a1 a2) := by
  unfold State.setZone
  repeat' first
    | with_reducible assumption
    | (simp only [Kept.mk2_iff])
    | (simp only [Kept.mk_iff])

theorem State.setAxis_kept {z s : State} (h : Kept z s) (a1 : Nat) (a2 : Axis) : Kept z (State.setAxis s a1 a2) := by
  unfold State.setAxis
  repeat' first
    | with_reducible assumption
    | (simp only [Kept.mk2_iff])
    | (simp only [Kept.mk_iff])

theorem State.setGroup_kept {z s : State} (h : Kept z s) (a1 : Nat) (a2 : Group) : Kept z (State.setGroup s a1 a2) := by
  unfold State.setGroup
  repeat' first
    | with_reducible assumption
    | (simp only [Kept.mk2_iff])
    | (simp only [Kept.mk_iff])

theorem State.setStepper_kept {z s : State} (h : Kept z s) (a1 : Nat) (a2 : Stepper) : Kept z (State.setStepper s a1 a2) := by
  unfold State.setStepper
  repeat' first
    | with_reducible assumption
    | (simp only [Kept.mk2_iff])
    | (simp only [Kept.mk_iff])

theorem State.setTrace_kept {z s : State} (h : Kept z s) (a1 : Nat) (a2 : Trace) : Kept z (State.setTrace s a1 a2) := by
  unfold State.setTrace
  repeat' first
    | with_reducible assumption
    | (simp only [Kept.mk2_iff])
    | (simp only [Kept.mk_iff])

theorem State.setMotor_kept {z s : State} (h : Kept z s) (a1 : Nat) (a2 : Motor) : Kept z (State.setMotor s a1 a2) := by
  unfold State.setMotor
  repeat' first
    | with_reducible assumption
    | (simp only [Kept.mk2_iff])
    | (simp only [Kept.mk_iff])

theorem State.setBus_kept {z s : State} (h : Kept z s) (a1 : Nat) (a2 : Bus) : Kept z (State.setBus s a1 a2) := by
  unfold State.setBus
  repeat' first
    | with_reducible assumption
    | (simp only [Kept.mk2_iff])
    | (simp only [Kept.mk_iff])

theorem State.setHk_kept {z s : State} (h : Kept z s) (a1 : Nat) (a2 : HkCh) : Kept z (State.setHk s a1 a2) := by
  unfold State.setHk
  repeat' first
    | with_reducible assumption
    | (simp only [Kept.mk2_iff])
    | (simp only [Kept.mk_iff])

theorem State.showHold_kept {z s : State} (h : Kept z s) (a1 : Nat) : Kept z (State.showHold s a1) := by
  unfold State.showHold
  repeat' first
    | with_reducible assumption
    | ((try lift_lets); intro x; clear_value (e : x = _); refine Kept.use (s := z) (x := x) (Kept.via e ?_) (fun h => ?_))
    | ((try lift_lets); intro x; clear_value x)
    | with_reducible apply State.setF_kept
    | with_reducible apply Kept.ite


theorem State.draw_kept {z s : State} (h : Kept z s)  : Kept z (State.draw s) := by
  unfold State.draw
  repeat' first
    | with_reducible assumption
    | (simp only [Kept.mk2_iff])
    | (simp only [Kept.mk_iff])

theorem State.setFreeze_kept {z s : State} (h : Kept z s) (a1 : Bool) : Kept z (State.setFreeze s a1) := by
  unfold State.setFreeze
  repeat' first
    | with_reducible assumption
    | with_reducible apply State.setB_kept
    | (simp only [Kept.mk2_iff])
    | (simp only [Kept.mk_iff])

theorem State.tally_kept {z s : State} (h : Kept z s) (a1 : Nat) (a2 : Nat) : Kept z (State.tally s a1 a2) := by
  unfold State.tally
  repeat' first
    | with_reducible assumption
    | with_reducible apply Kept.ite
    | (simp only [Kept.mk2_iff])
    | (simp only [Kept.mk_iff])

theorem State.tallyUnits_kept {z s : State} (h : Kept z s) (a1 : Nat) (a2 : Nat) (a3 : Nat) : Kept z (State.tallyUnits s a1 a2 a3) := by
  unfold State.tallyUnits
  repeat' first
    | with_reducible assumption
    | ((try lift_lets); intro x; clear_value (e : x = _); refine Kept.use (s := z) (x := x) (Kept.via e ?_) (fun h => ?_))
    | ((try lift_lets); intro x; clear_value x)
    | with_reducible apply State.tally_kept
    | (simp only [Kept.mk2_iff])
    | (simp only [Kept.mk_iff])

theorem State.flam_kept {z s : State} (h : Kept z s) (a1 : Field) (a2 : Nat) : Kept z (State.flam s a1 a2) := by
  unfold State.flam
  repeat' first
    | with_reducible assumption
    | with_reducible apply State.tally_kept
    | with_reducible apply State.addF_kept

theorem State.rebaseWeb_kept {z s : State} (h : Kept z s)  : Kept z (State.rebaseWeb s) := by
  unfold State.rebaseWeb
  repeat' first
    | with_reducible assumption
    | with_reducible apply Kept.ite
    | (simp only [Kept.mk2_iff])
    | (simp only [Kept.mk_iff])

theorem State.setLbias_kept {z s : State} (h : Kept z s) (a1 : Nat) (a2 : Int) : Kept z (State.setLbias s a1 a2) := by
  unfold State.setLbias
  repeat' first
    | with_reducible assumption
    | with_reducible apply State.setPairS_kept

theorem State.addCal_kept {z s : State} (h : Kept z s) (a1 : Int) : Kept z (State.addCal s a1) := by
  unfold State.addCal
  repeat' first
    | with_reducible assumption
    | ((try lift_lets); intro x; clear_value (e : x = _); refine Kept.use (s := z) (x := x) (Kept.via e ?_) (fun h => ?_))
    | ((try lift_lets); intro x; clear_value x)
    | (simp only [Kept.mk2_iff])
    | (simp only [Kept.mk_iff])

theorem State.lived_kept {z s : State} (h : Kept z s) (a1 : Nat) (a2 : Nat) : Kept z (State.lived s a1 a2) := by
  unfold State.lived
  repeat' first
    | with_reducible assumption
    | (simp only [Kept.mk2_iff])
    | (simp only [Kept.mk_iff])

theorem State.livedHead_kept {z s : State} (h : Kept z s) (a1 : Nat) (a2 : Nat) : Kept z (State.livedHead s a1 a2) := by
  unfold State.livedHead
  repeat' first
    | with_reducible assumption
    | ((try lift_lets); intro x; clear_value (e : x = _); refine Kept.use (s := z) (x := x) (Kept.via e ?_) (fun h => ?_))
    | ((try lift_lets); intro x; clear_value x)
    | with_reducible apply State.lived_kept
    | (with_reducible apply Kept.foldl; intro s x h)
    | (simp only [Kept.mk2_iff])
    | (simp only [Kept.mk_iff])

theorem State.lifeTicks_kept {z s : State} (h : Kept z s) (a1 : Nat) : Kept z (State.lifeTicks s a1) := by
  unfold State.lifeTicks
  repeat' first
    | with_reducible assumption
    | ((try lift_lets); intro x; clear_value (e : x = _); refine Kept.use (s := z) (x := x) (Kept.via e ?_) (fun h => ?_))
    | ((try lift_lets); intro x; clear_value x)
    | with_reducible apply State.lived_kept
    | with_reducible apply Kept.ite
    | (with_reducible apply Kept.forBelow; intro i s h)

theorem State.advance_kept {z s : State} (h : Kept z s) (a1 : Nat) : Kept z (State.advance s a1) := by
  unfold State.advance
  repeat' first
    | with_reducible assumption
    | ((try lift_lets); intro x; clear_value (e : x = _); refine Kept.use (s := z) (x := x) (Kept.via e ?_) (fun h => ?_))
    | ((try lift_lets); intro x; clear_value x)
    | with_reducible apply State.lifeTicks_kept
    | with_reducible apply State.addCal_kept
    | with_reducible apply Kept.ite
    | (simp only [Kept.mk2_iff])
    | (simp only [Kept.mk_iff])

theorem State.advanceTo_kept {z s : State} (h : Kept z s) (a1 : Nat) : Kept z (State.advanceTo s a1) := by
  unfold State.advanceTo
  repeat' first
    | with_reducible assumption
    | with_reducible apply State.advance_kept
    | with_reducible apply Kept.ite

theorem State.memPut_kept {z s : State} (h : Kept z s) (a : Nat) (bs : List Byte) : Kept z (s.memPut a bs) := by
  refine h.trans ⟨rfl, fun w => ?_, fun _ => Nat.and_self _⟩
  simp only [State.memoryWf, State.memPut, Bool.and_eq_true] at *
  exact ⟨⟨⟨⟨⟨⟨tputs_twf _ _ _ _ w.1.1.1.1.1.1, w.1.1.1.1.1.2⟩, w.1.1.1.1.2⟩, w.1.1.1.2⟩, w.1.1.2⟩, w.1.2⟩, w.2⟩

theorem State.memWriteBlock_kept {z s : State} (h : Kept z s) (a1 : Nat) (a2 : List Byte) : Kept z (State.memWriteBlock s a1 a2) := by
  unfold State.memWriteBlock
  repeat' first
    | with_reducible assumption
    | ((try lift_lets); intro x; clear_value (e : x = _); refine Kept.use (s := z) (x := x) (Kept.via e ?_) (fun h => ?_))
    | ((try lift_lets); intro x)
    | with_reducible apply State.memPut_kept
    | with_reducible apply State.setF_kept
    | with_reducible apply Kept.ite
    | (simp only [Kept.mk2_iff])
    | (simp only [Kept.mk_iff])
    | (dsimp (zetaDelta := true) only)
    | (simp (zetaDelta := true) only [Kept.mk2_iff, Kept.mk_iff])

theorem memWriteGo_kept {z s : State} (h : Kept z s) (a : Nat) (bs : List Byte) (k : Nat) : Kept z (memWriteGo s a bs k) := by
  induction k generalizing s a bs with
  | zero => exact h
  | succ k ih =>
    unfold memWriteGo
    split
    · exact h
    · exact ih (State.memWriteBlock_kept h _ _) _ _

theorem State.memWrite_kept {z s : State} (h : Kept z s) (a1 : Nat) (a2 : List Byte) : Kept z (State.memWrite s a1 a2) := by
  unfold State.memWrite
  repeat' first
    | with_reducible assumption
    | with_reducible apply memWriteGo_kept

theorem State.latch_kept {z s : State} (h : Kept z s) (a1 : Nat) (a2 : Nat) (a3 : Nat) : Kept z (State.latch s a1 a2 a3) := by
  unfold State.latch
  repeat' first
    | with_reducible assumption
    | (simp only [Kept.mk2_iff])
    | (simp only [Kept.mk_iff])

theorem State.reply_kept {z s : State} (h : Kept z s) (a1 : Nat) : Kept z (State.reply s a1) := by
  unfold State.reply
  repeat' first
    | with_reducible assumption
    | (simp only [Kept.mk2_iff])
    | (simp only [Kept.mk_iff])

theorem after_kept {z s : State} (h : Kept z s) (o : Out) (ho : KeptOut z o) : Kept z (after o s) := by
  unfold after
  split
  · exact ho.keeps _ rfl
  · exact h
  · exact h

/-! ### Gong -/

theorem State.sendMsix_kept {z s : State} (h : Kept z s) (a1 : Nat) : Kept z (State.sendMsix s a1) := by
  unfold State.sendMsix
  repeat' first
    | with_reducible assumption
    | ((try lift_lets); intro x; clear_value (e : x = _); refine Kept.use (s := z) (x := x) (Kept.via e ?_) (fun h => ?_))
    | ((try lift_lets); intro x; clear_value x)
    | with_reducible apply Kept.ite
    | (simp only [Kept.mk2_iff])
    | (simp only [Kept.mk_iff])

theorem broadcastTo_kept {z s : State} (h : Kept z s) (a1 : Nat) (a2 : Nat) : Kept z (broadcastTo a1 a2 s) := by
  unfold broadcastTo
  repeat' first
    | with_reducible assumption
    | ((try lift_lets); intro x; clear_value (e : x = _); refine Kept.use (s := z) (x := x) (Kept.via e ?_) (fun h => ?_))
    | ((try lift_lets); intro x; clear_value x)
    | with_reducible apply State.setMallet_kept
    | with_reducible apply Kept.ite
    | (with_reducible apply Kept.forBelow; intro i s h)

theorem State.logWrite_kept {z s : State} (h : Kept z s) (a1 : LogRec) : Kept z (State.logWrite s a1) := by
  unfold State.logWrite
  repeat' first
    | with_reducible assumption
    | ((try lift_lets); intro x; clear_value (e : x = _); refine Kept.use (s := z) (x := x) (Kept.via e ?_) (fun h => ?_))
    | ((try lift_lets); intro x; clear_value x)
    | with_reducible apply State.tally_kept
    | (simp only [Kept.mk2_iff])
    | (simp only [Kept.mk_iff])

theorem State.logPut_kept {z s : State} (h : Kept z s) (a1 : LogRec) : Kept z (State.logPut s a1) := by
  unfold State.logPut
  repeat' first
    | with_reducible assumption
    | with_reducible apply State.tally_kept
    | with_reducible apply State.logWrite_kept
    | with_reducible apply Kept.ite
    | (simp only [Kept.mk2_iff])
    | (simp only [Kept.mk_iff])

theorem State.logAdd_kept {z s : State} (h : Kept z s) (a1 : Nat) (a2 : Nat) (a3 : Nat) (a4 : Nat) (a5 : Nat) (a6 : Nat) : Kept z (State.logAdd s a1 a2 a3 a4 a5 a6) := by
  unfold State.logAdd
  repeat' first
    | with_reducible assumption
    | with_reducible apply State.logPut_kept

theorem State.logRaise_kept {z s : State} (h : Kept z s) (a1 : Nat) (a2 : Nat) (a3 : Nat) : Kept z (State.logRaise s a1 a2 a3) := by
  unfold State.logRaise
  repeat' first
    | with_reducible assumption
    | ((try lift_lets); intro x; clear_value (e : x = _); refine Kept.use (s := z) (x := x) (Kept.via e ?_) (fun h => ?_))
    | ((try lift_lets); intro x; clear_value x)
    | with_reducible apply State.logAdd_kept
    | with_reducible apply Kept.ite
    | (simp only [Kept.mk2_iff])
    | (simp only [Kept.mk_iff])

theorem State.logDrain_kept {z s : State} (h : Kept z s)  : Kept z (State.logDrain s) := by
  unfold State.logDrain
  repeat' first
    | with_reducible assumption
    | ((try lift_lets); intro x; clear_value (e : x = _); refine Kept.use (s := z) (x := x) (Kept.via e ?_) (fun h => ?_))
    | ((try lift_lets); intro x; clear_value x)
    | with_reducible apply State.logWrite_kept
    | with_reducible apply State.logAdd_kept
    | with_reducible apply Kept.ite
    | (with_reducible apply Kept.foldl; intro s x h)
    | (simp only [Kept.mk2_iff])
    | (simp only [Kept.mk_iff])

theorem State.note_kept {z s : State} (h : Kept z s) (a1 : Nat) : Kept z (State.note s a1) := by
  unfold State.note
  repeat' first
    | with_reducible assumption
    | with_reducible apply State.logAdd_kept

theorem State.logRetry_kept {z s : State} (h : Kept z s) (a1 : Nat) (a2 : Nat) (a3 : Nat) : Kept z (State.logRetry s a1 a2 a3) := by
  unfold State.logRetry
  repeat' first
    | with_reducible assumption
    | with_reducible apply State.logAdd_kept

theorem State.snapshot_kept {z s : State} (h : Kept z s)  : Kept z (State.snapshot s) := by
  unfold State.snapshot
  repeat' first
    | with_reducible assumption
    | ((try lift_lets); intro x; clear_value (e : x = _); refine Kept.use (s := z) (x := x) (Kept.via e ?_) (fun h => ?_))
    | ((try lift_lets); intro x)
    | with_reducible apply State.setPair_kept
    | (with_reducible apply Kept.forBelow; intro i s h)
    | (simp only [Kept.mk2_iff])
    | (simp only [Kept.mk_iff])
    | (dsimp (zetaDelta := true) only)
    | (simp (zetaDelta := true) only [Kept.mk2_iff, Kept.mk_iff])

theorem State.trigger_kept {z s : State} (h : Kept z s) (a1 : Nat) : Kept z (State.trigger s a1) := by
  unfold State.trigger
  repeat' first
    | with_reducible assumption
    | ((try lift_lets); intro x; clear_value (e : x = _); refine Kept.use (s := z) (x := x) (Kept.via e ?_) (fun h => ?_))
    | ((try lift_lets); intro x; clear_value x)
    | with_reducible apply State.setFs_kept
    | with_reducible apply State.setPair_kept
    | with_reducible apply State.setTrace_kept

theorem traceTriggers_kept {z s : State} (h : Kept z s) (a1 : Nat) : Kept z (traceTriggers a1 s) := by
  unfold traceTriggers
  repeat' first
    | with_reducible assumption
    | with_reducible apply State.trigger_kept
    | with_reducible apply Kept.ite
    | (with_reducible apply Kept.forBelow; intro i s h)

theorem State.post_kept {z s : State} (h : Kept z s) (a1 : Nat) (a2 : Nat) (a3 : Nat) : Kept z (State.post s a1 a2 a3) := by
  unfold State.post
  repeat' first
    | with_reducible assumption
    | ((try lift_lets); intro x; clear_value (e : x = _); refine Kept.use (s := z) (x := x) (Kept.via e ?_) (fun h => ?_))
    | ((try lift_lets); intro x; clear_value x)
    | with_reducible apply State.addF_kept
    | with_reducible apply State.setF_kept
    | with_reducible apply State.tally_kept
    | with_reducible apply State.setBitF_kept
    | with_reducible apply State.sendMsix_kept
    | with_reducible apply broadcastTo_kept
    | with_reducible apply State.logRaise_kept
    | with_reducible apply State.snapshot_kept
    | with_reducible apply traceTriggers_kept
    | with_reducible apply Kept.ite

theorem State.mapCurrent_kept {z s : State} (h : Kept z s) (a1 : Nat) (a2 : Frame → Frame) : Kept z (State.mapCurrent s a1 a2) := by
  unfold State.mapCurrent
  repeat' first
    | with_reducible assumption
    | ((try lift_lets); intro x; clear_value (e : x = _); refine Kept.use (s := z) (x := x) (Kept.via e ?_) (fun h => ?_))
    | ((try lift_lets); intro x; clear_value x)
    | with_reducible apply State.setStation_kept

theorem State.degrade_kept {z s : State} (h : Kept z s) (a1 : Nat) : Kept z (State.degrade s a1) := by
  unfold State.degrade
  repeat' first
    | with_reducible assumption
    | with_reducible apply State.mapCurrent_kept

theorem State.degradeAll_kept {z s : State} (h : Kept z s)  : Kept z (State.degradeAll s) := by
  unfold State.degradeAll
  repeat' first
    | with_reducible assumption
    | with_reducible apply State.degrade_kept
    | with_reducible apply Kept.ite
    | (with_reducible apply Kept.forBelow; intro i s h)

theorem State.markG1_kept {z s : State} (h : Kept z s) (a1 : Nat) (a2 : Nat) (a3 : Nat) (a4 : Names) : Kept z (State.markG1 s a1 a2 a3 a4) := by
  unfold State.markG1
  repeat' first
    | with_reducible assumption
    | with_reducible apply State.degrade_kept
    | with_reducible apply State.degradeAll_kept
    | with_reducible apply Kept.ite
    | (with_reducible apply Kept.foldl; intro s x h)
    | split

theorem State.markStop_kept {z s : State} (h : Kept z s) (a1 : Nat) (a2 : Nat) (a3 : Nat) : Kept z (State.markStop s a1 a2 a3) := by
  unfold State.markStop
  repeat' first
    | with_reducible assumption
    | ((try lift_lets); intro x; clear_value (e : x = _); refine Kept.use (s := z) (x := x) (Kept.via e ?_) (fun h => ?_))
    | ((try lift_lets); intro x; clear_value x)
    | with_reducible apply State.setF_kept
    | with_reducible apply Kept.ite
    | (simp only [Kept.mk2_iff])
    | (simp only [Kept.mk_iff])

theorem State.reportG4_kept {z s : State} (h : Kept z s)  : Kept z (State.reportG4 s) := by
  unfold State.reportG4
  repeat' first
    | with_reducible assumption
    | ((try lift_lets); intro x; clear_value (e : x = _); refine Kept.use (s := z) (x := x) (Kept.via e ?_) (fun h => ?_))
    | ((try lift_lets); intro x; clear_value x)
    | with_reducible apply State.setF_kept
    | with_reducible apply State.logPut_kept
    | with_reducible apply Kept.ite
    | (with_reducible apply Kept.foldl; intro s x h)
    | (simp only [Kept.mk2_iff])
    | (simp only [Kept.mk_iff])

theorem State.raiseCore_kept {z s : State} (h : Kept z s) (a1 : Nat) (a2 : Nat) (a3 : Option Nat) (a4 : Names) : KeptP z (State.raiseCore s a1 a2 a3 a4) := by
  unfold State.raiseCore
  repeat' first
    | with_reducible assumption
    | ((try lift_lets); intro x; clear_value (e : x = _); refine Kept.use (s := z) (x := x) (Kept.via e ?_) (fun h => ?_))
    | ((try lift_lets); intro x; clear_value x)
    | with_reducible apply State.post_kept
    | with_reducible apply State.markStop_kept
    | with_reducible apply State.markG1_kept
    | with_reducible apply Kept.ite
    | with_reducible apply KeptP.ite
    | (split <;> (rename_i heq; refine Kept.use (s := z) (KeptP.at heq ?_) (fun h => ?_)))
    | split
    | (simp only [Kept.mk2_iff])
    | (simp only [Kept.mk_iff])
    | with_reducible apply KeptP.pair
    | with_reducible apply KeptP.fst

theorem State.raiseLow_kept {z s : State} (h : Kept z s) (a1 : Nat) (a2 : Nat) : Kept z (State.raiseLow s a1 a2) := by
  unfold State.raiseLow
  repeat' first
    | with_reducible assumption
    | with_reducible apply State.raiseCore_kept
    | (split <;> (rename_i heq; refine Kept.use (s := z) (KeptP.at heq ?_) (fun h => ?_)))
    | with_reducible apply KeptP.pair
    | with_reducible apply KeptP.fst

theorem State.writeEntry_kept {z s : State} (h : Kept z s) (a1 : Entry) (a2 : Bool) (a3 : Nat → Rec) : Kept z (State.writeEntry s a1 a2 a3) := by
  unfold State.writeEntry
  repeat' first
    | with_reducible assumption
    | ((try lift_lets); intro x; clear_value (e : x = _); refine Kept.use (s := z) (x := x) (Kept.via e ?_) (fun h => ?_))
    | ((try lift_lets); intro x; clear_value x)
    | with_reducible apply State.memWrite_kept

theorem State.setLedf_kept {z s : State} (h : Kept z s)  : Kept z (State.setLedf s) := by
  unfold State.setLedf
  repeat' first
    | with_reducible assumption
    | ((try lift_lets); intro x; clear_value (e : x = _); refine Kept.use (s := z) (x := x) (Kept.via e ?_) (fun h => ?_))
    | ((try lift_lets); intro x; clear_value x)
    | with_reducible apply State.setF_kept
    | split

theorem State.finalize_kept {z s : State} (h : Kept z s)  : Kept z (State.finalize s) := by
  unfold State.finalize
  repeat' first
    | with_reducible assumption
    | ((try lift_lets); intro x; clear_value (e : x = _); refine Kept.use (s := z) (x := x) (Kept.via e ?_) (fun h => ?_))
    | ((try lift_lets); intro x)
    | with_reducible apply State.tally_kept
    | with_reducible apply State.writeEntry_kept
    | with_reducible apply State.setLedf_kept
    | (with_reducible apply Kept.foldl; intro s x h)
    | (simp only [Kept.mk2_iff])
    | (simp only [Kept.mk_iff])
    | (dsimp (zetaDelta := true) only)
    | (simp (zetaDelta := true) only [Kept.mk2_iff, Kept.mk_iff])

theorem State.spill_kept {z s : State} (h : Kept z s) (a1 : Nat) : Kept z (State.spill s a1) := by
  unfold State.spill
  repeat' first
    | with_reducible assumption
    | ((try lift_lets); intro x; clear_value (e : x = _); refine Kept.use (s := z) (x := x) (Kept.via e ?_) (fun h => ?_))
    | ((try lift_lets); intro x; clear_value x)
    | with_reducible apply State.writeEntry_kept
    | with_reducible apply State.raiseLow_kept
    | with_reducible apply State.setF_kept
    | with_reducible apply Kept.ite
    | split
    | (simp only [Kept.mk2_iff])
    | (simp only [Kept.mk_iff])

theorem State.openEntry_kept {z s : State} (h : Kept z s) (a1 : Nat) (a2 : Nat) (a3 : Nat) : Kept z (State.openEntry s a1 a2 a3) := by
  unfold State.openEntry
  repeat' first
    | with_reducible assumption
    | ((try lift_lets); intro x; clear_value (e : x = _); refine Kept.use (s := z) (x := x) (Kept.via e ?_) (fun h => ?_))
    | ((try lift_lets); intro x; clear_value x)
    | with_reducible apply State.spill_kept
    | with_reducible apply State.setF_kept
    | with_reducible apply State.raiseLow_kept
    | with_reducible apply Kept.ite
    | (simp only [Kept.mk2_iff])
    | (simp only [Kept.mk_iff])

theorem State.record_kept {z s : State} (h : Kept z s) (a1 : Nat) (a2 : Nat) (a3 : Nat) (a4 : Rec) (a5 : Bool) (a6 : Nat) (a7 : Nat) : Kept z (State.record s a1 a2 a3 a4 a5 a6 a7) := by
  unfold State.record
  repeat' first
    | with_reducible assumption
    | ((try lift_lets); intro x; clear_value (e : x = _); refine Kept.use (s := z) (x := x) (Kept.via e ?_) (fun h => ?_))
    | ((try lift_lets); intro x; clear_value x)
    | with_reducible apply State.spill_kept
    | with_reducible apply State.openEntry_kept
    | with_reducible apply State.finalize_kept
    | with_reducible apply Kept.ite
    | split
    | (simp only [Kept.mk2_iff])
    | (simp only [Kept.mk_iff])

theorem State.flush_kept {z s : State} (h : Kept z s) (a1 : Option Nat) : Kept z (State.flush s a1) := by
  unfold State.flush
  repeat' first
    | with_reducible assumption
    | ((try lift_lets); intro x; clear_value (e : x = _); refine Kept.use (s := z) (x := x) (Kept.via e ?_) (fun h => ?_))
    | ((try lift_lets); intro x; clear_value x)
    | with_reducible apply State.writeEntry_kept
    | with_reducible apply State.setF_kept
    | (with_reducible apply Kept.foldl; intro s x h)

theorem State.passHead_kept {z s : State} (h : Kept z s) (a1 : Nat) : Kept z (State.passHead s a1) := by
  unfold State.passHead
  repeat' first
    | with_reducible assumption
    | with_reducible apply State.setF_kept
    | split

theorem State.closeFrame_kept {z s : State} (h : Kept z s) (a1 : Nat) (a2 : Frame) : Kept z (State.closeFrame s a1 a2) := by
  unfold State.closeFrame
  repeat' first
    | with_reducible assumption
    | ((try lift_lets); intro x; clear_value (e : x = _); refine Kept.use (s := z) (x := x) (Kept.via e ?_) (fun h => ?_))
    | ((try lift_lets); intro x; clear_value x)
    | with_reducible apply State.setStation_kept
    | with_reducible apply State.passHead_kept
    | with_reducible apply State.record_kept
    | with_reducible apply Kept.ite

theorem State.mapFrameAt_kept {z s : State} (h : Kept z s) (a1 : Nat) (a2 : Int) (a3 : Frame → Frame) : Kept z (State.mapFrameAt s a1 a2 a3) := by
  unfold State.mapFrameAt
  repeat' first
    | with_reducible assumption
    | ((try lift_lets); intro x; clear_value (e : x = _); refine Kept.use (s := z) (x := x) (Kept.via e ?_) (fun h => ?_))
    | ((try lift_lets); intro x; clear_value x)
    | with_reducible apply State.setStation_kept
    | with_reducible apply Kept.ite

theorem State.squashEffect_kept {z s : State} (h : Kept z s) (a1 : Eff) (a2 : Bool) : Kept z (State.squashEffect s a1 a2) := by
  unfold State.squashEffect
  repeat' first
    | with_reducible assumption
    | ((try lift_lets); intro x; clear_value (e : x = _); refine Kept.use (s := z) (x := x) (Kept.via e ?_) (fun h => ?_))
    | ((try lift_lets); intro x; clear_value x)
    | with_reducible apply State.setF_kept
    | with_reducible apply State.tally_kept
    | with_reducible apply State.setStation_kept
    | with_reducible apply State.mapFrameAt_kept
    | with_reducible apply State.setFs_kept
    | with_reducible apply State.setEp_kept
    | with_reducible apply Kept.ite
    | split

theorem State.squashAt_kept {z s : State} (h : Kept z s) (a1 : Nat) (a2 : Nat) (a3 : Nat) : Kept z (State.squashAt s a1 a2 a3) := by
  unfold State.squashAt
  repeat' first
    | with_reducible assumption
    | ((try lift_lets); intro x; clear_value (e : x = _); refine Kept.use (s := z) (x := x) (Kept.via e ?_) (fun h => ?_))
    | ((try lift_lets); intro x; clear_value x)
    | with_reducible apply State.squashEffect_kept
    | with_reducible apply State.tally_kept
    | with_reducible apply State.setMallet_kept
    | with_reducible apply State.raiseLow_kept
    | with_reducible apply Kept.ite
    | (with_reducible apply Kept.foldl; intro s x h)
    | split

theorem squashWhere_kept {z s : State} (h : Kept z s) (a1 : Eff → Bool) (a2 : Nat) (a3 : Nat) : Kept z (squashWhere a1 a2 a3 s) := by
  unfold squashWhere
  repeat' first
    | with_reducible assumption
    | with_reducible apply State.squashAt_kept
    | (with_reducible apply Kept.forBelow; intro i s h)
    | split

theorem State.abandonTo_kept {z s : State} (h : Kept z s) (a1 : Nat) (a2 : Int) (a3 : Option Int) : Kept z (State.abandonTo s a1 a2 a3) := by
  unfold State.abandonTo
  repeat' first
    | with_reducible assumption
    | ((try lift_lets); intro x; clear_value (e : x = _); refine Kept.use (s := z) (x := x) (Kept.via e ?_) (fun h => ?_))
    | ((try lift_lets); intro x; clear_value x)
    | with_reducible apply squashWhere_kept
    | with_reducible apply State.setStation_kept
    | with_reducible apply Kept.ite

theorem State.abandon_kept {z s : State} (h : Kept z s) (a1 : Nat) (a2 : Int) : Kept z (State.abandon s a1 a2) := by
  unfold State.abandon
  repeat' first
    | with_reducible assumption
    | with_reducible apply State.abandonTo_kept

theorem State.abandonIn_kept {z s : State} (h : Kept z s) (a1 : Nat) (a2 : Frame) (a3 : Int) : Kept z (State.abandonIn s a1 a2 a3) := by
  unfold State.abandonIn
  repeat' first
    | with_reducible assumption
    | with_reducible apply State.abandonTo_kept
    | with_reducible apply Kept.ite

theorem State.spoilFrom_kept {z s : State} (h : Kept z s) (a1 : Nat) (a2 : Nat) (a3 : Int) : Kept z (State.spoilFrom s a1 a2 a3) := by
  unfold State.spoilFrom
  repeat' first
    | with_reducible assumption
    | with_reducible apply State.abandonIn_kept
    | with_reducible apply State.mapCurrent_kept
    | split

theorem State.spoil_kept {z s : State} (h : Kept z s) (a1 : Nat) (a2 : Nat) : Kept z (State.spoil s a1 a2) := by
  unfold State.spoil
  repeat' first
    | with_reducible assumption
    | with_reducible apply State.spoilFrom_kept

theorem State.spoilAll_kept {z s : State} (h : Kept z s) (a1 : Nat) : Kept z (State.spoilAll s a1) := by
  unfold State.spoilAll
  repeat' first
    | with_reducible assumption
    | with_reducible apply State.spoil_kept
    | with_reducible apply Kept.ite
    | (with_reducible apply Kept.forBelow; intro i s h)

theorem State.actG2_kept {z s : State} (h : Kept z s) (a1 : Nat) (a2 : Nat) (a3 : Names) : Kept z (State.actG2 s a1 a2 a3) := by
  unfold State.actG2
  repeat' first
    | with_reducible assumption
    | ((try lift_lets); intro x; clear_value (e : x = _); refine Kept.use (s := z) (x := x) (Kept.via e ?_) (fun h => ?_))
    | ((try lift_lets); intro x; clear_value x)
    | with_reducible apply State.spoil_kept
    | with_reducible apply State.spoilAll_kept
    | with_reducible apply State.flush_kept
    | with_reducible apply Kept.ite
    | (with_reducible apply Kept.foldl; intro s x h)
    | split

theorem State.raiseAt_kept {z s : State} (h : Kept z s) (a1 : Nat) (a2 : Nat) (a3 : Option Nat) (a4 : Names) : Kept z (State.raiseAt s a1 a2 a3 a4) := by
  unfold State.raiseAt
  repeat' first
    | with_reducible assumption
    | with_reducible apply State.raiseCore_kept
    | with_reducible apply State.actG2_kept
    | with_reducible apply Kept.ite
    | with_reducible apply KeptP.ite
    | (split <;> (rename_i heq; refine Kept.use (s := z) (KeptP.at heq ?_) (fun h => ?_)))
    | split
    | with_reducible apply KeptP.pair
    | with_reducible apply KeptP.fst

theorem State.raise_kept {z s : State} (h : Kept z s) (a1 : Nat) (a2 : Nat) : Kept z (State.raise s a1 a2) := by
  unfold State.raise
  repeat' first
    | with_reducible assumption
    | with_reducible apply State.raiseAt_kept

theorem State.raiseF_kept {z s : State} (h : Kept z s) (a1 : Nat) (a2 : Nat) : Kept z (State.raiseF s a1 a2) := by
  unfold State.raiseF
  repeat' first
    | with_reducible assumption
    | with_reducible apply State.raiseAt_kept

theorem State.raiseOwn_kept {z s : State} (h : Kept z s) (a1 : Nat) (a2 : Nat) : Kept z (State.raiseOwn s a1 a2) := by
  unfold State.raiseOwn
  repeat' first
    | with_reducible assumption
    | with_reducible apply State.raiseAt_kept

theorem State.raiseU_kept {z s : State} (h : Kept z s) (a1 : Nat) (a2 : Option Nat) (a3 : Names) : Kept z (State.raiseU s a1 a2 a3) := by
  unfold State.raiseU
  repeat' first
    | with_reducible assumption
    | ((try lift_lets); intro x; clear_value (e : x = _); refine Kept.use (s := z) (x := x) (Kept.via e ?_) (fun h => ?_))
    | ((try lift_lets); intro x; clear_value x)
    | with_reducible apply State.raiseAt_kept
    | with_reducible apply State.draw_kept

theorem State.raiseX_kept {z s : State} (h : Kept z s) (a1 : Nat) : Kept z (State.raiseX s a1) := by
  unfold State.raiseX
  repeat' first
    | with_reducible assumption
    | with_reducible apply State.raiseU_kept

theorem State.kaStart_kept {z s : State} (h : Kept z s) (a1 : Nat) : Kept z (State.kaStart s a1) := by
  unfold State.kaStart
  repeat' first
    | with_reducible assumption
    | ((try lift_lets); intro x; clear_value (e : x = _); refine Kept.use (s := z) (x := x) (Kept.via e ?_) (fun h => ?_))
    | ((try lift_lets); intro x; clear_value x)
    | (simp only [Kept.mk2_iff])
    | (simp only [Kept.mk_iff])

theorem State.kaFollow_kept {z s : State} (h : Kept z s) (a1 : Nat × Field × Bool) : Kept z (State.kaFollow s a1) := by
  unfold State.kaFollow
  repeat' first
    | with_reducible assumption
    | ((try lift_lets); intro x; clear_value (e : x = _); refine Kept.use (s := z) (x := x) (Kept.via e ?_) (fun h => ?_))
    | ((try lift_lets); intro x; clear_value x)
    | with_reducible apply State.tally_kept
    | with_reducible apply State.kaStart_kept
    | with_reducible apply State.setB_kept
    | with_reducible apply Kept.ite

theorem State.keepalives_kept {z s : State} (h : Kept z s)  : Kept z (State.keepalives s) := by
  unfold State.keepalives
  repeat' first
    | with_reducible assumption
    | with_reducible apply State.kaFollow_kept
    | (with_reducible apply Kept.foldl; intro s x h)

/-! ### Inputs -/



/-! ### Clocks -/

theorem State.stopClocks_kept {z s : State} (h : Kept z s)  : Kept z (State.stopClocks s) := by
  unfold State.stopClocks
  repeat' first
    | with_reducible assumption
    | ((try lift_lets); intro x; clear_value (e : x = _); refine Kept.use (s := z) (x := x) (Kept.via e ?_) (fun h => ?_))
    | ((try lift_lets); intro x; clear_value x)
    | (simp only [Kept.mk2_iff])
    | (simp only [Kept.mk_iff])

theorem State.adpllOn_kept {z s : State} (h : Kept z s)  : Kept z (State.adpllOn s) := by
  unfold State.adpllOn
  repeat' first
    | with_reducible assumption
    | ((try lift_lets); intro x; clear_value (e : x = _); refine Kept.use (s := z) (x := x) (Kept.via e ?_) (fun h => ?_))
    | ((try lift_lets); intro x; clear_value x)
    | with_reducible apply State.setF_kept
    | with_reducible apply State.raiseX_kept
    | with_reducible apply Kept.ite
    | split
    | (simp only [Kept.mk2_iff])
    | (simp only [Kept.mk_iff])

theorem execAdpllEnable_kept {z s : State} (h : Kept z s)  : KeptOut z (execAdpllEnable s) := by
  unfold execAdpllEnable
  repeat' first
    | with_reducible assumption
    | with_reducible apply Kept.next
    | with_reducible apply State.adpllOn_kept

theorem State.showTime_kept {z s : State} (h : Kept z s)  : Kept z (State.showTime s) := by
  unfold State.showTime
  repeat' first
    | with_reducible assumption
    | with_reducible apply State.setFs_kept

theorem execAdpllDisable_kept {z s : State} (h : Kept z s)  : KeptOut z (execAdpllDisable s) := by
  unfold execAdpllDisable
  repeat' first
    | with_reducible assumption
    | ((try lift_lets); intro x; clear_value (e : x = _); refine Kept.use (s := z) (x := x) (Kept.via e ?_) (fun h => ?_))
    | ((try lift_lets); intro x; clear_value x)
    | with_reducible apply Kept.next
    | with_reducible apply State.setFs_kept
    | (simp only [Kept.mk2_iff])
    | (simp only [Kept.mk_iff])

theorem execPllLock_kept {z s : State} (h : Kept z s)  : KeptOut z (execPllLock s) := by
  unfold execPllLock
  repeat' first
    | with_reducible assumption
    | ((try lift_lets); intro x; clear_value (e : x = _); refine Kept.use (s := z) (x := x) (Kept.via e ?_) (fun h => ?_))
    | ((try lift_lets); intro x; clear_value x)
    | with_reducible apply Kept.next
    | with_reducible apply KeptOut.ite
    | with_reducible apply State.setFs_kept
    | with_reducible apply State.raiseX_kept
    | with_reducible apply Kept.ite
    | (simp only [Kept.mk2_iff])
    | (simp only [Kept.mk_iff])

theorem State.enterHoldover_kept {z s : State} (h : Kept z s)  : Kept z (State.enterHoldover s) := by
  unfold State.enterHoldover
  repeat' first
    | with_reducible assumption
    | ((try lift_lets); intro x; clear_value (e : x = _); refine Kept.use (s := z) (x := x) (Kept.via e ?_) (fun h => ?_))
    | ((try lift_lets); intro x; clear_value x)
    | with_reducible apply State.setFs_kept
    | with_reducible apply State.raiseU_kept
    | with_reducible apply State.degradeAll_kept
    | (simp only [Kept.mk2_iff])
    | (simp only [Kept.mk_iff])

theorem execPllLockLost_kept {z s : State} (h : Kept z s)  : KeptOut z (execPllLockLost s) := by
  unfold execPllLockLost
  repeat' first
    | with_reducible assumption
    | with_reducible apply Kept.next
    | with_reducible apply KeptOut.ite
    | with_reducible apply State.enterHoldover_kept
    | with_reducible apply State.setF_kept
    | with_reducible apply Kept.ite

theorem execRefLost_kept {z s : State} (h : Kept z s)  : KeptOut z (execRefLost s) := by
  unfold execRefLost
  repeat' first
    | with_reducible assumption
    | ((try lift_lets); intro x; clear_value (e : x = _); refine Kept.use (s := z) (x := x) (Kept.via e ?_) (fun h => ?_))
    | ((try lift_lets); intro x; clear_value x)
    | with_reducible apply Kept.next
    | with_reducible apply KeptOut.ite
    | with_reducible apply State.setF_kept
    | with_reducible apply State.enterHoldover_kept
    | with_reducible apply Kept.ite
    | (simp only [Kept.mk2_iff])
    | (simp only [Kept.mk_iff])

theorem execRefReturn_kept {z s : State} (h : Kept z s)  : KeptOut z (execRefReturn s) := by
  unfold execRefReturn
  repeat' first
    | with_reducible assumption
    | ((try lift_lets); intro x; clear_value (e : x = _); refine Kept.use (s := z) (x := x) (Kept.via e ?_) (fun h => ?_))
    | ((try lift_lets); intro x; clear_value x)
    | with_reducible apply Kept.next
    | with_reducible apply KeptOut.ite
    | with_reducible apply Kept.ite
    | (simp only [Kept.mk2_iff])
    | (simp only [Kept.mk_iff])

theorem execHoldoverTimeout_kept {z s : State} (h : Kept z s)  : KeptOut z (execHoldoverTimeout s) := by
  unfold execHoldoverTimeout
  repeat' first
    | with_reducible assumption
    | ((try lift_lets); intro x; clear_value (e : x = _); refine Kept.use (s := z) (x := x) (Kept.via e ?_) (fun h => ?_))
    | ((try lift_lets); intro x; clear_value x)
    | with_reducible apply Kept.next
    | with_reducible apply KeptOut.ite
    | with_reducible apply State.advanceTo_kept
    | with_reducible apply State.raiseX_kept
    | with_reducible apply Kept.ite
    | (simp only [Kept.mk2_iff])
    | (simp only [Kept.mk_iff])

theorem State.calibrate_kept {z s : State} (h : Kept z s) (a1 : Int) : Kept z (State.calibrate s a1) := by
  unfold State.calibrate
  repeat' first
    | with_reducible assumption
    | ((try lift_lets); intro x; clear_value (e : x = _); refine Kept.use (s := z) (x := x) (Kept.via e ?_) (fun h => ?_))
    | ((try lift_lets); intro x; clear_value x)
    | with_reducible apply State.setF_kept
    | (simp only [Kept.mk2_iff])
    | (simp only [Kept.mk_iff])

theorem execTcompUpdate_kept {z s : State} (h : Kept z s)  : KeptOut z (execTcompUpdate s) := by
  unfold execTcompUpdate
  repeat' first
    | with_reducible assumption
    | ((try lift_lets); intro x; clear_value (e : x = _); refine Kept.use (s := z) (x := x) (Kept.via e ?_) (fun h => ?_))
    | ((try lift_lets); intro x; clear_value x)
    | with_reducible apply Kept.next
    | with_reducible apply KeptOut.ite
    | with_reducible apply State.calibrate_kept
    | with_reducible apply State.raiseX_kept
    | with_reducible apply State.setF_kept
    | with_reducible apply Kept.ite
    | (simp only [Kept.mk2_iff])
    | (simp only [Kept.mk_iff])

theorem execCalCompStep_kept {z s : State} (h : Kept z s)  : KeptOut z (execCalCompStep s) := by
  unfold execCalCompStep
  repeat' first
    | with_reducible assumption
    | ((try lift_lets); intro x; clear_value (e : x = _); refine Kept.use (s := z) (x := x) (Kept.via e ?_) (fun h => ?_))
    | ((try lift_lets); intro x; clear_value x)
    | with_reducible apply Kept.next
    | with_reducible apply KeptOut.ite
    | with_reducible apply State.addCal_kept
    | with_reducible apply Kept.ite
    | (simp only [Kept.mk2_iff])
    | (simp only [Kept.mk_iff])

theorem State.applyPixf_kept {z s : State} (h : Kept z s) (a1 : Nat) (a2 : Nat) : Kept z (State.applyPixf s a1 a2) := by
  unfold State.applyPixf
  repeat' first
    | with_reducible assumption
    | ((try lift_lets); intro x; clear_value (e : x = _); refine Kept.use (s := z) (x := x) (Kept.via e ?_) (fun h => ?_))
    | ((try lift_lets); intro x; clear_value x)
    | with_reducible apply State.setMdll_kept
    | with_reducible apply State.setF_kept
    | with_reducible apply State.raiseX_kept
    | with_reducible apply Kept.ite

theorem execPixfWrite_kept {z s : State} (h : Kept z s) (a1 : Fin 4) (a2 : BitVec 24) : KeptOut z (execPixfWrite a1 a2 s) := by
  unfold execPixfWrite
  repeat' first
    | with_reducible assumption
    | ((try lift_lets); intro x; clear_value (e : x = _); refine Kept.use (s := z) (x := x) (Kept.via e ?_) (fun h => ?_))
    | ((try lift_lets); intro x; clear_value x)
    | with_reducible apply Kept.next
    | with_reducible apply KeptOut.ite
    | with_reducible apply State.flam_kept
    | with_reducible apply State.setF_kept
    | with_reducible apply State.setMdll_kept
    | with_reducible apply State.applyPixf_kept
    | with_reducible apply Kept.ite

theorem execMdllEnable_kept {z s : State} (h : Kept z s) (a1 : Fin 4) : KeptOut z (execMdllEnable a1 s) := by
  unfold execMdllEnable
  repeat' first
    | with_reducible assumption
    | ((try lift_lets); intro x; clear_value (e : x = _); refine Kept.use (s := z) (x := x) (Kept.via e ?_) (fun h => ?_))
    | ((try lift_lets); intro x; clear_value x)
    | with_reducible apply Kept.next
    | with_reducible apply KeptOut.ite
    | with_reducible apply State.setF_kept
    | with_reducible apply State.setMdll_kept
    | with_reducible apply State.setFs_kept
    | with_reducible apply State.raiseX_kept
    | with_reducible apply Kept.ite
    | split

theorem execMdllUnlock_kept {z s : State} (h : Kept z s) (a1 : Fin 4) : KeptOut z (execMdllUnlock a1 s) := by
  unfold execMdllUnlock
  repeat' first
    | with_reducible assumption
    | ((try lift_lets); intro x; clear_value (e : x = _); refine Kept.use (s := z) (x := x) (Kept.via e ?_) (fun h => ?_))
    | ((try lift_lets); intro x; clear_value x)
    | with_reducible apply Kept.next
    | with_reducible apply KeptOut.ite
    | with_reducible apply State.setFs_kept
    | with_reducible apply State.setMdll_kept
    | with_reducible apply State.setEp_kept
    | with_reducible apply State.raise_kept
    | with_reducible apply Kept.ite

theorem State.unlockFrame_kept {z s : State} (h : Kept z s) (a1 : Nat) : Kept z (State.unlockFrame s a1) := by
  unfold State.unlockFrame
  repeat' first
    | with_reducible assumption
    | ((try lift_lets); intro x; clear_value (e : x = _); refine Kept.use (s := z) (x := x) (Kept.via e ?_) (fun h => ?_))
    | ((try lift_lets); intro x; clear_value x)
    | with_reducible apply State.setMdll_kept
    | with_reducible apply Kept.ite

theorem execMdllUnlockTimeout_kept {z s : State} (h : Kept z s) (a1 : Fin 4) : KeptOut z (execMdllUnlockTimeout a1 s) := by
  unfold execMdllUnlockTimeout
  repeat' first
    | with_reducible assumption
    | ((try lift_lets); intro x; clear_value (e : x = _); refine Kept.use (s := z) (x := x) (Kept.via e ?_) (fun h => ?_))
    | ((try lift_lets); intro x; clear_value x)
    | with_reducible apply Kept.next
    | with_reducible apply KeptOut.ite
    | with_reducible apply State.raiseAt_kept
    | with_reducible apply State.setMdll_kept
    | with_reducible apply Kept.ite

theorem State.readTime_kept {z s : State} (h : Kept z s) (a1 : Nat) : Kept z (State.readTime s a1) := by
  unfold State.readTime
  repeat' first
    | with_reducible assumption
    | with_reducible apply State.latch_kept

theorem execTimeLoRead_kept {z s : State} (h : Kept z s) (a1 : Reader) : KeptOut z (execTimeLoRead a1 s) := by
  unfold execTimeLoRead
  repeat' first
    | with_reducible assumption
    | with_reducible apply Kept.next
    | with_reducible apply State.reply_kept
    | with_reducible apply State.readTime_kept

theorem State.armSnare_kept {z s : State} (h : Kept z s) (a1 : Nat) : Kept z (State.armSnare s a1) := by
  unfold State.armSnare
  repeat' first
    | with_reducible assumption
    | ((try lift_lets); intro x; clear_value (e : x = _); refine Kept.use (s := z) (x := x) (Kept.via e ?_) (fun h => ?_))
    | ((try lift_lets); intro x; clear_value x)
    | with_reducible apply State.setFs_kept
    | (simp only [Kept.mk2_iff])
    | (simp only [Kept.mk_iff])

theorem State.disarmSnare_kept {z s : State} (h : Kept z s) (a1 : Nat) : Kept z (State.disarmSnare s a1) := by
  unfold State.disarmSnare
  repeat' first
    | with_reducible assumption
    | ((try lift_lets); intro x; clear_value (e : x = _); refine Kept.use (s := z) (x := x) (Kept.via e ?_) (fun h => ?_))
    | ((try lift_lets); intro x; clear_value x)
    | with_reducible apply State.setFs_kept
    | with_reducible apply Kept.ite
    | (simp only [Kept.mk2_iff])
    | (simp only [Kept.mk_iff])

theorem execSnareArm_kept {z s : State} (h : Kept z s) (a1 : Fin 32) : KeptOut z (execSnareArm a1 s) := by
  unfold execSnareArm
  repeat' first
    | with_reducible assumption
    | with_reducible apply Kept.next
    | with_reducible apply State.armSnare_kept

theorem execSnareDisarm_kept {z s : State} (h : Kept z s) (a1 : Fin 32) : KeptOut z (execSnareDisarm a1 s) := by
  unfold execSnareDisarm
  repeat' first
    | with_reducible assumption
    | with_reducible apply Kept.next
    | with_reducible apply State.disarmSnare_kept

theorem State.snareOver_kept {z s : State} (h : Kept z s) (a1 : Nat) : Kept z (State.snareOver s a1) := by
  unfold State.snareOver
  repeat' first
    | with_reducible assumption
    | with_reducible apply State.raiseX_kept
    | with_reducible apply State.setBitF_kept

theorem State.keepCapture_kept {z s : State} (h : Kept z s) (a1 : Nat) : Kept z (State.keepCapture s a1) := by
  unfold State.keepCapture
  repeat' first
    | with_reducible assumption
    | ((try lift_lets); intro x; clear_value (e : x = _); refine Kept.use (s := z) (x := x) (Kept.via e ?_) (fun h => ?_))
    | ((try lift_lets); intro x; clear_value x)
    | (simp only [Kept.mk2_iff])
    | (simp only [Kept.mk_iff])

theorem State.capture_kept {z s : State} (h : Kept z s) (a1 : Nat) (a2 : Nat) : Kept z (State.capture s a1 a2) := by
  unfold State.capture
  repeat' first
    | with_reducible assumption
    | ((try lift_lets); intro x; clear_value (e : x = _); refine Kept.use (s := z) (x := x) (Kept.via e ?_) (fun h => ?_))
    | ((try lift_lets); intro x; clear_value x)
    | with_reducible apply State.setPair_kept
    | with_reducible apply State.keepCapture_kept
    | with_reducible apply State.setF_kept
    | with_reducible apply State.setPairS_kept
    | with_reducible apply State.setBitF_kept
    | with_reducible apply State.raiseX_kept
    | with_reducible apply State.tally_kept
    | with_reducible apply State.snareOver_kept
    | with_reducible apply Kept.ite
    | (simp only [Kept.mk2_iff])
    | (simp only [Kept.mk_iff])

theorem State.oneShot_kept {z s : State} (h : Kept z s) (a1 : Nat) : Kept z (State.oneShot s a1) := by
  unfold State.oneShot
  repeat' first
    | with_reducible assumption
    | ((try lift_lets); intro x; clear_value (e : x = _); refine Kept.use (s := z) (x := x) (Kept.via e ?_) (fun h => ?_))
    | ((try lift_lets); intro x; clear_value x)
    | with_reducible apply State.setFs_kept
    | (simp only [Kept.mk2_iff])
    | (simp only [Kept.mk_iff])

theorem State.homeCapture_kept {z s : State} (h : Kept z s) (a1 : Nat) (a2 : Nat) (a3 : Nat) (a4 : Int) : Kept z (State.homeCapture s a1 a2 a3 a4) := by
  unfold State.homeCapture
  repeat' first
    | with_reducible assumption
    | ((try lift_lets); intro x; clear_value (e : x = _); refine Kept.use (s := z) (x := x) (Kept.via e ?_) (fun h => ?_))
    | ((try lift_lets); intro x; clear_value x)
    | with_reducible apply State.setF_kept
    | with_reducible apply State.capture_kept
    | with_reducible apply State.setAxis_kept
    | with_reducible apply Kept.ite

theorem State.snareTake_kept {z s : State} (h : Kept z s) (a1 : Nat) (a2 : Nat) (a3 : Int) : Kept z (State.snareTake s a1 a2 a3) := by
  unfold State.snareTake
  repeat' first
    | with_reducible assumption
    | with_reducible apply State.homeCapture_kept
    | with_reducible apply State.oneShot_kept
    | with_reducible apply State.capture_kept
    | with_reducible apply State.addF_kept
    | with_reducible apply Kept.ite
    | split

theorem execSnareCapture_kept {z s : State} (h : Kept z s) (a1 : Fin 32) (a2 : List Bool) (a3 : BitVec 64) : KeptOut z (execSnareCapture a1 a2 a3 s) := by
  unfold execSnareCapture
  repeat' first
    | with_reducible assumption
    | ((try lift_lets); intro x; clear_value (e : x = _); refine Kept.use (s := z) (x := x) (Kept.via e ?_) (fun h => ?_))
    | ((try lift_lets); intro x; clear_value x)
    | with_reducible apply Kept.next
    | with_reducible apply KeptOut.ite
    | with_reducible apply State.snareTake_kept
    | with_reducible apply Kept.ite
    | split

theorem State.readSnare_kept {z s : State} (h : Kept z s) (a1 : Nat) (a2 : Nat) : Kept z (State.readSnare s a1 a2) := by
  unfold State.readSnare
  repeat' first
    | with_reducible assumption
    | ((try lift_lets); intro x; clear_value (e : x = _); refine Kept.use (s := z) (x := x) (Kept.via e ?_) (fun h => ?_))
    | ((try lift_lets); intro x; clear_value x)
    | with_reducible apply State.latch_kept
    | with_reducible apply State.setF_kept
    | with_reducible apply Kept.ite
    | split

theorem execSnareRead_kept {z s : State} (h : Kept z s) (a1 : Reader) (a2 : Fin 32) : KeptOut z (execSnareRead a1 a2 s) := by
  unfold execSnareRead
  repeat' first
    | with_reducible assumption
    | with_reducible apply Kept.next
    | with_reducible apply State.reply_kept
    | with_reducible apply State.readSnare_kept

/-! ### Web -/

theorem execSourceEnable_kept {z s : State} (h : Kept z s) (a1 : Fin 4) (a2 : BitVec 32) : KeptOut z (execSourceEnable a1 a2 s) := by
  unfold execSourceEnable
  repeat' first
    | with_reducible assumption
    | ((try lift_lets); intro x; clear_value (e : x = _); refine Kept.use (s := z) (x := x) (Kept.via e ?_) (fun h => ?_))
    | ((try lift_lets); intro x; clear_value x)
    | with_reducible apply Kept.next
    | with_reducible apply KeptOut.ite
    | with_reducible apply State.setFs_kept
    | with_reducible apply State.setSource_kept
    | with_reducible apply State.logRetry_kept
    | with_reducible apply Kept.ite

theorem State.measured_kept {z s : State} (h : Kept z s) (a1 : Int) : KeptQ z (State.measured s a1) := by
  unfold State.measured
  repeat' first
    | with_reducible assumption
    | ((try lift_lets); intro x; clear_value (e : x = _); refine Kept.use (s := z) (x := x) (Kept.via e ?_) (fun h => ?_))
    | ((try lift_lets); intro x; clear_value x)
    | with_reducible apply Kept.ite
    | with_reducible apply KeptQ.ite
    | (split <;> (rename_i heq; refine Kept.use (s := z) (KeptQ.at heq ?_) (fun h => ?_)))
    | split
    | (simp only [Kept.mk2_iff])
    | (simp only [Kept.mk_iff])
    | with_reducible apply KeptQ.pair
    | with_reducible apply KeptQ.snd

theorem State.setBias_kept {z s : State} (h : Kept z s) (a1 : Geared) (a2 : Int) : Kept z (State.setBias s a1 a2) := by
  unfold State.setBias
  repeat' first
    | with_reducible assumption
    | ((try lift_lets); intro x; clear_value (e : x = _); refine Kept.use (s := z) (x := x) (Kept.via e ?_) (fun h => ?_))
    | ((try lift_lets); intro x; clear_value x)
    | with_reducible apply State.setLbias_kept
    | with_reducible apply State.setGear_kept
    | split

theorem State.raiseGear_kept {z s : State} (h : Kept z s) (a1 : Geared) (a2 : Nat) : Kept z (State.raiseGear s a1 a2) := by
  unfold State.raiseGear
  repeat' first
    | with_reducible assumption
    | with_reducible apply State.raiseX_kept
    | split

theorem State.newRatio_kept {z s : State} (h : Kept z s) (a1 : Geared) (a2 : Int) (a3 : Nat) : Kept z (State.newRatio s a1 a2 a3) := by
  unfold State.newRatio
  repeat' first
    | with_reducible assumption
    | ((try lift_lets); intro x; clear_value (e : x = _); refine Kept.use (s := z) (x := x) (Kept.via e ?_) (fun h => ?_))
    | ((try lift_lets); intro x; clear_value x)
    | with_reducible apply State.setPair_kept
    | with_reducible apply State.setBias_kept

theorem State.applyScheduled_kept {z s : State} (h : Kept z s) (a1 : Geared) (a2 : Int) : Kept z (State.applyScheduled s a1 a2) := by
  unfold State.applyScheduled
  repeat' first
    | with_reducible assumption
    | ((try lift_lets); intro x; clear_value (e : x = _); refine Kept.use (s := z) (x := x) (Kept.via e ?_) (fun h => ?_))
    | ((try lift_lets); intro x; clear_value x)
    | with_reducible apply State.newRatio_kept
    | with_reducible apply State.tally_kept
    | with_reducible apply State.setFs_kept
    | with_reducible apply State.setGear_kept
    | with_reducible apply State.raiseGear_kept

theorem State.holdChange_kept {z s : State} (h : Kept z s) (a1 : Geared) (a2 : Bool) : Kept z (State.holdChange s a1 a2) := by
  unfold State.holdChange
  repeat' first
    | with_reducible assumption
    | ((try lift_lets); intro x; clear_value (e : x = _); refine Kept.use (s := z) (x := x) (Kept.via e ?_) (fun h => ?_))
    | ((try lift_lets); intro x; clear_value x)
    | with_reducible apply State.setGear_kept

theorem execRatioSchedule_kept {z s : State} (h : Kept z s) (a1 : Geared) : KeptOut z (execRatioSchedule a1 s) := by
  unfold execRatioSchedule
  repeat' first
    | with_reducible assumption
    | ((try lift_lets); intro x; clear_value (e : x = _); refine Kept.use (s := z) (x := x) (Kept.via e ?_) (fun h => ?_))
    | ((try lift_lets); intro x; clear_value x)
    | with_reducible apply Kept.next
    | with_reducible apply KeptOut.ite
    | with_reducible apply State.raiseGear_kept
    | with_reducible apply State.setGear_kept
    | with_reducible apply State.setFs_kept
    | with_reducible apply State.setF_kept
    | with_reducible apply State.holdChange_kept
    | with_reducible apply Kept.ite

theorem execRatioCancel_kept {z s : State} (h : Kept z s) (a1 : Geared) : KeptOut z (execRatioCancel a1 s) := by
  unfold execRatioCancel
  repeat' first
    | with_reducible assumption
    | ((try lift_lets); intro x; clear_value (e : x = _); refine Kept.use (s := z) (x := x) (Kept.via e ?_) (fun h => ?_))
    | ((try lift_lets); intro x; clear_value x)
    | with_reducible apply Kept.next
    | with_reducible apply State.setGear_kept
    | with_reducible apply State.setF_kept

theorem execGearApplied_kept {z s : State} (h : Kept z s) (a1 : Geared) : KeptOut z (execGearApplied a1 s) := by
  unfold execGearApplied
  repeat' first
    | with_reducible assumption
    | ((try lift_lets); intro x; clear_value (e : x = _); refine Kept.use (s := z) (x := x) (Kept.via e ?_) (fun h => ?_))
    | ((try lift_lets); intro x; clear_value x)
    | with_reducible apply Kept.next
    | with_reducible apply KeptOut.ite
    | with_reducible apply State.applyScheduled_kept
    | with_reducible apply State.advanceTo_kept
    | with_reducible apply Kept.ite
    | split

theorem State.applyLate_kept {z s : State} (h : Kept z s)  : Kept z (State.applyLate s) := by
  unfold State.applyLate
  repeat' first
    | with_reducible assumption
    | ((try lift_lets); intro x; clear_value (e : x = _); refine Kept.use (s := z) (x := x) (Kept.via e ?_) (fun h => ?_))
    | ((try lift_lets); intro x)
    | with_reducible apply State.applyScheduled_kept
    | with_reducible apply Kept.ite
    | (with_reducible apply Kept.foldl; intro s x h)
    | (dsimp (zetaDelta := true) only)
    | (simp (zetaDelta := true) only [Kept.mk2_iff, Kept.mk_iff])

theorem jumpAt_kept {z s : State} (h : Kept z s) (a1 : Int) (a2 : Nat) : Kept z (jumpAt a1 a2 s) := by
  unfold jumpAt
  repeat' first
    | with_reducible assumption
    | with_reducible apply State.degrade_kept
    | with_reducible apply State.setFs_kept
    | with_reducible apply State.setB_kept
    | with_reducible apply Kept.ite

theorem State.showAbsorb_kept {z s : State} (h : Kept z s) (a1 : Nat) : Kept z (State.showAbsorb s a1) := by
  unfold State.showAbsorb
  repeat' first
    | with_reducible assumption
    | with_reducible apply State.setB_kept

theorem axisJump_kept {z s : State} (h : Kept z s) (a1 : Int) (a2 : Nat) : Kept z (axisJump a1 a2 s) := by
  unfold axisJump
  repeat' first
    | with_reducible assumption
    | with_reducible apply State.showAbsorb_kept
    | with_reducible apply State.setF_kept
    | with_reducible apply Kept.ite

theorem State.setCorr_kept {z s : State} (h : Kept z s) (a1 : Int) : Kept z (State.setCorr s a1) := by
  unfold State.setCorr
  repeat' first
    | with_reducible assumption
    | ((try lift_lets); intro x; clear_value (e : x = _); refine Kept.use (s := z) (x := x) (Kept.via e ?_) (fun h => ?_))
    | ((try lift_lets); intro x; clear_value x)
    | with_reducible apply State.setB_kept
    | with_reducible apply State.setF_kept
    | (simp only [Kept.mk2_iff])
    | (simp only [Kept.mk_iff])

theorem State.jump_kept {z s : State} (h : Kept z s) (a1 : Int) : Kept z (State.jump s a1) := by
  unfold State.jump
  repeat' first
    | with_reducible assumption
    | ((try lift_lets); intro x; clear_value (e : x = _); refine Kept.use (s := z) (x := x) (Kept.via e ?_) (fun h => ?_))
    | ((try lift_lets); intro x; clear_value x)
    | with_reducible apply jumpAt_kept
    | with_reducible apply axisJump_kept
    | with_reducible apply State.raiseF_kept
    | (with_reducible apply Kept.forBelow; intro i s h)

theorem addBack_kept {z s : State} (h : Kept z s) (a1 : Int) (a2 : Nat) : Kept z (addBack a1 a2 s) := by
  unfold addBack
  repeat' first
    | with_reducible assumption
    | ((try lift_lets); intro x; clear_value (e : x = _); refine Kept.use (s := z) (x := x) (Kept.via e ?_) (fun h => ?_))
    | ((try lift_lets); intro x; clear_value x)
    | with_reducible apply State.setLbias_kept
    | with_reducible apply State.setF_kept
    | with_reducible apply Kept.ite

theorem axisAbsorb_kept {z s : State} (h : Kept z s) (a1 : Int) (a2 : Int) (a3 : Nat) : Kept z (axisAbsorb a1 a2 a3 s) := by
  unfold axisAbsorb
  repeat' first
    | with_reducible assumption
    | ((try lift_lets); intro x; clear_value (e : x = _); refine Kept.use (s := z) (x := x) (Kept.via e ?_) (fun h => ?_))
    | ((try lift_lets); intro x)
    | with_reducible apply State.setBias_kept
    | with_reducible apply State.showHold_kept
    | with_reducible apply State.setAxis_kept
    | with_reducible apply State.showAbsorb_kept
    | with_reducible apply Kept.ite
    | (dsimp (zetaDelta := true) only)
    | (simp (zetaDelta := true) only [Kept.mk2_iff, Kept.mk_iff])

theorem State.absorb_kept {z s : State} (h : Kept z s) (a1 : Int) : Kept z (State.absorb s a1) := by
  unfold State.absorb
  repeat' first
    | with_reducible assumption
    | ((try lift_lets); intro x; clear_value (e : x = _); refine Kept.use (s := z) (x := x) (Kept.via e ?_) (fun h => ?_))
    | ((try lift_lets); intro x; clear_value x)
    | with_reducible apply addBack_kept
    | with_reducible apply State.tally_kept
    | with_reducible apply State.setCorr_kept
    | with_reducible apply State.setF_kept
    | with_reducible apply axisAbsorb_kept
    | with_reducible apply Kept.ite
    | (with_reducible apply Kept.forBelow; intro i s h)

theorem State.degradeWhere_kept {z s : State} (h : Kept z s) (a1 : Nat) (a2 : Frame → Bool) : Kept z (State.degradeWhere s a1 a2) := by
  unfold State.degradeWhere
  repeat' first
    | with_reducible assumption
    | ((try lift_lets); intro x; clear_value (e : x = _); refine Kept.use (s := z) (x := x) (Kept.via e ?_) (fun h => ?_))
    | ((try lift_lets); intro x; clear_value x)
    | with_reducible apply State.setStation_kept
    | with_reducible apply Kept.ite

theorem State.marksSince_kept {z s : State} (h : Kept z s) (a1 : Nat) : Kept z (State.marksSince s a1) := by
  unfold State.marksSince
  repeat' first
    | with_reducible assumption
    | ((try lift_lets); intro x; clear_value (e : x = _); refine Kept.use (s := z) (x := x) (Kept.via e ?_) (fun h => ?_))
    | ((try lift_lets); intro x; clear_value x)
    | with_reducible apply State.degradeWhere_kept
    | with_reducible apply Kept.ite
    | (with_reducible apply Kept.forBelow; intro i s h)

theorem State.coastFrom_kept {z s : State} (h : Kept z s) (a1 : Nat) : Kept z (State.coastFrom s a1) := by
  unfold State.coastFrom
  repeat' first
    | with_reducible assumption
    | ((try lift_lets); intro x; clear_value (e : x = _); refine Kept.use (s := z) (x := x) (Kept.via e ?_) (fun h => ?_))
    | ((try lift_lets); intro x; clear_value x)
    | with_reducible apply State.setF_kept
    | with_reducible apply Kept.ite
    | (simp only [Kept.mk2_iff])
    | (simp only [Kept.mk_iff])

theorem State.coastEnd_kept {z s : State} (h : Kept z s)  : Kept z (State.coastEnd s) := by
  unfold State.coastEnd
  repeat' first
    | with_reducible assumption
    | ((try lift_lets); intro x; clear_value (e : x = _); refine Kept.use (s := z) (x := x) (Kept.via e ?_) (fun h => ?_))
    | ((try lift_lets); intro x; clear_value x)
    | with_reducible apply State.setF_kept
    | (simp only [Kept.mk2_iff])
    | (simp only [Kept.mk_iff])

theorem State.pubRegs_kept {z s : State} (h : Kept z s) (a1 : Pub) : Kept z (State.pubRegs s a1) := by
  unfold State.pubRegs
  repeat' first
    | with_reducible assumption
    | with_reducible apply State.setPair_kept
    | with_reducible apply State.setFs_kept
    | with_reducible apply State.setPairS_kept

theorem State.publish_kept {z s : State} (h : Kept z s) (a1 : Int) (a2 : Int) (a3 : Int) (a4 : Nat) : Kept z (State.publish s a1 a2 a3 a4) := by
  unfold State.publish
  repeat' first
    | with_reducible assumption
    | ((try lift_lets); intro x; clear_value (e : x = _); refine Kept.use (s := z) (x := x) (Kept.via e ?_) (fun h => ?_))
    | ((try lift_lets); intro x; clear_value x)
    | with_reducible apply State.marksSince_kept
    | with_reducible apply State.setF_kept
    | with_reducible apply State.setCorr_kept
    | with_reducible apply State.coastEnd_kept
    | with_reducible apply State.pubRegs_kept
    | with_reducible apply State.jump_kept
    | with_reducible apply State.applyLate_kept
    | with_reducible apply Kept.ite
    | (simp only [Kept.mk2_iff])
    | (simp only [Kept.mk_iff])

theorem execObserverPublish_kept {z s : State} (h : Kept z s) (a1 : BitVec 64) (a2 : BitVec 32) (a3 : BitVec 32) (a4 : BitVec 64) : KeptOut z (execObserverPublish a1 a2 a3 a4 s) := by
  unfold execObserverPublish
  repeat' first
    | with_reducible assumption
    | with_reducible apply Kept.next
    | with_reducible apply State.publish_kept

theorem execWebReverse_kept {z s : State} (h : Kept z s) (a1 : BitVec 64) : KeptOut z (execWebReverse a1 s) := by
  unfold execWebReverse
  repeat' first
    | with_reducible assumption
    | ((try lift_lets); intro x; clear_value (e : x = _); refine Kept.use (s := z) (x := x) (Kept.via e ?_) (fun h => ?_))
    | ((try lift_lets); intro x; clear_value x)
    | with_reducible apply Kept.next
    | with_reducible apply KeptOut.ite
    | with_reducible apply State.setF_kept
    | with_reducible apply State.rebaseWeb_kept
    | with_reducible apply State.raiseX_kept
    | with_reducible apply Kept.ite
    | split
    | (simp only [Kept.mk2_iff])
    | (simp only [Kept.mk_iff])

theorem State.reverseEnd_kept {z s : State} (h : Kept z s) (a1 : Int) : Kept z (State.reverseEnd s a1) := by
  unfold State.reverseEnd
  repeat' first
    | with_reducible assumption
    | ((try lift_lets); intro x; clear_value (e : x = _); refine Kept.use (s := z) (x := x) (Kept.via e ?_) (fun h => ?_))
    | ((try lift_lets); intro x; clear_value x)
    | with_reducible apply State.rebaseWeb_kept
    | with_reducible apply State.setF_kept
    | with_reducible apply Kept.ite
    | (simp only [Kept.mk2_iff])
    | (simp only [Kept.mk_iff])

theorem execObsStale_kept {z s : State} (h : Kept z s)  : KeptOut z (execObsStale s) := by
  unfold execObsStale
  repeat' first
    | with_reducible assumption
    | ((try lift_lets); intro x; clear_value (e : x = _); refine Kept.use (s := z) (x := x) (Kept.via e ?_) (fun h => ?_))
    | ((try lift_lets); intro x; clear_value x)
    | with_reducible apply Kept.next
    | with_reducible apply KeptOut.ite
    | with_reducible apply State.advanceTo_kept
    | with_reducible apply State.coastFrom_kept
    | with_reducible apply State.setF_kept
    | with_reducible apply State.raiseX_kept
    | with_reducible apply Kept.ite

theorem execCoastExpired_kept {z s : State} (h : Kept z s)  : KeptOut z (execCoastExpired s) := by
  unfold execCoastExpired
  repeat' first
    | with_reducible assumption
    | ((try lift_lets); intro x; clear_value (e : x = _); refine Kept.use (s := z) (x := x) (Kept.via e ?_) (fun h => ?_))
    | ((try lift_lets); intro x; clear_value x)
    | with_reducible apply Kept.next
    | with_reducible apply KeptOut.ite
    | with_reducible apply State.advanceTo_kept
    | with_reducible apply State.raiseX_kept
    | with_reducible apply State.setF_kept
    | with_reducible apply Kept.ite
    | split
    | (simp only [Kept.mk2_iff])
    | (simp only [Kept.mk_iff])

theorem State.observerOn_kept {z s : State} (h : Kept z s)  : Kept z (State.observerOn s) := by
  unfold State.observerOn
  repeat' first
    | with_reducible assumption
    | ((try lift_lets); intro x; clear_value (e : x = _); refine Kept.use (s := z) (x := x) (Kept.via e ?_) (fun h => ?_))
    | ((try lift_lets); intro x; clear_value x)
    | (simp only [Kept.mk2_iff])
    | (simp only [Kept.mk_iff])

theorem execWebSwitch_kept {z s : State} (h : Kept z s)  : KeptOut z (execWebSwitch s) := by
  unfold execWebSwitch
  repeat' first
    | with_reducible assumption
    | ((try lift_lets); intro x; clear_value (e : x = _); refine Kept.use (s := z) (x := x) (Kept.via e ?_) (fun h => ?_))
    | ((try lift_lets); intro x; clear_value x)
    | with_reducible apply Kept.next
    | (simp only [Kept.mk2_iff])
    | (simp only [Kept.mk_iff])

/-! ### Frames -/

theorem State.raiseMem_kept {z s : State} (h : Kept z s) (a1 : Nat) (a2 : Option Nat) : Kept z (State.raiseMem s a1 a2) := by
  unfold State.raiseMem
  repeat' first
    | with_reducible assumption
    | with_reducible apply State.raiseAt_kept
    | with_reducible apply State.raiseU_kept
    | with_reducible apply Kept.ite
    | split

theorem State.retirePage_kept {z s : State} (h : Kept z s) (a1 : Nat) (a2 : Option Nat) : Kept z (State.retirePage s a1 a2) := by
  unfold State.retirePage
  repeat' first
    | with_reducible assumption
    | ((try lift_lets); intro x; clear_value (e : x = _); refine Kept.use (s := z) (x := x) (Kept.via e ?_) (fun h => ?_))
    | ((try lift_lets); intro x)
    | with_reducible apply State.raiseMem_kept
    | with_reducible apply State.setF_kept
    | with_reducible apply State.setFs_kept
    | with_reducible apply Kept.ite
    | (simp only [Kept.mk2_iff])
    | (simp only [Kept.mk_iff])
    | (dsimp (zetaDelta := true) only)
    | (simp (zetaDelta := true) only [Kept.mk2_iff, Kept.mk_iff])

theorem State.ecc_kept {z s : State} (h : Kept z s) (a1 : Nat) (a2 : Ecc) (a3 : Option Nat) : Kept z (State.ecc s a1 a2 a3) := by
  unfold State.ecc
  repeat' first
    | with_reducible assumption
    | ((try lift_lets); intro x; clear_value (e : x = _); refine Kept.use (s := z) (x := x) (Kept.via e ?_) (fun h => ?_))
    | ((try lift_lets); intro x)
    | with_reducible apply State.setPair_kept
    | with_reducible apply State.tally_kept
    | with_reducible apply State.setF_kept
    | with_reducible apply State.addF_kept
    | with_reducible apply State.raiseMem_kept
    | with_reducible apply State.logRetry_kept
    | with_reducible apply State.retirePage_kept
    | with_reducible apply Kept.ite
    | split
    | (simp only [Kept.mk2_iff])
    | (simp only [Kept.mk_iff])
    | (dsimp (zetaDelta := true) only)
    | (simp (zetaDelta := true) only [Kept.mk2_iff, Kept.mk_iff])

theorem execPageCopyDone_kept {z s : State} (h : Kept z s)  : KeptOut z (execPageCopyDone s) := by
  unfold execPageCopyDone
  repeat' first
    | with_reducible assumption
    | ((try lift_lets); intro x; clear_value (e : x = _); refine Kept.use (s := z) (x := x) (Kept.via e ?_) (fun h => ?_))
    | ((try lift_lets); intro x)
    | with_reducible apply Kept.next
    | with_reducible apply KeptOut.ite
    | with_reducible apply State.setFs_kept
    | with_reducible apply State.raiseMem_kept
    | with_reducible apply State.tally_kept
    | with_reducible apply State.addF_kept
    | with_reducible apply Kept.ite
    | split
    | (simp only [Kept.mk2_iff])
    | (simp only [Kept.mk_iff])
    | (dsimp (zetaDelta := true) only)
    | (simp (zetaDelta := true) only [Kept.mk2_iff, Kept.mk_iff])

theorem State.memRange_kept {z s : State} (h : Kept z s)  : Kept z (State.memRange s) := by
  unfold State.memRange
  repeat' first
    | with_reducible assumption
    | with_reducible apply State.raiseX_kept
    | with_reducible apply State.setF_kept

theorem execBar2Read_kept {z s : State} (h : Kept z s) (a1 : BitVec 36) (a2 : BitVec 12) (a3 : Ecc) : KeptOut z (execBar2Read a1 a2 a3 s) := by
  unfold execBar2Read
  repeat' first
    | with_reducible assumption
    | ((try lift_lets); intro x; clear_value (e : x = _); refine Kept.use (s := z) (x := x) (Kept.via e ?_) (fun h => ?_))
    | ((try lift_lets); intro x; clear_value x)
    | with_reducible apply Kept.next
    | with_reducible apply KeptOut.ite
    | with_reducible apply State.memRange_kept
    | with_reducible apply State.ecc_kept
    | with_reducible apply Kept.ite
    | (simp only [Kept.mk2_iff])
    | (simp only [Kept.mk_iff])

theorem bar2Go_kept {z s : State} (h : Kept z s) (a : Nat) (bs : List Byte) (k : Nat) : Kept z (bar2Go s a bs k) := by
  induction k generalizing s a bs with
  | zero => exact h
  | succ k ih =>
    unfold bar2Go
    split
    · exact h
    · exact ih (Kept.ite h (State.memWriteBlock_kept h _ _)) _ _

theorem execBar2Write_kept {z s : State} (h : Kept z s) (a1 : BitVec 36) (a2 : List (BitVec 8)) : KeptOut z (execBar2Write a1 a2 s) := by
  unfold execBar2Write
  repeat' first
    | with_reducible assumption
    | ((try lift_lets); intro x; clear_value (e : x = _); refine Kept.use (s := z) (x := x) (Kept.via e ?_) (fun h => ?_))
    | ((try lift_lets); intro x; clear_value x)
    | with_reducible apply Kept.next
    | with_reducible apply KeptOut.ite
    | with_reducible apply bar2Go_kept
    | with_reducible apply State.flam_kept
    | with_reducible apply State.memRange_kept
    | with_reducible apply State.tallyUnits_kept
    | with_reducible apply Kept.ite

theorem State.ringTail_kept {z s : State} (h : Kept z s) (a1 : Nat) (a2 : Nat) : Kept z (State.ringTail s a1 a2) := by
  unfold State.ringTail
  repeat' first
    | with_reducible assumption
    | ((try lift_lets); intro x; clear_value (e : x = _); refine Kept.use (s := z) (x := x) (Kept.via e ?_) (fun h => ?_))
    | ((try lift_lets); intro x; clear_value x)
    | with_reducible apply State.raise_kept
    | with_reducible apply State.setF_kept
    | with_reducible apply Kept.ite

theorem execFqTailWrite_kept {z s : State} (h : Kept z s) (a1 : Fin 8) (a2 : BitVec 16) : KeptOut z (execFqTailWrite a1 a2 s) := by
  unfold execFqTailWrite
  repeat' first
    | with_reducible assumption
    | with_reducible apply Kept.next
    | with_reducible apply State.ringTail_kept

theorem State.dropFrom_kept {z s : State} (h : Kept z s) (a1 : Nat) (a2 : Int) (a3 : Option Nat → Bool) : Kept z (State.dropFrom s a1 a2 a3) := by
  unfold State.dropFrom
  repeat' first
    | with_reducible assumption
    | ((try lift_lets); intro x; clear_value (e : x = _); refine Kept.use (s := z) (x := x) (Kept.via e ?_) (fun h => ?_))
    | ((try lift_lets); intro x; clear_value x)
    | with_reducible apply State.setStation_kept
    | with_reducible apply State.setSlot_kept
    | with_reducible apply Kept.ite
    | (with_reducible apply Kept.forBelow; intro i s h)
    | split

theorem State.addFrame_kept {z s : State} (h : Kept z s) (a1 : Nat) (a2 : Frame) (a3 : Int) (a4 : Bool) : Kept z (State.addFrame s a1 a2 a3 a4) := by
  unfold State.addFrame
  repeat' first
    | with_reducible assumption
    | ((try lift_lets); intro x; clear_value (e : x = _); refine Kept.use (s := z) (x := x) (Kept.via e ?_) (fun h => ?_))
    | ((try lift_lets); intro x; clear_value x)
    | with_reducible apply State.setF_kept
    | with_reducible apply State.dropFrom_kept
    | with_reducible apply State.setStation_kept
    | with_reducible apply Kept.ite
    | split

theorem State.takeFrame_kept {z s : State} (h : Kept z s) (a1 : Nat) (a2 : Frame) (a3 : Option Nat) : Kept z (State.takeFrame s a1 a2 a3) := by
  unfold State.takeFrame
  repeat' first
    | with_reducible assumption
    | ((try lift_lets); intro x; clear_value (e : x = _); refine Kept.use (s := z) (x := x) (Kept.via e ?_) (fun h => ?_))
    | ((try lift_lets); intro x)
    | with_reducible apply State.addFrame_kept
    | with_reducible apply State.raiseOwn_kept
    | with_reducible apply State.setF_kept
    | with_reducible apply Kept.ite
    | split
    | (dsimp (zetaDelta := true) only)
    | (simp (zetaDelta := true) only [Kept.mk2_iff, Kept.mk_iff])

theorem execDescFetch_kept {z s : State} (h : Kept z s) (a1 : Fin 8) (a2 : Ecc) : KeptOut z (execDescFetch a1 a2 s) := by
  unfold execDescFetch
  repeat' first
    | with_reducible assumption
    | ((try lift_lets); intro x; clear_value (e : x = _); refine Kept.use (s := z) (x := x) (Kept.via e ?_) (fun h => ?_))
    | ((try lift_lets); intro x; clear_value x)
    | with_reducible apply Kept.next
    | with_reducible apply KeptOut.ite
    | with_reducible apply State.ecc_kept
    | with_reducible apply State.setFs_kept
    | with_reducible apply State.takeFrame_kept
    | with_reducible apply State.raise_kept
    | with_reducible apply State.setF_kept
    | with_reducible apply Kept.ite

theorem State.noteLead_kept {z s : State} (h : Kept z s) (a1 : Nat) : Kept z (State.noteLead s a1) := by
  unfold State.noteLead
  repeat' first
    | with_reducible assumption
    | ((try lift_lets); intro x; clear_value (e : x = _); refine Kept.use (s := z) (x := x) (Kept.via e ?_) (fun h => ?_))
    | ((try lift_lets); intro x; clear_value x)
    | with_reducible apply State.setF_kept
    | with_reducible apply State.raise_kept
    | with_reducible apply State.setStation_kept
    | with_reducible apply Kept.ite

theorem execLeadWrite_kept {z s : State} (h : Kept z s) (a1 : Fin 8) (a2 : BitVec 9) (a3 : BitVec 9) : KeptOut z (execLeadWrite a1 a2 a3 s) := by
  unfold execLeadWrite
  repeat' first
    | with_reducible assumption
    | with_reducible apply Kept.next
    | with_reducible apply KeptOut.ite
    | with_reducible apply State.setFs_kept
    | with_reducible apply State.setF_kept
    | with_reducible apply Kept.ite

theorem State.readLeadnow_kept {z s : State} (h : Kept z s) (a1 : Nat) : KeptQ z (State.readLeadnow s a1) := by
  unfold State.readLeadnow
  repeat' first
    | with_reducible assumption
    | ((try lift_lets); intro x; clear_value (e : x = _); refine Kept.use (s := z) (x := x) (Kept.via e ?_) (fun h => ?_))
    | ((try lift_lets); intro x; clear_value x)
    | with_reducible apply State.setF_kept
    | (split <;> (rename_i heq; refine Kept.use (s := z) (KeptQ.at heq ?_) (fun h => ?_)))
    | with_reducible apply KeptQ.pair
    | with_reducible apply KeptQ.snd

theorem execLeadnowRead_kept {z s : State} (h : Kept z s) (a1 : Fin 8) : KeptOut z (execLeadnowRead a1 s) := by
  unfold execLeadnowRead
  repeat' first
    | with_reducible assumption
    | with_reducible apply Kept.next
    | with_reducible apply State.readLeadnow_kept
    | with_reducible apply State.reply_kept
    | (split <;> (rename_i heq; refine Kept.use (s := z) (KeptQ.at heq ?_) (fun h => ?_)))
    | split
    | with_reducible apply KeptQ.pair
    | with_reducible apply KeptQ.snd

theorem State.serve_kept {z s : State} (h : Kept z s)  : Kept z (State.serve s) := by
  unfold State.serve
  repeat' first
    | with_reducible assumption
    | ((try lift_lets); intro x; clear_value (e : x = _); refine Kept.use (s := z) (x := x) (Kept.via e ?_) (fun h => ?_))
    | ((try lift_lets); intro x; clear_value x)
    | with_reducible apply State.setStation_kept
    | with_reducible apply Kept.ite
    | split
    | (simp only [Kept.mk2_iff])
    | (simp only [Kept.mk_iff])

theorem execFeedRequest_kept {z s : State} (h : Kept z s) (a1 : Fin 8) : KeptOut z (execFeedRequest a1 s) := by
  unfold execFeedRequest
  repeat' first
    | with_reducible assumption
    | ((try lift_lets); intro x; clear_value (e : x = _); refine Kept.use (s := z) (x := x) (Kept.via e ?_) (fun h => ?_))
    | ((try lift_lets); intro x; clear_value x)
    | with_reducible apply Kept.next
    | with_reducible apply KeptOut.ite
    | with_reducible apply State.noteLead_kept
    | with_reducible apply State.serve_kept
    | with_reducible apply State.setStation_kept
    | with_reducible apply Kept.ite
    | split

theorem State.spoilAt_kept {z s : State} (h : Kept z s) (a1 : Nat) (a2 : Int) (a3 : Nat) : Kept z (State.spoilAt s a1 a2 a3) := by
  unfold State.spoilAt
  repeat' first
    | with_reducible assumption
    | ((try lift_lets); intro x; clear_value (e : x = _); refine Kept.use (s := z) (x := x) (Kept.via e ?_) (fun h => ?_))
    | ((try lift_lets); intro x; clear_value x)
    | with_reducible apply State.setStation_kept
    | with_reducible apply State.abandonIn_kept
    | with_reducible apply Kept.ite
    | split

theorem execLineSlotFilled_kept {z s : State} (h : Kept z s) (a1 : Fin 8) (a2 : Ecc) : KeptOut z (execLineSlotFilled a1 a2 s) := by
  unfold execLineSlotFilled
  repeat' first
    | with_reducible assumption
    | ((try lift_lets); intro x; clear_value (e : x = _); refine Kept.use (s := z) (x := x) (Kept.via e ?_) (fun h => ?_))
    | ((try lift_lets); intro x)
    | with_reducible apply Kept.next
    | with_reducible apply KeptOut.ite
    | with_reducible apply State.setStation_kept
    | with_reducible apply State.setSlot_kept
    | with_reducible apply State.tally_kept
    | with_reducible apply State.serve_kept
    | with_reducible apply State.ecc_kept
    | with_reducible apply State.spoilAt_kept
    | with_reducible apply Kept.ite
    | split
    | (dsimp (zetaDelta := true) only)
    | (simp (zetaDelta := true) only [Kept.mk2_iff, Kept.mk_iff])

theorem State.discardProv_kept {z s : State} (h : Kept z s) (a1 : Nat) (a2 : Nat → Bool) : Kept z (State.discardProv s a1 a2) := by
  unfold State.discardProv
  repeat' first
    | with_reducible assumption
    | ((try lift_lets); intro x; clear_value (e : x = _); refine Kept.use (s := z) (x := x) (Kept.via e ?_) (fun h => ?_))
    | ((try lift_lets); intro x; clear_value x)
    | with_reducible apply State.dropFrom_kept
    | with_reducible apply State.setStation_kept
    | with_reducible apply State.abandon_kept
    | split

theorem State.commitProv_kept {z s : State} (h : Kept z s) (a1 : Nat) (a2 : Nat) : Kept z (State.commitProv s a1 a2) := by
  unfold State.commitProv
  repeat' first
    | with_reducible assumption
    | ((try lift_lets); intro x; clear_value (e : x = _); refine Kept.use (s := z) (x := x) (Kept.via e ?_) (fun h => ?_))
    | ((try lift_lets); intro x; clear_value x)
    | with_reducible apply State.tally_kept
    | with_reducible apply State.tallyUnits_kept
    | with_reducible apply State.setF_kept
    | with_reducible apply State.setSlot_kept
    | with_reducible apply State.setStation_kept
    | with_reducible apply State.raiseOwn_kept
    | with_reducible apply Kept.ite
    | (with_reducible apply Kept.foldl; intro s x h)
    | (with_reducible apply Kept.forBelow; intro i s h)
    | split

/-! ### Screen -/

theorem State.setCell_kept {z s : State} (h : Kept z s) (a1 : Nat) (a2 : Nat) (a3 : Nat) (a4 : Nat) (a5 : Nat) : Kept z (State.setCell s a1 a2 a3 a4 a5) := by
  unfold State.setCell
  repeat' first
    | with_reducible assumption
    | (simp only [Kept.mk2_iff])
    | (simp only [Kept.mk_iff])

theorem State.clearBank_kept {z s : State} (h : Kept z s) (a1 : Nat) (a2 : Nat) (a3 : Nat) : Kept z (State.clearBank s a1 a2 a3) := by
  unfold State.clearBank
  repeat' first
    | with_reducible assumption
    | ((try lift_lets); intro x; clear_value (e : x = _); refine Kept.use (s := z) (x := x) (Kept.via e ?_) (fun h => ?_))
    | ((try lift_lets); intro x; clear_value x)
    | (simp only [Kept.mk2_iff])
    | (simp only [Kept.mk_iff])

theorem State.putCells_kept {z s : State} (h : Kept z s) (n kind bank i : Nat) (l : List Nat) :
    Kept z (s.putCells n kind bank i l) := by
  induction l generalizing s i with
  | nil => exact h
  | cons v r ih => exact ih (State.setCell_kept h _ _ _ _ _) _

theorem State.defaultTables_kept {z s : State} (h : Kept z s) (a1 : Nat) : Kept z (State.defaultTables s a1) := by
  unfold State.defaultTables
  repeat' first
    | with_reducible assumption
    | ((try lift_lets); intro x; clear_value (e : x = _); refine Kept.use (s := z) (x := x) (Kept.via e ?_) (fun h => ?_))
    | ((try lift_lets); intro x; clear_value x)
    | with_reducible apply State.clearBank_kept
    | with_reducible apply State.setFs_kept
    | (with_reducible apply Kept.forBelow; intro i s h)

theorem State.setBankState_kept {z s : State} (h : Kept z s) (a1 : Nat) (a2 : Nat) (a3 : Nat) : Kept z (State.setBankState s a1 a2 a3) := by
  unfold State.setBankState
  repeat' first
    | with_reducible assumption
    | with_reducible apply State.setF_kept

theorem State.setBankBit_kept {z s : State} (h : Kept z s) (a1 : Nat) (a2 : Nat) (a3 : Nat) (a4 : Bool) : Kept z (State.setBankBit s a1 a2 a3 a4) := by
  unfold State.setBankBit
  repeat' first
    | with_reducible assumption
    | with_reducible apply State.setBitF_kept

theorem State.setTgo_kept {z s : State} (h : Kept z s) (a1 : Nat) : Kept z (State.setTgo s a1) := by
  unfold State.setTgo
  repeat' first
    | with_reducible assumption
    | with_reducible apply State.setB_kept

theorem State.tableErr_kept {z s : State} (h : Kept z s) (a1 : Nat) (a2 : Nat) : Kept z (State.tableErr s a1 a2) := by
  unfold State.tableErr
  repeat' first
    | with_reducible assumption
    | with_reducible apply State.raise_kept
    | with_reducible apply State.setFs_kept

theorem execTableLoad_kept {z s : State} (h : Kept z s) (a1 : Fin 8) (a2 : BitVec 2) : KeptOut z (execTableLoad a1 a2 s) := by
  unfold execTableLoad
  repeat' first
    | with_reducible assumption
    | ((try lift_lets); intro x; clear_value (e : x = _); refine Kept.use (s := z) (x := x) (Kept.via e ?_) (fun h => ?_))
    | ((try lift_lets); intro x; clear_value x)
    | with_reducible apply Kept.next
    | with_reducible apply KeptOut.ite
    | with_reducible apply State.setTgo_kept
    | with_reducible apply State.setBankState_kept
    | with_reducible apply State.tableErr_kept
    | with_reducible apply Kept.ite
    | (simp only [Kept.mk2_iff])
    | (simp only [Kept.mk_iff])

theorem execTableCopy_kept {z s : State} (h : Kept z s) (a1 : Fin 8) (a2 : BitVec 2) : KeptOut z (execTableCopy a1 a2 s) := by
  unfold execTableCopy
  repeat' first
    | with_reducible assumption
    | with_reducible apply Kept.next
    | with_reducible apply KeptOut.ite
    | with_reducible apply State.setTgo_kept
    | with_reducible apply State.setBankState_kept
    | with_reducible apply State.tableErr_kept
    | with_reducible apply Kept.ite
    | (simp only [Kept.mk2_iff])
    | (simp only [Kept.mk_iff])

theorem execTableMark_kept {z s : State} (h : Kept z s) (a1 : Fin 8) (a2 : BitVec 2) : KeptOut z (execTableMark a1 a2 s) := by
  unfold execTableMark
  repeat' first
    | with_reducible assumption
    | with_reducible apply Kept.next
    | with_reducible apply KeptOut.ite
    | with_reducible apply State.setF_kept
    | with_reducible apply State.setBankState_kept
    | with_reducible apply State.tableErr_kept
    | with_reducible apply Kept.ite

theorem execTableClear_kept {z s : State} (h : Kept z s) (a1 : Fin 8) (a2 : BitVec 2) : KeptOut z (execTableClear a1 a2 s) := by
  unfold execTableClear
  repeat' first
    | with_reducible assumption
    | with_reducible apply Kept.next
    | with_reducible apply KeptOut.ite
    | with_reducible apply State.setF_kept
    | with_reducible apply State.setBankState_kept
    | with_reducible apply State.tableErr_kept
    | with_reducible apply Kept.ite

theorem execTableSwap_kept {z s : State} (h : Kept z s) (a1 : Fin 8) (a2 : BitVec 2) : KeptOut z (execTableSwap a1 a2 s) := by
  unfold execTableSwap
  repeat' first
    | with_reducible assumption
    | with_reducible apply Kept.next
    | with_reducible apply KeptOut.ite
    | with_reducible apply State.setF_kept
    | with_reducible apply State.setBankBit_kept
    | with_reducible apply State.tableErr_kept
    | with_reducible apply Kept.ite

theorem State.setMap_kept {z s : State} (h : Kept z s) (a1 : Nat) (a2 : Nat) (a3 : Nat) (a4 : Nat) : Kept z (State.setMap s a1 a2 a3 a4) := by
  unfold State.setMap
  repeat' first
    | with_reducible assumption
    | with_reducible apply State.setCell_kept
    | with_reducible apply Kept.ite

theorem execHidingEdit_kept {z s : State} (h : Kept z s) (a1 : Fin 8) (a2 : BitVec 16) (a3 : Bool) (a4 : Bool) : KeptOut z (execHidingEdit a1 a2 a3 a4 s) := by
  unfold execHidingEdit
  repeat' first
    | with_reducible assumption
    | with_reducible apply Kept.next
    | with_reducible apply KeptOut.ite
    | with_reducible apply State.setMap_kept
    | with_reducible apply State.setF_kept
    | with_reducible apply Kept.ite

theorem State.markIn_kept {z s : State} (h : Kept z s) (a1 : Nat) (a2 : Nat) : Kept z (State.markIn s a1 a2) := by
  unfold State.markIn
  repeat' first
    | with_reducible assumption
    | ((try lift_lets); intro x; clear_value (e : x = _); refine Kept.use (s := z) (x := x) (Kept.via e ?_) (fun h => ?_))
    | ((try lift_lets); intro x; clear_value x)
    | with_reducible apply State.setMap_kept

theorem State.copyHiding_kept {z s : State} (h : Kept z s) (a1 : Nat) : Kept z (State.copyHiding s a1) := by
  unfold State.copyHiding
  repeat' first
    | with_reducible assumption
    | ((try lift_lets); intro x; clear_value (e : x = _); refine Kept.use (s := z) (x := x) (Kept.via e ?_) (fun h => ?_))
    | ((try lift_lets); intro x; clear_value x)
    | with_reducible apply State.clearBank_kept
    | (with_reducible apply Kept.foldl; intro s x h)
    | (simp only [Kept.mk2_iff])
    | (simp only [Kept.mk_iff])

theorem State.ddMark_kept {z s : State} (h : Kept z s) (a1 : Nat) (a2 : Nat) : Kept z (State.ddMark s a1 a2) := by
  unfold State.ddMark
  repeat' first
    | with_reducible assumption
    | ((try lift_lets); intro x; clear_value (e : x = _); refine Kept.use (s := z) (x := x) (Kept.via e ?_) (fun h => ?_))
    | ((try lift_lets); intro x; clear_value x)
    | with_reducible apply State.setBankBit_kept
    | with_reducible apply State.markIn_kept
    | with_reducible apply State.setBankState_kept
    | with_reducible apply State.copyHiding_kept
    | with_reducible apply Kept.ite
    | (simp only [Kept.mk2_iff])
    | (simp only [Kept.mk_iff])

theorem State.heldMarks_kept {z s : State} (h : Kept z s) (a1 : Nat) : Kept z (State.heldMarks s a1) := by
  unfold State.heldMarks
  repeat' first
    | with_reducible assumption
    | ((try lift_lets); intro x; clear_value (e : x = _); refine Kept.use (s := z) (x := x) (Kept.via e ?_) (fun h => ?_))
    | ((try lift_lets); intro x; clear_value x)
    | with_reducible apply State.ddMark_kept
    | (with_reducible apply Kept.foldl; intro s x h)
    | (simp only [Kept.mk2_iff])
    | (simp only [Kept.mk_iff])

theorem execTableCopyDone_kept {z s : State} (h : Kept z s) (a1 : Fin 8) : KeptOut z (execTableCopyDone a1 s) := by
  unfold execTableCopyDone
  repeat' first
    | with_reducible assumption
    | ((try lift_lets); intro x; clear_value (e : x = _); refine Kept.use (s := z) (x := x) (Kept.via e ?_) (fun h => ?_))
    | ((try lift_lets); intro x; clear_value x)
    | with_reducible apply Kept.next
    | with_reducible apply KeptOut.ite
    | with_reducible apply State.setTgo_kept
    | with_reducible apply State.setF_kept
    | with_reducible apply State.heldMarks_kept
    | with_reducible apply State.setBankState_kept
    | with_reducible apply State.copyHiding_kept
    | with_reducible apply Kept.ite

theorem State.finishTable_kept {z s : State} (h : Kept z s) (a1 : Nat) (a2 : Nat) (a3 : Nat) (a4 : List Nat) : Kept z (State.finishTable s a1 a2 a3 a4) := by
  unfold State.finishTable
  repeat' first
    | with_reducible assumption
    | ((try lift_lets); intro x; clear_value (e : x = _); refine Kept.use (s := z) (x := x) (Kept.via e ?_) (fun h => ?_))
    | ((try lift_lets); intro x; clear_value x)
    | with_reducible apply State.putCells_kept
    | with_reducible apply State.clearBank_kept
    | with_reducible apply State.setBankState_kept
    | with_reducible apply State.heldMarks_kept
    | with_reducible apply State.setTgo_kept
    | with_reducible apply State.setF_kept
    | with_reducible apply State.tableErr_kept
    | with_reducible apply Kept.ite

theorem execTableLoadDone_kept {z s : State} (h : Kept z s) (a1 : Fin 8) (a2 : BitVec 2) (a3 : Ecc) : KeptOut z (execTableLoadDone a1 a2 a3 s) := by
  unfold execTableLoadDone
  repeat' first
    | with_reducible assumption
    | ((try lift_lets); intro x; clear_value (e : x = _); refine Kept.use (s := z) (x := x) (Kept.via e ?_) (fun h => ?_))
    | ((try lift_lets); intro x; clear_value x)
    | with_reducible apply Kept.next
    | with_reducible apply KeptOut.ite
    | with_reducible apply State.ecc_kept
    | with_reducible apply State.finishTable_kept
    | with_reducible apply Kept.ite
    | (simp only [Kept.mk2_iff])
    | (simp only [Kept.mk_iff])

theorem State.swapBank_kept {z s : State} (h : Kept z s) (a1 : Nat) (a2 : Nat) (a3 : Int) : Kept z (State.swapBank s a1 a2 a3) := by
  unfold State.swapBank
  repeat' first
    | with_reducible assumption
    | ((try lift_lets); intro x; clear_value (e : x = _); refine Kept.use (s := z) (x := x) (Kept.via e ?_) (fun h => ?_))
    | ((try lift_lets); intro x; clear_value x)
    | with_reducible apply State.tally_kept
    | with_reducible apply State.setF_kept
    | with_reducible apply Kept.ite
    | (simp only [Kept.mk2_iff])
    | (simp only [Kept.mk_iff])

theorem State.bankLate_kept {z s : State} (h : Kept z s) (a1 : Nat) : Kept z (State.bankLate s a1) := by
  unfold State.bankLate
  repeat' first
    | with_reducible assumption
    | with_reducible apply State.raise_kept
    | with_reducible apply State.tally_kept
    | with_reducible apply State.setF_kept

theorem State.engage_kept {z s : State} (h : Kept z s) (a1 : Nat) (a2 : Nat) (a3 : Nat) (a4 : Bool) : Kept z (State.engage s a1 a2 a3 a4) := by
  unfold State.engage
  repeat' first
    | with_reducible assumption
    | with_reducible apply State.setBankBit_kept
    | with_reducible apply State.bankLate_kept
    | with_reducible apply Kept.ite
    | (simp only [Kept.mk2_iff])
    | (simp only [Kept.mk_iff])

theorem State.swapAt_kept {z s : State} (h : Kept z s) (a1 : Nat) (a2 : Nat) (a3 : Int) : Kept z (State.swapAt s a1 a2 a3) := by
  unfold State.swapAt
  repeat' first
    | with_reducible assumption
    | with_reducible apply State.swapBank_kept
    | with_reducible apply State.bankLate_kept
    | with_reducible apply Kept.ite

theorem State.applyBanks_kept {z s : State} (h : Kept z s) (a1 : Nat) (a2 : Nat) (a3 : Nat) (a4 : Int) : Kept z (State.applyBanks s a1 a2 a3 a4) := by
  unfold State.applyBanks
  repeat' first
    | with_reducible assumption
    | with_reducible apply State.swapBank_kept
    | with_reducible apply Kept.ite
    | (with_reducible apply Kept.forBelow; intro i s h)

theorem State.disengage_kept {z s : State} (h : Kept z s) (a1 : Nat) (a2 : Nat) : Kept z (State.disengage s a1 a2) := by
  unfold State.disengage
  repeat' first
    | with_reducible assumption
    | with_reducible apply State.setBankBit_kept
    | with_reducible apply Kept.ite
    | (with_reducible apply Kept.forBelow; intro i s h)

theorem State.replaceDamaged_kept {z s : State} (h : Kept z s) (a1 : Nat) (a2 : Int) : Kept z (State.replaceDamaged s a1 a2) := by
  unfold State.replaceDamaged
  repeat' first
    | with_reducible assumption
    | with_reducible apply State.swapBank_kept
    | with_reducible apply Kept.ite
    | (with_reducible apply Kept.forBelow; intro i s h)

theorem State.writeCodes_kept {z s : State} (h : Kept z s) (n : Nat) (l : Int) (codes : List Nat) : Kept z (s.writeCodes n l codes) :=
  Kept.lst h (tputs_twf _ _ _ _)

theorem State.tmemErr_kept {z s : State} (h : Kept z s) (a1 : Nat) (a2 : Int) (a3 : Nat → Nat) (a4 : TmemErr) : Kept z (State.tmemErr s a1 a2 a3 a4) := by
  unfold State.tmemErr
  repeat' first
    | with_reducible assumption
    | ((try lift_lets); intro x; clear_value (e : x = _); refine Kept.use (s := z) (x := x) (Kept.via e ?_) (fun h => ?_))
    | ((try lift_lets); intro x)
    | with_reducible apply State.mapFrameAt_kept
    | with_reducible apply State.raise_kept
    | with_reducible apply State.logRetry_kept
    | with_reducible apply State.tally_kept
    | with_reducible apply State.setF_kept
    | with_reducible apply State.setBankBit_kept
    | with_reducible apply State.raiseF_kept
    | with_reducible apply State.setFs_kept
    | with_reducible apply State.raiseOwn_kept
    | with_reducible apply State.spoilAt_kept
    | with_reducible apply Kept.ite
    | split
    | (simp only [Kept.mk2_iff])
    | (simp only [Kept.mk_iff])
    | (dsimp (zetaDelta := true) only)
    | (simp (zetaDelta := true) only [Kept.mk2_iff, Kept.mk_iff])

theorem State.boundary_kept {z s : State} (h : Kept z s) (a1 : Nat) (a2 : Slot) (a3 : Nat) (a4 : Bool) : Kept z (State.boundary s a1 a2 a3 a4) := by
  unfold State.boundary
  repeat' first
    | with_reducible assumption
    | ((try lift_lets); intro x; clear_value (e : x = _); refine Kept.use (s := z) (x := x) (Kept.via e ?_) (fun h => ?_))
    | ((try lift_lets); intro x; clear_value x)
    | with_reducible apply State.replaceDamaged_kept
    | with_reducible apply State.engage_kept
    | with_reducible apply State.setStation_kept
    | with_reducible apply State.swapAt_kept
    | with_reducible apply Kept.ite
    | split

theorem execScreenLine_kept {z s : State} (h : Kept z s) (a1 : Fin 8) (a2 : TmemErr) : KeptOut z (execScreenLine a1 a2 s) := by
  unfold execScreenLine
  repeat' first
    | with_reducible assumption
    | ((try lift_lets); intro x; clear_value (e : x = _); refine Kept.use (s := z) (x := x) (Kept.via e ?_) (fun h => ?_))
    | ((try lift_lets); intro x)
    | with_reducible apply Kept.next
    | with_reducible apply KeptOut.ite
    | with_reducible apply State.noteLead_kept
    | with_reducible apply State.setSlot_kept
    | with_reducible apply State.boundary_kept
    | with_reducible apply State.tmemErr_kept
    | with_reducible apply State.writeCodes_kept
    | with_reducible apply State.tally_kept
    | with_reducible apply State.tallyUnits_kept
    | with_reducible apply State.setF_kept
    | with_reducible apply State.spoilAt_kept
    | with_reducible apply State.setStation_kept
    | with_reducible apply State.raiseOwn_kept
    | with_reducible apply State.mapFrameAt_kept
    | with_reducible apply State.draw_kept
    | with_reducible apply Kept.ite
    | split
    | (simp only [Kept.mk2_iff])
    | (simp only [Kept.mk_iff])
    | (dsimp (zetaDelta := true) only)
    | (simp (zetaDelta := true) only [Kept.mk2_iff, Kept.mk_iff])

/-! ### Dma -/

theorem State.hostReq_kept {z s : State} (h : Kept z s) (a1 : Bool) (a2 : Nat) (a3 : Nat) (a4 : List Byte) : Kept z (State.hostReq s a1 a2 a3 a4) := by
  unfold State.hostReq
  repeat' first
    | with_reducible assumption
    | (simp only [Kept.mk2_iff])
    | (simp only [Kept.mk_iff])

theorem hostBursts_kept {z s : State} (h : Kept z s) (w : Bool) (k a n : Nat) (bs : List Byte) : Kept z (hostBursts w k a n bs s) := by
  induction k generalizing s a n bs with
  | zero => exact h
  | succ k ih =>
    unfold hostBursts
    exact Kept.ite h (ih (State.hostReq_kept h _ _ _ _) _ _ _)

theorem State.hostRead_kept {z s : State} (h : Kept z s) (a1 : Nat) (a2 : Nat) : Kept z (State.hostRead s a1 a2) := by
  unfold State.hostRead
  repeat' first
    | with_reducible assumption
    | with_reducible apply hostBursts_kept

theorem State.dmaWrite_kept {z s : State} (h : Kept z s) (a : Nat) (bs : List Byte) : Kept z (s.dmaWrite a bs) := by
  unfold State.dmaWrite
  exact Kept.ite (hostBursts_kept h _ _ _ _ _) (Kept.ite (Kept.msm h (tputs_twf _ _ _ _)) (State.memWrite_kept h _ _))

theorem State.dmaIdle_kept {z s : State} (h : Kept z s) (a1 : Nat) : Kept z (State.dmaIdle s a1) := by
  unfold State.dmaIdle
  repeat' first
    | with_reducible assumption
    | ((try lift_lets); intro x; clear_value (e : x = _); refine Kept.use (s := z) (x := x) (Kept.via e ?_) (fun h => ?_))
    | ((try lift_lets); intro x; clear_value x)
    | with_reducible apply State.setChan_kept
    | with_reducible apply State.setBitF_kept
    | with_reducible apply State.setFs_kept

theorem State.dmaFetchErr_kept {z s : State} (h : Kept z s) (a1 : Nat) : Kept z (State.dmaFetchErr s a1) := by
  unfold State.dmaFetchErr
  repeat' first
    | with_reducible assumption
    | with_reducible apply State.raise_kept
    | with_reducible apply State.setF_kept
    | with_reducible apply State.dmaIdle_kept

theorem State.dmaBack_kept {z s : State} (h : Kept z s) (a1 : Nat) (a2 : Nat) (a3 : Nat) (a4 : Bool) (a5 : Nat) : Kept z (State.dmaBack s a1 a2 a3 a4 a5) := by
  unfold State.dmaBack
  repeat' first
    | with_reducible assumption
    | ((try lift_lets); intro x; clear_value (e : x = _); refine Kept.use (s := z) (x := x) (Kept.via e ?_) (fun h => ?_))
    | ((try lift_lets); intro x; clear_value x)
    | with_reducible apply State.dmaWrite_kept
    | with_reducible apply Kept.ite

theorem State.dmaReads_kept {z s : State} (h : Kept z s) (a1 : Nat) : Kept z (State.dmaReads s a1) := by
  unfold State.dmaReads
  repeat' first
    | with_reducible assumption
    | ((try lift_lets); intro x; clear_value (e : x = _); refine Kept.use (s := z) (x := x) (Kept.via e ?_) (fun h => ?_))
    | ((try lift_lets); intro x; clear_value x)
    | with_reducible apply State.setChan_kept
    | with_reducible apply State.hostRead_kept
    | with_reducible apply Kept.ite

theorem State.dmaTake_kept {z s : State} (h : Kept z s) (a1 : Nat) (a2 : List Byte) : Kept z (State.dmaTake s a1 a2) := by
  unfold State.dmaTake
  repeat' first
    | with_reducible assumption
    | ((try lift_lets); intro x; clear_value (e : x = _); refine Kept.use (s := z) (x := x) (Kept.via e ?_) (fun h => ?_))
    | ((try lift_lets); intro x; clear_value x)
    | with_reducible apply State.setFs_kept
    | with_reducible apply State.setChan_kept
    | with_reducible apply State.dmaReads_kept
    | with_reducible apply Kept.ite

theorem State.dmaBegin_kept {z s : State} (h : Kept z s) (a1 : Nat) (a2 : Nat) (a3 : Fetched) : Kept z (State.dmaBegin s a1 a2 a3) := by
  unfold State.dmaBegin
  repeat' first
    | with_reducible assumption
    | ((try lift_lets); intro x; clear_value (e : x = _); refine Kept.use (s := z) (x := x) (Kept.via e ?_) (fun h => ?_))
    | ((try lift_lets); intro x; clear_value x)
    | with_reducible apply State.setPair_kept
    | with_reducible apply State.hostRead_kept
    | with_reducible apply State.setChan_kept
    | with_reducible apply State.dmaTake_kept
    | with_reducible apply State.ecc_kept
    | with_reducible apply State.dmaFetchErr_kept
    | with_reducible apply Kept.ite

theorem execDmaStart_kept {z s : State} (h : Kept z s) (a1 : Fin 16) (a2 : Fetched) : KeptOut z (execDmaStart a1 a2 s) := by
  unfold execDmaStart
  repeat' first
    | with_reducible assumption
    | ((try lift_lets); intro x; clear_value (e : x = _); refine Kept.use (s := z) (x := x) (Kept.via e ?_) (fun h => ?_))
    | ((try lift_lets); intro x; clear_value x)
    | with_reducible apply Kept.next
    | with_reducible apply KeptOut.ite
    | with_reducible apply State.setF_kept
    | with_reducible apply State.setBitF_kept
    | with_reducible apply State.setFs_kept
    | with_reducible apply State.dmaBegin_kept
    | with_reducible apply Kept.ite

theorem execDmaDrainDone_kept {z s : State} (h : Kept z s) (a1 : Fin 16) : KeptOut z (execDmaDrainDone a1 s) := by
  unfold execDmaDrainDone
  repeat' first
    | with_reducible assumption
    | ((try lift_lets); intro x; clear_value (e : x = _); refine Kept.use (s := z) (x := x) (Kept.via e ?_) (fun h => ?_))
    | ((try lift_lets); intro x; clear_value x)
    | with_reducible apply Kept.next
    | with_reducible apply KeptOut.ite
    | with_reducible apply State.dmaReads_kept
    | with_reducible apply Kept.ite

theorem State.dmaNext_kept {z s : State} (h : Kept z s) (a1 : Nat) (a2 : Fetched) : Kept z (State.dmaNext s a1 a2) := by
  unfold State.dmaNext
  repeat' first
    | with_reducible assumption
    | ((try lift_lets); intro x; clear_value (e : x = _); refine Kept.use (s := z) (x := x) (Kept.via e ?_) (fun h => ?_))
    | ((try lift_lets); intro x; clear_value x)
    | with_reducible apply State.setF_kept
    | with_reducible apply State.dmaIdle_kept
    | with_reducible apply State.raise_kept
    | with_reducible apply State.dmaBegin_kept
    | with_reducible apply Kept.ite

theorem State.dmaMove_kept {z s : State} (h : Kept z s) (a1 : Nat) (a2 : List Byte) : Kept z (State.dmaMove s a1 a2) := by
  unfold State.dmaMove
  repeat' first
    | with_reducible assumption
    | ((try lift_lets); intro x; clear_value (e : x = _); refine Kept.use (s := z) (x := x) (Kept.via e ?_) (fun h => ?_))
    | ((try lift_lets); intro x; clear_value x)
    | with_reducible apply State.tallyUnits_kept
    | with_reducible apply State.dmaWrite_kept
    | with_reducible apply State.setF_kept
    | with_reducible apply State.setChan_kept
    | with_reducible apply Kept.ite

theorem State.dmaBad_kept {z s : State} (h : Kept z s) (a1 : Nat) (a2 : Nat) (a3 : Nat) (a4 : Fetched) : Kept z (State.dmaBad s a1 a2 a3 a4) := by
  unfold State.dmaBad
  repeat' first
    | with_reducible assumption
    | ((try lift_lets); intro x; clear_value (e : x = _); refine Kept.use (s := z) (x := x) (Kept.via e ?_) (fun h => ?_))
    | ((try lift_lets); intro x; clear_value x)
    | with_reducible apply State.setF_kept
    | with_reducible apply State.setFs_kept
    | with_reducible apply State.addF_kept
    | with_reducible apply State.dmaBack_kept
    | with_reducible apply State.raise_kept
    | with_reducible apply State.dmaNext_kept
    | with_reducible apply State.dmaFetchErr_kept
    | with_reducible apply Kept.ite

theorem State.dmaGood_kept {z s : State} (h : Kept z s) (a1 : Nat) (a2 : Fetched) : Kept z (State.dmaGood s a1 a2) := by
  unfold State.dmaGood
  repeat' first
    | with_reducible assumption
    | ((try lift_lets); intro x; clear_value (e : x = _); refine Kept.use (s := z) (x := x) (Kept.via e ?_) (fun h => ?_))
    | ((try lift_lets); intro x; clear_value x)
    | with_reducible apply State.setF_kept
    | with_reducible apply State.dmaBack_kept
    | with_reducible apply State.raise_kept
    | with_reducible apply State.dmaNext_kept
    | with_reducible apply State.dmaFetchErr_kept
    | with_reducible apply Kept.ite

theorem State.dmaRun_kept {z s : State} (h : Kept z s) (a1 : Nat) (a2 : List Byte) (a3 : Ecc) (a4 : Fetched) : Kept z (State.dmaRun s a1 a2 a3 a4) := by
  unfold State.dmaRun
  repeat' first
    | with_reducible assumption
    | ((try lift_lets); intro x; clear_value (e : x = _); refine Kept.use (s := z) (x := x) (Kept.via e ?_) (fun h => ?_))
    | ((try lift_lets); intro x; clear_value x)
    | with_reducible apply State.dmaBad_kept
    | with_reducible apply State.dmaGood_kept
    | with_reducible apply State.dmaMove_kept
    | with_reducible apply State.ecc_kept
    | with_reducible apply Kept.ite

theorem execDmaDescDone_kept {z s : State} (h : Kept z s) (a1 : Fin 16) (a2 : List (BitVec 8)) (a3 : Ecc) (a4 : Fetched) : KeptOut z (execDmaDescDone a1 a2 a3 a4 s) := by
  unfold execDmaDescDone
  repeat' first
    | with_reducible assumption
    | with_reducible apply Kept.next
    | with_reducible apply KeptOut.ite
    | with_reducible apply State.dmaRun_kept
    | with_reducible apply Kept.ite

theorem State.dmaAborted_kept {z s : State} (h : Kept z s) (a1 : Nat) (a2 : List Byte) : Kept z (State.dmaAborted s a1 a2) := by
  unfold State.dmaAborted
  repeat' first
    | with_reducible assumption
    | ((try lift_lets); intro x; clear_value (e : x = _); refine Kept.use (s := z) (x := x) (Kept.via e ?_) (fun h => ?_))
    | ((try lift_lets); intro x; clear_value x)
    | with_reducible apply State.logRetry_kept
    | with_reducible apply State.setChan_kept
    | with_reducible apply State.raise_kept
    | with_reducible apply State.setF_kept
    | with_reducible apply State.dmaIdle_kept
    | with_reducible apply State.dmaMove_kept
    | with_reducible apply State.setFs_kept
    | with_reducible apply State.addF_kept
    | with_reducible apply State.dmaBack_kept
    | with_reducible apply State.dmaFetchErr_kept
    | with_reducible apply Kept.ite

theorem execDmaAbort_kept {z s : State} (h : Kept z s) (a1 : Fin 16) (a2 : BitVec 32) (a3 : List (BitVec 8)) (a4 : Bool) : KeptOut z (execDmaAbort a1 a2 a3 a4 s) := by
  unfold execDmaAbort
  repeat' first
    | with_reducible assumption
    | ((try lift_lets); intro x; clear_value (e : x = _); refine Kept.use (s := z) (x := x) (Kept.via e ?_) (fun h => ?_))
    | ((try lift_lets); intro x; clear_value x)
    | with_reducible apply Kept.next
    | with_reducible apply KeptOut.ite
    | with_reducible apply State.setF_kept
    | with_reducible apply State.dmaRun_kept
    | with_reducible apply State.dmaAborted_kept
    | with_reducible apply Kept.ite

theorem State.hostReadFail_kept {z s : State} (h : Kept z s) (a1 : Nat) (a2 : Nat) (a3 : List Byte) (a4 : Fetched) : Kept z (State.hostReadFail s a1 a2 a3 a4) := by
  unfold State.hostReadFail
  repeat' first
    | with_reducible assumption
    | ((try lift_lets); intro x; clear_value (e : x = _); refine Kept.use (s := z) (x := x) (Kept.via e ?_) (fun h => ?_))
    | ((try lift_lets); intro x; clear_value x)
    | with_reducible apply State.logRetry_kept
    | with_reducible apply State.setChan_kept
    | with_reducible apply State.dmaBad_kept
    | with_reducible apply State.dmaMove_kept
    | with_reducible apply State.hostRead_kept
    | with_reducible apply Kept.ite

theorem State.hostTransient_kept {z s : State} (h : Kept z s) (a1 : Nat) : Kept z (State.hostTransient s a1) := by
  unfold State.hostTransient
  repeat' first
    | with_reducible assumption
    | ((try lift_lets); intro x; clear_value (e : x = _); refine Kept.use (s := z) (x := x) (Kept.via e ?_) (fun h => ?_))
    | ((try lift_lets); intro x; clear_value x)
    | with_reducible apply State.raise_kept
    | with_reducible apply State.logRetry_kept
    | with_reducible apply State.tally_kept
    | with_reducible apply State.setChan_kept
    | with_reducible apply Kept.ite

theorem State.hostFetchFail_kept {z s : State} (h : Kept z s) (a1 : Nat) : Kept z (State.hostFetchFail s a1) := by
  unfold State.hostFetchFail
  repeat' first
    | with_reducible assumption
    | ((try lift_lets); intro x; clear_value (e : x = _); refine Kept.use (s := z) (x := x) (Kept.via e ?_) (fun h => ?_))
    | ((try lift_lets); intro x; clear_value x)
    | with_reducible apply State.dmaFetchErr_kept
    | with_reducible apply State.logRetry_kept
    | with_reducible apply State.hostRead_kept
    | with_reducible apply State.setChan_kept
    | with_reducible apply Kept.ite

theorem execPcieCompletion_kept {z s : State} (h : Kept z s) (a1 : Fin 16) (a2 : Completion) (a3 : List (BitVec 8)) (a4 : Fetched) : KeptOut z (execPcieCompletion a1 a2 a3 a4 s) := by
  unfold execPcieCompletion
  repeat' first
    | with_reducible assumption
    | ((try lift_lets); intro x; clear_value (e : x = _); refine Kept.use (s := z) (x := x) (Kept.via e ?_) (fun h => ?_))
    | ((try lift_lets); intro x; clear_value x)
    | with_reducible apply Kept.next
    | with_reducible apply KeptOut.ite
    | with_reducible apply State.dmaTake_kept
    | with_reducible apply State.hostTransient_kept
    | with_reducible apply State.hostFetchFail_kept
    | with_reducible apply State.hostReadFail_kept
    | with_reducible apply Kept.ite
    | split

theorem execPcieCplTimeout_kept {z s : State} (h : Kept z s) (a1 : Fin 16) (a2 : List (BitVec 8)) (a3 : Fetched) : KeptOut z (execPcieCplTimeout a1 a2 a3 s) := by
  unfold execPcieCplTimeout
  repeat' first
    | with_reducible assumption
    | ((try lift_lets); intro x; clear_value (e : x = _); refine Kept.use (s := z) (x := x) (Kept.via e ?_) (fun h => ?_))
    | ((try lift_lets); intro x; clear_value x)
    | with_reducible apply Kept.next
    | with_reducible apply KeptOut.ite
    | with_reducible apply State.hostFetchFail_kept
    | with_reducible apply State.hostReadFail_kept
    | with_reducible apply Kept.ite

/-! ### Link -/

theorem State.transmitOn_kept {z s : State} (h : Kept z s) (a1 : Nat) (a2 : Sent) : Kept z (State.transmitOn s a1 a2) := by
  unfold State.transmitOn
  repeat' first
    | with_reducible assumption
    | ((try lift_lets); intro x; clear_value (e : x = _); refine Kept.use (s := z) (x := x) (Kept.via e ?_) (fun h => ?_))
    | ((try lift_lets); intro x; clear_value x)
    | with_reducible apply State.setLane_kept
    | with_reducible apply Kept.ite

theorem State.transmit_kept {z s : State} (h : Kept z s) (a1 : Nat) (a2 : Nat) (a3 : Nat) (a4 : LaneMsg) : KeptP z (State.transmit s a1 a2 a3 a4) := by
  unfold State.transmit
  repeat' first
    | with_reducible assumption
    | ((try lift_lets); intro x; clear_value (e : x = _); refine Kept.use (s := z) (x := x) (Kept.via e ?_) (fun h => ?_))
    | ((try lift_lets); intro x; clear_value x)
    | with_reducible apply State.setLane_kept
    | with_reducible apply State.transmitOn_kept
    | with_reducible apply Kept.ite
    | with_reducible apply KeptP.ite
    | (split <;> (rename_i heq; refine Kept.use (s := z) (KeptP.at heq ?_) (fun h => ?_)))
    | with_reducible apply KeptP.pair
    | with_reducible apply KeptP.fst

theorem State.sendAs_kept {z s : State} (h : Kept z s) (a1 : Nat) (a2 : Nat) (a3 : Nat) (a4 : LaneMsg) : Kept z (State.sendAs s a1 a2 a3 a4) := by
  unfold State.sendAs
  repeat' first
    | with_reducible assumption
    | ((try lift_lets); intro x; clear_value (e : x = _); refine Kept.use (s := z) (x := x) (Kept.via e ?_) (fun h => ?_))
    | ((try lift_lets); intro x; clear_value x)
    | with_reducible apply State.transmit_kept
    | with_reducible apply State.setLane_kept
    | with_reducible apply Kept.ite
    | with_reducible apply KeptP.ite
    | (split <;> (rename_i heq; refine Kept.use (s := z) (KeptP.at heq ?_) (fun h => ?_)))
    | split
    | with_reducible apply KeptP.pair
    | with_reducible apply KeptP.fst

theorem State.nextSeq_kept {z s : State} (h : Kept z s) (a1 : Nat) : KeptQ z (State.nextSeq s a1) := by
  unfold State.nextSeq
  repeat' first
    | with_reducible assumption
    | ((try lift_lets); intro x; clear_value (e : x = _); refine Kept.use (s := z) (x := x) (Kept.via e ?_) (fun h => ?_))
    | ((try lift_lets); intro x; clear_value x)
    | with_reducible apply State.setLane_kept
    | (split <;> (rename_i heq; refine Kept.use (s := z) (KeptQ.at heq ?_) (fun h => ?_)))
    | with_reducible apply KeptQ.pair
    | with_reducible apply KeptQ.snd

theorem State.send_kept {z s : State} (h : Kept z s) (a1 : Nat) (a2 : LaneMsg) : Kept z (State.send s a1 a2) := by
  unfold State.send
  repeat' first
    | with_reducible assumption
    | with_reducible apply State.nextSeq_kept
    | with_reducible apply State.sendAs_kept
    | with_reducible apply State.draw_kept
    | with_reducible apply Kept.ite
    | with_reducible apply KeptQ.ite
    | (split <;> (rename_i heq; refine Kept.use (s := z) (KeptQ.at heq ?_) (fun h => ?_)))
    | split
    | with_reducible apply KeptQ.pair
    | with_reducible apply KeptQ.snd

theorem State.sendPackets_kept {z s : State} (h : Kept z s) (ps : List (Nat × List (Nat × LaneMsg))) : KeptR z (s.sendPackets ps) := by
  have step : ∀ (ps : List (Nat × List (Nat × LaneMsg))) (a : Nat × Nat × State), Kept z a.2.2 → Kept z (ps.foldl (fun a p =>
      let (qa, qb, s) := a
      let (q, s) := s.nextSeq p.1
      let s := p.2.foldl (fun s m => s.sendAs p.1 q m.1 m.2) s
      if p.1 % 2 = 0 then (q, qb, s) else (qa, q, s)) a).2.2 := by
    intro ps
    induction ps with
    | nil => exact fun a h => h
    | cons p r ih =>
      intro a ha
      apply ih
      have hq : Kept z (List.foldl (fun s m => s.sendAs p.1 (a.2.2.nextSeq p.1).1 m.1 m.2) (a.2.2.nextSeq p.1).2 p.2) :=
        Kept.foldl (fun s x h => State.sendAs_kept h _ _ _ _) (State.nextSeq_kept ha _).snd
      dsimp only
      split <;> exact hq
  exact ⟨step ps (0, 0, s) h⟩

theorem State.sendOf_kept {z s : State} (h : Kept z s) (a1 : Nat) (a2 : Int) (a3 : LaneMsg) : Kept z (State.sendOf s a1 a2 a3) := by
  unfold State.sendOf
  repeat' first
    | with_reducible assumption
    | ((try lift_lets); intro x; clear_value (e : x = _); refine Kept.use (s := z) (x := x) (Kept.via e ?_) (fun h => ?_))
    | ((try lift_lets); intro x; clear_value x)
    | with_reducible apply State.send_kept
    | with_reducible apply State.setStation_kept
    | with_reducible apply Kept.ite

theorem State.sendCommit_kept {z s : State} (h : Kept z s) (a1 : Nat) (a2 : Line) : Kept z (State.sendCommit s a1 a2) := by
  unfold State.sendCommit
  repeat' first
    | with_reducible assumption
    | with_reducible apply State.sendOf_kept
    | (with_reducible apply Kept.foldl; intro s x h)

theorem State.sendRevise_kept {z s : State} (h : Kept z s) (a1 : Nat) (a2 : Line) : Kept z (State.sendRevise s a1 a2) := by
  unfold State.sendRevise
  repeat' first
    | with_reducible assumption
    | with_reducible apply State.sendOf_kept
    | (with_reducible apply Kept.foldl; intro s x h)

theorem State.mapLine_kept {z s : State} (h : Kept z s) (a1 : Nat) (a2 : Int) (a3 : Line → Line) : Kept z (State.mapLine s a1 a2 a3) := by
  unfold State.mapLine
  repeat' first
    | with_reducible assumption
    | ((try lift_lets); intro x; clear_value (e : x = _); refine Kept.use (s := z) (x := x) (Kept.via e ?_) (fun h => ?_))
    | ((try lift_lets); intro x; clear_value x)
    | with_reducible apply State.setStation_kept
    | with_reducible apply Kept.ite

theorem State.missLine_kept {z s : State} (h : Kept z s) (a1 : Nat) (a2 : Int) (a3 : Nat) (a4 : Bool) : Kept z (State.missLine s a1 a2 a3 a4) := by
  unfold State.missLine
  repeat' first
    | with_reducible assumption
    | ((try lift_lets); intro x; clear_value (e : x = _); refine Kept.use (s := z) (x := x) (Kept.via e ?_) (fun h => ?_))
    | ((try lift_lets); intro x; clear_value x)
    | with_reducible apply State.mapFrameAt_kept
    | with_reducible apply Kept.ite

theorem State.latePacket_kept {z s : State} (h : Kept z s) (a1 : Nat) (a2 : Int) : Kept z (State.latePacket s a1 a2) := by
  unfold State.latePacket
  repeat' first
    | with_reducible assumption
    | ((try lift_lets); intro x; clear_value (e : x = _); refine Kept.use (s := z) (x := x) (Kept.via e ?_) (fun h => ?_))
    | ((try lift_lets); intro x; clear_value x)
    | with_reducible apply State.missLine_kept
    | with_reducible apply State.mapLine_kept
    | with_reducible apply State.raiseF_kept
    | with_reducible apply State.setF_kept
    | split

theorem State.giveUp_kept {z s : State} (h : Kept z s) (a1 : Nat) (a2 : Nat) (a3 : Int) : Kept z (State.giveUp s a1 a2 a3) := by
  unfold State.giveUp
  repeat' first
    | with_reducible assumption
    | ((try lift_lets); intro x; clear_value (e : x = _); refine Kept.use (s := z) (x := x) (Kept.via e ?_) (fun h => ?_))
    | ((try lift_lets); intro x; clear_value x)
    | with_reducible apply State.setLane_kept
    | with_reducible apply State.latePacket_kept
    | with_reducible apply Kept.ite
    | split

theorem State.moved_kept {z s : State} (h : Kept z s) (a1 : Nat) (a2 : OutMsg) : Kept z (State.moved s a1 a2) := by
  unfold State.moved
  repeat' first
    | with_reducible assumption
    | with_reducible apply State.giveUp_kept
    | with_reducible apply State.sendAs_kept
    | split

theorem State.refill_kept {z s : State} (h : Kept z s) (a1 : Nat) : Kept z (State.refill s a1) := by
  unfold State.refill
  repeat' first
    | with_reducible assumption
    | ((try lift_lets); intro x; clear_value (e : x = _); refine Kept.use (s := z) (x := x) (Kept.via e ?_) (fun h => ?_))
    | ((try lift_lets); intro x; clear_value x)
    | with_reducible apply State.setLane_kept
    | with_reducible apply State.sendAs_kept
    | with_reducible apply State.transmit_kept
    | with_reducible apply State.moved_kept
    | with_reducible apply Kept.ite
    | (with_reducible apply Kept.foldl; intro s x h)
    | with_reducible apply KeptP.ite
    | (split <;> (rename_i heq; refine Kept.use (s := z) (KeptP.at heq ?_) (fun h => ?_)))
    | with_reducible apply KeptP.pair
    | with_reducible apply KeptP.fst

theorem State.giveSpare_kept {z s : State} (h : Kept z s) (a1 : Nat) (a2 : Nat) : Kept z (State.giveSpare s a1 a2) := by
  unfold State.giveSpare
  repeat' first
    | with_reducible assumption
    | ((try lift_lets); intro x; clear_value (e : x = _); refine Kept.use (s := z) (x := x) (Kept.via e ?_) (fun h => ?_))
    | ((try lift_lets); intro x; clear_value x)
    | with_reducible apply State.setFs_kept
    | with_reducible apply State.setLane_kept
    | with_reducible apply State.send_kept
    | with_reducible apply State.refill_kept
    | with_reducible apply State.raiseF_kept
    | with_reducible apply State.degrade_kept
    | with_reducible apply State.tally_kept

theorem State.noSpare_kept {z s : State} (h : Kept z s) (a1 : Nat) : Kept z (State.noSpare s a1) := by
  unfold State.noSpare
  repeat' first
    | with_reducible assumption
    | ((try lift_lets); intro x; clear_value (e : x = _); refine Kept.use (s := z) (x := x) (Kept.via e ?_) (fun h => ?_))
    | ((try lift_lets); intro x; clear_value x)
    | with_reducible apply State.raiseOwn_kept
    | with_reducible apply State.mapCurrent_kept
    | with_reducible apply Kept.ite

theorem State.spareFails_kept {z s : State} (h : Kept z s) (a1 : Nat) : Kept z (State.spareFails s a1) := by
  unfold State.spareFails
  repeat' first
    | with_reducible assumption
    | with_reducible apply State.raise_kept
    | with_reducible apply State.setFs_kept

theorem State.failLane_kept {z s : State} (h : Kept z s) (a1 : Nat) : Kept z (State.failLane s a1) := by
  unfold State.failLane
  repeat' first
    | with_reducible assumption
    | ((try lift_lets); intro x; clear_value (e : x = _); refine Kept.use (s := z) (x := x) (Kept.via e ?_) (fun h => ?_))
    | ((try lift_lets); intro x; clear_value x)
    | with_reducible apply State.logRetry_kept
    | with_reducible apply State.spareFails_kept
    | with_reducible apply State.setF_kept
    | with_reducible apply State.setFs_kept
    | with_reducible apply State.giveSpare_kept
    | with_reducible apply State.noSpare_kept
    | with_reducible apply State.setLane_kept
    | with_reducible apply Kept.ite
    | split

theorem State.ackMsg_kept {z s : State} (h : Kept z s) (a1 : Nat) (a2 : OutMsg) : Kept z (State.ackMsg s a1 a2) := by
  unfold State.ackMsg
  repeat' first
    | with_reducible assumption
    | with_reducible apply State.raise_kept
    | with_reducible apply State.logRetry_kept
    | with_reducible apply State.addF_kept
    | with_reducible apply Kept.ite

theorem State.ackWhere_kept {z s : State} (h : Kept z s) (a1 : Nat) (a2 : OutMsg → Bool) : Kept z (State.ackWhere s a1 a2) := by
  unfold State.ackWhere
  repeat' first
    | with_reducible assumption
    | ((try lift_lets); intro x; clear_value (e : x = _); refine Kept.use (s := z) (x := x) (Kept.via e ?_) (fun h => ?_))
    | ((try lift_lets); intro x; clear_value x)
    | with_reducible apply State.setLane_kept
    | with_reducible apply State.ackMsg_kept
    | (with_reducible apply Kept.foldl; intro s x h)

theorem State.resend_kept {z s : State} (h : Kept z s) (a1 : Nat) (a2 : OutMsg) : Kept z (State.resend s a1 a2) := by
  unfold State.resend
  repeat' first
    | with_reducible assumption
    | ((try lift_lets); intro x; clear_value (e : x = _); refine Kept.use (s := z) (x := x) (Kept.via e ?_) (fun h => ?_))
    | ((try lift_lets); intro x; clear_value x)
    | with_reducible apply State.failLane_kept
    | with_reducible apply State.giveUp_kept
    | with_reducible apply State.transmit_kept
    | with_reducible apply State.tally_kept
    | with_reducible apply State.setLane_kept
    | with_reducible apply Kept.ite
    | with_reducible apply KeptP.ite
    | (split <;> (rename_i heq; refine Kept.use (s := z) (KeptP.at heq ?_) (fun h => ?_)))
    | split
    | with_reducible apply KeptP.pair
    | with_reducible apply KeptP.fst

theorem execAck_kept {z s : State} (h : Kept z s) (a1 : Fin 16) (a2 : BitVec 16) (a3 : BitVec 8) : KeptOut z (execAck a1 a2 a3 s) := by
  unfold execAck
  repeat' first
    | with_reducible assumption
    | with_reducible apply Kept.next
    | with_reducible apply State.ackWhere_kept

theorem execNack_kept {z s : State} (h : Kept z s) (a1 : Fin 16) (a2 : BitVec 16) (a3 : BitVec 8) (a4 : BitVec 8) : KeptOut z (execNack a1 a2 a3 a4 s) := by
  unfold execNack
  repeat' first
    | with_reducible assumption
    | ((try lift_lets); intro x; clear_value (e : x = _); refine Kept.use (s := z) (x := x) (Kept.via e ?_) (fun h => ?_))
    | ((try lift_lets); intro x; clear_value x)
    | with_reducible apply Kept.next
    | with_reducible apply KeptOut.ite
    | with_reducible apply State.setF_kept
    | with_reducible apply State.resend_kept
    | with_reducible apply Kept.ite
    | split

theorem execAckTimeout_kept {z s : State} (h : Kept z s) (a1 : Fin 16) : KeptOut z (execAckTimeout a1 s) := by
  unfold execAckTimeout
  repeat' first
    | with_reducible assumption
    | ((try lift_lets); intro x; clear_value (e : x = _); refine Kept.use (s := z) (x := x) (Kept.via e ?_) (fun h => ?_))
    | ((try lift_lets); intro x; clear_value x)
    | with_reducible apply Kept.next
    | with_reducible apply KeptOut.ite
    | with_reducible apply State.resend_kept
    | with_reducible apply State.setF_kept
    | with_reducible apply State.advanceTo_kept
    | with_reducible apply Kept.ite
    | split

theorem execSpareUlock_kept {z s : State} (h : Kept z s) (a1 : Fin 2) : KeptOut z (execSpareUlock a1 s) := by
  unfold execSpareUlock
  repeat' first
    | with_reducible assumption
    | ((try lift_lets); intro x; clear_value (e : x = _); refine Kept.use (s := z) (x := x) (Kept.via e ?_) (fun h => ?_))
    | ((try lift_lets); intro x; clear_value x)
    | with_reducible apply Kept.next
    | with_reducible apply KeptOut.ite
    | with_reducible apply State.setF_kept
    | with_reducible apply State.setLane_kept
    | with_reducible apply Kept.ite

theorem execLaneBlockLock_kept {z s : State} (h : Kept z s) (a1 : Fin 18) (a2 : Bool) : KeptOut z (execLaneBlockLock a1 a2 s) := by
  unfold execLaneBlockLock
  repeat' first
    | with_reducible assumption
    | with_reducible apply Kept.next
    | with_reducible apply State.setB_kept

theorem State.answerHub_kept {z s : State} (h : Kept z s) (a1 : Nat) (a2 : Bool) (a3 : Nat) : KeptP z (State.answerHub s a1 a2 a3) := by
  unfold State.answerHub
  repeat' first
    | with_reducible assumption
    | ((try lift_lets); intro x; clear_value (e : x = _); refine Kept.use (s := z) (x := x) (Kept.via e ?_) (fun h => ?_))
    | ((try lift_lets); intro x; clear_value x)
    | with_reducible apply State.send_kept
    | with_reducible apply State.setLane_kept
    | with_reducible apply State.draw_kept
    | with_reducible apply Kept.ite
    | with_reducible apply KeptP.ite
    | (split <;> (rename_i heq; refine Kept.use (s := z) (KeptP.at heq ?_) (fun h => ?_)))
    | split
    | with_reducible apply KeptP.pair
    | with_reducible apply KeptP.fst

/-! ### Beam -/

theorem State.fillScan_kept {z s : State} (h : Kept z s) (n : Nat) (m : Int) : Kept z (s.fillScan n m) :=
  Kept.scan h (tputs_twf _ _ _ _)

theorem State.sendScan_kept {z s : State} (h : Kept z s) (a1 : Nat) (a2 : Int) : Kept z (State.sendScan s a1 a2) := by
  unfold State.sendScan
  repeat' first
    | with_reducible assumption
    | ((try lift_lets); intro x; clear_value (e : x = _); refine Kept.use (s := z) (x := x) (Kept.via e ?_) (fun h => ?_))
    | ((try lift_lets); intro x; clear_value x)
    | with_reducible apply State.draw_kept
    | with_reducible apply State.setEp_kept
    | with_reducible apply Kept.ite

/-! ### Roles -/

theorem State.mapMallet_kept {z s : State} (h : Kept z s) (a1 : Nat) (a2 : Mallet → Mallet) : Kept z (State.mapMallet s a1 a2) := by
  unfold State.mapMallet
  repeat' first
    | with_reducible assumption
    | with_reducible apply State.setMallet_kept

theorem State.setPort_kept {z s : State} (h : Kept z s) (a1 : Nat) (a2 : Nat) (a3 : Nat) : Kept z (State.setPort s a1 a2 a3) := by
  unfold State.setPort
  repeat' first
    | with_reducible assumption
    | with_reducible apply State.setFs_kept

theorem State.loadImage_kept {z s : State} (h : Kept z s) (m : Nat) (bs : List Byte) : Kept z (s.loadImage m bs) := by
  unfold State.loadImage
  refine Kept.foldl (fun s x h => State.setPort_kept h _ _ _) (Kept.forBelow (fun i s h => State.setPort_kept h _ _ _) ?_)
  exact Kept.poison (Kept.dmem (Kept.imem h fun w => tputs_twf _ _ _ _ (twf_filter _ _ _ w)) fun w =>
    tputs_twf _ _ _ _ (twf_filter _ _ _ w))

theorem State.fly_kept {z s : State} (h : Kept z s) (a1 : Nat) (a2 : Option Nat) (a3 : Msg) : Kept z (State.fly s a1 a2 a3) := by
  unfold State.fly
  repeat' first
    | with_reducible assumption
    | (simp only [Kept.mk2_iff])
    | (simp only [Kept.mk_iff])

theorem State.bounce_kept {z s : State} (h : Kept z s) (a1 : Flight) (a2 : Nat) : Kept z (State.bounce s a1 a2) := by
  unfold State.bounce
  repeat' first
    | with_reducible assumption
    | ((try lift_lets); intro x; clear_value (e : x = _); refine Kept.use (s := z) (x := x) (Kept.via e ?_) (fun h => ?_))
    | ((try lift_lets); intro x; clear_value x)
    | with_reducible apply State.tally_kept
    | with_reducible apply State.raise_kept
    | with_reducible apply State.setMallet_kept
    | with_reducible apply State.setF_kept
    | with_reducible apply State.raiseX_kept
    | with_reducible apply State.flam_kept
    | with_reducible apply State.note_kept
    | with_reducible apply Kept.ite
    | split
    | (simp only [Kept.mk2_iff])
    | (simp only [Kept.mk_iff])

theorem State.keeperReply_kept {z s : State} (h : Kept z s) (a1 : Msg) (a2 : Nat) (a3 : List Nat) : Kept z (State.keeperReply s a1 a2 a3) := by
  unfold State.keeperReply
  repeat' first
    | with_reducible assumption
    | with_reducible apply State.fly_kept
    | (with_reducible apply Kept.foldl; intro s x h)

theorem execCarillonDeliver_kept {z s : State} (h : Kept z s) (a1 : BitVec 6) : KeptOut z (execCarillonDeliver a1 s) := by
  unfold execCarillonDeliver
  repeat' first
    | with_reducible assumption
    | ((try lift_lets); intro x; clear_value (e : x = _); refine Kept.use (s := z) (x := x) (Kept.via e ?_) (fun h => ?_))
    | ((try lift_lets); intro x; clear_value x)
    | with_reducible apply Kept.next
    | with_reducible apply KeptOut.ite
    | with_reducible apply State.bounce_kept
    | with_reducible apply State.raiseX_kept
    | with_reducible apply State.tally_kept
    | with_reducible apply State.keeperReply_kept
    | with_reducible apply State.setMallet_kept
    | with_reducible apply Kept.ite
    | split
    | (simp only [Kept.mk2_iff])
    | (simp only [Kept.mk_iff])

theorem State.returnMsg_kept {z s : State} (h : Kept z s) (a1 : Nat) (a2 : Msg) : Kept z (State.returnMsg s a1 a2) := by
  unfold State.returnMsg
  repeat' first
    | with_reducible assumption
    | ((try lift_lets); intro x; clear_value (e : x = _); refine Kept.use (s := z) (x := x) (Kept.via e ?_) (fun h => ?_))
    | ((try lift_lets); intro x; clear_value x)
    | with_reducible apply State.bounce_kept
    | with_reducible apply Kept.ite

theorem State.bumpEpoch_kept {z s : State} (h : Kept z s) (a1 : Nat) : Kept z (State.bumpEpoch s a1) := by
  unfold State.bumpEpoch
  repeat' first
    | with_reducible assumption
    | ((try lift_lets); intro x; clear_value (e : x = _); refine Kept.use (s := z) (x := x) (Kept.via e ?_) (fun h => ?_))
    | ((try lift_lets); intro x; clear_value x)
    | with_reducible apply State.mapMallet_kept
    | with_reducible apply State.setRole_kept
    | with_reducible apply Kept.ite
    | (with_reducible apply Kept.forBelow; intro i s h)

theorem State.startMallet_kept {z s : State} (h : Kept z s) (a1 : Nat) (a2 : Nat) : Kept z (State.startMallet s a1 a2) := by
  unfold State.startMallet
  repeat' first
    | with_reducible assumption
    | ((try lift_lets); intro x; clear_value (e : x = _); refine Kept.use (s := z) (x := x) (Kept.via e ?_) (fun h => ?_))
    | ((try lift_lets); intro x; clear_value x)
    | with_reducible apply State.mapMallet_kept

theorem State.assign_kept {z s : State} (h : Kept z s) (a1 : Nat) (a2 : Nat) : Kept z (State.assign s a1 a2) := by
  unfold State.assign
  repeat' first
    | with_reducible assumption
    | ((try lift_lets); intro x; clear_value (e : x = _); refine Kept.use (s := z) (x := x) (Kept.via e ?_) (fun h => ?_))
    | ((try lift_lets); intro x; clear_value x)
    | with_reducible apply State.bumpEpoch_kept
    | with_reducible apply State.setRole_kept
    | with_reducible apply State.mapMallet_kept

theorem State.pinAct_kept {z s : State} (h : Kept z s) (a1 : Nat) (a2 : Nat) (a3 : Nat) : Kept z (State.pinAct s a1 a2 a3) := by
  unfold State.pinAct
  repeat' first
    | with_reducible assumption
    | ((try lift_lets); intro x; clear_value (e : x = _); refine Kept.use (s := z) (x := x) (Kept.via e ?_) (fun h => ?_))
    | ((try lift_lets); intro x)
    | with_reducible apply Kept.ite
    | (simp only [Kept.mk2_iff])
    | (simp only [Kept.mk_iff])
    | (dsimp (zetaDelta := true) only)
    | (simp (zetaDelta := true) only [Kept.mk2_iff, Kept.mk_iff])

theorem execTimedPinAction_kept {z s : State} (h : Kept z s)  : KeptOut z (execTimedPinAction s) := by
  unfold execTimedPinAction
  repeat' first
    | with_reducible assumption
    | ((try lift_lets); intro x; clear_value (e : x = _); refine Kept.use (s := z) (x := x) (Kept.via e ?_) (fun h => ?_))
    | ((try lift_lets); intro x; clear_value x)
    | with_reducible apply Kept.next
    | with_reducible apply KeptOut.ite
    | with_reducible apply State.advanceTo_kept
    | with_reducible apply State.pinAct_kept
    | with_reducible apply Kept.ite
    | (with_reducible apply Kept.foldl; intro s x h)
    | split
    | (simp only [Kept.mk2_iff])
    | (simp only [Kept.mk_iff])

theorem State.pinAt_kept {z s : State} (h : Kept z s) (a1 : Nat) (a2 : Nat) (a3 : Nat) (a4 : Nat) : Kept z (State.pinAt s a1 a2 a3 a4) := by
  unfold State.pinAt
  repeat' first
    | with_reducible assumption
    | (simp only [Kept.mk2_iff])
    | (simp only [Kept.mk_iff])

theorem State.inNext_kept {z s : State} (h : Kept z s) (a1 : State → State) (hg1 : ∀ s, Kept z s → Kept z (a1 s)) : Kept z (State.inNext s a1) := by
  unfold State.inNext
  repeat' first
    | with_reducible assumption
    | ((try lift_lets); intro x; clear_value (e : x = _); refine Kept.use (s := z) (x := x) (Kept.via e ?_) (fun h => ?_))
    | ((try lift_lets); intro x; clear_value x)
    | with_reducible apply hg1
    | (split <;> (rename_i heq; refine Kept.use (s := z) (KeptP.at heq ?_) (fun h => ?_)))
    | (simp only [Kept.mk2_iff])
    | (simp only [Kept.mk_iff])
    | with_reducible apply KeptP.pair
    | with_reducible apply KeptP.fst

theorem State.portEvent_kept {z s : State} (h : Kept z s) (a1 : Nat) (a2 : Nat) (a3 : Nat) : Kept z (State.portEvent s a1 a2 a3) := by
  unfold State.portEvent
  repeat' first
    | with_reducible assumption
    | ((try lift_lets); intro x; clear_value (e : x = _); refine Kept.use (s := z) (x := x) (Kept.via e ?_) (fun h => ?_))
    | ((try lift_lets); intro x; clear_value x)
    | with_reducible apply State.setF_kept
    | with_reducible apply State.raise_kept
    | with_reducible apply Kept.ite
    | (simp only [Kept.mk2_iff])
    | (simp only [Kept.mk_iff])

theorem State.mailOut_kept {z s : State} (h : Kept z s) (a1 : Nat) (a2 : Msg) : Kept z (State.mailOut s a1 a2) := by
  unfold State.mailOut
  repeat' first
    | with_reducible assumption
    | with_reducible apply State.fly_kept

theorem State.countLine_kept {z s : State} (h : Kept z s) (a1 : Nat) (a2 : Int) (a3 : Nat) : Kept z (State.countLine s a1 a2 a3) := by
  unfold State.countLine
  repeat' first
    | with_reducible assumption
    | ((try lift_lets); intro x; clear_value (e : x = _); refine Kept.use (s := z) (x := x) (Kept.via e ?_) (fun h => ?_))
    | ((try lift_lets); intro x; clear_value x)
    | with_reducible apply State.lived_kept
    | with_reducible apply State.tally_kept
    | with_reducible apply State.mapFrameAt_kept

theorem State.commitLine_kept {z s : State} (h : Kept z s) (a1 : Nat) (a2 : Int) : Kept z (State.commitLine s a1 a2) := by
  unfold State.commitLine
  repeat' first
    | with_reducible assumption
    | ((try lift_lets); intro x; clear_value (e : x = _); refine Kept.use (s := z) (x := x) (Kept.via e ?_) (fun h => ?_))
    | ((try lift_lets); intro x; clear_value x)
    | with_reducible apply State.sendCommit_kept
    | with_reducible apply State.mapLine_kept
    | with_reducible apply State.countLine_kept
    | with_reducible apply Kept.ite
    | split

theorem State.fuserCheck_kept {z s : State} (h : Kept z s) (a1 : Nat) (a2 : Frame) : Kept z (State.fuserCheck s a1 a2) := by
  unfold State.fuserCheck
  repeat' first
    | with_reducible assumption
    | ((try lift_lets); intro x; clear_value (e : x = _); refine Kept.use (s := z) (x := x) (Kept.via e ?_) (fun h => ?_))
    | ((try lift_lets); intro x; clear_value x)
    | with_reducible apply State.setF_kept
    | with_reducible apply State.setZone_kept
    | with_reducible apply State.raiseF_kept
    | with_reducible apply State.mapFrameAt_kept
    | with_reducible apply Kept.ite
    | (with_reducible apply Kept.forBelow; intro i s h)
    | split

theorem State.leaveScan_kept {z s : State} (h : Kept z s) (a1 : Nat) (a2 : Int) : Kept z (State.leaveScan s a1 a2) := by
  unfold State.leaveScan
  repeat' first
    | with_reducible assumption
    | ((try lift_lets); intro x; clear_value (e : x = _); refine Kept.use (s := z) (x := x) (Kept.via e ?_) (fun h => ?_))
    | ((try lift_lets); intro x)
    | with_reducible apply State.setEp_kept
    | with_reducible apply State.tally_kept
    | with_reducible apply State.sendScan_kept
    | with_reducible apply State.missLine_kept
    | with_reducible apply State.fuserCheck_kept
    | with_reducible apply State.countLine_kept
    | with_reducible apply Kept.ite
    | (with_reducible apply Kept.foldl; intro s x h)
    | split
    | (dsimp (zetaDelta := true) only)
    | (simp (zetaDelta := true) only [Kept.mk2_iff, Kept.mk_iff])

theorem State.act_kept {z s : State} (h : Kept z s) (a1 : Nat) (a2 : Eff) : Kept z (State.act s a1 a2) := by
  unfold State.act
  repeat' first
    | with_reducible assumption
    | with_reducible apply State.commitLine_kept
    | with_reducible apply State.leaveScan_kept
    | with_reducible apply State.pinAt_kept
    | with_reducible refine State.inNext_kept ?_ _ (fun s h => ?_)
    | with_reducible apply State.portEvent_kept
    | with_reducible apply State.mailOut_kept
    | split

theorem leaveGo_kept {z s : State} (h : Kept z s) (m k : Nat) : Kept z (leaveGo m k s) := by
  induction k generalizing s with
  | zero => exact h
  | succ k ih =>
    unfold leaveGo
    dsimp only
    split
    · refine Kept.ite (State.squashAt_kept h _ _ _) (Kept.ite ?_ h)
      exact ih (State.act_kept (State.setMallet_kept h _ _) _ _)
    · exact h

theorem State.leaveReady_kept {z s : State} (h : Kept z s) (a1 : Nat) : Kept z (State.leaveReady s a1) := by
  unfold State.leaveReady
  repeat' first
    | with_reducible assumption
    | with_reducible apply leaveGo_kept

theorem State.confirm_kept {z s : State} (h : Kept z s) (a1 : Nat) (a2 : Eff → Bool) : Kept z (State.confirm s a1 a2) := by
  unfold State.confirm
  repeat' first
    | with_reducible assumption
    | ((try lift_lets); intro x; clear_value (e : x = _); refine Kept.use (s := z) (x := x) (Kept.via e ?_) (fun h => ?_))
    | ((try lift_lets); intro x; clear_value x)
    | with_reducible apply State.mapMallet_kept
    | with_reducible apply State.leaveReady_kept
    | with_reducible apply Kept.ite

theorem State.haltEffects_kept {z s : State} (h : Kept z s) (a1 : Nat) : Kept z (State.haltEffects s a1) := by
  unfold State.haltEffects
  repeat' first
    | with_reducible assumption
    | ((try lift_lets); intro x; clear_value (e : x = _); refine Kept.use (s := z) (x := x) (Kept.via e ?_) (fun h => ?_))
    | ((try lift_lets); intro x; clear_value x)
    | with_reducible apply State.setMallet_kept
    | with_reducible apply State.leaveReady_kept
    | with_reducible apply State.tally_kept

theorem State.takeover_kept {z s : State} (h : Kept z s) (a1 : Nat) (a2 : Nat) : Kept z (State.takeover s a1 a2) := by
  unfold State.takeover
  repeat' first
    | with_reducible assumption
    | ((try lift_lets); intro x; clear_value (e : x = _); refine Kept.use (s := z) (x := x) (Kept.via e ?_) (fun h => ?_))
    | ((try lift_lets); intro x; clear_value x)
    | with_reducible apply State.assign_kept
    | with_reducible apply State.mapMallet_kept
    | with_reducible apply State.returnMsg_kept
    | with_reducible apply State.raise_kept
    | with_reducible apply Kept.ite
    | (with_reducible apply Kept.foldl; intro s x h)
    | split

theorem State.halt_kept {z s : State} (h : Kept z s) (a1 : Nat) (a2 : Nat) : Kept z (State.halt s a1 a2) := by
  unfold State.halt
  repeat' first
    | with_reducible assumption
    | ((try lift_lets); intro x; clear_value (e : x = _); refine Kept.use (s := z) (x := x) (Kept.via e ?_) (fun h => ?_))
    | ((try lift_lets); intro x; clear_value x)
    | with_reducible apply State.setMallet_kept
    | with_reducible apply State.haltEffects_kept
    | with_reducible apply State.raise_kept
    | with_reducible apply State.takeover_kept
    | with_reducible apply Kept.ite
    | split

theorem execTakeoverStart_kept {z s : State} (h : Kept z s) (a1 : Fin 36) : KeptOut z (execTakeoverStart a1 s) := by
  unfold execTakeoverStart
  repeat' first
    | with_reducible assumption
    | ((try lift_lets); intro x; clear_value (e : x = _); refine Kept.use (s := z) (x := x) (Kept.via e ?_) (fun h => ?_))
    | ((try lift_lets); intro x; clear_value x)
    | with_reducible apply Kept.next
    | with_reducible apply State.loadImage_kept
    | with_reducible apply State.raise_kept
    | with_reducible apply State.tally_kept
    | with_reducible apply State.startMallet_kept
    | split

theorem State.release_kept {z s : State} (h : Kept z s) (a1 : Nat) : Kept z (State.release s a1) := by
  unfold State.release
  repeat' first
    | with_reducible assumption
    | ((try lift_lets); intro x; clear_value (e : x = _); refine Kept.use (s := z) (x := x) (Kept.via e ?_) (fun h => ?_))
    | ((try lift_lets); intro x; clear_value x)
    | with_reducible apply State.setRole_kept
    | with_reducible apply State.mapMallet_kept
    | with_reducible apply State.haltEffects_kept
    | split

theorem State.assignDone_kept {z s : State} (h : Kept z s) (a1 : Nat) (a2 : Nat) : Kept z (State.assignDone s a1 a2) := by
  unfold State.assignDone
  repeat' first
    | with_reducible assumption
    | with_reducible apply State.setFs_kept

theorem execRoleAssign_kept {z s : State} (h : Kept z s) (a1 : BitVec 6) (a2 : BitVec 6) : KeptOut z (execRoleAssign a1 a2 s) := by
  unfold execRoleAssign
  repeat' first
    | with_reducible assumption
    | ((try lift_lets); intro x; clear_value (e : x = _); refine Kept.use (s := z) (x := x) (Kept.via e ?_) (fun h => ?_))
    | ((try lift_lets); intro x; clear_value x)
    | with_reducible apply Kept.next
    | with_reducible apply KeptOut.ite
    | with_reducible apply State.assignDone_kept
    | with_reducible apply State.startMallet_kept
    | with_reducible apply State.loadImage_kept
    | with_reducible apply State.assign_kept
    | with_reducible apply State.release_kept
    | with_reducible apply Kept.ite
    | split

theorem execRoleRelease_kept {z s : State} (h : Kept z s) (a1 : BitVec 6) : KeptOut z (execRoleRelease a1 s) := by
  unfold execRoleRelease
  repeat' first
    | with_reducible assumption
    | ((try lift_lets); intro x; clear_value (e : x = _); refine Kept.use (s := z) (x := x) (Kept.via e ?_) (fun h => ?_))
    | ((try lift_lets); intro x; clear_value x)
    | with_reducible apply Kept.next
    | with_reducible apply KeptOut.ite
    | with_reducible apply State.assignDone_kept
    | with_reducible apply State.release_kept
    | with_reducible apply Kept.ite

theorem execHostHalt_kept {z s : State} (h : Kept z s) (a1 : Fin 36) : KeptOut z (execHostHalt a1 s) := by
  unfold execHostHalt
  repeat' first
    | with_reducible assumption
    | with_reducible apply Kept.next
    | with_reducible apply State.halt_kept
    | split

theorem execHostSend_kept {z s : State} (h : Kept z s)  : KeptOut z (execHostSend s) := by
  unfold execHostSend
  repeat' first
    | with_reducible assumption
    | ((try lift_lets); intro x; clear_value (e : x = _); refine Kept.use (s := z) (x := x) (Kept.via e ?_) (fun h => ?_))
    | ((try lift_lets); intro x; clear_value x)
    | with_reducible apply Kept.next
    | with_reducible apply State.fly_kept

theorem execHostRxPop_kept {z s : State} (h : Kept z s)  : KeptOut z (execHostRxPop s) := by
  unfold execHostRxPop
  repeat' first
    | with_reducible assumption
    | with_reducible apply Kept.next
    | (simp only [Kept.mk2_iff])
    | (simp only [Kept.mk_iff])

theorem State.exception_kept {z s : State} (h : Kept z s) (a1 : Nat) (a2 : Nat) (a3 : Nat) (a4 : Nat) : Kept z (State.exception s a1 a2 a3 a4) := by
  unfold State.exception
  repeat' first
    | with_reducible assumption
    | ((try lift_lets); intro x; clear_value (e : x = _); refine Kept.use (s := z) (x := x) (Kept.via e ?_) (fun h => ?_))
    | ((try lift_lets); intro x; clear_value x)
    | with_reducible apply State.tally_kept
    | with_reducible apply State.setF_kept
    | with_reducible apply State.halt_kept
    | with_reducible apply State.raise_kept
    | with_reducible apply State.squashAt_kept
    | with_reducible apply State.mapMallet_kept
    | with_reducible apply Kept.ite

theorem execWdog_kept {z s : State} (h : Kept z s) (a1 : Fin 36) : KeptOut z (execWdog a1 s) := by
  unfold execWdog
  repeat' first
    | with_reducible assumption
    | ((try lift_lets); intro x; clear_value (e : x = _); refine Kept.use (s := z) (x := x) (Kept.via e ?_) (fun h => ?_))
    | ((try lift_lets); intro x; clear_value x)
    | with_reducible apply Kept.next
    | with_reducible apply KeptOut.ite
    | with_reducible apply State.advanceTo_kept
    | with_reducible apply State.exception_kept
    | with_reducible apply State.mapMallet_kept
    | with_reducible apply Kept.ite

/-! ### Enter -/

theorem State.mapFrame_kept {z s : State} (h : Kept z s) (a1 : Nat) (a2 : Nat) (a3 : Frame → Frame) : Kept z (State.mapFrame s a1 a2 a3) := by
  unfold State.mapFrame
  repeat' first
    | with_reducible assumption
    | ((try lift_lets); intro x; clear_value (e : x = _); refine Kept.use (s := z) (x := x) (Kept.via e ?_) (fun h => ?_))
    | ((try lift_lets); intro x; clear_value x)
    | with_reducible apply State.setStation_kept
    | with_reducible apply Kept.ite

theorem State.showDrop_kept {z s : State} (h : Kept z s) (a1 : Nat) (a2 : Nat) : Kept z (State.showDrop s a1 a2) := by
  unfold State.showDrop
  repeat' first
    | with_reducible assumption
    | ((try lift_lets); intro x; clear_value (e : x = _); refine Kept.use (s := z) (x := x) (Kept.via e ?_) (fun h => ?_))
    | ((try lift_lets); intro x; clear_value x)
    | with_reducible apply State.setFs_kept
    | with_reducible apply State.raiseF_kept
    | with_reducible apply State.setGear_kept
    | with_reducible apply Kept.ite

theorem State.beginDrop_kept {z s : State} (h : Kept z s) (a1 : Nat) (a2 : Frame) (a3 : Nat) (a4 : Int) : Kept z (State.beginDrop s a1 a2 a3 a4) := by
  unfold State.beginDrop
  repeat' first
    | with_reducible assumption
    | ((try lift_lets); intro x; clear_value (e : x = _); refine Kept.use (s := z) (x := x) (Kept.via e ?_) (fun h => ?_))
    | ((try lift_lets); intro x; clear_value x)
    | with_reducible apply State.mapFrame_kept
    | with_reducible apply State.raiseU_kept
    | with_reducible apply State.abandonIn_kept
    | with_reducible apply State.showDrop_kept
    | with_reducible apply Kept.ite

theorem State.enterSpeed_kept {z s : State} (h : Kept z s) (a1 : Nat) (a2 : Frame) (a3 : Int) : Kept z (State.enterSpeed s a1 a2 a3) := by
  unfold State.enterSpeed
  repeat' first
    | with_reducible assumption
    | ((try lift_lets); intro x; clear_value (e : x = _); refine Kept.use (s := z) (x := x) (Kept.via e ?_) (fun h => ?_))
    | ((try lift_lets); intro x; clear_value x)
    | with_reducible apply State.beginDrop_kept
    | with_reducible apply Kept.ite
    | split

theorem State.enterHold_kept {z s : State} (h : Kept z s) (a1 : Nat) (a2 : Frame) : Kept z (State.enterHold s a1 a2) := by
  unfold State.enterHold
  repeat' first
    | with_reducible assumption
    | ((try lift_lets); intro x; clear_value (e : x = _); refine Kept.use (s := z) (x := x) (Kept.via e ?_) (fun h => ?_))
    | ((try lift_lets); intro x; clear_value x)
    | with_reducible apply State.mapFrame_kept
    | with_reducible apply Kept.ite

theorem State.dropHold_kept {z s : State} (h : Kept z s) (a1 : Nat) : Kept z (State.dropHold s a1) := by
  unfold State.dropHold
  repeat' first
    | with_reducible assumption
    | with_reducible apply State.setFs_kept
    | with_reducible apply State.setLbias_kept
    | with_reducible apply Kept.ite

theorem State.noteSpoil_kept {z s : State} (h : Kept z s) (a1 : Nat) (a2 : Nat) : Kept z (State.noteSpoil s a1 a2) := by
  unfold State.noteSpoil
  repeat' first
    | with_reducible assumption
    | ((try lift_lets); intro x; clear_value (e : x = _); refine Kept.use (s := z) (x := x) (Kept.via e ?_) (fun h => ?_))
    | ((try lift_lets); intro x; clear_value x)
    | with_reducible apply State.setHead_kept
    | with_reducible apply Kept.ite

theorem State.enterTemp_kept {z s : State} (h : Kept z s) (a1 : Nat) (a2 : Frame) : Kept z (State.enterTemp s a1 a2) := by
  unfold State.enterTemp
  repeat' first
    | with_reducible assumption
    | ((try lift_lets); intro x; clear_value (e : x = _); refine Kept.use (s := z) (x := x) (Kept.via e ?_) (fun h => ?_))
    | ((try lift_lets); intro x; clear_value x)
    | with_reducible apply State.setHead_kept
    | with_reducible apply State.setF_kept
    | with_reducible apply State.mapFrame_kept
    | with_reducible apply State.noteSpoil_kept
    | with_reducible apply State.setFs_kept
    | with_reducible apply Kept.ite
    | (with_reducible apply Kept.foldl; intro s x h)
    | (with_reducible apply Kept.forBelow; intro i s h)
    | split

theorem State.enterFrame_kept {z s : State} (h : Kept z s) (a1 : Nat) (a2 : Frame) : Kept z (State.enterFrame s a1 a2) := by
  unfold State.enterFrame
  repeat' first
    | with_reducible assumption
    | with_reducible apply State.enterTemp_kept
    | with_reducible apply State.enterSpeed_kept
    | with_reducible apply State.enterHold_kept
    | with_reducible apply State.mapFrame_kept
    | with_reducible apply Kept.ite

theorem State.enterAt_kept {z s : State} (h : Kept z s) (a1 : Nat) (a2 : Int) : Kept z (State.enterAt s a1 a2) := by
  unfold State.enterAt
  repeat' first
    | with_reducible assumption
    | with_reducible apply State.enterFrame_kept
    | with_reducible apply Kept.ite
    | split

/-! ### Spec -/

theorem State.loseLine_kept {z s : State} (h : Kept z s) (a1 : Nat) (a2 : Int) (a3 : Nat) : Kept z (State.loseLine s a1 a2 a3) := by
  unfold State.loseLine
  repeat' first
    | with_reducible assumption
    | ((try lift_lets); intro x; clear_value (e : x = _); refine Kept.use (s := z) (x := x) (Kept.via e ?_) (fun h => ?_))
    | ((try lift_lets); intro x; clear_value x)
    | with_reducible apply State.missLine_kept
    | with_reducible apply State.mapLine_kept
    | with_reducible apply State.tally_kept
    | with_reducible apply State.addF_kept
    | with_reducible apply State.raiseF_kept
    | with_reducible apply State.setF_kept
    | with_reducible apply Kept.ite

theorem State.dropLine_kept {z s : State} (h : Kept z s) (a1 : Nat) (a2 : Nat) (a3 : Int) (a4 : Nat) : Kept z (State.dropLine s a1 a2 a3 a4) := by
  unfold State.dropLine
  repeat' first
    | with_reducible assumption
    | ((try lift_lets); intro x; clear_value (e : x = _); refine Kept.use (s := z) (x := x) (Kept.via e ?_) (fun h => ?_))
    | ((try lift_lets); intro x; clear_value x)
    | with_reducible apply State.setStation_kept

theorem State.underrun_kept {z s : State} (h : Kept z s) (a1 : Nat) (a2 : Int) (a3 : Frame) : Kept z (State.underrun s a1 a2 a3) := by
  unfold State.underrun
  repeat' first
    | with_reducible assumption
    | ((try lift_lets); intro x; clear_value (e : x = _); refine Kept.use (s := z) (x := x) (Kept.via e ?_) (fun h => ?_))
    | ((try lift_lets); intro x; clear_value x)
    | with_reducible apply State.mapFrameAt_kept
    | with_reducible apply State.spoilAt_kept
    | with_reducible apply State.raiseOwn_kept
    | with_reducible apply State.setF_kept
    | with_reducible apply Kept.ite

theorem State.waveSwap_kept {z s : State} (h : Kept z s) (a1 : Nat) : Kept z (State.waveSwap s a1) := by
  unfold State.waveSwap
  repeat' first
    | with_reducible assumption
    | with_reducible apply State.setFs_kept

theorem State.waveBegin_kept {z s : State} (h : Kept z s) (a1 : Nat) (a2 : Option Nat) (a3 : Nat) : Kept z (State.waveBegin s a1 a2 a3) := by
  unfold State.waveBegin
  repeat' first
    | with_reducible assumption
    | ((try lift_lets); intro x; clear_value (e : x = _); refine Kept.use (s := z) (x := x) (Kept.via e ?_) (fun h => ?_))
    | ((try lift_lets); intro x; clear_value x)
    | with_reducible apply State.setStation_kept
    | with_reducible apply State.setF_kept
    | with_reducible apply State.raise_kept
    | with_reducible apply State.waveSwap_kept
    | with_reducible apply Kept.ite
    | split
    | (simp only [Kept.mk2_iff])
    | (simp only [Kept.mk_iff])

theorem State.waveFor_kept {z s : State} (h : Kept z s) (a1 : Nat) (a2 : Option Frame) : KeptQ z (State.waveFor s a1 a2) := by
  unfold State.waveFor
  repeat' first
    | with_reducible assumption
    | ((try lift_lets); intro x; clear_value (e : x = _); refine Kept.use (s := z) (x := x) (Kept.via e ?_) (fun h => ?_))
    | ((try lift_lets); intro x; clear_value x)
    | with_reducible apply State.waveBegin_kept
    | with_reducible apply Kept.ite
    | with_reducible apply KeptQ.ite
    | (split <;> (rename_i heq; refine Kept.use (s := z) (KeptQ.at heq ?_) (fun h => ?_)))
    | split
    | with_reducible apply KeptQ.pair
    | with_reducible apply KeptQ.snd

theorem State.beginFrame_kept {z s : State} (h : Kept z s) (a1 : Nat) (a2 : Int) : Kept z (State.beginFrame s a1 a2) := by
  unfold State.beginFrame
  repeat' first
    | with_reducible assumption
    | ((try lift_lets); intro x; clear_value (e : x = _); refine Kept.use (s := z) (x := x) (Kept.via e ?_) (fun h => ?_))
    | ((try lift_lets); intro x; clear_value x)
    | with_reducible apply State.mapFrameAt_kept
    | with_reducible apply Kept.ite

theorem State.barFrame_kept {z s : State} (h : Kept z s) (a1 : Nat) (a2 : Int) (a3 : Nat) : Kept z (State.barFrame s a1 a2 a3) := by
  unfold State.barFrame
  repeat' first
    | with_reducible assumption
    | with_reducible apply State.mapFrameAt_kept

theorem State.stageFirst_kept {z s : State} (h : Kept z s) (a1 : Nat) (a2 : Nat) (a3 : Int) (a4 : Nat) : KeptP z (State.stageFirst s a1 a2 a3 a4) := by
  unfold State.stageFirst
  repeat' first
    | with_reducible assumption
    | ((try lift_lets); intro x; clear_value (e : x = _); refine Kept.use (s := z) (x := x) (Kept.via e ?_) (fun h => ?_))
    | ((try lift_lets); intro x; clear_value x)
    | with_reducible apply State.enterAt_kept
    | with_reducible apply State.dropLine_kept
    | with_reducible apply State.loseLine_kept
    | with_reducible apply State.barFrame_kept
    | with_reducible apply State.setF_kept
    | with_reducible apply State.spoilAt_kept
    | with_reducible apply State.raiseOwn_kept
    | with_reducible apply State.mapFrameAt_kept
    | with_reducible apply State.tally_kept
    | with_reducible apply State.underrun_kept
    | with_reducible apply State.beginFrame_kept
    | with_reducible apply State.waveFor_kept
    | with_reducible apply State.sendPackets_kept
    | with_reducible apply State.setStation_kept
    | with_reducible apply State.latePacket_kept
    | with_reducible apply Kept.ite
    | with_reducible apply KeptP.ite
    | with_reducible apply KeptR.ite
    | with_reducible apply KeptQ.ite
    | (split <;> (rename_i heq; refine Kept.use (s := z) (KeptP.at heq ?_) (fun h => ?_)))
    | (split <;> (rename_i heq; refine Kept.use (s := z) (KeptR.at heq ?_) (fun h => ?_)))
    | (split <;> (rename_i heq; refine Kept.use (s := z) (KeptQ.at heq ?_) (fun h => ?_)))
    | split
    | with_reducible apply KeptP.pair
    | with_reducible apply KeptR.pair
    | with_reducible apply KeptQ.pair
    | with_reducible apply KeptP.fst
    | with_reducible apply KeptR.last
    | with_reducible apply KeptQ.snd

theorem State.stageAgain_kept {z s : State} (h : Kept z s) (a1 : Nat) (a2 : Nat) (a3 : Line) (a4 : Nat) : KeptP z (State.stageAgain s a1 a2 a3 a4) := by
  unfold State.stageAgain
  repeat' first
    | with_reducible assumption
    | ((try lift_lets); intro x; clear_value (e : x = _); refine Kept.use (s := z) (x := x) (Kept.via e ?_) (fun h => ?_))
    | ((try lift_lets); intro x; clear_value x)
    | with_reducible apply State.loseLine_kept
    | with_reducible apply State.spoilAt_kept
    | with_reducible apply State.setF_kept
    | with_reducible apply State.raiseOwn_kept
    | with_reducible apply State.tally_kept
    | with_reducible apply State.mapLine_kept
    | with_reducible apply State.sendRevise_kept
    | with_reducible apply Kept.ite
    | with_reducible apply KeptP.ite
    | (split <;> (rename_i heq; refine Kept.use (s := z) (KeptP.at heq ?_) (fun h => ?_)))
    | with_reducible apply KeptP.pair
    | with_reducible apply KeptP.fst

theorem State.stageLine_kept {z s : State} (h : Kept z s) (a1 : Nat) (a2 : Nat) (a3 : Int) (a4 : Nat) : KeptP z (State.stageLine s a1 a2 a3 a4) := by
  unfold State.stageLine
  repeat' first
    | with_reducible assumption
    | with_reducible apply State.stageAgain_kept
    | with_reducible apply State.stageFirst_kept
    | with_reducible apply Kept.ite
    | with_reducible apply KeptP.ite
    | (split <;> (rename_i heq; refine Kept.use (s := z) (KeptP.at heq ?_) (fun h => ?_)))
    | split
    | with_reducible apply KeptP.pair
    | with_reducible apply KeptP.fst

theorem State.closeUnbegunAs_kept {z s : State} (h : Kept z s) (a1 : Nat) (a2 : Frame) (a3 : Bool) : Kept z (State.closeUnbegunAs s a1 a2 a3) := by
  unfold State.closeUnbegunAs
  repeat' first
    | with_reducible assumption
    | ((try lift_lets); intro x; clear_value (e : x = _); refine Kept.use (s := z) (x := x) (Kept.via e ?_) (fun h => ?_))
    | ((try lift_lets); intro x; clear_value x)
    | with_reducible apply State.closeFrame_kept
    | with_reducible apply Kept.ite
    | split

theorem State.closeUnbegun_kept {z s : State} (h : Kept z s) (a1 : Nat) (a2 : Frame) : Kept z (State.closeUnbegun s a1 a2) := by
  unfold State.closeUnbegun
  repeat' first
    | with_reducible assumption
    | with_reducible apply State.closeUnbegunAs_kept
    | with_reducible apply Kept.ite

theorem closeDone_kept {z s : State} (h : Kept z s) (n : Nat) (p : Frame → Bool) (l : List Frame) : Kept z (closeDone n p l s) := by
  induction l generalizing s with
  | nil => exact h
  | cons x r ih =>
    unfold closeDone
    split
    · exact ih (State.closeFrame_kept h _ _)
    · split
      · exact ih (State.closeUnbegun_kept h _ _)
      · exact h

theorem State.closeReported_kept {z s : State} (h : Kept z s) (a1 : Nat) : Kept z (State.closeReported s a1) := by
  unfold State.closeReported
  repeat' first
    | with_reducible assumption
    | ((try lift_lets); intro x; clear_value (e : x = _); refine Kept.use (s := z) (x := x) (Kept.via e ?_) (fun h => ?_))
    | ((try lift_lets); intro x; clear_value x)
    | with_reducible apply State.marksSince_kept
    | with_reducible apply closeDone_kept

theorem State.countPend_kept {z s : State} (h : Kept z s)  : Kept z (State.countPend s) := by
  unfold State.countPend
  repeat' first
    | with_reducible assumption
    | with_reducible apply State.setF_kept

theorem State.freeSlot_kept {z s : State} (h : Kept z s) (a1 : Nat) : Kept z (State.freeSlot s a1) := by
  unfold State.freeSlot
  repeat' first
    | with_reducible assumption
    | ((try lift_lets); intro x; clear_value (e : x = _); refine Kept.use (s := z) (x := x) (Kept.via e ?_) (fun h => ?_))
    | ((try lift_lets); intro x; clear_value x)
    | with_reducible apply State.countPend_kept
    | with_reducible apply State.setF_kept
    | with_reducible apply Kept.ite

theorem State.csReject_kept {z s : State} (h : Kept z s) (a1 : Nat) (a2 : Nat) : Kept z (State.csReject s a1 a2) := by
  unfold State.csReject
  repeat' first
    | with_reducible assumption
    | with_reducible apply State.raise_kept
    | with_reducible apply State.setFs_kept

theorem State.csTake_kept {z s : State} (h : Kept z s) (a1 : Nat) (a2 : Nat) : Kept z (State.csTake s a1 a2) := by
  unfold State.csTake
  repeat' first
    | with_reducible assumption
    | ((try lift_lets); intro x; clear_value (e : x = _); refine Kept.use (s := z) (x := x) (Kept.via e ?_) (fun h => ?_))
    | ((try lift_lets); intro x; clear_value x)
    | with_reducible apply State.setFs_kept
    | with_reducible apply State.setPair_kept
    | with_reducible apply State.raise_kept
    | with_reducible apply State.countPend_kept
    | (simp only [Kept.mk2_iff])
    | (simp only [Kept.mk_iff])

theorem State.csQueueAt_kept {z s : State} (h : Kept z s) (a1 : Nat) : Kept z (State.csQueueAt s a1) := by
  unfold State.csQueueAt
  repeat' first
    | with_reducible assumption
    | with_reducible apply State.csReject_kept
    | with_reducible apply State.csTake_kept
    | with_reducible apply Kept.ite
    | split

theorem execCsQueue_kept {z s : State} (h : Kept z s) (a1 : Ecc) : KeptOut z (execCsQueue a1 s) := by
  unfold execCsQueue
  repeat' first
    | with_reducible assumption
    | ((try lift_lets); intro x; clear_value (e : x = _); refine Kept.use (s := z) (x := x) (Kept.via e ?_) (fun h => ?_))
    | ((try lift_lets); intro x; clear_value x)
    | with_reducible apply Kept.next
    | with_reducible apply KeptOut.ite
    | with_reducible apply State.csQueueAt_kept
    | with_reducible apply State.ecc_kept
    | with_reducible apply Kept.ite

theorem State.disengageAll_kept {z s : State} (h : Kept z s) (a1 : Nat) (a2 : Nat) : Kept z (State.disengageAll s a1 a2) := by
  unfold State.disengageAll
  repeat' first
    | with_reducible assumption
    | ((try lift_lets); intro x; clear_value (e : x = _); refine Kept.use (s := z) (x := x) (Kept.via e ?_) (fun h => ?_))
    | ((try lift_lets); intro x; clear_value x)
    | with_reducible apply State.disengage_kept
    | with_reducible apply State.setF_kept
    | with_reducible apply Kept.ite

theorem State.unhook_kept {z s : State} (h : Kept z s) (a1 : Nat) (a2 : Nat) : Kept z (State.unhook s a1 a2) := by
  unfold State.unhook
  repeat' first
    | with_reducible assumption
    | ((try lift_lets); intro x; clear_value (e : x = _); refine Kept.use (s := z) (x := x) (Kept.via e ?_) (fun h => ?_))
    | ((try lift_lets); intro x; clear_value x)
    | with_reducible apply State.disengageAll_kept
    | with_reducible apply State.discardProv_kept

theorem State.csCancel_kept {z s : State} (h : Kept z s) (a1 : Nat) : Kept z (State.csCancel s a1) := by
  unfold State.csCancel
  repeat' first
    | with_reducible assumption
    | ((try lift_lets); intro x; clear_value (e : x = _); refine Kept.use (s := z) (x := x) (Kept.via e ?_) (fun h => ?_))
    | ((try lift_lets); intro x; clear_value x)
    | with_reducible apply State.unhook_kept
    | with_reducible apply State.raise_kept
    | with_reducible apply State.countPend_kept
    | with_reducible apply State.setFs_kept
    | (with_reducible apply Kept.foldl; intro s x h)

theorem execCsCancel_kept {z s : State} (h : Kept z s)  : KeptOut z (execCsCancel s) := by
  unfold execCsCancel
  repeat' first
    | with_reducible assumption
    | ((try lift_lets); intro x; clear_value (e : x = _); refine Kept.use (s := z) (x := x) (Kept.via e ?_) (fun h => ?_))
    | ((try lift_lets); intro x; clear_value x)
    | with_reducible apply Kept.next
    | with_reducible apply KeptOut.ite
    | with_reducible apply State.csReject_kept
    | with_reducible apply State.csCancel_kept
    | with_reducible apply State.setFs_kept
    | with_reducible apply Kept.ite
    | (with_reducible apply Kept.foldl; intro s x h)
    | split

theorem State.installImage_kept {z s : State} (h : Kept z s) (a1 : Nat) (a2 : List Byte) : Kept z (State.installImage s a1 a2) := by
  unfold State.installImage
  repeat' first
    | with_reducible assumption
    | ((try lift_lets); intro x; clear_value (e : x = _); refine Kept.use (s := z) (x := x) (Kept.via e ?_) (fun h => ?_))
    | ((try lift_lets); intro x; clear_value x)
    | with_reducible apply State.memWrite_kept
    | with_reducible apply State.setRole_kept
    | with_reducible apply Kept.ite

theorem State.takeStaged_kept {z s : State} (h : Kept z s) (a1 : Nat) : Kept z (State.takeStaged s a1) := by
  unfold State.takeStaged
  repeat' first
    | with_reducible assumption
    | ((try lift_lets); intro x; clear_value (e : x = _); refine Kept.use (s := z) (x := x) (Kept.via e ?_) (fun h => ?_))
    | ((try lift_lets); intro x; clear_value x)
    | with_reducible apply State.installImage_kept
    | with_reducible apply State.release_kept
    | with_reducible apply State.setRole_kept
    | with_reducible apply State.startMallet_kept
    | with_reducible apply State.assign_kept
    | split

theorem State.waveSplice_kept {z s : State} (h : Kept z s) (a1 : Nat) (a2 : Nat) (a3 : Nat) : Kept z (State.waveSplice s a1 a2 a3) := by
  unfold State.waveSplice
  repeat' first
    | with_reducible assumption
    | with_reducible apply State.waveSwap_kept
    | with_reducible apply Kept.ite

theorem State.supersede_kept {z s : State} (h : Kept z s) (a1 : Nat) (a2 : Int) : Kept z (State.supersede s a1 a2) := by
  unfold State.supersede
  repeat' first
    | with_reducible assumption
    | ((try lift_lets); intro x; clear_value (e : x = _); refine Kept.use (s := z) (x := x) (Kept.via e ?_) (fun h => ?_))
    | ((try lift_lets); intro x; clear_value x)
    | with_reducible apply State.setGear_kept
    | with_reducible apply State.setF_kept
    | with_reducible apply State.raiseX_kept
    | with_reducible apply Kept.ite

theorem State.oldFrame_kept {z s : State} (h : Kept z s) (a1 : Nat) (a2 : Int) (a3 : Frame) : Kept z (State.oldFrame s a1 a2 a3) := by
  unfold State.oldFrame
  repeat' first
    | with_reducible assumption
    | ((try lift_lets); intro x; clear_value (e : x = _); refine Kept.use (s := z) (x := x) (Kept.via e ?_) (fun h => ?_))
    | ((try lift_lets); intro x; clear_value x)
    | with_reducible apply State.closeFrame_kept
    | with_reducible apply State.setStation_kept
    | with_reducible apply State.raiseOwn_kept
    | with_reducible apply State.setF_kept
    | with_reducible apply Kept.ite
    | split

theorem State.endOldJob_kept {z s : State} (h : Kept z s) (a1 : Nat) (a2 : Int) (a3 : List Frame) : Kept z (State.endOldJob s a1 a2 a3) := by
  unfold State.endOldJob
  repeat' first
    | with_reducible assumption
    | ((try lift_lets); intro x; clear_value (e : x = _); refine Kept.use (s := z) (x := x) (Kept.via e ?_) (fun h => ?_))
    | ((try lift_lets); intro x; clear_value x)
    | with_reducible apply State.oldFrame_kept
    | with_reducible apply State.setStation_kept
    | with_reducible apply Kept.ite
    | (with_reducible apply Kept.foldl; intro s x h)
    | split

theorem State.abandonCut_kept {z s : State} (h : Kept z s) (a1 : Nat) (a2 : Int) : Kept z (State.abandonCut s a1 a2) := by
  unfold State.abandonCut
  repeat' first
    | with_reducible assumption
    | ((try lift_lets); intro x; clear_value (e : x = _); refine Kept.use (s := z) (x := x) (Kept.via e ?_) (fun h => ?_))
    | ((try lift_lets); intro x; clear_value x)
    | with_reducible apply squashWhere_kept
    | with_reducible apply State.setStation_kept
    | with_reducible apply Kept.ite
    | split

theorem State.applyCs_kept {z s : State} (h : Kept z s) (a1 : Nat) (a2 : Nat) (a3 : Int) : Kept z (State.applyCs s a1 a2 a3) := by
  unfold State.applyCs
  repeat' first
    | with_reducible assumption
    | ((try lift_lets); intro x; clear_value (e : x = _); refine Kept.use (s := z) (x := x) (Kept.via e ?_) (fun h => ?_))
    | ((try lift_lets); intro x; clear_value x)
    | with_reducible apply State.newRatio_kept
    | with_reducible apply State.supersede_kept
    | with_reducible apply State.waveSplice_kept
    | with_reducible apply State.applyBanks_kept
    | with_reducible apply State.takeStaged_kept
    | with_reducible apply State.setFs_kept
    | with_reducible apply State.setStation_kept
    | with_reducible apply State.commitProv_kept
    | with_reducible apply State.abandonCut_kept
    | with_reducible apply State.endOldJob_kept
    | with_reducible apply State.raise_kept
    | with_reducible apply State.tally_kept
    | with_reducible apply State.freeSlot_kept
    | with_reducible apply Kept.ite
    | (with_reducible apply Kept.foldl; intro s x h)

theorem State.notApplyCs_kept {z s : State} (h : Kept z s) (a1 : Nat) (a2 : Nat) (a3 : Int) : Kept z (State.notApplyCs s a1 a2 a3) := by
  unfold State.notApplyCs
  repeat' first
    | with_reducible assumption
    | ((try lift_lets); intro x; clear_value (e : x = _); refine Kept.use (s := z) (x := x) (Kept.via e ?_) (fun h => ?_))
    | ((try lift_lets); intro x; clear_value x)
    | with_reducible apply State.unhook_kept
    | with_reducible apply State.setStation_kept
    | with_reducible apply State.abandonCut_kept
    | with_reducible apply State.endOldJob_kept
    | with_reducible apply State.setFs_kept
    | with_reducible apply State.raiseOwn_kept
    | with_reducible apply State.tally_kept
    | with_reducible apply State.freeSlot_kept

theorem reachGo_kept {z s : State} (h : Kept z s) (n : Nat) (l : Int) (k : Nat) : Kept z (reachGo n l k s) := by
  induction k generalizing s with
  | zero => exact h
  | succ k ih =>
    unfold reachGo
    split
    · dsimp only
      split
      · exact ih (Kept.ite (State.applyCs_kept h _ _ _) (State.notApplyCs_kept h _ _ _))
      · exact h
    · exact h

theorem State.reachSplice_kept {z s : State} (h : Kept z s) (a1 : Nat) (a2 : Int) : Kept z (State.reachSplice s a1 a2) := by
  unfold State.reachSplice
  repeat' first
    | with_reducible assumption
    | with_reducible apply reachGo_kept

theorem State.csLeave_kept {z s : State} (h : Kept z s) (a1 : Nat) (a2 : Nat) : Kept z (State.csLeave s a1 a2) := by
  unfold State.csLeave
  repeat' first
    | with_reducible assumption
    | ((try lift_lets); intro x; clear_value (e : x = _); refine Kept.use (s := z) (x := x) (Kept.via e ?_) (fun h => ?_))
    | ((try lift_lets); intro x; clear_value x)
    | with_reducible apply State.unhook_kept
    | with_reducible apply State.freeSlot_kept
    | with_reducible apply State.setF_kept

theorem execConfirmCheck_kept {z s : State} (h : Kept z s) (a1 : Fin 8) (a2 : BitVec 32) (a3 : BitVec 64) : KeptOut z (execConfirmCheck a1 a2 a3 s) := by
  unfold execConfirmCheck
  repeat' first
    | with_reducible assumption
    | ((try lift_lets); intro x; clear_value (e : x = _); refine Kept.use (s := z) (x := x) (Kept.via e ?_) (fun h => ?_))
    | ((try lift_lets); intro x; clear_value x)
    | with_reducible apply Kept.next
    | with_reducible apply KeptOut.ite
    | with_reducible apply State.advanceTo_kept
    | with_reducible apply State.measured_kept
    | with_reducible apply State.reachSplice_kept
    | with_reducible apply State.confirm_kept
    | with_reducible apply State.squashAt_kept
    | with_reducible apply Kept.ite
    | with_reducible apply KeptQ.ite
    | (split <;> (rename_i heq; refine Kept.use (s := z) (KeptQ.at heq ?_) (fun h => ?_)))
    | split
    | with_reducible apply KeptQ.pair
    | with_reducible apply KeptQ.snd

theorem execHeldSquash_kept {z s : State} (h : Kept z s) (a1 : Fin 8) (a2 : BitVec 32) : KeptOut z (execHeldSquash a1 a2 s) := by
  unfold execHeldSquash
  repeat' first
    | with_reducible assumption
    | ((try lift_lets); intro x; clear_value (e : x = _); refine Kept.use (s := z) (x := x) (Kept.via e ?_) (fun h => ?_))
    | ((try lift_lets); intro x; clear_value x)
    | with_reducible apply Kept.next
    | with_reducible apply KeptOut.ite
    | with_reducible apply State.squashAt_kept
    | with_reducible apply State.advanceTo_kept
    | with_reducible apply Kept.ite
    | split

/-! ### Ink -/

theorem State.statusFault_kept {z s : State} (h : Kept z s) (a1 : Nat) : Kept z (State.statusFault s a1) := by
  unfold State.statusFault
  repeat' first
    | with_reducible assumption
    | ((try lift_lets); intro x; clear_value (e : x = _); refine Kept.use (s := z) (x := x) (Kept.via e ?_) (fun h => ?_))
    | ((try lift_lets); intro x; clear_value x)
    | with_reducible apply State.setLane_kept
    | with_reducible apply State.failLane_kept
    | with_reducible apply Kept.ite

theorem State.spareFault_kept {z s : State} (h : Kept z s) (a1 : Nat) : Kept z (State.spareFault s a1) := by
  unfold State.spareFault
  repeat' first
    | with_reducible assumption
    | ((try lift_lets); intro x; clear_value (e : x = _); refine Kept.use (s := z) (x := x) (Kept.via e ?_) (fun h => ?_))
    | ((try lift_lets); intro x; clear_value x)
    | with_reducible apply State.setLane_kept
    | with_reducible apply State.spareFails_kept
    | with_reducible apply Kept.ite
    | (simp only [Kept.mk2_iff])
    | (simp only [Kept.mk_iff])

theorem execTb_kept {z s : State} (h : Kept z s)  : KeptOut z (execTb s) := by
  unfold execTb
  repeat' first
    | with_reducible assumption
    | ((try lift_lets); intro x; clear_value (e : x = _); refine Kept.use (s := z) (x := x) (Kept.via e ?_) (fun h => ?_))
    | ((try lift_lets); intro x; clear_value x)
    | with_reducible apply Kept.next
    | with_reducible apply KeptOut.ite
    | with_reducible apply State.advanceTo_kept
    | with_reducible apply State.statusFault_kept
    | with_reducible apply State.send_kept
    | with_reducible apply State.setLane_kept
    | with_reducible apply State.spareFault_kept
    | with_reducible apply State.transmitOn_kept
    | with_reducible apply State.draw_kept
    | with_reducible apply Kept.ite
    | (with_reducible apply Kept.forBelow; intro i s h)

theorem State.markNospare_kept {z s : State} (h : Kept z s) (a1 : Nat) (a2 : Nat) : Kept z (State.markNospare s a1 a2) := by
  unfold State.markNospare
  repeat' first
    | with_reducible assumption
    | with_reducible apply State.setF_kept
    | with_reducible apply Kept.ite

theorem State.sendEcho_kept {z s : State} (h : Kept z s) (a1 : Nat) (a2 : Nat) : Kept z (State.sendEcho s a1 a2) := by
  unfold State.sendEcho
  repeat' first
    | with_reducible assumption
    | with_reducible apply State.transmitOn_kept
    | with_reducible apply State.draw_kept

theorem execSpareDelayMeasure_kept {z s : State} (h : Kept z s) (a1 : Fin 2) (a2 : Bool) : KeptOut z (execSpareDelayMeasure a1 a2 s) := by
  unfold execSpareDelayMeasure
  repeat' first
    | with_reducible assumption
    | ((try lift_lets); intro x; clear_value (e : x = _); refine Kept.use (s := z) (x := x) (Kept.via e ?_) (fun h => ?_))
    | ((try lift_lets); intro x; clear_value x)
    | with_reducible apply Kept.next
    | with_reducible apply KeptOut.ite
    | with_reducible apply State.markNospare_kept
    | with_reducible apply State.setLane_kept
    | with_reducible apply State.sendEcho_kept
    | with_reducible apply Kept.ite
    | split

theorem execEcho_kept {z s : State} (h : Kept z s) (a1 : Fin 18) (a2 : BitVec 16) (a3 : BitVec 16) : KeptOut z (execEcho a1 a2 a3 s) := by
  unfold execEcho
  repeat' first
    | with_reducible assumption
    | ((try lift_lets); intro x; clear_value (e : x = _); refine Kept.use (s := z) (x := x) (Kept.via e ?_) (fun h => ?_))
    | ((try lift_lets); intro x; clear_value x)
    | with_reducible apply Kept.next
    | with_reducible apply KeptOut.ite
    | with_reducible apply State.setLane_kept
    | with_reducible apply State.send_kept
    | with_reducible apply State.sendEcho_kept
    | with_reducible apply State.setF_kept
    | with_reducible apply State.markNospare_kept
    | with_reducible apply Kept.ite
    | split

theorem State.reportFired_kept {z s : State} (h : Kept z s) (a1 : Nat) (a2 : Int) : Kept z (State.reportFired s a1 a2) := by
  unfold State.reportFired
  repeat' first
    | with_reducible assumption
    | ((try lift_lets); intro x; clear_value (e : x = _); refine Kept.use (s := z) (x := x) (Kept.via e ?_) (fun h => ?_))
    | ((try lift_lets); intro x; clear_value x)
    | with_reducible apply State.setStation_kept
    | with_reducible apply State.tally_kept
    | with_reducible apply Kept.ite
    | (simp only [Kept.mk2_iff])
    | (simp only [Kept.mk_iff])

theorem State.hubFaults_kept {z s : State} (h : Kept z s) (a1 : Nat) (a2 : Nat) (a3 : Nat) : Kept z (State.hubFaults s a1 a2 a3) := by
  unfold State.hubFaults
  repeat' first
    | with_reducible assumption
    | with_reducible apply State.raise_kept
    | with_reducible apply Kept.ite
    | (with_reducible apply Kept.foldl; intro s x h)

theorem State.takeStatus_kept {z s : State} (h : Kept z s) (a1 : Nat) (a2 : Nat) (a3 : Nat) (a4 : Nat) (a5 : Nat) : Kept z (State.takeStatus s a1 a2 a3 a4 a5) := by
  unfold State.takeStatus
  repeat' first
    | with_reducible assumption
    | ((try lift_lets); intro x; clear_value (e : x = _); refine Kept.use (s := z) (x := x) (Kept.via e ?_) (fun h => ?_))
    | ((try lift_lets); intro x; clear_value x)
    | with_reducible apply State.setLane_kept
    | with_reducible apply State.setF_kept
    | with_reducible apply State.ackWhere_kept
    | with_reducible apply State.resend_kept
    | with_reducible apply State.reportFired_kept
    | with_reducible apply State.hubFaults_kept
    | with_reducible apply State.failLane_kept
    | with_reducible apply State.closeReported_kept
    | with_reducible apply Kept.ite
    | (with_reducible apply Kept.foldl; intro s x h)

theorem execStatus_kept {z s : State} (h : Kept z s) (a1 : Fin 18) (a2 : Bool) (a3 : BitVec 16) (a4 : BitVec 16) (a5 : BitVec 32) (a6 : BitVec 16) (a7 : BitVec 24) : KeptOut z (execStatus a1 a2 a3 a4 a5 a6 a7 s) := by
  unfold execStatus
  repeat' first
    | with_reducible assumption
    | ((try lift_lets); intro x; clear_value (e : x = _); refine Kept.use (s := z) (x := x) (Kept.via e ?_) (fun h => ?_))
    | ((try lift_lets); intro x; clear_value x)
    | with_reducible apply Kept.next
    | with_reducible apply KeptOut.ite
    | with_reducible apply State.takeStatus_kept
    | with_reducible apply State.statusFault_kept
    | with_reducible apply State.setLane_kept
    | with_reducible apply State.spareFault_kept
    | with_reducible apply Kept.ite
    | (simp only [Kept.mk2_iff])
    | (simp only [Kept.mk_iff])

theorem State.hubMissed_kept {z s : State} (h : Kept z s) (a1 : Nat) : Kept z (State.hubMissed s a1) := by
  unfold State.hubMissed
  repeat' first
    | with_reducible assumption
    | with_reducible apply State.raiseF_kept
    | with_reducible apply State.tally_kept
    | with_reducible apply State.setF_kept
    | with_reducible apply State.addF_kept

theorem execMissed_kept {z s : State} (h : Kept z s) (a1 : Fin 16) (a2 : Bool) (a3 : BitVec 16) (a4 : BitVec 16) (a5 : BitVec 8) (a6 : BitVec 32) : KeptOut z (execMissed a1 a2 a3 a4 a5 a6 s) := by
  unfold execMissed
  repeat' first
    | with_reducible assumption
    | ((try lift_lets); intro x; clear_value (e : x = _); refine Kept.use (s := z) (x := x) (Kept.via e ?_) (fun h => ?_))
    | ((try lift_lets); intro x; clear_value x)
    | with_reducible apply Kept.next
    | with_reducible apply KeptOut.ite
    | with_reducible apply State.answerHub_kept
    | with_reducible apply State.hubMissed_kept
    | with_reducible apply State.missLine_kept
    | with_reducible apply State.mapLine_kept
    | with_reducible apply Kept.ite
    | with_reducible apply KeptP.ite
    | (split <;> (rename_i heq; refine Kept.use (s := z) (KeptP.at heq ?_) (fun h => ?_)))
    | split
    | (simp only [Kept.mk2_iff])
    | (simp only [Kept.mk_iff])
    | with_reducible apply KeptP.pair
    | with_reducible apply KeptP.fst

theorem State.silentClose_kept {z s : State} (h : Kept z s) (a1 : Nat) (a2 : Frame) : Kept z (State.silentClose s a1 a2) := by
  unfold State.silentClose
  repeat' first
    | with_reducible assumption
    | ((try lift_lets); intro x; clear_value (e : x = _); refine Kept.use (s := z) (x := x) (Kept.via e ?_) (fun h => ?_))
    | ((try lift_lets); intro x; clear_value x)
    | with_reducible apply State.advanceTo_kept
    | with_reducible apply State.setStation_kept
    | with_reducible apply State.marksSince_kept
    | with_reducible apply closeDone_kept
    | with_reducible apply Kept.ite

theorem execHubSilentTimeout_kept {z s : State} (h : Kept z s) (a1 : Fin 8) : KeptOut z (execHubSilentTimeout a1 s) := by
  unfold execHubSilentTimeout
  repeat' first
    | with_reducible assumption
    | ((try lift_lets); intro x; clear_value (e : x = _); refine Kept.use (s := z) (x := x) (Kept.via e ?_) (fun h => ?_))
    | ((try lift_lets); intro x; clear_value x)
    | with_reducible apply Kept.next
    | with_reducible apply KeptOut.ite
    | with_reducible apply State.closeReported_kept
    | with_reducible apply State.silentClose_kept
    | with_reducible apply Kept.ite
    | split

theorem State.rescale_kept {z s : State} (h : Kept z s) (a1 : Nat) (a2 : Nat) (a3 : Int) : Kept z (State.rescale s a1 a2 a3) := by
  unfold State.rescale
  repeat' first
    | with_reducible assumption
    | ((try lift_lets); intro x; clear_value (e : x = _); refine Kept.use (s := z) (x := x) (Kept.via e ?_) (fun h => ?_))
    | ((try lift_lets); intro x; clear_value x)
    | with_reducible apply State.setF_kept
    | with_reducible apply State.send_kept

theorem State.headLimit_kept {z s : State} (h : Kept z s) (a1 : Nat) (a2 : Nat) (a3 : Int) (a4 : Int) : Kept z (State.headLimit s a1 a2 a3 a4) := by
  unfold State.headLimit
  repeat' first
    | with_reducible assumption
    | ((try lift_lets); intro x; clear_value (e : x = _); refine Kept.use (s := z) (x := x) (Kept.via e ?_) (fun h => ?_))
    | ((try lift_lets); intro x; clear_value x)
    | with_reducible apply State.setHead_kept
    | with_reducible apply State.setFs_kept
    | with_reducible apply State.spoilFrom_kept
    | with_reducible apply State.raiseOwn_kept
    | with_reducible apply State.noteSpoil_kept
    | with_reducible apply Kept.ite
    | split

theorem State.headSensor_kept {z s : State} (h : Kept z s) (a1 : Nat) (a2 : Nat) (a3 : Nat) : KeptQ z (State.headSensor s a1 a2 a3) := by
  unfold State.headSensor
  repeat' first
    | with_reducible assumption
    | ((try lift_lets); intro x; clear_value (e : x = _); refine Kept.use (s := z) (x := x) (Kept.via e ?_) (fun h => ?_))
    | ((try lift_lets); intro x; clear_value x)
    | with_reducible apply State.tally_kept
    | with_reducible apply State.logRetry_kept
    | with_reducible apply State.setHead_kept
    | with_reducible apply State.raiseU_kept
    | with_reducible apply State.raiseX_kept
    | with_reducible apply Kept.ite
    | with_reducible apply KeptQ.ite
    | (split <;> (rename_i heq; refine Kept.use (s := z) (KeptQ.at heq ?_) (fun h => ?_)))
    | with_reducible apply KeptQ.pair
    | with_reducible apply KeptQ.snd

theorem State.takeHead_kept {z s : State} (h : Kept z s) (l : Nat) (e : HeadReport) : Kept z (s.takeHead l e) := by
  unfold State.takeHead
  dsimp only
  split
  · exact h
  · rename_i k _
    have h1 := State.livedHead_kept (State.tallyUnits_kept h (0x128 + l / 2) e.acts.toNat 65536)
      (2 ^ 128 + (s.head (l / 2) k).typ * 2 ^ 64 + (s.head (l / 2) k).serial) e.acts.toNat
    have h2 := State.headSensor_kept h1 (l / 2) k e.t.toNat
    split
    · rename_i heq
      exact KeptQ.at heq h2
    · rename_i heq
      have h2 := KeptQ.at heq h2
      refine State.headLimit_kept (State.rescale_kept (Kept.ite (State.raise_kept ?_ _ _) ?_) _ _ _) _ _ _ _ <;>
        exact State.setHead_kept (State.setFs_kept h2 _) _ _ _

theorem execTelemetry_kept {z s : State} (h : Kept z s) (a1 : Fin 16) (a2 : Bool) (a3 : List HeadReport) : KeptOut z (execTelemetry a1 a2 a3 s) := by
  unfold execTelemetry
  repeat' first
    | with_reducible assumption
    | ((try lift_lets); intro x; clear_value (e : x = _); refine Kept.use (s := z) (x := x) (Kept.via e ?_) (fun h => ?_))
    | ((try lift_lets); intro x; clear_value x)
    | with_reducible apply Kept.next
    | with_reducible apply KeptOut.ite
    | with_reducible apply State.setLane_kept
    | with_reducible apply State.takeHead_kept
    | with_reducible apply State.failLane_kept
    | with_reducible apply Kept.ite
    | (with_reducible apply Kept.foldl; intro s x h)

theorem execSidebandGo_kept {z s : State} (h : Kept z s)  : KeptOut z (execSidebandGo s) := by
  unfold execSidebandGo
  repeat' first
    | with_reducible assumption
    | ((try lift_lets); intro x; clear_value (e : x = _); refine Kept.use (s := z) (x := x) (Kept.via e ?_) (fun h => ?_))
    | ((try lift_lets); intro x; clear_value x)
    | with_reducible apply Kept.next
    | with_reducible apply KeptOut.ite
    | with_reducible apply State.flam_kept
    | with_reducible apply State.setFs_kept
    | with_reducible apply State.send_kept
    | with_reducible apply Kept.ite
    | (simp only [Kept.mk2_iff])
    | (simp only [Kept.mk_iff])

theorem State.sbAgain_kept {z s : State} (h : Kept z s)  : Kept z (State.sbAgain s) := by
  unfold State.sbAgain
  repeat' first
    | with_reducible assumption
    | with_reducible apply State.send_kept
    | split

theorem State.sbFail_kept {z s : State} (h : Kept z s)  : Kept z (State.sbFail s) := by
  unfold State.sbFail
  repeat' first
    | with_reducible assumption
    | ((try lift_lets); intro x; clear_value (e : x = _); refine Kept.use (s := z) (x := x) (Kept.via e ?_) (fun h => ?_))
    | ((try lift_lets); intro x; clear_value x)
    | with_reducible apply State.draw_kept
    | with_reducible apply State.setFs_kept
    | with_reducible apply State.raise_kept
    | with_reducible apply State.logRetry_kept
    | with_reducible apply State.sbAgain_kept
    | with_reducible apply Kept.ite
    | (simp only [Kept.mk2_iff])
    | (simp only [Kept.mk_iff])

theorem State.sbData_kept {z s : State} (h : Kept z s) (a1 : List Byte) : Kept z (State.sbData s a1) := by
  unfold State.sbData
  repeat' first
    | with_reducible assumption
    | with_reducible apply State.setF_kept
    | (with_reducible apply Kept.forBelow; intro i s h)

theorem State.sbTake_kept {z s : State} (h : Kept z s) (a1 : List Byte) : Kept z (State.sbTake s a1) := by
  unfold State.sbTake
  repeat' first
    | with_reducible assumption
    | with_reducible apply State.sbData_kept
    | split

theorem execSbRsp_kept {z s : State} (h : Kept z s) (a1 : Fin 16) (a2 : Bool) (a3 : BitVec 16) (a4 : BitVec 3) (a5 : List (BitVec 8)) : KeptOut z (execSbRsp a1 a2 a3 a4 a5 s) := by
  unfold execSbRsp
  repeat' first
    | with_reducible assumption
    | ((try lift_lets); intro x; clear_value (e : x = _); refine Kept.use (s := z) (x := x) (Kept.via e ?_) (fun h => ?_))
    | ((try lift_lets); intro x; clear_value x)
    | with_reducible apply Kept.next
    | with_reducible apply KeptOut.ite
    | with_reducible apply State.answerHub_kept
    | with_reducible apply State.sbTake_kept
    | with_reducible apply State.setFs_kept
    | with_reducible apply State.logRetry_kept
    | with_reducible apply State.tally_kept
    | with_reducible apply State.sbFail_kept
    | with_reducible apply Kept.ite
    | with_reducible apply KeptP.ite
    | (split <;> (rename_i heq; refine Kept.use (s := z) (KeptP.at heq ?_) (fun h => ?_)))
    | split
    | (simp only [Kept.mk2_iff])
    | (simp only [Kept.mk_iff])
    | with_reducible apply KeptP.pair
    | with_reducible apply KeptP.fst

theorem execSidebandTimeout_kept {z s : State} (h : Kept z s)  : KeptOut z (execSidebandTimeout s) := by
  unfold execSidebandTimeout
  repeat' first
    | with_reducible assumption
    | with_reducible apply Kept.next
    | with_reducible apply KeptOut.ite
    | with_reducible apply State.sbFail_kept
    | with_reducible apply State.advanceTo_kept
    | with_reducible apply Kept.ite

theorem State.waveErr_kept {z s : State} (h : Kept z s) (a1 : Nat) (a2 : Nat) : Kept z (State.waveErr s a1 a2) := by
  unfold State.waveErr
  repeat' first
    | with_reducible assumption
    | with_reducible apply State.raise_kept
    | with_reducible apply State.setFs_kept

theorem State.sendWave_kept {z s : State} (h : Kept z s) (a1 : Nat) (a2 : LaneMsg) : Kept z (State.sendWave s a1 a2) := by
  unfold State.sendWave
  repeat' first
    | with_reducible assumption
    | ((try lift_lets); intro x; clear_value (e : x = _); refine Kept.use (s := z) (x := x) (Kept.via e ?_) (fun h => ?_))
    | ((try lift_lets); intro x; clear_value x)
    | with_reducible apply State.send_kept
    | with_reducible apply State.nextSeq_kept
    | with_reducible apply State.setLane_kept
    | with_reducible apply Kept.ite
    | with_reducible apply KeptQ.ite
    | (split <;> (rename_i heq; refine Kept.use (s := z) (KeptQ.at heq ?_) (fun h => ?_)))
    | split
    | with_reducible apply KeptQ.pair
    | with_reducible apply KeptQ.snd

theorem State.sendWaves_kept {z s : State} (h : Kept z s) (a1 : Nat) (a2 : Nat) : Kept z (State.sendWaves s a1 a2) := by
  unfold State.sendWaves
  repeat' first
    | with_reducible assumption
    | with_reducible apply State.sendWave_kept
    | (with_reducible apply Kept.foldl; intro s x h)

theorem State.finishWave_kept {z s : State} (h : Kept z s) (n e : Nat) (body : List Byte) : Kept z (s.finishWave n e body) := by
  unfold State.finishWave
  refine Kept.ite ?_ (State.waveErr_kept (State.setF_kept h _ _) _ _)
  have hw : ∀ b, Kept z { s with waves := tputs 0 s.waves (waveKey n b 0) body } := fun b => Kept.waves h (tputs_twf _ _ _ _)
  refine Kept.ite ?_ (State.setF_kept (State.setF_kept (hw _) _ _) _ _)
  exact State.sendWaves_kept (State.setInk_kept (State.setFs_kept (State.setF_kept (hw _) _ _) _) _ _) _ _

theorem State.loadWave_kept {z s : State} (h : Kept z s) (a1 : Nat) (a2 : Nat) : Kept z (State.loadWave s a1 a2) := by
  unfold State.loadWave
  repeat' first
    | with_reducible assumption
    | with_reducible apply State.finishWave_kept
    | with_reducible apply State.waveErr_kept
    | with_reducible apply Kept.ite

theorem execWaveLoad_kept {z s : State} (h : Kept z s) (a1 : Fin 8) (a2 : Ecc) : KeptOut z (execWaveLoad a1 a2 s) := by
  unfold execWaveLoad
  repeat' first
    | with_reducible assumption
    | ((try lift_lets); intro x; clear_value (e : x = _); refine Kept.use (s := z) (x := x) (Kept.via e ?_) (fun h => ?_))
    | ((try lift_lets); intro x; clear_value x)
    | with_reducible apply Kept.next
    | with_reducible apply KeptOut.ite
    | with_reducible apply State.loadWave_kept
    | with_reducible apply State.ecc_kept
    | with_reducible apply Kept.ite

theorem State.dropWaves_kept {z s : State} (h : Kept z s) (a1 : Nat) : Kept z (State.dropWaves s a1) := by
  unfold State.dropWaves
  repeat' first
    | with_reducible assumption
    | ((try lift_lets); intro x; clear_value (e : x = _); refine Kept.use (s := z) (x := x) (Kept.via e ?_) (fun h => ?_))
    | ((try lift_lets); intro x; clear_value x)
    | with_reducible apply State.setLane_kept
    | (with_reducible apply Kept.foldl; intro s x h)

theorem execWaveLoadDone_kept {z s : State} (h : Kept z s) (a1 : Fin 8) : KeptOut z (execWaveLoadDone a1 s) := by
  unfold execWaveLoadDone
  repeat' first
    | with_reducible assumption
    | ((try lift_lets); intro x; clear_value (e : x = _); refine Kept.use (s := z) (x := x) (Kept.via e ?_) (fun h => ?_))
    | ((try lift_lets); intro x; clear_value x)
    | with_reducible apply Kept.next
    | with_reducible apply KeptOut.ite
    | with_reducible apply State.setInk_kept
    | with_reducible apply State.setFs_kept
    | with_reducible apply Kept.ite

theorem execWaveLoadTimeout_kept {z s : State} (h : Kept z s) (a1 : Fin 8) : KeptOut z (execWaveLoadTimeout a1 s) := by
  unfold execWaveLoadTimeout
  repeat' first
    | with_reducible assumption
    | ((try lift_lets); intro x; clear_value (e : x = _); refine Kept.use (s := z) (x := x) (Kept.via e ?_) (fun h => ?_))
    | ((try lift_lets); intro x; clear_value x)
    | with_reducible apply Kept.next
    | with_reducible apply KeptOut.ite
    | with_reducible apply State.setFs_kept
    | with_reducible apply State.dropWaves_kept
    | with_reducible apply State.advanceTo_kept
    | with_reducible apply State.waveErr_kept
    | with_reducible apply State.setInk_kept
    | with_reducible apply Kept.ite
    | split

theorem execWaveClear_kept {z s : State} (h : Kept z s) (a1 : Fin 8) : KeptOut z (execWaveClear a1 s) := by
  unfold execWaveClear
  repeat' first
    | with_reducible assumption
    | with_reducible apply Kept.next
    | with_reducible apply KeptOut.ite
    | with_reducible apply State.setFs_kept
    | with_reducible apply State.waveErr_kept
    | with_reducible apply Kept.ite

theorem execWaveSwap_kept {z s : State} (h : Kept z s) (a1 : Fin 8) : KeptOut z (execWaveSwap a1 s) := by
  unfold execWaveSwap
  repeat' first
    | with_reducible assumption
    | with_reducible apply Kept.next
    | with_reducible apply KeptOut.ite
    | with_reducible apply State.setFs_kept
    | with_reducible apply State.waveErr_kept
    | with_reducible apply Kept.ite

theorem State.sledLine_kept {z s : State} (h : Kept z s) (a1 : Nat) (a2 : Nat) (a3 : Nat) : Kept z (State.sledLine s a1 a2 a3) := by
  unfold State.sledLine
  repeat' first
    | with_reducible assumption
    | ((try lift_lets); intro x; clear_value (e : x = _); refine Kept.use (s := z) (x := x) (Kept.via e ?_) (fun h => ?_))
    | ((try lift_lets); intro x; clear_value x)
    | with_reducible apply State.sendPackets_kept
    | (split <;> (rename_i heq; refine Kept.use (s := z) (KeptR.at heq ?_) (fun h => ?_)))
    | split
    | (simp only [Kept.mk2_iff])
    | (simp only [Kept.mk_iff])
    | with_reducible apply KeptR.pair
    | with_reducible apply KeptR.last

theorem execDdTestStart_kept {z s : State} (h : Kept z s)  : KeptOut z (execDdTestStart s) := by
  unfold execDdTestStart
  repeat' first
    | with_reducible assumption
    | ((try lift_lets); intro x; clear_value (e : x = _); refine Kept.use (s := z) (x := x) (Kept.via e ?_) (fun h => ?_))
    | ((try lift_lets); intro x)
    | with_reducible apply Kept.next
    | with_reducible apply KeptOut.ite
    | with_reducible apply State.sledLine_kept
    | with_reducible apply Kept.ite
    | (with_reducible apply Kept.foldl; intro s x h)
    | split
    | (simp only [Kept.mk2_iff])
    | (simp only [Kept.mk_iff])
    | (dsimp (zetaDelta := true) only)
    | (simp (zetaDelta := true) only [Kept.mk2_iff, Kept.mk_iff])

theorem State.ddResult_kept {z s : State} (h : Kept z s) (a1 : Nat) (a2 : Nat) (a3 : Nat) (a4 : Bool) : Kept z (State.ddResult s a1 a2 a3 a4) := by
  unfold State.ddResult
  repeat' first
    | with_reducible assumption
    | ((try lift_lets); intro x; clear_value (e : x = _); refine Kept.use (s := z) (x := x) (Kept.via e ?_) (fun h => ?_))
    | ((try lift_lets); intro x; clear_value x)
    | with_reducible apply State.flam_kept
    | with_reducible apply Kept.ite
    | (simp only [Kept.mk2_iff])
    | (simp only [Kept.mk_iff])

theorem State.ddCount_kept {z s : State} (h : Kept z s) (a1 : Nat) (a2 : Nat) (a3 : Nat) : Kept z (State.ddCount s a1 a2 a3) := by
  unfold State.ddCount
  repeat' first
    | with_reducible assumption
    | ((try lift_lets); intro x; clear_value (e : x = _); refine Kept.use (s := z) (x := x) (Kept.via e ?_) (fun h => ?_))
    | ((try lift_lets); intro x; clear_value x)
    | with_reducible apply Kept.ite
    | split
    | (simp only [Kept.mk2_iff])
    | (simp only [Kept.mk_iff])

theorem State.degradeEntry_kept {z s : State} (h : Kept z s) (a1 : Nat) (a2 : Frame) : Kept z (State.degradeEntry s a1 a2) := by
  unfold State.degradeEntry
  repeat' first
    | with_reducible assumption
    | with_reducible apply Kept.ite
    | (simp only [Kept.mk2_iff])
    | (simp only [Kept.mk_iff])

theorem State.ddHide_kept {z s : State} (h : Kept z s) (a1 : Nat) (a2 : Nat) : Kept z (State.ddHide s a1 a2) := by
  unfold State.ddHide
  repeat' first
    | with_reducible assumption
    | ((try lift_lets); intro x; clear_value (e : x = _); refine Kept.use (s := z) (x := x) (Kept.via e ?_) (fun h => ?_))
    | ((try lift_lets); intro x; clear_value x)
    | with_reducible apply State.tally_kept
    | with_reducible apply State.ddMark_kept
    | with_reducible apply State.setStation_kept
    | with_reducible apply State.degradeEntry_kept
    | with_reducible apply State.raiseF_kept
    | with_reducible apply Kept.ite
    | (with_reducible apply Kept.foldl; intro s x h)
    | (simp only [Kept.mk2_iff])
    | (simp only [Kept.mk_iff])

theorem State.ddJudge_kept {z s : State} (h : Kept z s) (a1 : Nat) (a2 : Nat) (a3 : Nat) : Kept z (State.ddJudge s a1 a2 a3) := by
  unfold State.ddJudge
  repeat' first
    | with_reducible assumption
    | ((try lift_lets); intro x; clear_value (e : x = _); refine Kept.use (s := z) (x := x) (Kept.via e ?_) (fun h => ?_))
    | ((try lift_lets); intro x; clear_value x)
    | with_reducible apply State.raise_kept
    | with_reducible apply State.logRetry_kept
    | with_reducible apply State.tally_kept
    | with_reducible apply State.ddHide_kept
    | with_reducible apply Kept.ite

theorem execDdTestDone_kept {z s : State} (h : Kept z s) (a1 : List DropPulse) : KeptOut z (execDdTestDone a1 s) := by
  unfold execDdTestDone
  repeat' first
    | with_reducible assumption
    | ((try lift_lets); intro x; clear_value (e : x = _); refine Kept.use (s := z) (x := x) (Kept.via e ?_) (fun h => ?_))
    | ((try lift_lets); intro x; clear_value x)
    | with_reducible apply Kept.next
    | with_reducible apply KeptOut.ite
    | with_reducible apply State.advanceTo_kept
    | with_reducible apply State.tally_kept
    | with_reducible apply State.ddCount_kept
    | with_reducible apply State.ddResult_kept
    | with_reducible apply State.raise_kept
    | with_reducible apply State.ddJudge_kept
    | with_reducible apply Kept.ite
    | split
    | (simp only [Kept.mk2_iff])
    | (simp only [Kept.mk_iff])

theorem State.readDdResult_kept {z s : State} (h : Kept z s)  : KeptQ z (State.readDdResult s) := by
  unfold State.readDdResult
  repeat' first
    | with_reducible assumption
    | (split <;> (rename_i heq; refine Kept.use (s := z) (KeptQ.at heq ?_) (fun h => ?_)))
    | split
    | (simp only [Kept.mk2_iff])
    | (simp only [Kept.mk_iff])
    | with_reducible apply KeptQ.pair
    | with_reducible apply KeptQ.snd

theorem execInkDdResultRead_kept {z s : State} (h : Kept z s)  : KeptOut z (execInkDdResultRead s) := by
  unfold execInkDdResultRead
  repeat' first
    | with_reducible assumption
    | with_reducible apply Kept.next
    | with_reducible apply State.readDdResult_kept
    | with_reducible apply State.reply_kept
    | (split <;> (rename_i heq; refine Kept.use (s := z) (KeptQ.at heq ?_) (fun h => ?_)))
    | split
    | with_reducible apply KeptQ.pair
    | with_reducible apply KeptQ.snd

/-! ### Ep -/

theorem State.missScan_kept {z s : State} (h : Kept z s) (a1 : Nat) (a2 : Int) (a3 : Nat) : Kept z (State.missScan s a1 a2 a3) := by
  unfold State.missScan
  repeat' first
    | with_reducible assumption
    | with_reducible apply State.missLine_kept
    | (with_reducible apply Kept.foldl; intro s x h)

theorem State.slowScan_kept {z s : State} (h : Kept z s) (a1 : Nat) (a2 : Int) : Kept z (State.slowScan s a1 a2) := by
  unfold State.slowScan
  repeat' first
    | with_reducible assumption
    | ((try lift_lets); intro x; clear_value (e : x = _); refine Kept.use (s := z) (x := x) (Kept.via e ?_) (fun h => ?_))
    | ((try lift_lets); intro x; clear_value x)
    | with_reducible apply State.mapFrameAt_kept
    | with_reducible apply State.setF_kept
    | with_reducible apply State.spoilAt_kept
    | with_reducible apply State.raiseOwn_kept
    | with_reducible apply Kept.ite
    | (with_reducible apply Kept.foldl; intro s x h)
    | split

theorem State.g3Scan_kept {z s : State} (h : Kept z s) (a1 : Nat) (a2 : Int) : Kept z (State.g3Scan s a1 a2) := by
  unfold State.g3Scan
  repeat' first
    | with_reducible assumption
    | with_reducible apply State.mapFrameAt_kept
    | with_reducible apply Kept.ite
    | (with_reducible apply Kept.foldl; intro s x h)

theorem State.stageScan_kept {z s : State} (h : Kept z s) (a1 : Nat) (a2 : Nat) (a3 : Int) (a4 : Nat) : KeptP z (State.stageScan s a1 a2 a3 a4) := by
  unfold State.stageScan
  repeat' first
    | with_reducible assumption
    | ((try lift_lets); intro x; clear_value (e : x = _); refine Kept.use (s := z) (x := x) (Kept.via e ?_) (fun h => ?_))
    | ((try lift_lets); intro x; clear_value x)
    | with_reducible apply State.enterAt_kept
    | with_reducible apply State.slowScan_kept
    | with_reducible apply State.g3Scan_kept
    | with_reducible apply State.underrun_kept
    | with_reducible apply State.beginFrame_kept
    | with_reducible apply State.tally_kept
    | with_reducible apply State.setEp_kept
    | with_reducible apply State.fillScan_kept
    | with_reducible apply Kept.ite
    | (with_reducible apply Kept.foldl; intro s x h)
    | with_reducible apply KeptP.ite
    | (split <;> (rename_i heq; refine Kept.use (s := z) (KeptP.at heq ?_) (fun h => ?_)))
    | split
    | with_reducible apply KeptP.pair
    | with_reducible apply KeptP.fst

theorem State.closeEp.go_kept {z s : State} (h : Kept z s) (n : Nat) (p : Frame → Bool) (l : List Frame) :
    Kept z (State.closeEp.go n p l s) := by
  induction l generalizing s with
  | nil => exact h
  | cons x r ih =>
    unfold State.closeEp.go
    split
    · exact ih (State.closeFrame_kept h _ _)
    · split
      · exact ih (State.closeUnbegun_kept h _ _)
      · exact h

theorem State.closeEp_kept {z s : State} (h : Kept z s) (a1 : Nat) : Kept z (State.closeEp s a1) := by
  unfold State.closeEp
  repeat' first
    | with_reducible assumption
    | ((try lift_lets); intro x; clear_value (e : x = _); refine Kept.use (s := z) (x := x) (Kept.via e ?_) (fun h => ?_))
    | ((try lift_lets); intro x; clear_value x)
    | with_reducible apply State.marksSince_kept
    | with_reducible apply State.closeEp.go_kept
    | split

theorem State.squashScan_kept {z s : State} (h : Kept z s) (a1 : Nat) (a2 : Scan) (a3 : Nat) : Kept z (State.squashScan s a1 a2 a3) := by
  unfold State.squashScan
  repeat' first
    | with_reducible assumption
    | ((try lift_lets); intro x; clear_value (e : x = _); refine Kept.use (s := z) (x := x) (Kept.via e ?_) (fun h => ?_))
    | ((try lift_lets); intro x; clear_value x)
    | with_reducible apply State.squashAt_kept
    | with_reducible apply State.setEp_kept
    | split

theorem State.skipBetween_kept {z s : State} (h : Kept z s) (a1 : Nat) (a2 : Int) : Kept z (State.skipBetween s a1 a2) := by
  unfold State.skipBetween
  repeat' first
    | with_reducible assumption
    | with_reducible apply State.tally_kept
    | with_reducible apply State.missLine_kept
    | with_reducible apply Kept.ite
    | (with_reducible apply Kept.foldl; intro s x h)
    | split

theorem State.markServed_kept {z s : State} (h : Kept z s) (a1 : Nat) (a2 : Int) : Kept z (State.markServed s a1 a2) := by
  unfold State.markServed
  repeat' first
    | with_reducible assumption
    | ((try lift_lets); intro x; clear_value (e : x = _); refine Kept.use (s := z) (x := x) (Kept.via e ?_) (fun h => ?_))
    | ((try lift_lets); intro x; clear_value x)
    | with_reducible apply State.skipBetween_kept
    | with_reducible apply State.setEp_kept
    | split

theorem State.countSquash_kept {z s : State} (h : Kept z s) (a1 : Nat) (a2 : Int) : Kept z (State.countSquash s a1 a2) := by
  unfold State.countSquash
  repeat' first
    | with_reducible assumption
    | ((try lift_lets); intro x; clear_value (e : x = _); refine Kept.use (s := z) (x := x) (Kept.via e ?_) (fun h => ?_))
    | ((try lift_lets); intro x; clear_value x)
    | with_reducible apply State.setEp_kept
    | with_reducible apply State.abandonIn_kept
    | with_reducible apply State.mapFrame_kept
    | with_reducible apply State.raiseOwn_kept
    | with_reducible apply State.setF_kept
    | with_reducible apply Kept.ite
    | (with_reducible apply Kept.foldl; intro s x h)

theorem State.spoilUnstaged_kept {z s : State} (h : Kept z s) (a1 : Nat) (a2 : Nat) (a3 : Int) : KeptP z (State.spoilUnstaged s a1 a2 a3) := by
  unfold State.spoilUnstaged
  repeat' first
    | with_reducible assumption
    | with_reducible apply State.abandonIn_kept
    | with_reducible apply State.mapFrame_kept
    | (split <;> (rename_i heq; refine Kept.use (s := z) (KeptP.at heq ?_) (fun h => ?_)))
    | split
    | with_reducible apply KeptP.pair
    | with_reducible apply KeptP.fst

theorem State.phaseLock_kept {z s : State} (h : Kept z s) (a1 : Nat) (a2 : Bool) : Kept z (State.phaseLock s a1 a2) := by
  unfold State.phaseLock
  repeat' first
    | with_reducible assumption
    | ((try lift_lets); intro x; clear_value (e : x = _); refine Kept.use (s := z) (x := x) (Kept.via e ?_) (fun h => ?_))
    | ((try lift_lets); intro x; clear_value x)
    | with_reducible apply State.setEp_kept
    | with_reducible apply State.setF_kept
    | with_reducible apply State.raiseOwn_kept
    | with_reducible apply State.spoilUnstaged_kept
    | with_reducible apply Kept.ite
    | with_reducible apply KeptP.ite
    | (split <;> (rename_i heq; refine Kept.use (s := z) (KeptP.at heq ?_) (fun h => ?_)))
    | with_reducible apply KeptP.pair
    | with_reducible apply KeptP.fst

theorem State.follow_kept {z s : State} (h : Kept z s) (a1 : Nat) : Kept z (State.follow s a1) := by
  unfold State.follow
  repeat' first
    | with_reducible assumption
    | ((try lift_lets); intro x; clear_value (e : x = _); refine Kept.use (s := z) (x := x) (Kept.via e ?_) (fun h => ?_))
    | ((try lift_lets); intro x; clear_value x)
    | with_reducible apply State.raise_kept
    | with_reducible apply State.setF_kept
    | with_reducible apply State.applyPixf_kept
    | with_reducible apply Kept.ite
    | split

theorem State.edgeTimes_kept {z s : State} (h : Kept z s) (a1 : Nat) : Kept z (State.edgeTimes s a1) := by
  unfold State.edgeTimes
  repeat' first
    | with_reducible assumption
    | ((try lift_lets); intro x; clear_value (e : x = _); refine Kept.use (s := z) (x := x) (Kept.via e ?_) (fun h => ?_))
    | ((try lift_lets); intro x; clear_value x)
    | with_reducible apply State.setEp_kept
    | with_reducible apply State.setPair_kept
    | with_reducible apply State.setF_kept
    | with_reducible apply State.lived_kept
    | with_reducible apply State.tally_kept
    | with_reducible apply State.raiseF_kept
    | with_reducible apply State.logRetry_kept
    | with_reducible apply Kept.ite
    | split

theorem State.judgeScan_kept {z s : State} (h : Kept z s) (a1 : Nat) (a2 : Int) (a3 : Int) : Kept z (State.judgeScan s a1 a2 a3) := by
  unfold State.judgeScan
  repeat' first
    | with_reducible assumption
    | ((try lift_lets); intro x; clear_value (e : x = _); refine Kept.use (s := z) (x := x) (Kept.via e ?_) (fun h => ?_))
    | ((try lift_lets); intro x; clear_value x)
    | with_reducible apply State.reachSplice_kept
    | with_reducible apply State.markServed_kept
    | with_reducible apply State.confirm_kept
    | with_reducible apply State.squashScan_kept
    | with_reducible apply State.missScan_kept
    | with_reducible apply State.countSquash_kept
    | with_reducible apply State.raiseF_kept
    | with_reducible apply Kept.ite
    | split

theorem execBdEdge_kept {z s : State} (h : Kept z s) (a1 : Fin 4) (a2 : BitVec 64) (a3 : BitVec 64) (a4 : Bool) : KeptOut z (execBdEdge a1 a2 a3 a4 s) := by
  unfold execBdEdge
  repeat' first
    | with_reducible assumption
    | ((try lift_lets); intro x; clear_value (e : x = _); refine Kept.use (s := z) (x := x) (Kept.via e ?_) (fun h => ?_))
    | ((try lift_lets); intro x; clear_value x)
    | with_reducible apply Kept.next
    | with_reducible apply KeptOut.ite
    | with_reducible apply State.edgeTimes_kept
    | with_reducible apply State.advanceTo_kept
    | with_reducible apply State.setEp_kept
    | with_reducible apply State.setMdll_kept
    | with_reducible apply State.setF_kept
    | with_reducible apply State.follow_kept
    | with_reducible apply State.measured_kept
    | with_reducible apply State.phaseLock_kept
    | with_reducible apply State.closeEp_kept
    | with_reducible apply State.judgeScan_kept
    | with_reducible apply Kept.ite
    | with_reducible apply KeptQ.ite
    | (split <;> (rename_i heq; refine Kept.use (s := z) (KeptQ.at heq ?_) (fun h => ?_)))
    | split
    | with_reducible apply KeptQ.pair
    | with_reducible apply KeptQ.snd

theorem State.laserStatic_kept {z s : State} (h : Kept z s) (a1 : Nat) : Kept z (State.laserStatic s a1) := by
  unfold State.laserStatic
  repeat' first
    | with_reducible assumption
    | with_reducible apply State.tally_kept
    | with_reducible apply State.setBitF_kept
    | with_reducible apply Kept.ite

theorem State.missFacet_kept {z s : State} (h : Kept z s) (a1 : Nat) : Kept z (State.missFacet s a1) := by
  unfold State.missFacet
  repeat' first
    | with_reducible assumption
    | with_reducible apply State.markServed_kept
    | with_reducible apply State.squashScan_kept
    | with_reducible apply State.missScan_kept
    | split

theorem State.bdLost_kept {z s : State} (h : Kept z s) (a1 : Nat) : Kept z (State.bdLost s a1) := by
  unfold State.bdLost
  repeat' first
    | with_reducible assumption
    | ((try lift_lets); intro x; clear_value (e : x = _); refine Kept.use (s := z) (x := x) (Kept.via e ?_) (fun h => ?_))
    | ((try lift_lets); intro x; clear_value x)
    | with_reducible apply State.markServed_kept
    | with_reducible apply State.squashScan_kept
    | with_reducible apply State.missScan_kept
    | with_reducible apply State.setF_kept
    | with_reducible apply State.setEp_kept
    | with_reducible apply State.raise_kept
    | with_reducible apply State.logRetry_kept
    | with_reducible apply State.laserStatic_kept
    | (with_reducible apply Kept.foldl; intro s x h)

theorem execBdMissing_kept {z s : State} (h : Kept z s) (a1 : Fin 4) : KeptOut z (execBdMissing a1 s) := by
  unfold execBdMissing
  repeat' first
    | with_reducible assumption
    | ((try lift_lets); intro x; clear_value (e : x = _); refine Kept.use (s := z) (x := x) (Kept.via e ?_) (fun h => ?_))
    | ((try lift_lets); intro x; clear_value x)
    | with_reducible apply Kept.next
    | with_reducible apply KeptOut.ite
    | with_reducible apply State.missFacet_kept
    | with_reducible apply State.advanceTo_kept
    | with_reducible apply State.setFs_kept
    | with_reducible apply State.setEp_kept
    | with_reducible apply State.tally_kept
    | with_reducible apply State.closeEp_kept
    | with_reducible apply State.bdLost_kept
    | with_reducible apply Kept.ite
    | split

theorem execBdLightStart_kept {z s : State} (h : Kept z s) (a1 : Fin 4) : KeptOut z (execBdLightStart a1 s) := by
  unfold execBdLightStart
  repeat' first
    | with_reducible assumption
    | ((try lift_lets); intro x; clear_value (e : x = _); refine Kept.use (s := z) (x := x) (Kept.via e ?_) (fun h => ?_))
    | ((try lift_lets); intro x; clear_value x)
    | with_reducible apply Kept.next
    | with_reducible apply KeptOut.ite
    | with_reducible apply State.advanceTo_kept
    | with_reducible apply State.setEp_kept
    | with_reducible apply Kept.ite

theorem execBdLightTimeout_kept {z s : State} (h : Kept z s) (a1 : Fin 4) : KeptOut z (execBdLightTimeout a1 s) := by
  unfold execBdLightTimeout
  repeat' first
    | with_reducible assumption
    | ((try lift_lets); intro x; clear_value (e : x = _); refine Kept.use (s := z) (x := x) (Kept.via e ?_) (fun h => ?_))
    | ((try lift_lets); intro x; clear_value x)
    | with_reducible apply Kept.next
    | with_reducible apply KeptOut.ite
    | with_reducible apply State.advanceTo_kept
    | with_reducible apply State.setEp_kept
    | with_reducible apply Kept.ite

theorem State.sendTargets_kept {z s : State} (h : Kept z s) (a1 : Nat) : Kept z (State.sendTargets s a1) := by
  unfold State.sendTargets
  repeat' first
    | with_reducible assumption
    | ((try lift_lets); intro x; clear_value (e : x = _); refine Kept.use (s := z) (x := x) (Kept.via e ?_) (fun h => ?_))
    | ((try lift_lets); intro x; clear_value x)
    | with_reducible apply State.setEp_kept
    | with_reducible apply Kept.ite
    | (with_reducible apply Kept.foldl; intro s x h)

theorem execApcPoll_kept {z s : State} (h : Kept z s) (a1 : Fin 4) : KeptOut z (execApcPoll a1 s) := by
  unfold execApcPoll
  repeat' first
    | with_reducible assumption
    | ((try lift_lets); intro x; clear_value (e : x = _); refine Kept.use (s := z) (x := x) (Kept.via e ?_) (fun h => ?_))
    | ((try lift_lets); intro x; clear_value x)
    | with_reducible apply Kept.next
    | with_reducible apply State.advanceTo_kept
    | with_reducible apply State.setEp_kept
    | with_reducible apply State.sendTargets_kept

theorem State.beamFault_kept {z s : State} (h : Kept z s) (a1 : Nat) : Kept z (State.beamFault s a1) := by
  unfold State.beamFault
  repeat' first
    | with_reducible assumption
    | with_reducible apply State.raise_kept
    | with_reducible apply State.laserStatic_kept
    | with_reducible apply State.setF_kept

theorem State.apcGood_kept {z s : State} (h : Kept z s) (a1 : Nat) (a2 : Apc) (a3 : Nat) (a4 : Nat) : Kept z (State.apcGood s a1 a2 a3 a4) := by
  unfold State.apcGood
  repeat' first
    | with_reducible assumption
    | ((try lift_lets); intro x; clear_value (e : x = _); refine Kept.use (s := z) (x := x) (Kept.via e ?_) (fun h => ?_))
    | ((try lift_lets); intro x; clear_value x)
    | with_reducible apply State.beamFault_kept
    | with_reducible apply State.setF_kept
    | with_reducible apply State.raise_kept
    | with_reducible apply Kept.ite

theorem execApcReply_kept {z s : State} (h : Kept z s) (a1 : Fin 4) (a2 : BitVec 32) : KeptOut z (execApcReply a1 a2 s) := by
  unfold execApcReply
  repeat' first
    | with_reducible assumption
    | ((try lift_lets); intro x; clear_value (e : x = _); refine Kept.use (s := z) (x := x) (Kept.via e ?_) (fun h => ?_))
    | ((try lift_lets); intro x; clear_value x)
    | with_reducible apply Kept.next
    | with_reducible apply KeptOut.ite
    | with_reducible apply State.setF_kept
    | with_reducible apply State.setEp_kept
    | with_reducible apply State.raise_kept
    | with_reducible apply State.logRetry_kept
    | with_reducible apply State.tally_kept
    | with_reducible apply State.apcGood_kept
    | with_reducible apply Kept.ite
    | split

theorem State.hvSequence_kept {z s : State} (h : Kept z s) (a1 : Nat) : Kept z (State.hvSequence s a1) := by
  unfold State.hvSequence
  repeat' first
    | with_reducible assumption
    | ((try lift_lets); intro x; clear_value (e : x = _); refine Kept.use (s := z) (x := x) (Kept.via e ?_) (fun h => ?_))
    | ((try lift_lets); intro x)
    | with_reducible apply State.setHv_kept
    | with_reducible apply State.setF_kept
    | with_reducible apply Kept.ite
    | split
    | (dsimp (zetaDelta := true) only)
    | (simp (zetaDelta := true) only [Kept.mk2_iff, Kept.mk_iff])

theorem execHvRampStep_kept {z s : State} (h : Kept z s) (a1 : Fin 16) : KeptOut z (execHvRampStep a1 s) := by
  unfold execHvRampStep
  repeat' first
    | with_reducible assumption
    | ((try lift_lets); intro x; clear_value (e : x = _); refine Kept.use (s := z) (x := x) (Kept.via e ?_) (fun h => ?_))
    | ((try lift_lets); intro x; clear_value x)
    | with_reducible apply Kept.next
    | with_reducible apply KeptOut.ite
    | with_reducible apply State.advanceTo_kept
    | with_reducible apply State.hvSequence_kept
    | with_reducible apply State.setHv_kept
    | with_reducible apply State.setFs_kept
    | with_reducible apply State.keepalives_kept
    | with_reducible apply Kept.ite
    | split

theorem State.hvArc_kept {z s : State} (h : Kept z s) (a1 : Nat) : Kept z (State.hvArc s a1) := by
  unfold State.hvArc
  repeat' first
    | with_reducible assumption
    | ((try lift_lets); intro x; clear_value (e : x = _); refine Kept.use (s := z) (x := x) (Kept.via e ?_) (fun h => ?_))
    | ((try lift_lets); intro x; clear_value x)
    | with_reducible apply State.setFs_kept
    | with_reducible apply State.keepalives_kept
    | with_reducible apply State.tally_kept
    | with_reducible apply State.setF_kept
    | with_reducible apply State.setHv_kept
    | with_reducible apply State.raise_kept
    | with_reducible apply State.logRetry_kept
    | with_reducible apply State.spoil_kept
    | split

theorem execHvMonitorSample_kept {z s : State} (h : Kept z s) (a1 : Fin 16) (a2 : BitVec 12) (a3 : Bool) : KeptOut z (execHvMonitorSample a1 a2 a3 s) := by
  unfold execHvMonitorSample
  repeat' first
    | with_reducible assumption
    | ((try lift_lets); intro x; clear_value (e : x = _); refine Kept.use (s := z) (x := x) (Kept.via e ?_) (fun h => ?_))
    | ((try lift_lets); intro x; clear_value x)
    | with_reducible apply Kept.next
    | with_reducible apply KeptOut.ite
    | with_reducible apply State.advanceTo_kept
    | with_reducible apply State.setF_kept
    | with_reducible apply State.setB_kept
    | with_reducible apply State.setHv_kept
    | with_reducible apply State.hvArc_kept
    | with_reducible apply Kept.ite

theorem execHvArcHoldEnd_kept {z s : State} (h : Kept z s) (a1 : Fin 16) : KeptOut z (execHvArcHoldEnd a1 s) := by
  unfold execHvArcHoldEnd
  repeat' first
    | with_reducible assumption
    | ((try lift_lets); intro x; clear_value (e : x = _); refine Kept.use (s := z) (x := x) (Kept.via e ?_) (fun h => ?_))
    | ((try lift_lets); intro x; clear_value x)
    | with_reducible apply Kept.next
    | with_reducible apply State.advanceTo_kept
    | with_reducible apply State.setHv_kept
    | split

theorem execHvArcWindowEnd_kept {z s : State} (h : Kept z s) (a1 : Fin 16) : KeptOut z (execHvArcWindowEnd a1 s) := by
  unfold execHvArcWindowEnd
  repeat' first
    | with_reducible assumption
    | ((try lift_lets); intro x; clear_value (e : x = _); refine Kept.use (s := z) (x := x) (Kept.via e ?_) (fun h => ?_))
    | ((try lift_lets); intro x; clear_value x)
    | with_reducible apply Kept.next
    | with_reducible apply State.advanceTo_kept
    | with_reducible apply State.raiseOwn_kept
    | with_reducible apply State.logRetry_kept
    | with_reducible apply State.setHv_kept
    | split

theorem execHvRampTimeout_kept {z s : State} (h : Kept z s) (a1 : Fin 16) : KeptOut z (execHvRampTimeout a1 s) := by
  unfold execHvRampTimeout
  repeat' first
    | with_reducible assumption
    | ((try lift_lets); intro x; clear_value (e : x = _); refine Kept.use (s := z) (x := x) (Kept.via e ?_) (fun h => ?_))
    | ((try lift_lets); intro x; clear_value x)
    | with_reducible apply Kept.next
    | with_reducible apply KeptOut.ite
    | with_reducible apply State.advanceTo_kept
    | with_reducible apply State.raise_kept
    | with_reducible apply State.setHv_kept
    | with_reducible apply Kept.ite
    | split

theorem State.fuserCycle_kept {z s : State} (h : Kept z s) (a1 : Nat) : Kept z (State.fuserCycle s a1) := by
  unfold State.fuserCycle
  repeat' first
    | with_reducible assumption
    | ((try lift_lets); intro x; clear_value (e : x = _); refine Kept.use (s := z) (x := x) (Kept.via e ?_) (fun h => ?_))
    | ((try lift_lets); intro x; clear_value x)
    | with_reducible apply State.setB_kept
    | with_reducible apply State.setZone_kept
    | with_reducible apply State.lived_kept
    | with_reducible apply State.tally_kept
    | with_reducible apply Kept.ite

theorem execZcEdge_kept {z s : State} (h : Kept z s)  : KeptOut z (execZcEdge s) := by
  unfold execZcEdge
  repeat' first
    | with_reducible assumption
    | with_reducible apply Kept.next
    | with_reducible apply State.fuserCycle_kept
    | (simp only [Kept.mk2_iff])
    | (simp only [Kept.mk_iff])

theorem State.fuserOff_kept {z s : State} (h : Kept z s) (a1 : Nat) : Kept z (State.fuserOff s a1) := by
  unfold State.fuserOff
  repeat' first
    | with_reducible assumption
    | ((try lift_lets); intro x; clear_value (e : x = _); refine Kept.use (s := z) (x := x) (Kept.via e ?_) (fun h => ?_))
    | ((try lift_lets); intro x; clear_value x)
    | with_reducible apply State.setF_kept
    | with_reducible apply State.setZone_kept

theorem execZcLost_kept {z s : State} (h : Kept z s)  : KeptOut z (execZcLost s) := by
  unfold execZcLost
  repeat' first
    | with_reducible assumption
    | ((try lift_lets); intro x; clear_value (e : x = _); refine Kept.use (s := z) (x := x) (Kept.via e ?_) (fun h => ?_))
    | ((try lift_lets); intro x; clear_value x)
    | with_reducible apply Kept.next
    | with_reducible apply KeptOut.ite
    | with_reducible apply State.advanceTo_kept
    | with_reducible apply State.setFs_kept
    | with_reducible apply State.fuserOff_kept
    | with_reducible apply State.raiseX_kept
    | with_reducible apply State.keepalives_kept
    | with_reducible apply Kept.ite

theorem execFuserCut_kept {z s : State} (h : Kept z s) (a1 : Fin 2) : KeptOut z (execFuserCut a1 s) := by
  unfold execFuserCut
  repeat' first
    | with_reducible assumption
    | ((try lift_lets); intro x; clear_value (e : x = _); refine Kept.use (s := z) (x := x) (Kept.via e ?_) (fun h => ?_))
    | ((try lift_lets); intro x; clear_value x)
    | with_reducible apply Kept.next
    | with_reducible apply KeptOut.ite
    | with_reducible apply State.raise_kept
    | with_reducible apply State.keepalives_kept
    | with_reducible apply State.setF_kept
    | with_reducible apply State.fuserOff_kept
    | with_reducible apply Kept.ite

theorem execFuserCutClear_kept {z s : State} (h : Kept z s) (a1 : Fin 2) (a2 : Bool) : KeptOut z (execFuserCutClear a1 a2 s) := by
  unfold execFuserCutClear
  repeat' first
    | with_reducible assumption
    | with_reducible apply Kept.next
    | with_reducible apply KeptOut.ite
    | with_reducible apply State.keepalives_kept
    | with_reducible apply State.setF_kept
    | with_reducible apply Kept.ite

/-! ### Trig -/



end Sys2Proof.Machine
end

