-- ==== Sys2Proof/Laws/KeptDrives.lean ====
section
/-!
SUPPORT. Every operation of the axes, the drives, the stops and the observer keeps the queue, the memories' canonical form and the programmed OTP
bits: one lemma per operation, by its parts.
-/
namespace Sys2Proof.Machine

/-! ### Axes -/

theorem State.setAxState_kept {z s : State} (h : Kept z s) (a1 : Nat) (a2 : Nat) : Kept z (State.setAxState s a1 a2) := by
  unfold State.setAxState
  repeat' first
    | with_reducible assumption
    | with_reducible apply State.setF_kept

theorem State.showAxis_kept {z s : State} (h : Kept z s) (a1 : Nat) : Kept z (State.showAxis s a1) := by
  unfold State.showAxis
  repeat' first
    | with_reducible assumption
    | ((try lift_lets); intro x; clear_value (e : x = _); refine Kept.use (s := z) (x := x) (Kept.via e ?_) (fun h => ?_))
    | ((try lift_lets); intro x; clear_value x)
    | with_reducible apply State.setF_kept
    | with_reducible apply State.setPairS_kept
    | with_reducible apply Kept.ite

theorem State.axRefuse_kept {z s : State} (h : Kept z s) (a1 : Nat) (a2 : Nat) : Kept z (State.axRefuse s a1 a2) := by
  unfold State.axRefuse
  repeat' first
    | with_reducible assumption
    | with_reducible apply State.tally_kept
    | with_reducible apply State.setFs_kept

theorem State.axBehind_kept {z s : State} (h : Kept z s) (a1 : Nat) : Kept z (State.axBehind s a1) := by
  unfold State.axBehind
  repeat' first
    | with_reducible assumption
    | with_reducible apply State.raise_kept
    | with_reducible apply State.setF_kept
    | with_reducible apply State.axRefuse_kept

theorem State.groupStart_kept {z s : State} (h : Kept z s) (a1 : Nat) : Kept z (State.groupStart s a1) := by
  unfold State.groupStart
  repeat' first
    | with_reducible assumption
    | ((try lift_lets); intro x; clear_value (e : x = _); refine Kept.use (s := z) (x := x) (Kept.via e ?_) (fun h => ?_))
    | ((try lift_lets); intro x; clear_value x)
    | with_reducible apply State.setGroup_kept
    | with_reducible apply State.setFs_kept
    | with_reducible apply State.setAxState_kept
    | (with_reducible apply Kept.foldl; intro s x h)

theorem State.groupMove_kept {z s : State} (h : Kept z s) (a1 : Nat) : Kept z (State.groupMove s a1) := by
  unfold State.groupMove
  repeat' first
    | with_reducible assumption
    | ((try lift_lets); intro x; clear_value (e : x = _); refine Kept.use (s := z) (x := x) (Kept.via e ?_) (fun h => ?_))
    | ((try lift_lets); intro x)
    | with_reducible apply State.axRefuse_kept
    | with_reducible apply State.setF_kept
    | with_reducible apply State.axBehind_kept
    | with_reducible apply State.groupStart_kept
    | with_reducible apply Kept.ite
    | split
    | (dsimp (zetaDelta := true) only)
    | (simp (zetaDelta := true) only [Kept.mk2_iff, Kept.mk_iff])

theorem State.groupEnd_kept {z s : State} (h : Kept z s) (a1 : Nat) : Kept z (State.groupEnd s a1) := by
  unfold State.groupEnd
  repeat' first
    | with_reducible assumption
    | ((try lift_lets); intro x; clear_value (e : x = _); refine Kept.use (s := z) (x := x) (Kept.via e ?_) (fun h => ?_))
    | ((try lift_lets); intro x; clear_value x)
    | with_reducible apply State.showAxis_kept
    | with_reducible apply State.setAxState_kept
    | with_reducible apply State.setAxis_kept
    | with_reducible apply State.setF_kept
    | with_reducible apply Kept.ite
    | (with_reducible apply Kept.foldl; intro s x h)

theorem State.axGo_kept {z s : State} (h : Kept z s) (a1 : Nat) (a2 : Nat) (a3 : Axis → Axis) : Kept z (State.axGo s a1 a2 a3) := by
  unfold State.axGo
  repeat' first
    | with_reducible assumption
    | ((try lift_lets); intro x; clear_value (e : x = _); refine Kept.use (s := z) (x := x) (Kept.via e ?_) (fun h => ?_))
    | ((try lift_lets); intro x; clear_value x)
    | with_reducible apply State.setF_kept
    | with_reducible apply State.setAxState_kept
    | with_reducible apply State.setAxis_kept

theorem State.axMove_kept {z s : State} (h : Kept z s) (a1 : Nat) (a2 : Int) : Kept z (State.axMove s a1 a2) := by
  unfold State.axMove
  repeat' first
    | with_reducible assumption
    | ((try lift_lets); intro x; clear_value (e : x = _); refine Kept.use (s := z) (x := x) (Kept.via e ?_) (fun h => ?_))
    | ((try lift_lets); intro x; clear_value x)
    | with_reducible apply State.axBehind_kept
    | with_reducible apply State.axRefuse_kept
    | with_reducible apply State.axGo_kept
    | with_reducible apply State.setPairS_kept
    | with_reducible apply Kept.ite

theorem State.axGear_kept {z s : State} (h : Kept z s) (a1 : Nat) (a2 : Nat) : Kept z (State.axGear s a1 a2) := by
  unfold State.axGear
  repeat' first
    | with_reducible assumption
    | ((try lift_lets); intro x; clear_value (e : x = _); refine Kept.use (s := z) (x := x) (Kept.via e ?_) (fun h => ?_))
    | ((try lift_lets); intro x)
    | with_reducible apply State.axRefuse_kept
    | with_reducible apply State.setBias_kept
    | with_reducible apply State.showAbsorb_kept
    | with_reducible apply State.axGo_kept
    | with_reducible apply Kept.ite
    | (dsimp (zetaDelta := true) only)
    | (simp (zetaDelta := true) only [Kept.mk2_iff, Kept.mk_iff])

theorem State.axHome_kept {z s : State} (h : Kept z s) (a1 : Nat) (a2 : Int) : Kept z (State.axHome s a1 a2) := by
  unfold State.axHome
  repeat' first
    | with_reducible assumption
    | ((try lift_lets); intro x; clear_value (e : x = _); refine Kept.use (s := z) (x := x) (Kept.via e ?_) (fun h => ?_))
    | ((try lift_lets); intro x; clear_value x)
    | with_reducible apply State.axBehind_kept
    | with_reducible apply State.axRefuse_kept
    | with_reducible apply State.setFs_kept
    | with_reducible apply State.axGo_kept
    | with_reducible apply State.setAxis_kept
    | with_reducible apply Kept.ite

theorem State.axDisable_kept {z s : State} (h : Kept z s) (a1 : Nat) : Kept z (State.axDisable s a1) := by
  unfold State.axDisable
  repeat' first
    | with_reducible assumption
    | ((try lift_lets); intro x; clear_value (e : x = _); refine Kept.use (s := z) (x := x) (Kept.via e ?_) (fun h => ?_))
    | ((try lift_lets); intro x; clear_value x)
    | with_reducible apply State.axGo_kept
    | with_reducible apply State.showAxis_kept
    | with_reducible apply State.setFs_kept

theorem State.groupStop_kept {z s : State} (h : Kept z s) (a1 : Nat) (a2 : Bool) : Kept z (State.groupStop s a1 a2) := by
  unfold State.groupStop
  repeat' first
    | with_reducible assumption
    | ((try lift_lets); intro x; clear_value (e : x = _); refine Kept.use (s := z) (x := x) (Kept.via e ?_) (fun h => ?_))
    | ((try lift_lets); intro x; clear_value x)
    | with_reducible apply State.setF_kept
    | with_reducible apply State.setAxState_kept
    | with_reducible apply Kept.ite
    | (with_reducible apply Kept.foldl; intro s x h)

theorem State.axHardStop_kept {z s : State} (h : Kept z s) (a1 : Nat) : Kept z (State.axHardStop s a1) := by
  unfold State.axHardStop
  repeat' first
    | with_reducible assumption
    | with_reducible apply State.groupStop_kept
    | with_reducible apply State.axGo_kept
    | split

theorem State.axStop_kept {z s : State} (h : Kept z s) (a1 : Nat) : Kept z (State.axStop s a1) := by
  unfold State.axStop
  repeat' first
    | with_reducible assumption
    | with_reducible apply State.groupStop_kept
    | with_reducible apply State.axRefuse_kept
    | with_reducible apply State.axGo_kept
    | with_reducible apply Kept.ite
    | split

theorem State.axCommand_kept {z s : State} (h : Kept z s) (a1 : Nat) (a2 : Nat) (a3 : Int) : Kept z (State.axCommand s a1 a2 a3) := by
  unfold State.axCommand
  repeat' first
    | with_reducible assumption
    | ((try lift_lets); intro x; clear_value (e : x = _); refine Kept.use (s := z) (x := x) (Kept.via e ?_) (fun h => ?_))
    | ((try lift_lets); intro x; clear_value x)
    | with_reducible apply State.axRefuse_kept
    | with_reducible apply State.axStop_kept
    | with_reducible apply State.axMove_kept
    | with_reducible apply State.axBehind_kept
    | with_reducible apply State.axGo_kept
    | with_reducible apply State.axGear_kept
    | with_reducible apply State.axHardStop_kept
    | with_reducible apply State.axHome_kept
    | with_reducible apply State.axDisable_kept
    | with_reducible apply State.groupMove_kept
    | with_reducible apply Kept.ite
    | split

theorem execStop_kept {z s : State} (h : Kept z s) (a1 : Fin 24) : KeptOut z (execStop a1 s) := by
  unfold execStop
  repeat' first
    | with_reducible assumption
    | with_reducible apply Kept.next
    | with_reducible apply State.axCommand_kept

theorem execMoveAbs_kept {z s : State} (h : Kept z s) (a1 : Fin 24) : KeptOut z (execMoveAbs a1 s) := by
  unfold execMoveAbs
  repeat' first
    | with_reducible assumption
    | with_reducible apply Kept.next
    | with_reducible apply State.axCommand_kept

theorem execMoveRel_kept {z s : State} (h : Kept z s) (a1 : Fin 24) (a2 : BitVec 32) : KeptOut z (execMoveRel a1 a2 s) := by
  unfold execMoveRel
  repeat' first
    | with_reducible assumption
    | with_reducible apply Kept.next
    | with_reducible apply State.axCommand_kept

theorem execVel_kept {z s : State} (h : Kept z s) (a1 : Fin 24) (a2 : BitVec 32) : KeptOut z (execVel a1 a2 s) := by
  unfold execVel
  repeat' first
    | with_reducible assumption
    | with_reducible apply Kept.next
    | with_reducible apply State.axCommand_kept

theorem execGear_kept {z s : State} (h : Kept z s) (a1 : Fin 24) (a2 : BitVec 32) : KeptOut z (execGear a1 a2 s) := by
  unfold execGear
  repeat' first
    | with_reducible assumption
    | with_reducible apply Kept.next
    | with_reducible apply State.axCommand_kept

theorem execQstop_kept {z s : State} (h : Kept z s) (a1 : Fin 24) : KeptOut z (execQstop a1 s) := by
  unfold execQstop
  repeat' first
    | with_reducible assumption
    | with_reducible apply Kept.next
    | with_reducible apply State.axCommand_kept

theorem execHome_kept {z s : State} (h : Kept z s) (a1 : Fin 24) (a2 : BitVec 32) : KeptOut z (execHome a1 a2 s) := by
  unfold execHome
  repeat' first
    | with_reducible assumption
    | with_reducible apply Kept.next
    | with_reducible apply State.axCommand_kept

theorem execDisable_kept {z s : State} (h : Kept z s) (a1 : Fin 24) : KeptOut z (execDisable a1 s) := by
  unfold execDisable
  repeat' first
    | with_reducible assumption
    | with_reducible apply Kept.next
    | with_reducible apply State.axCommand_kept

theorem execGroupMove_kept {z s : State} (h : Kept z s) (a1 : Fin 24) : KeptOut z (execGroupMove a1 s) := by
  unfold execGroupMove
  repeat' first
    | with_reducible assumption
    | with_reducible apply Kept.next
    | with_reducible apply State.axCommand_kept

theorem State.limitActive_kept {z s : State} (h : Kept z s) (a1 : Nat) (a2 : Bool) : Kept z (State.limitActive s a1 a2) := by
  unfold State.limitActive
  repeat' first
    | with_reducible assumption
    | ((try lift_lets); intro x; clear_value (e : x = _); refine Kept.use (s := z) (x := x) (Kept.via e ?_) (fun h => ?_))
    | ((try lift_lets); intro x; clear_value x)
    | with_reducible apply State.setFs_kept
    | with_reducible apply State.axHardStop_kept
    | with_reducible apply State.raiseAt_kept
    | with_reducible apply State.raise_kept
    | with_reducible apply State.setF_kept
    | with_reducible apply Kept.ite

theorem execLimitActive_kept {z s : State} (h : Kept z s) (a1 : Fin 24) (a2 : Bool) : KeptOut z (execLimitActive a1 a2 s) := by
  unfold execLimitActive
  repeat' first
    | with_reducible assumption
    | ((try lift_lets); intro x; clear_value (e : x = _); refine Kept.use (s := z) (x := x) (Kept.via e ?_) (fun h => ?_))
    | ((try lift_lets); intro x; clear_value x)
    | with_reducible apply Kept.next
    | with_reducible apply KeptOut.ite
    | with_reducible apply State.setAxis_kept
    | with_reducible apply State.limitActive_kept
    | with_reducible apply Kept.ite

theorem State.homeAccept_kept {z s : State} (h : Kept z s) (a1 : Nat) : Kept z (State.homeAccept s a1) := by
  unfold State.homeAccept
  repeat' first
    | with_reducible assumption
    | ((try lift_lets); intro x; clear_value (e : x = _); refine Kept.use (s := z) (x := x) (Kept.via e ?_) (fun h => ?_))
    | ((try lift_lets); intro x; clear_value x)
    | with_reducible apply State.setPairS_kept
    | with_reducible apply State.setAxis_kept
    | split

theorem State.chatter_kept {z s : State} (h : Kept z s) (a1 : Nat) (a2 : Nat) : Kept z (State.chatter s a1 a2) := by
  unfold State.chatter
  repeat' first
    | with_reducible assumption
    | ((try lift_lets); intro x; clear_value (e : x = _); refine Kept.use (s := z) (x := x) (Kept.via e ?_) (fun h => ?_))
    | ((try lift_lets); intro x; clear_value x)
    | with_reducible apply State.setAxis_kept
    | with_reducible apply State.tally_kept
    | with_reducible apply State.addF_kept
    | with_reducible apply Kept.ite
    | split

theorem State.axInputs_kept {z s : State} (h : Kept z s) (a1 : Nat) (a2 : BitVec 64) (a3 : Nat) : Kept z (State.axInputs s a1 a2 a3) := by
  unfold State.axInputs
  repeat' first
    | with_reducible assumption
    | ((try lift_lets); intro x; clear_value (e : x = _); refine Kept.use (s := z) (x := x) (Kept.via e ?_) (fun h => ?_))
    | ((try lift_lets); intro x; clear_value x)
    | with_reducible apply State.chatter_kept
    | with_reducible apply State.setAxis_kept
    | with_reducible apply State.setFs_kept
    | with_reducible apply State.limitActive_kept
    | with_reducible apply State.homeAccept_kept
    | with_reducible apply Kept.ite

theorem execHomeHoldoffEnd_kept {z s : State} (h : Kept z s) (a1 : Fin 24) : KeptOut z (execHomeHoldoffEnd a1 s) := by
  unfold execHomeHoldoffEnd
  repeat' first
    | with_reducible assumption
    | ((try lift_lets); intro x; clear_value (e : x = _); refine Kept.use (s := z) (x := x) (Kept.via e ?_) (fun h => ?_))
    | ((try lift_lets); intro x; clear_value x)
    | with_reducible apply Kept.next
    | with_reducible apply KeptOut.ite
    | with_reducible apply State.advanceTo_kept
    | with_reducible apply State.setAxState_kept
    | with_reducible apply State.setAxis_kept
    | with_reducible apply State.setPairS_kept
    | with_reducible apply State.raise_kept
    | with_reducible apply State.setF_kept
    | with_reducible apply State.showAxis_kept
    | with_reducible apply Kept.ite
    | split

theorem State.gearUpdate_kept {z s : State} (h : Kept z s) (a1 : Nat) : Kept z (State.gearUpdate s a1) := by
  unfold State.gearUpdate
  repeat' first
    | with_reducible assumption
    | ((try lift_lets); intro x; clear_value (e : x = _); refine Kept.use (s := z) (x := x) (Kept.via e ?_) (fun h => ?_))
    | ((try lift_lets); intro x; clear_value x)
    | with_reducible apply State.raise_kept
    | with_reducible apply State.setF_kept
    | with_reducible apply State.setBias_kept
    | with_reducible apply State.setB_kept
    | with_reducible apply State.setAxis_kept
    | with_reducible apply Kept.ite

theorem State.axPut_kept {z s : State} (h : Kept z s) (a1 : Nat) (a2 : Int × Int × Int) (a3 : Option Nat) : Kept z (State.axPut s a1 a2 a3) := by
  unfold State.axPut
  repeat' first
    | with_reducible assumption
    | ((try lift_lets); intro x; clear_value (e : x = _); refine Kept.use (s := z) (x := x) (Kept.via e ?_) (fun h => ?_))
    | ((try lift_lets); intro x; clear_value x)
    | with_reducible apply State.setAxis_kept
    | with_reducible apply State.setAxState_kept
    | with_reducible apply Kept.ite
    | split

theorem State.groupUpdate_kept {z s : State} (h : Kept z s) (a1 : Nat) : Kept z (State.groupUpdate s a1) := by
  unfold State.groupUpdate
  repeat' first
    | with_reducible assumption
    | ((try lift_lets); intro x; clear_value (e : x = _); refine Kept.use (s := z) (x := x) (Kept.via e ?_) (fun h => ?_))
    | ((try lift_lets); intro x; clear_value x)
    | with_reducible apply State.setGroup_kept
    | with_reducible apply State.showAxis_kept
    | with_reducible apply State.setAxis_kept
    | with_reducible apply State.setAxState_kept
    | with_reducible apply State.groupEnd_kept
    | with_reducible apply Kept.ite
    | (with_reducible apply Kept.foldl; intro s x h)

theorem State.axUpdate_kept {z s : State} (h : Kept z s) (a1 : Nat) : Kept z (State.axUpdate s a1) := by
  unfold State.axUpdate
  repeat' first
    | with_reducible assumption
    | ((try lift_lets); intro x; clear_value (e : x = _); refine Kept.use (s := z) (x := x) (Kept.via e ?_) (fun h => ?_))
    | ((try lift_lets); intro x; clear_value x)
    | with_reducible apply State.axPut_kept
    | with_reducible apply State.setAxState_kept
    | with_reducible apply State.gearUpdate_kept
    | with_reducible apply State.showAxis_kept
    | with_reducible apply Kept.ite
    | split

theorem State.axStill_kept {z s : State} (h : Kept z s) (a1 : Nat) (a2 : Int) : Kept z (State.axStill s a1 a2) := by
  unfold State.axStill
  repeat' first
    | with_reducible assumption
    | ((try lift_lets); intro x; clear_value (e : x = _); refine Kept.use (s := z) (x := x) (Kept.via e ?_) (fun h => ?_))
    | ((try lift_lets); intro x; clear_value x)
    | with_reducible apply State.setAxis_kept
    | with_reducible apply State.setF_kept
    | with_reducible apply Kept.ite
    | (with_reducible apply Kept.forBelow; intro i s h)

theorem execPgenUpdate_kept {z s : State} (h : Kept z s) (a1 : BitVec 64) (a2 : List (Fin 24 × BitVec 8)) : KeptOut z (execPgenUpdate a1 a2 s) := by
  unfold execPgenUpdate
  repeat' first
    | with_reducible assumption
    | ((try lift_lets); intro x; clear_value (e : x = _); refine Kept.use (s := z) (x := x) (Kept.via e ?_) (fun h => ?_))
    | ((try lift_lets); intro x; clear_value x)
    | with_reducible apply Kept.next
    | with_reducible apply KeptOut.ite
    | with_reducible apply State.advanceTo_kept
    | with_reducible apply State.axInputs_kept
    | with_reducible apply State.axUpdate_kept
    | with_reducible apply State.groupUpdate_kept
    | with_reducible apply State.axStill_kept
    | with_reducible apply Kept.ite
    | (with_reducible apply Kept.forBelow; intro i s h)
    | (simp only [Kept.mk2_iff])
    | (simp only [Kept.mk_iff])

/-! ### Loops -/

theorem execLoopTimerEnable_kept {z s : State} (h : Kept z s) (a1 : Fin 16) (a2 : BitVec 6) : KeptOut z (execLoopTimerEnable a1 a2 s) := by
  unfold execLoopTimerEnable
  repeat' first
    | with_reducible assumption
    | ((try lift_lets); intro x; clear_value (e : x = _); refine Kept.use (s := z) (x := x) (Kept.via e ?_) (fun h => ?_))
    | ((try lift_lets); intro x; clear_value x)
    | with_reducible apply Kept.next
    | with_reducible apply KeptOut.ite
    | with_reducible apply State.flam_kept
    | with_reducible apply State.setF_kept
    | with_reducible apply State.setFs_kept
    | with_reducible apply Kept.ite
    | (simp only [Kept.mk2_iff])
    | (simp only [Kept.mk_iff])

theorem State.timerOff_kept {z s : State} (h : Kept z s) (a1 : Nat) : Kept z (State.timerOff s a1) := by
  unfold State.timerOff
  repeat' first
    | with_reducible assumption
    | with_reducible apply State.setFs_kept

theorem execAxisEnable_kept {z s : State} (h : Kept z s) (a1 : Fin 24) : KeptOut z (execAxisEnable a1 s) := by
  unfold execAxisEnable
  repeat' first
    | with_reducible assumption
    | ((try lift_lets); intro x; clear_value (e : x = _); refine Kept.use (s := z) (x := x) (Kept.via e ?_) (fun h => ?_))
    | ((try lift_lets); intro x; clear_value x)
    | with_reducible apply Kept.next
    | with_reducible apply KeptOut.ite
    | with_reducible apply State.setF_kept
    | with_reducible apply State.logRetry_kept
    | with_reducible apply State.setAxis_kept
    | with_reducible apply State.setFs_kept
    | with_reducible apply Kept.ite

theorem execAxisSwitch_kept {z s : State} (h : Kept z s) (a1 : Fin 24) : KeptOut z (execAxisSwitch a1 s) := by
  unfold execAxisSwitch
  repeat' first
    | with_reducible assumption
    | ((try lift_lets); intro x; clear_value (e : x = _); refine Kept.use (s := z) (x := x) (Kept.via e ?_) (fun h => ?_))
    | ((try lift_lets); intro x; clear_value x)
    | with_reducible apply Kept.next
    | with_reducible apply State.setAxis_kept

theorem State.putEntries_kept {z s : State} (h : Kept z s) (kind unit bank i : Nat) (l : List Nat) :
    Kept z (s.putEntries kind unit bank i l) := by
  induction l generalizing s i with
  | nil => exact h
  | cons v r ih => exact ih (Kept.mk2_iff.mpr h) _

theorem State.axTableErr_kept {z s : State} (h : Kept z s) (a1 : Nat) (a2 : Nat) : Kept z (State.axTableErr s a1 a2) := by
  unfold State.axTableErr
  repeat' first
    | with_reducible assumption
    | with_reducible apply State.raise_kept
    | with_reducible apply State.setF_kept

theorem State.axTable_kept {z s : State} (h : Kept z s) (a1 : Nat) (a2 : Nat) (a3 : List Nat) (a4 : State → State) (hg4 : ∀ s, Kept z s → Kept z (a4 s)) : Kept z (State.axTable s a1 a2 a3 a4) := by
  unfold State.axTable
  repeat' first
    | with_reducible assumption
    | with_reducible apply State.axTableErr_kept
    | with_reducible apply hg4
    | with_reducible apply Kept.ite
    | with_reducible apply KeptP.ite
    | (split <;> (rename_i heq; refine Kept.use (s := z) (KeptP.at heq ?_) (fun h => ?_)))
    | with_reducible apply KeptP.pair
    | with_reducible apply KeptP.fst

theorem State.setAxGo_kept {z s : State} (h : Kept z s)  : Kept z (State.setAxGo s) := by
  unfold State.setAxGo
  repeat' first
    | with_reducible assumption
    | with_reducible apply State.setB_kept

theorem execAxsTableLoad_kept {z s : State} (h : Kept z s) (a1 : BitVec 5) (a2 : BitVec 4) : KeptOut z (execAxsTableLoad a1 a2 s) := by
  unfold execAxsTableLoad
  repeat' first
    | with_reducible assumption
    | ((try lift_lets); intro x; clear_value (e : x = _); refine Kept.use (s := z) (x := x) (Kept.via e ?_) (fun h => ?_))
    | ((try lift_lets); intro x; clear_value x)
    | with_reducible apply Kept.next
    | with_reducible refine State.axTable_kept ?_ _ _ _ _ (fun s h => ?_)
    | with_reducible apply State.setAxGo_kept
    | with_reducible apply State.setF_kept
    | (simp only [Kept.mk2_iff])
    | (simp only [Kept.mk_iff])

theorem State.finishAx_kept {z s : State} (h : Kept z s) (a1 : Nat) (a2 : Nat) (a3 : Nat) (a4 : List Nat) : Kept z (State.finishAx s a1 a2 a3 a4) := by
  unfold State.finishAx
  repeat' first
    | with_reducible assumption
    | ((try lift_lets); intro x; clear_value (e : x = _); refine Kept.use (s := z) (x := x) (Kept.via e ?_) (fun h => ?_))
    | ((try lift_lets); intro x; clear_value x)
    | with_reducible apply State.putEntries_kept
    | with_reducible apply State.setAxGo_kept
    | with_reducible apply State.setFs_kept
    | with_reducible apply State.axTableErr_kept
    | with_reducible apply State.setF_kept
    | with_reducible apply Kept.ite

theorem execAxsTableLoadDone_kept {z s : State} (h : Kept z s) (a1 : BitVec 5) (a2 : BitVec 4) (a3 : Ecc) : KeptOut z (execAxsTableLoadDone a1 a2 a3 s) := by
  unfold execAxsTableLoadDone
  repeat' first
    | with_reducible assumption
    | ((try lift_lets); intro x; clear_value (e : x = _); refine Kept.use (s := z) (x := x) (Kept.via e ?_) (fun h => ?_))
    | ((try lift_lets); intro x; clear_value x)
    | with_reducible apply Kept.next
    | with_reducible apply KeptOut.ite
    | with_reducible apply State.ecc_kept
    | with_reducible apply State.finishAx_kept
    | with_reducible apply Kept.ite
    | (simp only [Kept.mk2_iff])
    | (simp only [Kept.mk_iff])

theorem execAxsTableClear_kept {z s : State} (h : Kept z s) (a1 : BitVec 5) (a2 : BitVec 4) : KeptOut z (execAxsTableClear a1 a2 s) := by
  unfold execAxsTableClear
  repeat' first
    | with_reducible assumption
    | with_reducible apply Kept.next
    | with_reducible refine State.axTable_kept ?_ _ _ _ _ (fun s h => ?_)
    | with_reducible apply State.setFs_kept

theorem execAxsTableSwap_kept {z s : State} (h : Kept z s) (a1 : BitVec 5) (a2 : BitVec 4) : KeptOut z (execAxsTableSwap a1 a2 s) := by
  unfold execAxsTableSwap
  repeat' first
    | with_reducible assumption
    | with_reducible apply Kept.next
    | with_reducible refine State.axTable_kept ?_ _ _ _ _ (fun s h => ?_)
    | with_reducible apply State.setFs_kept

theorem State.axBoundary_kept {z s : State} (h : Kept z s) (a1 : Nat) (a2 : Nat) : Kept z (State.axBoundary s a1 a2) := by
  unfold State.axBoundary
  repeat' first
    | with_reducible assumption
    | with_reducible apply State.setFs_kept
    | with_reducible apply State.raise_kept
    | with_reducible apply State.setF_kept
    | with_reducible apply Kept.ite

theorem execIndexPulse_kept {z s : State} (h : Kept z s) (a1 : Fin 24) : KeptOut z (execIndexPulse a1 s) := by
  unfold execIndexPulse
  repeat' first
    | with_reducible assumption
    | with_reducible apply Kept.next
    | with_reducible apply State.axBoundary_kept

theorem State.axDown_kept {z s : State} (h : Kept z s) (a1 : Nat) (a2 : Field) (a3 : Nat) : Kept z (State.axDown s a1 a2 a3) := by
  unfold State.axDown
  repeat' first
    | with_reducible assumption
    | ((try lift_lets); intro x; clear_value (e : x = _); refine Kept.use (s := z) (x := x) (Kept.via e ?_) (fun h => ?_))
    | ((try lift_lets); intro x; clear_value x)
    | with_reducible apply State.raise_kept
    | with_reducible apply State.setF_kept
    | with_reducible apply State.setAxis_kept

theorem State.axCoast_kept {z s : State} (h : Kept z s) (a1 : Nat) (a2 : Int) : Kept z (State.axCoast s a1 a2) := by
  unfold State.axCoast
  repeat' first
    | with_reducible assumption
    | ((try lift_lets); intro x; clear_value (e : x = _); refine Kept.use (s := z) (x := x) (Kept.via e ?_) (fun h => ?_))
    | ((try lift_lets); intro x; clear_value x)
    | with_reducible apply State.setAxis_kept
    | with_reducible apply State.tally_kept
    | with_reducible apply State.setPairS_kept
    | with_reducible apply State.setF_kept

theorem State.axMeasure_kept {z s : State} (h : Kept z s) (a1 : Nat) (a2 : Int) (a3 : Int) (a4 : Bool) : Kept z (State.axMeasure s a1 a2 a3 a4) := by
  unfold State.axMeasure
  repeat' first
    | with_reducible assumption
    | ((try lift_lets); intro x; clear_value (e : x = _); refine Kept.use (s := z) (x := x) (Kept.via e ?_) (fun h => ?_))
    | ((try lift_lets); intro x; clear_value x)
    | with_reducible apply State.setAxis_kept
    | with_reducible apply State.setPairS_kept
    | with_reducible apply State.setF_kept
    | with_reducible apply State.showHold_kept
    | with_reducible apply State.showAbsorb_kept
    | with_reducible apply State.axDown_kept
    | with_reducible apply Kept.ite

theorem State.axTake_kept {z s : State} (h : Kept z s) (a1 : Nat) (a2 : Nat) (a3 : Int) (a4 : Int) : Kept z (State.axTake s a1 a2 a3 a4) := by
  unfold State.axTake
  repeat' first
    | with_reducible assumption
    | ((try lift_lets); intro x; clear_value (e : x = _); refine Kept.use (s := z) (x := x) (Kept.via e ?_) (fun h => ?_))
    | ((try lift_lets); intro x; clear_value x)
    | with_reducible apply State.logRetry_kept
    | with_reducible apply State.setAxis_kept
    | with_reducible apply State.setFs_kept
    | with_reducible apply State.raise_kept
    | with_reducible apply State.axMeasure_kept
    | with_reducible apply Kept.ite

theorem State.axJudge_kept {z s : State} (h : Kept z s) (a1 : Nat) (a2 : Int) (a3 : Bool) (a4 : Bool) (a5 : Int) : Kept z (State.axJudge s a1 a2 a3 a4 a5) := by
  unfold State.axJudge
  repeat' first
    | with_reducible assumption
    | ((try lift_lets); intro x; clear_value (e : x = _); refine Kept.use (s := z) (x := x) (Kept.via e ?_) (fun h => ?_))
    | ((try lift_lets); intro x; clear_value x)
    | with_reducible apply State.setAxis_kept
    | with_reducible apply State.raise_kept
    | with_reducible apply State.logRetry_kept
    | with_reducible apply State.tally_kept
    | with_reducible apply State.addF_kept
    | with_reducible apply State.axDown_kept
    | with_reducible apply State.axCoast_kept
    | with_reducible apply State.axMeasure_kept
    | with_reducible apply Kept.ite

theorem State.axFire_kept {z s : State} (h : Kept z s) (a1 : Nat) (a2 : AxisSample) : Kept z (State.axFire s a1 a2) := by
  unfold State.axFire
  repeat' first
    | with_reducible assumption
    | ((try lift_lets); intro x; clear_value (e : x = _); refine Kept.use (s := z) (x := x) (Kept.via e ?_) (fun h => ?_))
    | ((try lift_lets); intro x; clear_value x)
    | with_reducible apply State.setAxis_kept
    | with_reducible apply State.showAxis_kept
    | with_reducible apply State.axTake_kept
    | with_reducible apply State.axCoast_kept
    | with_reducible apply State.flam_kept
    | with_reducible apply State.axJudge_kept
    | with_reducible apply State.setF_kept
    | with_reducible apply State.axBoundary_kept
    | with_reducible apply Kept.ite
    | (with_reducible apply Kept.forBelow; intro i s h)
    | split

theorem State.signalRole_kept {z s : State} (h : Kept z s) (a1 : Nat) : Kept z (State.signalRole s a1) := by
  unfold State.signalRole
  repeat' first
    | with_reducible assumption
    | ((try lift_lets); intro x; clear_value (e : x = _); refine Kept.use (s := z) (x := x) (Kept.via e ?_) (fun h => ?_))
    | ((try lift_lets); intro x)
    | with_reducible apply State.addF_kept
    | with_reducible apply State.setMallet_kept
    | with_reducible apply State.exception_kept
    | with_reducible apply Kept.ite
    | split
    | (dsimp (zetaDelta := true) only)
    | (simp (zetaDelta := true) only [Kept.mk2_iff, Kept.mk_iff])

theorem execLoopTimerFire_kept {z s : State} (h : Kept z s) (a1 : Fin 16) (a2 : List AxisSample) : KeptOut z (execLoopTimerFire a1 a2 s) := by
  unfold execLoopTimerFire
  repeat' first
    | with_reducible assumption
    | ((try lift_lets); intro x; clear_value (e : x = _); refine Kept.use (s := z) (x := x) (Kept.via e ?_) (fun h => ?_))
    | ((try lift_lets); intro x; clear_value x)
    | with_reducible apply Kept.next
    | with_reducible apply KeptOut.ite
    | with_reducible apply State.advanceTo_kept
    | with_reducible apply State.tally_kept
    | with_reducible apply State.axFire_kept
    | with_reducible apply State.signalRole_kept
    | with_reducible apply Kept.ite
    | (with_reducible apply Kept.forBelow; intro i s h)
    | (simp only [Kept.mk2_iff])
    | (simp only [Kept.mk_iff])

theorem execAxisCoastExpired_kept {z s : State} (h : Kept z s) (a1 : Fin 24) : KeptOut z (execAxisCoastExpired a1 s) := by
  unfold execAxisCoastExpired
  repeat' first
    | with_reducible assumption
    | ((try lift_lets); intro x; clear_value (e : x = _); refine Kept.use (s := z) (x := x) (Kept.via e ?_) (fun h => ?_))
    | ((try lift_lets); intro x; clear_value x)
    | with_reducible apply Kept.next
    | with_reducible apply KeptOut.ite
    | with_reducible apply State.advanceTo_kept
    | with_reducible apply State.setAxis_kept
    | with_reducible apply State.raise_kept
    | with_reducible apply State.setFs_kept
    | with_reducible apply Kept.ite
    | split

/-! ### Steppers -/

theorem State.stepClear_kept {z s : State} (h : Kept z s) (a1 : Nat) : Kept z (State.stepClear s a1) := by
  unfold State.stepClear
  repeat' first
    | with_reducible assumption
    | ((try lift_lets); intro x; clear_value (e : x = _); refine Kept.use (s := z) (x := x) (Kept.via e ?_) (fun h => ?_))
    | ((try lift_lets); intro x; clear_value x)
    | with_reducible apply State.setStepper_kept
    | with_reducible apply State.logRetry_kept
    | with_reducible apply Kept.ite

theorem State.stepOff_kept {z s : State} (h : Kept z s) (a1 : Nat) : Kept z (State.stepOff s a1) := by
  unfold State.stepOff
  repeat' first
    | with_reducible assumption
    | with_reducible apply State.setF_kept
    | with_reducible apply State.stepClear_kept

theorem State.stepOn_kept {z s : State} (h : Kept z s) (a1 : Nat) : Kept z (State.stepOn s a1) := by
  unfold State.stepOn
  repeat' first
    | with_reducible assumption
    | with_reducible apply State.setF_kept
    | with_reducible apply State.stepClear_kept

theorem State.stepTrip_kept {z s : State} (h : Kept z s) (a1 : Nat) : Kept z (State.stepTrip s a1) := by
  unfold State.stepTrip
  repeat' first
    | with_reducible assumption
    | with_reducible apply State.raise_kept
    | with_reducible apply State.setF_kept
    | with_reducible apply State.stepOff_kept

theorem State.stepStall_kept {z s : State} (h : Kept z s) (a1 : Nat) : Kept z (State.stepStall s a1) := by
  unfold State.stepStall
  repeat' first
    | with_reducible assumption
    | ((try lift_lets); intro x; clear_value (e : x = _); refine Kept.use (s := z) (x := x) (Kept.via e ?_) (fun h => ?_))
    | ((try lift_lets); intro x; clear_value x)
    | with_reducible apply State.groupEnd_kept
    | with_reducible apply State.axGo_kept
    | with_reducible apply State.setFs_kept
    | with_reducible apply State.showAxis_kept
    | with_reducible apply State.raise_kept
    | with_reducible apply State.tally_kept
    | with_reducible apply State.setStepper_kept
    | with_reducible apply Kept.ite
    | split

theorem State.fullStep_kept {z s : State} (h : Kept z s) (a1 : Nat) : Kept z (State.fullStep s a1) := by
  unfold State.fullStep
  repeat' first
    | with_reducible assumption
    | ((try lift_lets); intro x; clear_value (e : x = _); refine Kept.use (s := z) (x := x) (Kept.via e ?_) (fun h => ?_))
    | ((try lift_lets); intro x; clear_value x)
    | with_reducible apply State.tally_kept
    | with_reducible apply State.setF_kept
    | with_reducible apply State.draw_kept
    | with_reducible apply State.setStepper_kept
    | with_reducible apply State.stepStall_kept
    | with_reducible apply Kept.ite

theorem State.stepTimes_kept {z s : State} (h : Kept z s) (k n : Nat) : Kept z (s.stepTimes k n) := by
  induction n generalizing s with
  | zero => exact h
  | succ n ih => exact ih (State.fullStep_kept h _)

theorem State.fullSteps_kept {z s : State} (h : Kept z s) (a1 : Nat) (a2 : Int) : Kept z (State.fullSteps s a1 a2) := by
  unfold State.fullSteps
  repeat' first
    | with_reducible assumption
    | ((try lift_lets); intro x; clear_value (e : x = _); refine Kept.use (s := z) (x := x) (Kept.via e ?_) (fun h => ?_))
    | ((try lift_lets); intro x; clear_value x)
    | with_reducible apply State.stepTimes_kept
    | with_reducible apply State.setStepper_kept

theorem State.stepLaws_kept {z s : State} (h : Kept z s) (a1 : Nat) (a2 : Int) (a3 : Int) : Kept z (State.stepLaws s a1 a2 a3) := by
  unfold State.stepLaws
  repeat' first
    | with_reducible assumption
    | ((try lift_lets); intro x; clear_value (e : x = _); refine Kept.use (s := z) (x := x) (Kept.via e ?_) (fun h => ?_))
    | ((try lift_lets); intro x; clear_value x)
    | with_reducible apply State.setStepper_kept

theorem State.stepPeriod_kept {z s : State} (h : Kept z s) (a1 : Nat) (a2 : Int) (a3 : Int) : Kept z (State.stepPeriod s a1 a2 a3) := by
  unfold State.stepPeriod
  repeat' first
    | with_reducible assumption
    | ((try lift_lets); intro x; clear_value (e : x = _); refine Kept.use (s := z) (x := x) (Kept.via e ?_) (fun h => ?_))
    | ((try lift_lets); intro x; clear_value x)
    | with_reducible apply State.stepTrip_kept
    | with_reducible apply State.setStepper_kept
    | with_reducible apply State.fullSteps_kept
    | with_reducible apply State.stepLaws_kept
    | with_reducible apply Kept.ite

theorem execStepperChopPeriod_kept {z s : State} (h : Kept z s) (a1 : Fin 12) (a2 : List Bool) (a3 : List Bool) : KeptOut z (execStepperChopPeriod a1 a2 a3 s) := by
  unfold execStepperChopPeriod
  repeat' first
    | with_reducible assumption
    | ((try lift_lets); intro x; clear_value (e : x = _); refine Kept.use (s := z) (x := x) (Kept.via e ?_) (fun h => ?_))
    | ((try lift_lets); intro x; clear_value x)
    | with_reducible apply Kept.next
    | with_reducible apply KeptOut.ite
    | with_reducible apply State.advanceTo_kept
    | with_reducible apply State.setStepper_kept
    | with_reducible apply State.stepTrip_kept
    | with_reducible apply State.logRetry_kept
    | with_reducible apply State.raise_kept
    | with_reducible apply State.tally_kept
    | with_reducible apply State.stepPeriod_kept
    | with_reducible apply Kept.ite

theorem execStepperHoldTimeout_kept {z s : State} (h : Kept z s) (a1 : Fin 12) : KeptOut z (execStepperHoldTimeout a1 s) := by
  unfold execStepperHoldTimeout
  repeat' first
    | with_reducible assumption
    | ((try lift_lets); intro x; clear_value (e : x = _); refine Kept.use (s := z) (x := x) (Kept.via e ?_) (fun h => ?_))
    | ((try lift_lets); intro x; clear_value x)
    | with_reducible apply Kept.next
    | with_reducible apply KeptOut.ite
    | with_reducible apply State.advanceTo_kept
    | with_reducible apply State.setF_kept
    | with_reducible apply Kept.ite

theorem execTraceArm_kept {z s : State} (h : Kept z s) (a1 : Fin 4) : KeptOut z (execTraceArm a1 s) := by
  unfold execTraceArm
  repeat' first
    | with_reducible assumption
    | ((try lift_lets); intro x; clear_value (e : x = _); refine Kept.use (s := z) (x := x) (Kept.via e ?_) (fun h => ?_))
    | ((try lift_lets); intro x; clear_value x)
    | with_reducible apply Kept.next
    | with_reducible apply KeptOut.ite
    | with_reducible apply State.flam_kept
    | with_reducible apply State.setTrace_kept
    | with_reducible apply State.setFs_kept
    | with_reducible apply Kept.ite

theorem execTraceForce_kept {z s : State} (h : Kept z s) (a1 : Fin 4) : KeptOut z (execTraceForce a1 s) := by
  unfold execTraceForce
  repeat' first
    | with_reducible assumption
    | with_reducible apply Kept.next
    | with_reducible apply KeptOut.ite
    | with_reducible apply State.trigger_kept
    | with_reducible apply Kept.ite

theorem execTraceRead_kept {z s : State} (h : Kept z s) (a1 : Fin 4) : KeptOut z (execTraceRead a1 s) := by
  unfold execTraceRead
  repeat' first
    | with_reducible assumption
    | ((try lift_lets); intro x; clear_value (e : x = _); refine Kept.use (s := z) (x := x) (Kept.via e ?_) (fun h => ?_))
    | ((try lift_lets); intro x; clear_value x)
    | with_reducible apply Kept.next
    | with_reducible apply State.reply_kept
    | with_reducible apply State.setF_kept

/-! ### Motors -/

theorem State.motorDrop_kept {z s : State} (h : Kept z s) (a1 : Nat) : Kept z (State.motorDrop s a1) := by
  unfold State.motorDrop
  repeat' first
    | with_reducible assumption
    | ((try lift_lets); intro x; clear_value (e : x = _); refine Kept.use (s := z) (x := x) (Kept.via e ?_) (fun h => ?_))
    | ((try lift_lets); intro x; clear_value x)
    | with_reducible apply State.logRetry_kept
    | with_reducible apply State.setMotor_kept
    | with_reducible apply Kept.ite

theorem State.motorOff_kept {z s : State} (h : Kept z s) (a1 : Nat) : Kept z (State.motorOff s a1) := by
  unfold State.motorOff
  repeat' first
    | with_reducible assumption
    | ((try lift_lets); intro x; clear_value (e : x = _); refine Kept.use (s := z) (x := x) (Kept.via e ?_) (fun h => ?_))
    | ((try lift_lets); intro x; clear_value x)
    | with_reducible apply State.setFs_kept
    | with_reducible apply State.motorDrop_kept
    | with_reducible apply State.setMotor_kept

theorem State.motorTrip_kept {z s : State} (h : Kept z s) (a1 : Nat) (a2 : Field) (a3 : Nat) : Kept z (State.motorTrip s a1 a2 a3) := by
  unfold State.motorTrip
  repeat' first
    | with_reducible assumption
    | with_reducible apply State.raise_kept
    | with_reducible apply State.setF_kept
    | with_reducible apply State.motorOff_kept

theorem State.overcurrentTrip_kept {z s : State} (h : Kept z s) (a1 : Nat) : Kept z (State.overcurrentTrip s a1) := by
  unfold State.overcurrentTrip
  repeat' first
    | with_reducible assumption
    | ((try lift_lets); intro x; clear_value (e : x = _); refine Kept.use (s := z) (x := x) (Kept.via e ?_) (fun h => ?_))
    | ((try lift_lets); intro x; clear_value x)
    | with_reducible apply State.motorTrip_kept
    | with_reducible apply State.tally_kept
    | with_reducible apply State.setMotor_kept

theorem State.eachOnBus_kept {z s : State} (h : Kept z s) (a1 : Nat) (a2 : Nat → State → State) (hg2 : ∀ i0 s, Kept z s → Kept z (a2 i0 s)) : Kept z (State.eachOnBus s a1 a2) := by
  unfold State.eachOnBus
  repeat' first
    | with_reducible assumption
    | with_reducible apply hg2
    | with_reducible apply Kept.ite
    | (with_reducible apply Kept.forBelow; intro i s h)
    | with_reducible apply KeptP.ite
    | (split <;> (rename_i heq; refine Kept.use (s := z) (KeptP.at heq ?_) (fun h => ?_)))
    | with_reducible apply KeptP.pair
    | with_reducible apply KeptP.fst

theorem State.freeLegs_kept {z s : State} (h : Kept z s) (c : Nat) : KeptQ z (s.freeLegs c) :=
  ⟨State.draw_kept (State.draw_kept (State.draw_kept h))⟩

theorem State.loadLegs_kept {z s : State} (h : Kept z s) (a1 : Nat) : Kept z (State.loadLegs s a1) := by
  unfold State.loadLegs
  repeat' first
    | with_reducible assumption
    | ((try lift_lets); intro x; clear_value (e : x = _); refine Kept.use (s := z) (x := x) (Kept.via e ?_) (fun h => ?_))
    | ((try lift_lets); intro x; clear_value x)
    | with_reducible apply State.freeLegs_kept
    | with_reducible apply State.setMotor_kept
    | with_reducible apply Kept.ite
    | with_reducible apply KeptQ.ite
    | (split <;> (rename_i heq; refine Kept.use (s := z) (KeptQ.at heq ?_) (fun h => ?_)))
    | split
    | with_reducible apply KeptQ.pair
    | with_reducible apply KeptQ.snd

theorem State.repeatLegs_kept {z s : State} (h : Kept z s) (a1 : Nat) : Kept z (State.repeatLegs s a1) := by
  unfold State.repeatLegs
  repeat' first
    | with_reducible assumption
    | ((try lift_lets); intro x; clear_value (e : x = _); refine Kept.use (s := z) (x := x) (Kept.via e ?_) (fun h => ?_))
    | ((try lift_lets); intro x; clear_value x)
    | with_reducible apply State.setMotor_kept

theorem State.vclamp_kept {z s : State} (h : Kept z s) (a1 : Nat) (a2 : Bool) : Kept z (State.vclamp s a1 a2) := by
  unfold State.vclamp
  repeat' first
    | with_reducible assumption
    | ((try lift_lets); intro x; clear_value (e : x = _); refine Kept.use (s := z) (x := x) (Kept.via e ?_) (fun h => ?_))
    | ((try lift_lets); intro x; clear_value x)
    | with_reducible apply State.setB_kept
    | with_reducible apply State.raise_kept
    | with_reducible apply Kept.ite

theorem State.applyV_kept {z s : State} (h : Kept z s) (a1 : Nat) (a2 : Int × Int × Bool) : Kept z (State.applyV s a1 a2) := by
  unfold State.applyV
  repeat' first
    | with_reducible assumption
    | ((try lift_lets); intro x; clear_value (e : x = _); refine Kept.use (s := z) (x := x) (Kept.via e ?_) (fun h => ?_))
    | ((try lift_lets); intro x; clear_value x)
    | with_reducible apply State.loadLegs_kept
    | with_reducible apply State.vclamp_kept
    | with_reducible apply State.setMotor_kept

theorem State.voltMode_kept {z s : State} (h : Kept z s) (a1 : Nat) : Kept z (State.voltMode s a1) := by
  unfold State.voltMode
  repeat' first
    | with_reducible assumption
    | with_reducible apply State.applyV_kept

theorem State.motorStart_kept {z s : State} (h : Kept z s) (a1 : Nat) : Kept z (State.motorStart s a1) := by
  unfold State.motorStart
  repeat' first
    | with_reducible assumption
    | ((try lift_lets); intro x; clear_value (e : x = _); refine Kept.use (s := z) (x := x) (Kept.via e ?_) (fun h => ?_))
    | ((try lift_lets); intro x; clear_value x)
    | with_reducible apply State.setMotor_kept
    | with_reducible apply State.setFs_kept
    | with_reducible apply State.voltMode_kept
    | with_reducible apply State.applyV_kept
    | with_reducible apply Kept.ite

theorem State.windowOpen_kept {z s : State} (h : Kept z s) (a1 : Nat) : Kept z (State.windowOpen s a1) := by
  unfold State.windowOpen
  repeat' first
    | with_reducible assumption
    | ((try lift_lets); intro x; clear_value (e : x = _); refine Kept.use (s := z) (x := x) (Kept.via e ?_) (fun h => ?_))
    | ((try lift_lets); intro x; clear_value x)
    | with_reducible apply State.setMotor_kept

theorem execMotorEnable_kept {z s : State} (h : Kept z s) (a1 : Fin 12) : KeptOut z (execMotorEnable a1 s) := by
  unfold execMotorEnable
  repeat' first
    | with_reducible assumption
    | ((try lift_lets); intro x; clear_value (e : x = _); refine Kept.use (s := z) (x := x) (Kept.via e ?_) (fun h => ?_))
    | ((try lift_lets); intro x; clear_value x)
    | with_reducible apply Kept.next
    | with_reducible apply KeptOut.ite
    | with_reducible apply State.setF_kept
    | with_reducible apply State.setFs_kept
    | with_reducible apply State.setMotor_kept
    | with_reducible apply State.windowOpen_kept
    | with_reducible apply State.motorStart_kept
    | with_reducible apply Kept.ite

theorem State.synchronise_kept {z s : State} (h : Kept z s) (a1 : Nat) (a2 : Int) : Kept z (State.synchronise s a1 a2) := by
  unfold State.synchronise
  repeat' first
    | with_reducible assumption
    | ((try lift_lets); intro x; clear_value (e : x = _); refine Kept.use (s := z) (x := x) (Kept.via e ?_) (fun h => ?_))
    | ((try lift_lets); intro x; clear_value x)
    | with_reducible apply State.setFs_kept
    | with_reducible apply State.setMotor_kept
    | with_reducible apply State.voltMode_kept
    | with_reducible apply State.applyV_kept
    | with_reducible apply State.raise_kept
    | with_reducible apply State.tally_kept
    | with_reducible apply Kept.ite

theorem State.windowEnd_kept {z s : State} (h : Kept z s) (a1 : Nat) (a2 : Nat) (a3 : Int) : Kept z (State.windowEnd s a1 a2 a3) := by
  unfold State.windowEnd
  repeat' first
    | with_reducible assumption
    | ((try lift_lets); intro x; clear_value (e : x = _); refine Kept.use (s := z) (x := x) (Kept.via e ?_) (fun h => ?_))
    | ((try lift_lets); intro x; clear_value x)
    | with_reducible apply State.motorStart_kept
    | with_reducible apply State.synchronise_kept
    | with_reducible apply State.setF_kept
    | with_reducible apply State.windowOpen_kept
    | with_reducible apply State.motorTrip_kept
    | with_reducible apply State.setFs_kept
    | with_reducible apply State.setMotor_kept
    | with_reducible apply Kept.ite

theorem execCatchWindowEnd_kept {z s : State} (h : Kept z s) (a1 : Fin 12) (a2 : List (BitVec 3)) : KeptOut z (execCatchWindowEnd a1 a2 s) := by
  unfold execCatchWindowEnd
  repeat' first
    | with_reducible assumption
    | ((try lift_lets); intro x; clear_value (e : x = _); refine Kept.use (s := z) (x := x) (Kept.via e ?_) (fun h => ?_))
    | ((try lift_lets); intro x; clear_value x)
    | with_reducible apply Kept.next
    | with_reducible apply KeptOut.ite
    | with_reducible apply State.advanceTo_kept
    | with_reducible apply State.tally_kept
    | with_reducible apply State.windowEnd_kept
    | with_reducible apply Kept.ite

theorem execBrakeCycleEnd_kept {z s : State} (h : Kept z s) (a1 : Fin 12) : KeptOut z (execBrakeCycleEnd a1 s) := by
  unfold execBrakeCycleEnd
  repeat' first
    | with_reducible assumption
    | ((try lift_lets); intro x; clear_value (e : x = _); refine Kept.use (s := z) (x := x) (Kept.via e ?_) (fun h => ?_))
    | ((try lift_lets); intro x; clear_value x)
    | with_reducible apply Kept.next
    | with_reducible apply KeptOut.ite
    | with_reducible apply State.advanceTo_kept
    | with_reducible apply State.setF_kept
    | with_reducible apply State.windowOpen_kept
    | with_reducible apply Kept.ite

theorem execSlsStartTimeout_kept {z s : State} (h : Kept z s) (a1 : Fin 12) : KeptOut z (execSlsStartTimeout a1 s) := by
  unfold execSlsStartTimeout
  repeat' first
    | with_reducible assumption
    | ((try lift_lets); intro x; clear_value (e : x = _); refine Kept.use (s := z) (x := x) (Kept.via e ?_) (fun h => ?_))
    | ((try lift_lets); intro x; clear_value x)
    | with_reducible apply Kept.next
    | with_reducible apply KeptOut.ite
    | with_reducible apply State.advanceTo_kept
    | with_reducible apply State.motorTrip_kept
    | with_reducible apply Kept.ite

theorem execGateFault_kept {z s : State} (h : Kept z s) (a1 : Fin 12) (a2 : List Bool) : KeptOut z (execGateFault a1 a2 s) := by
  unfold execGateFault
  repeat' first
    | with_reducible assumption
    | with_reducible apply Kept.next
    | with_reducible apply KeptOut.ite
    | with_reducible apply State.motorTrip_kept
    | with_reducible apply State.tally_kept
    | with_reducible apply Kept.ite

theorem execLockedRotor_kept {z s : State} (h : Kept z s) (a1 : Fin 12) : KeptOut z (execLockedRotor a1 s) := by
  unfold execLockedRotor
  repeat' first
    | with_reducible assumption
    | ((try lift_lets); intro x; clear_value (e : x = _); refine Kept.use (s := z) (x := x) (Kept.via e ?_) (fun h => ?_))
    | ((try lift_lets); intro x; clear_value x)
    | with_reducible apply Kept.next
    | with_reducible apply KeptOut.ite
    | with_reducible apply State.motorTrip_kept
    | with_reducible apply State.advanceTo_kept
    | with_reducible apply Kept.ite
    | split

theorem State.lockTime_kept {z s : State} (h : Kept z s) (a1 : Nat) : Kept z (State.lockTime s a1) := by
  unfold State.lockTime
  repeat' first
    | with_reducible assumption
    | ((try lift_lets); intro x; clear_value (e : x = _); refine Kept.use (s := z) (x := x) (Kept.via e ?_) (fun h => ?_))
    | ((try lift_lets); intro x; clear_value x)
    | with_reducible apply State.setMotor_kept
    | with_reducible apply Kept.ite

theorem State.moveAngle_kept {z s : State} (h : Kept z s) (a1 : Nat) (a2 : Nat) : Kept z (State.moveAngle s a1 a2) := by
  unfold State.moveAngle
  repeat' first
    | with_reducible assumption
    | ((try lift_lets); intro x; clear_value (e : x = _); refine Kept.use (s := z) (x := x) (Kept.via e ?_) (fun h => ?_))
    | ((try lift_lets); intro x; clear_value x)
    | with_reducible apply State.setF_kept
    | with_reducible apply State.setMotor_kept
    | with_reducible apply State.tally_kept
    | with_reducible apply State.setFs_kept
    | with_reducible apply State.setPairS_kept
    | with_reducible apply Kept.ite
    | (with_reducible apply Kept.foldl; intro s x h)

theorem State.angleStep_kept {z s : State} (h : Kept z s) (a1 : Nat) (a2 : PwmSample) (a3 : Nat) : Kept z (State.angleStep s a1 a2 a3) := by
  unfold State.angleStep
  repeat' first
    | with_reducible assumption
    | ((try lift_lets); intro x; clear_value (e : x = _); refine Kept.use (s := z) (x := x) (Kept.via e ?_) (fun h => ?_))
    | ((try lift_lets); intro x; clear_value x)
    | with_reducible apply State.setMotor_kept
    | with_reducible apply State.logRetry_kept
    | with_reducible apply State.moveAngle_kept
    | with_reducible apply State.raise_kept
    | with_reducible apply State.setF_kept
    | with_reducible apply State.motorTrip_kept
    | with_reducible apply State.tally_kept
    | with_reducible apply Kept.ite
    | split

theorem State.slsTaken_kept {z s : State} (h : Kept z s) (a1 : Nat) (a2 : PwmSample) : Kept z (State.slsTaken s a1 a2) := by
  unfold State.slsTaken
  repeat' first
    | with_reducible assumption
    | ((try lift_lets); intro x; clear_value (e : x = _); refine Kept.use (s := z) (x := x) (Kept.via e ?_) (fun h => ?_))
    | ((try lift_lets); intro x; clear_value x)
    | with_reducible apply State.setMotor_kept
    | with_reducible apply State.setF_kept
    | with_reducible apply Kept.ite

theorem State.currentCmd_kept {z s : State} (h : Kept z s) (a1 : Nat) : KeptR z (State.currentCmd s a1) := by
  unfold State.currentCmd
  repeat' first
    | with_reducible assumption
    | ((try lift_lets); intro x; clear_value (e : x = _); refine Kept.use (s := z) (x := x) (Kept.via e ?_) (fun h => ?_))
    | ((try lift_lets); intro x; clear_value x)
    | with_reducible apply State.setMotor_kept
    | with_reducible apply Kept.ite
    | with_reducible apply KeptR.ite
    | (split <;> (rename_i heq; refine Kept.use (s := z) (KeptR.at heq ?_) (fun h => ?_)))
    | with_reducible apply KeptR.pair
    | with_reducible apply KeptR.last

theorem State.currentLoop_kept {z s : State} (h : Kept z s) (a1 : Nat) (a2 : Int) (a3 : Int) : Kept z (State.currentLoop s a1 a2 a3) := by
  unfold State.currentLoop
  repeat' first
    | with_reducible assumption
    | ((try lift_lets); intro x; clear_value (e : x = _); refine Kept.use (s := z) (x := x) (Kept.via e ?_) (fun h => ?_))
    | ((try lift_lets); intro x; clear_value x)
    | with_reducible apply State.setMotor_kept
    | with_reducible apply State.applyV_kept
    | with_reducible apply Kept.ite

theorem State.loopsRun_kept {z s : State} (h : Kept z s) (a1 : Nat) : Kept z (State.loopsRun s a1) := by
  unfold State.loopsRun
  repeat' first
    | with_reducible assumption
    | ((try lift_lets); intro x; clear_value (e : x = _); refine Kept.use (s := z) (x := x) (Kept.via e ?_) (fun h => ?_))
    | ((try lift_lets); intro x)
    | with_reducible apply State.voltMode_kept
    | with_reducible apply State.currentCmd_kept
    | with_reducible apply State.currentLoop_kept
    | with_reducible apply Kept.ite
    | with_reducible apply KeptR.ite
    | (split <;> (rename_i heq; refine Kept.use (s := z) (KeptR.at heq ?_) (fun h => ?_)))
    | with_reducible apply KeptR.pair
    | with_reducible apply KeptR.last
    | (dsimp (zetaDelta := true) only)
    | (simp (zetaDelta := true) only [Kept.mk2_iff, Kept.mk_iff])

theorem State.currentStep_kept {z s : State} (h : Kept z s) (a1 : Nat) : Kept z (State.currentStep s a1) := by
  unfold State.currentStep
  repeat' first
    | with_reducible assumption
    | ((try lift_lets); intro x; clear_value (e : x = _); refine Kept.use (s := z) (x := x) (Kept.via e ?_) (fun h => ?_))
    | ((try lift_lets); intro x; clear_value x)
    | with_reducible apply State.motorTrip_kept
    | with_reducible apply State.logRetry_kept
    | with_reducible apply State.setMotor_kept
    | with_reducible apply State.raise_kept
    | with_reducible apply State.tally_kept
    | with_reducible apply State.overcurrentTrip_kept
    | with_reducible apply Kept.ite

theorem State.parkStep_kept {z s : State} (h : Kept z s) (a1 : Nat) : Kept z (State.parkStep s a1) := by
  unfold State.parkStep
  repeat' first
    | with_reducible assumption
    | ((try lift_lets); intro x; clear_value (e : x = _); refine Kept.use (s := z) (x := x) (Kept.via e ?_) (fun h => ?_))
    | ((try lift_lets); intro x; clear_value x)
    | with_reducible apply State.setFs_kept
    | with_reducible apply Kept.ite

theorem State.lawsStep_kept {z s : State} (h : Kept z s) (a1 : Nat) (a2 : PwmSample) : Kept z (State.lawsStep s a1 a2) := by
  unfold State.lawsStep
  repeat' first
    | with_reducible assumption
    | ((try lift_lets); intro x; clear_value (e : x = _); refine Kept.use (s := z) (x := x) (Kept.via e ?_) (fun h => ?_))
    | ((try lift_lets); intro x; clear_value x)
    | with_reducible apply State.slsTaken_kept
    | with_reducible apply State.repeatLegs_kept
    | with_reducible apply State.loopsRun_kept
    | with_reducible apply Kept.ite

theorem execPwmPeriod_kept {z s : State} (h : Kept z s) (a1 : Fin 12) (a2 : PwmSample) : KeptOut z (execPwmPeriod a1 a2 s) := by
  unfold execPwmPeriod
  repeat' first
    | with_reducible assumption
    | ((try lift_lets); intro x; clear_value (e : x = _); refine Kept.use (s := z) (x := x) (Kept.via e ?_) (fun h => ?_))
    | ((try lift_lets); intro x; clear_value x)
    | with_reducible apply Kept.next
    | with_reducible apply KeptOut.ite
    | with_reducible apply State.advanceTo_kept
    | with_reducible apply State.currentStep_kept
    | with_reducible apply State.setMotor_kept
    | with_reducible apply State.angleStep_kept
    | with_reducible apply State.parkStep_kept
    | with_reducible apply State.lawsStep_kept
    | with_reducible apply State.lockTime_kept
    | with_reducible apply Kept.ite
    | split

theorem State.setDrven_kept {z s : State} (h : Kept z s) (a1 : Nat) : Kept z (State.setDrven s a1) := by
  unfold State.setDrven
  repeat' first
    | with_reducible assumption
    | with_reducible apply State.setB_kept

theorem State.busWritten_kept {z s : State} (h : Kept z s) (a1 : Nat) (a2 : Nat) : Kept z (State.busWritten s a1 a2) := by
  unfold State.busWritten
  repeat' first
    | with_reducible assumption
    | ((try lift_lets); intro x; clear_value (e : x = _); refine Kept.use (s := z) (x := x) (Kept.via e ?_) (fun h => ?_))
    | ((try lift_lets); intro x; clear_value x)
    | with_reducible apply State.setDrven_kept
    | with_reducible apply State.setBus_kept

theorem State.busOv_kept {z s : State} (h : Kept z s) (a1 : Nat) : Kept z (State.busOv s a1) := by
  unfold State.busOv
  repeat' first
    | with_reducible assumption
    | ((try lift_lets); intro x; clear_value (e : x = _); refine Kept.use (s := z) (x := x) (Kept.via e ?_) (fun h => ?_))
    | ((try lift_lets); intro x; clear_value x)
    | with_reducible refine State.eachOnBus_kept ?_ _ _ (fun i s h => ?_)
    | with_reducible apply State.motorOff_kept
    | with_reducible apply State.raise_kept
    | with_reducible apply State.setDrven_kept
    | with_reducible apply State.setF_kept
    | with_reducible apply Kept.ite

theorem State.regLimit_kept {z s : State} (h : Kept z s) (a1 : Nat) : Kept z (State.regLimit s a1) := by
  unfold State.regLimit
  repeat' first
    | with_reducible assumption
    | with_reducible refine State.eachOnBus_kept ?_ _ _ (fun i s h => ?_)
    | with_reducible apply State.setF_kept

theorem State.chopper_kept {z s : State} (h : Kept z s) (a1 : Nat) (a2 : Bool) (a3 : Nat) : Kept z (State.chopper s a1 a2 a3) := by
  unfold State.chopper
  repeat' first
    | with_reducible assumption
    | ((try lift_lets); intro x; clear_value (e : x = _); refine Kept.use (s := z) (x := x) (Kept.via e ?_) (fun h => ?_))
    | ((try lift_lets); intro x; clear_value x)
    | with_reducible apply State.setB_kept
    | with_reducible apply State.setBus_kept
    | with_reducible apply State.logRetry_kept
    | with_reducible apply Kept.ite

theorem State.chopperFitted_kept {z s : State} (h : Kept z s) (a1 : Nat) : Kept z (State.chopperFitted s a1) := by
  unfold State.chopperFitted
  repeat' first
    | with_reducible assumption
    | with_reducible refine State.eachOnBus_kept ?_ _ _ (fun i s h => ?_)
    | with_reducible apply State.chopper_kept
    | with_reducible apply State.setF_kept
    | with_reducible apply Kept.ite

theorem State.chopperRule_kept {z s : State} (h : Kept z s) (a1 : Nat) (a2 : Nat) (a3 : Nat) : Kept z (State.chopperRule s a1 a2 a3) := by
  unfold State.chopperRule
  repeat' first
    | with_reducible assumption
    | with_reducible apply State.chopper_kept
    | with_reducible apply Kept.ite

theorem State.brakeCurrent_kept {z s : State} (h : Kept z s) (a1 : Nat) (a2 : Nat) : Kept z (State.brakeCurrent s a1 a2) := by
  unfold State.brakeCurrent
  repeat' first
    | with_reducible assumption
    | ((try lift_lets); intro x; clear_value (e : x = _); refine Kept.use (s := z) (x := x) (Kept.via e ?_) (fun h => ?_))
    | ((try lift_lets); intro x; clear_value x)
    | with_reducible apply State.setBus_kept
    | with_reducible apply State.raise_kept
    | with_reducible apply State.logRetry_kept
    | with_reducible apply Kept.ite
    | split

theorem State.hardRule_kept {z s : State} (h : Kept z s) (a1 : Nat) (a2 : Nat) : Kept z (State.hardRule s a1 a2) := by
  unfold State.hardRule
  repeat' first
    | with_reducible assumption
    | ((try lift_lets); intro x; clear_value (e : x = _); refine Kept.use (s := z) (x := x) (Kept.via e ?_) (fun h => ?_))
    | ((try lift_lets); intro x; clear_value x)
    | with_reducible apply State.setBus_kept
    | with_reducible apply State.busOv_kept
    | with_reducible apply Kept.ite

theorem State.busVolts_kept {z s : State} (h : Kept z s) (a1 : Nat) (a2 : Int) (a3 : Nat) : Kept z (State.busVolts s a1 a2 a3) := by
  unfold State.busVolts
  repeat' first
    | with_reducible assumption
    | ((try lift_lets); intro x; clear_value (e : x = _); refine Kept.use (s := z) (x := x) (Kept.via e ?_) (fun h => ?_))
    | ((try lift_lets); intro x; clear_value x)
    | with_reducible apply State.setF_kept
    | with_reducible apply State.brakeCurrent_kept
    | with_reducible apply State.hardRule_kept
    | with_reducible apply State.chopperRule_kept

theorem State.busOutput_kept {z s : State} (h : Kept z s) (a1 : Nat) (a2 : Nat) : Kept z (State.busOutput s a1 a2) := by
  unfold State.busOutput
  repeat' first
    | with_reducible assumption
    | ((try lift_lets); intro x; clear_value (e : x = _); refine Kept.use (s := z) (x := x) (Kept.via e ?_) (fun h => ?_))
    | ((try lift_lets); intro x; clear_value x)
    | with_reducible apply State.tallyUnits_kept
    | with_reducible apply State.setBus_kept
    | with_reducible apply State.busOv_kept
    | with_reducible apply State.logRetry_kept
    | with_reducible apply State.raise_kept
    | with_reducible apply State.tally_kept
    | with_reducible apply State.busVolts_kept
    | with_reducible apply Kept.ite

theorem State.busBit_kept {z s : State} (h : Kept z s) (a1 : Nat) (a2 : Nat) (a3 : Bool × Bool) : Kept z (State.busBit s a1 a2 a3) := by
  unfold State.busBit
  repeat' first
    | with_reducible assumption
    | ((try lift_lets); intro x; clear_value (e : x = _); refine Kept.use (s := z) (x := x) (Kept.via e ?_) (fun h => ?_))
    | ((try lift_lets); intro x; clear_value x)
    | with_reducible apply State.setBus_kept
    | with_reducible apply State.busOutput_kept
    | with_reducible apply Kept.ite

theorem State.busBits_kept {z s : State} (h : Kept z s) (b dt : Nat) (l : List (Bool × Bool)) : Kept z (s.busBits b dt l) := by
  induction l generalizing s with
  | nil => exact h
  | cons p r ih => exact ih (State.busBit_kept h _ _ _)

theorem execBusVoltageSample_kept {z s : State} (h : Kept z s) (a1 : Fin 4) (a2 : List (Bool × Bool)) : KeptOut z (execBusVoltageSample a1 a2 s) := by
  unfold execBusVoltageSample
  repeat' first
    | with_reducible assumption
    | with_reducible apply Kept.next
    | with_reducible apply State.busBits_kept

theorem execBrakeCheckEnd_kept {z s : State} (h : Kept z s) (a1 : Fin 4) : KeptOut z (execBrakeCheckEnd a1 s) := by
  unfold execBrakeCheckEnd
  repeat' first
    | with_reducible assumption
    | ((try lift_lets); intro x; clear_value (e : x = _); refine Kept.use (s := z) (x := x) (Kept.via e ?_) (fun h => ?_))
    | ((try lift_lets); intro x; clear_value x)
    | with_reducible apply Kept.next
    | with_reducible apply KeptOut.ite
    | with_reducible apply State.advanceTo_kept
    | with_reducible apply State.regLimit_kept
    | with_reducible apply State.logRetry_kept
    | with_reducible apply State.setBus_kept
    | with_reducible apply State.raise_kept
    | with_reducible apply State.setF_kept
    | with_reducible apply Kept.ite
    | split

theorem execBrkFaultClear_kept {z s : State} (h : Kept z s) (a1 : Fin 4) : KeptOut z (execBrkFaultClear a1 s) := by
  unfold execBrkFaultClear
  repeat' first
    | with_reducible assumption
    | ((try lift_lets); intro x; clear_value (e : x = _); refine Kept.use (s := z) (x := x) (Kept.via e ?_) (fun h => ?_))
    | ((try lift_lets); intro x; clear_value x)
    | with_reducible apply Kept.next
    | with_reducible apply KeptOut.ite
    | with_reducible refine State.eachOnBus_kept ?_ _ _ (fun i s h => ?_)
    | with_reducible apply State.setF_kept
    | with_reducible apply State.setB_kept
    | with_reducible apply Kept.ite

theorem execBusOvClear_kept {z s : State} (h : Kept z s) (a1 : Fin 4) : KeptOut z (execBusOvClear a1 s) := by
  unfold execBusOvClear
  repeat' first
    | with_reducible assumption
    | ((try lift_lets); intro x; clear_value (e : x = _); refine Kept.use (s := z) (x := x) (Kept.via e ?_) (fun h => ?_))
    | ((try lift_lets); intro x; clear_value x)
    | with_reducible apply Kept.next
    | with_reducible apply KeptOut.ite
    | with_reducible apply State.setDrven_kept
    | with_reducible apply State.setF_kept
    | with_reducible apply Kept.ite

theorem State.output_kept {z s : State} (h : Kept z s) (a1 : Nat) (a2 : Word) : Kept z (State.output s a1 a2) := by
  unfold State.output
  repeat' first
    | with_reducible assumption
    | ((try lift_lets); intro x; clear_value (e : x = _); refine Kept.use (s := z) (x := x) (Kept.via e ?_) (fun h => ?_))
    | ((try lift_lets); intro x; clear_value x)
    | with_reducible apply State.setF_kept
    | with_reducible apply Kept.ite
    | split
    | (simp only [Kept.mk2_iff])
    | (simp only [Kept.mk_iff])

/-! ### Thermal -/

theorem State.showZones_kept {z s : State} (h : Kept z s)  : Kept z (State.showZones s) := by
  unfold State.showZones
  repeat' first
    | with_reducible assumption
    | with_reducible apply State.setF_kept
    | (with_reducible apply Kept.foldl; intro s x h)

theorem State.setInside_kept {z s : State} (h : Kept z s) (a1 : Nat) (a2 : Nat) : Kept z (State.setInside s a1 a2) := by
  unfold State.setInside
  repeat' first
    | with_reducible assumption
    | ((try lift_lets); intro x; clear_value (e : x = _); refine Kept.use (s := z) (x := x) (Kept.via e ?_) (fun h => ?_))
    | ((try lift_lets); intro x)
    | with_reducible apply State.setF_kept
    | with_reducible apply State.setHk_kept
    | with_reducible apply State.showZones_kept
    | with_reducible apply State.tally_kept
    | with_reducible apply State.raise_kept
    | with_reducible apply Kept.ite
    | (dsimp (zetaDelta := true) only)
    | (simp (zetaDelta := true) only [Kept.mk2_iff, Kept.mk_iff])

theorem State.setBroken_kept {z s : State} (h : Kept z s) (a1 : Nat) (a2 : Bool) : Kept z (State.setBroken s a1 a2) := by
  unfold State.setBroken
  repeat' first
    | with_reducible assumption
    | ((try lift_lets); intro x; clear_value (e : x = _); refine Kept.use (s := z) (x := x) (Kept.via e ?_) (fun h => ?_))
    | ((try lift_lets); intro x; clear_value x)
    | with_reducible apply State.setB_kept
    | with_reducible apply State.setBitF_kept
    | with_reducible apply Kept.ite

theorem State.throttleMet_kept {z s : State} (h : Kept z s)  : Kept z (State.throttleMet s) := by
  unfold State.throttleMet
  repeat' first
    | with_reducible assumption
    | with_reducible apply State.setFs_kept
    | with_reducible apply Kept.ite

theorem State.throttleDown_kept {z s : State} (h : Kept z s)  : Kept z (State.throttleDown s) := by
  unfold State.throttleDown
  repeat' first
    | with_reducible assumption
    | with_reducible apply State.throttleMet_kept
    | with_reducible apply State.setF_kept
    | with_reducible apply Kept.ite

theorem State.holdDemand_kept {z s : State} (h : Kept z s)  : Kept z (State.holdDemand s) := by
  unfold State.holdDemand
  repeat' first
    | with_reducible assumption
    | with_reducible apply State.throttleDown_kept
    | with_reducible apply State.setF_kept
    | with_reducible apply Kept.ite

theorem State.breakSensor_kept {z s : State} (h : Kept z s) (a1 : Nat) : Kept z (State.breakSensor s a1) := by
  unfold State.breakSensor
  repeat' first
    | with_reducible assumption
    | ((try lift_lets); intro x; clear_value (e : x = _); refine Kept.use (s := z) (x := x) (Kept.via e ?_) (fun h => ?_))
    | ((try lift_lets); intro x; clear_value x)
    | with_reducible apply State.setFs_kept
    | with_reducible apply State.setBroken_kept
    | with_reducible apply State.logRetry_kept
    | with_reducible apply State.tally_kept
    | with_reducible apply State.setInside_kept
    | with_reducible apply State.raise_kept
    | with_reducible apply State.fuserOff_kept
    | with_reducible apply State.holdDemand_kept
    | with_reducible apply Kept.ite
    | (with_reducible apply Kept.foldl; intro s x h)

theorem State.thermalCycle_kept {z s : State} (h : Kept z s) (a1 : Nat) (a2 : Int) : Kept z (State.thermalCycle s a1 a2) := by
  unfold State.thermalCycle
  repeat' first
    | with_reducible assumption
    | ((try lift_lets); intro x; clear_value (e : x = _); refine Kept.use (s := z) (x := x) (Kept.via e ?_) (fun h => ?_))
    | ((try lift_lets); intro x; clear_value x)
    | with_reducible apply State.lived_kept
    | with_reducible apply State.setHk_kept
    | with_reducible apply Kept.ite

theorem State.hkReading_kept {z s : State} (h : Kept z s) (a1 : Nat) (a2 : Int) : Kept z (State.hkReading s a1 a2) := by
  unfold State.hkReading
  repeat' first
    | with_reducible assumption
    | ((try lift_lets); intro x; clear_value (e : x = _); refine Kept.use (s := z) (x := x) (Kept.via e ?_) (fun h => ?_))
    | ((try lift_lets); intro x; clear_value x)
    | with_reducible apply State.thermalCycle_kept
    | with_reducible apply State.setF_kept
    | with_reducible apply State.setHk_kept
    | with_reducible apply State.setInside_kept
    | with_reducible apply State.setFs_kept
    | with_reducible apply State.fuserOff_kept
    | with_reducible apply Kept.ite
    | (with_reducible apply Kept.foldl; intro s x h)

theorem State.shutdownPath_kept {z s : State} (h : Kept z s) (a1 : Nat) (a2 : Option Int) : Kept z (State.shutdownPath s a1 a2) := by
  unfold State.shutdownPath
  repeat' first
    | with_reducible assumption
    | ((try lift_lets); intro x; clear_value (e : x = _); refine Kept.use (s := z) (x := x) (Kept.via e ?_) (fun h => ?_))
    | ((try lift_lets); intro x; clear_value x)
    | with_reducible apply State.setHk_kept
    | with_reducible apply State.raise_kept
    | with_reducible apply State.tally_kept
    | with_reducible apply State.setF_kept
    | with_reducible apply Kept.ite
    | split

theorem State.toService_kept {z s : State} (h : Kept z s)  : Kept z (State.toService s) := by
  unfold State.toService
  repeat' first
    | with_reducible assumption
    | with_reducible apply State.setFs_kept
    | with_reducible apply Kept.ite

theorem State.hkOff_kept {z s : State} (h : Kept z s) (a1 : Nat) : Kept z (State.hkOff s a1) := by
  unfold State.hkOff
  repeat' first
    | with_reducible assumption
    | ((try lift_lets); intro x; clear_value (e : x = _); refine Kept.use (s := z) (x := x) (Kept.via e ?_) (fun h => ?_))
    | ((try lift_lets); intro x; clear_value x)
    | with_reducible apply State.logRetry_kept
    | with_reducible apply State.showZones_kept
    | with_reducible apply State.setF_kept
    | with_reducible apply State.setHk_kept
    | with_reducible apply Kept.ite

theorem State.hkOn_kept {z s : State} (h : Kept z s) (a1 : Nat) : Kept z (State.hkOn s a1) := by
  unfold State.hkOn
  repeat' first
    | with_reducible assumption
    | ((try lift_lets); intro x; clear_value (e : x = _); refine Kept.use (s := z) (x := x) (Kept.via e ?_) (fun h => ?_))
    | ((try lift_lets); intro x; clear_value x)
    | with_reducible apply State.holdDemand_kept
    | with_reducible apply State.showZones_kept
    | with_reducible apply State.setF_kept
    | with_reducible apply State.setHk_kept

theorem State.toSlow_kept {z s : State} (h : Kept z s)  : Kept z (State.toSlow s) := by
  unfold State.toSlow
  repeat' first
    | with_reducible assumption
    | ((try lift_lets); intro x; clear_value (e : x = _); refine Kept.use (s := z) (x := x) (Kept.via e ?_) (fun h => ?_))
    | ((try lift_lets); intro x; clear_value x)
    | with_reducible apply State.setHk_kept
    | with_reducible apply State.setF_kept
    | (with_reducible apply Kept.forBelow; intro i s h)

theorem State.hkInvalid_kept {z s : State} (h : Kept z s) (a1 : Nat) : Kept z (State.hkInvalid s a1) := by
  unfold State.hkInvalid
  repeat' first
    | with_reducible assumption
    | ((try lift_lets); intro x; clear_value (e : x = _); refine Kept.use (s := z) (x := x) (Kept.via e ?_) (fun h => ?_))
    | ((try lift_lets); intro x; clear_value x)
    | with_reducible apply State.setHk_kept
    | with_reducible apply State.breakSensor_kept
    | with_reducible apply Kept.ite

theorem State.hkGood_kept {z s : State} (h : Kept z s) (a1 : Nat) (a2 : Int) : Kept z (State.hkGood s a1 a2) := by
  unfold State.hkGood
  repeat' first
    | with_reducible assumption
    | ((try lift_lets); intro x; clear_value (e : x = _); refine Kept.use (s := z) (x := x) (Kept.via e ?_) (fun h => ?_))
    | ((try lift_lets); intro x; clear_value x)
    | with_reducible apply State.setHk_kept
    | with_reducible apply State.hkReading_kept
    | with_reducible apply State.setF_kept
    | with_reducible apply State.setBroken_kept
    | with_reducible apply State.raise_kept
    | with_reducible apply State.logRetry_kept
    | with_reducible apply State.tally_kept
    | with_reducible apply State.addF_kept
    | with_reducible apply Kept.ite

theorem State.hkValue_kept {z s : State} (h : Kept z s) (a1 : Nat) (a2 : Nat) (a3 : Int) : KeptQ z (State.hkValue s a1 a2 a3) := by
  unfold State.hkValue
  repeat' first
    | with_reducible assumption
    | ((try lift_lets); intro x; clear_value (e : x = _); refine Kept.use (s := z) (x := x) (Kept.via e ?_) (fun h => ?_))
    | ((try lift_lets); intro x; clear_value x)
    | with_reducible apply State.draw_kept
    | with_reducible apply Kept.ite
    | with_reducible apply KeptQ.ite
    | (split <;> (rename_i heq; refine Kept.use (s := z) (KeptQ.at heq ?_) (fun h => ?_)))
    | split
    | with_reducible apply KeptQ.pair
    | with_reducible apply KeptQ.snd

theorem State.hkSampled_kept {z s : State} (h : Kept z s) (x raw : Nat) (value : Int) (ok : Bool) : Kept z (s.hkSampled x raw value ok) := by
  have h1 := State.setF_kept h (F.HK_CH_TEMP_RAW x) raw
  exact Kept.ite (State.toService_kept (State.setHk_kept (State.setF_kept h1 _ _) _ _))
    (Kept.ite (State.toService_kept (State.hkGood_kept (State.hkValue_kept h1 _ _ _).snd _ _)) (State.hkInvalid_kept h1 _))

theorem execHkSample_kept {z s : State} (h : Kept z s) (a1 : Fin 60) (a2 : BitVec 12) (a3 : BitVec 16) (a4 : Bool) : KeptOut z (execHkSample a1 a2 a3 a4 s) := by
  unfold execHkSample
  repeat' first
    | with_reducible assumption
    | ((try lift_lets); intro x; clear_value (e : x = _); refine Kept.use (s := z) (x := x) (Kept.via e ?_) (fun h => ?_))
    | ((try lift_lets); intro x; clear_value x)
    | with_reducible apply Kept.next
    | with_reducible apply KeptOut.ite
    | with_reducible apply State.advanceTo_kept
    | with_reducible apply State.shutdownPath_kept
    | with_reducible apply State.setHk_kept
    | with_reducible apply State.hkSampled_kept
    | with_reducible apply Kept.ite

theorem execHkRequal_kept {z s : State} (h : Kept z s) (a1 : Fin 60) : KeptOut z (execHkRequal a1 s) := by
  unfold execHkRequal
  repeat' first
    | with_reducible assumption
    | ((try lift_lets); intro x; clear_value (e : x = _); refine Kept.use (s := z) (x := x) (Kept.via e ?_) (fun h => ?_))
    | ((try lift_lets); intro x; clear_value x)
    | with_reducible apply Kept.next
    | with_reducible apply KeptOut.ite
    | with_reducible apply State.setHk_kept
    | with_reducible apply State.setF_kept
    | with_reducible apply Kept.ite

theorem execHkTest_kept {z s : State} (h : Kept z s)  : KeptOut z (execHkTest s) := by
  unfold execHkTest
  repeat' first
    | with_reducible assumption
    | with_reducible apply Kept.next
    | with_reducible apply KeptOut.ite
    | with_reducible apply State.flam_kept
    | with_reducible apply State.toSlow_kept
    | with_reducible apply State.setF_kept
    | with_reducible apply Kept.ite

theorem State.toStep_kept {z s : State} (h : Kept z s)  : Kept z (State.toStep s) := by
  unfold State.toStep
  repeat' first
    | with_reducible assumption
    | ((try lift_lets); intro x; clear_value (e : x = _); refine Kept.use (s := z) (x := x) (Kept.via e ?_) (fun h => ?_))
    | ((try lift_lets); intro x; clear_value x)
    | with_reducible apply State.advanceTo_kept
    | (simp only [Kept.mk2_iff])
    | (simp only [Kept.mk_iff])

theorem execThrottleDemandStep_kept {z s : State} (h : Kept z s)  : KeptOut z (execThrottleDemandStep s) := by
  unfold execThrottleDemandStep
  repeat' first
    | with_reducible assumption
    | ((try lift_lets); intro x; clear_value (e : x = _); refine Kept.use (s := z) (x := x) (Kept.via e ?_) (fun h => ?_))
    | ((try lift_lets); intro x; clear_value x)
    | with_reducible apply Kept.next
    | with_reducible apply KeptOut.ite
    | with_reducible apply State.toStep_kept
    | with_reducible apply State.throttleDown_kept
    | with_reducible apply State.setF_kept
    | with_reducible apply Kept.ite

theorem State.toCheck_kept {z s : State} (h : Kept z s)  : Kept z (State.toCheck s) := by
  unfold State.toCheck
  repeat' first
    | with_reducible assumption
    | ((try lift_lets); intro x; clear_value (e : x = _); refine Kept.use (s := z) (x := x) (Kept.via e ?_) (fun h => ?_))
    | ((try lift_lets); intro x; clear_value x)
    | with_reducible apply State.advanceTo_kept
    | (simp only [Kept.mk2_iff])
    | (simp only [Kept.mk_iff])

theorem execThrottleApplyCheck_kept {z s : State} (h : Kept z s)  : KeptOut z (execThrottleApplyCheck s) := by
  unfold execThrottleApplyCheck
  repeat' first
    | with_reducible assumption
    | ((try lift_lets); intro x; clear_value (e : x = _); refine Kept.use (s := z) (x := x) (Kept.via e ?_) (fun h => ?_))
    | ((try lift_lets); intro x; clear_value x)
    | with_reducible apply Kept.next
    | with_reducible apply KeptOut.ite
    | with_reducible apply State.toCheck_kept
    | with_reducible apply State.tally_kept
    | with_reducible apply State.setF_kept
    | with_reducible apply State.throttleMet_kept
    | with_reducible apply State.throttleDown_kept
    | with_reducible apply Kept.ite

theorem State.thermBoundary_kept {z s : State} (h : Kept z s) (a1 : Nat) : Kept z (State.thermBoundary s a1) := by
  unfold State.thermBoundary
  repeat' first
    | with_reducible assumption
    | ((try lift_lets); intro x; clear_value (e : x = _); refine Kept.use (s := z) (x := x) (Kept.via e ?_) (fun h => ?_))
    | ((try lift_lets); intro x; clear_value x)
    | with_reducible apply State.setFs_kept
    | with_reducible apply State.raiseX_kept
    | with_reducible apply Kept.ite

/-! ### Stops -/

theorem State.kaAllStatic_kept {z s : State} (h : Kept z s)  : Kept z (State.kaAllStatic s) := by
  unfold State.kaAllStatic
  repeat' first
    | with_reducible assumption
    | ((try lift_lets); intro x; clear_value (e : x = _); refine Kept.use (s := z) (x := x) (Kept.via e ?_) (fun h => ?_))
    | ((try lift_lets); intro x; clear_value x)
    | with_reducible apply State.tally_kept
    | with_reducible apply State.setFs_kept

theorem State.drivesOff_kept {z s : State} (h : Kept z s)  : Kept z (State.drivesOff s) := by
  unfold State.drivesOff
  repeat' first
    | with_reducible assumption
    | ((try lift_lets); intro x; clear_value (e : x = _); refine Kept.use (s := z) (x := x) (Kept.via e ?_) (fun h => ?_))
    | ((try lift_lets); intro x; clear_value x)
    | with_reducible apply State.motorOff_kept
    | with_reducible apply State.stepOff_kept
    | with_reducible apply Kept.ite
    | (with_reducible apply Kept.forBelow; intro i s h)

theorem State.outputsReset_kept {z s : State} (h : Kept z s)  : Kept z (State.outputsReset s) := by
  unfold State.outputsReset
  repeat' first
    | with_reducible assumption
    | ((try lift_lets); intro x; clear_value (e : x = _); refine Kept.use (s := z) (x := x) (Kept.via e ?_) (fun h => ?_))
    | ((try lift_lets); intro x; clear_value x)
    | with_reducible apply State.setF_kept
    | with_reducible apply State.chopper_kept
    | with_reducible apply State.drivesOff_kept
    | with_reducible apply State.setFs_kept
    | with_reducible apply State.setZone_kept
    | with_reducible apply State.setEp_kept
    | (with_reducible apply Kept.forBelow; intro i s h)

theorem State.saveLedger_kept {z s : State} (h : Kept z s)  : Kept z (State.saveLedger s) := by
  unfold State.saveLedger
  repeat' first
    | with_reducible assumption
    | ((try lift_lets); intro x; clear_value (e : x = _); refine Kept.use (s := z) (x := x) (Kept.via e ?_) (fun h => ?_))
    | ((try lift_lets); intro x; clear_value x)
    | (simp only [Kept.mk2_iff])
    | (simp only [Kept.mk_iff])

theorem execFclkLost_kept {z s : State} (h : Kept z s)  : KeptOut z (execFclkLost s) := by
  unfold execFclkLost
  repeat' first
    | with_reducible assumption
    | ((try lift_lets); intro x; clear_value (e : x = _); refine Kept.use (s := z) (x := x) (Kept.via e ?_) (fun h => ?_))
    | ((try lift_lets); intro x; clear_value x)
    | with_reducible apply Kept.next
    | with_reducible apply State.stopClocks_kept
    | with_reducible apply State.setFs_kept
    | with_reducible apply State.saveLedger_kept
    | with_reducible apply State.outputsReset_kept
    | with_reducible apply State.kaAllStatic_kept
    | with_reducible apply State.raiseX_kept

theorem State.csStop_kept {z s : State} (h : Kept z s)  : Kept z (State.csStop s) := by
  unfold State.csStop
  repeat' first
    | with_reducible assumption
    | ((try lift_lets); intro x; clear_value (e : x = _); refine Kept.use (s := z) (x := x) (Kept.via e ?_) (fun h => ?_))
    | ((try lift_lets); intro x; clear_value x)
    | with_reducible apply State.raise_kept
    | with_reducible apply State.csLeave_kept
    | with_reducible apply Kept.ite
    | (with_reducible apply Kept.foldl; intro s x h)

theorem execG3Stop_kept {z s : State} (h : Kept z s)  : KeptOut z (execG3Stop s) := by
  unfold execG3Stop
  repeat' first
    | with_reducible assumption
    | ((try lift_lets); intro x; clear_value (e : x = _); refine Kept.use (s := z) (x := x) (Kept.via e ?_) (fun h => ?_))
    | ((try lift_lets); intro x; clear_value x)
    | with_reducible apply Kept.next
    | with_reducible apply KeptOut.ite
    | with_reducible apply State.csStop_kept
    | with_reducible apply State.axCommand_kept
    | with_reducible apply State.keepalives_kept
    | with_reducible apply State.flush_kept
    | with_reducible apply Kept.ite
    | (with_reducible apply Kept.forBelow; intro i s h)
    | (simp only [Kept.mk2_iff])
    | (simp only [Kept.mk_iff])

theorem State.enforced_kept {z s : State} (h : Kept z s) (a1 : Nat) : Kept z (State.enforced s a1) := by
  unfold State.enforced
  repeat' first
    | with_reducible assumption
    | with_reducible apply State.raise_kept
    | with_reducible apply State.setF_kept

theorem execDecelCheck_kept {z s : State} (h : Kept z s)  : KeptOut z (execDecelCheck s) := by
  unfold execDecelCheck
  repeat' first
    | with_reducible assumption
    | ((try lift_lets); intro x; clear_value (e : x = _); refine Kept.use (s := z) (x := x) (Kept.via e ?_) (fun h => ?_))
    | ((try lift_lets); intro x; clear_value x)
    | with_reducible apply Kept.next
    | with_reducible apply KeptOut.ite
    | with_reducible apply State.advanceTo_kept
    | with_reducible apply State.axCommand_kept
    | with_reducible apply State.enforced_kept
    | with_reducible apply Kept.ite
    | (with_reducible apply Kept.forBelow; intro i s h)
    | (simp only [Kept.mk2_iff])
    | (simp only [Kept.mk_iff])

theorem execStopTimeout_kept {z s : State} (h : Kept z s)  : KeptOut z (execStopTimeout s) := by
  unfold execStopTimeout
  repeat' first
    | with_reducible assumption
    | ((try lift_lets); intro x; clear_value (e : x = _); refine Kept.use (s := z) (x := x) (Kept.via e ?_) (fun h => ?_))
    | ((try lift_lets); intro x; clear_value x)
    | with_reducible apply Kept.next
    | with_reducible apply KeptOut.ite
    | with_reducible apply State.advanceTo_kept
    | with_reducible apply State.enforced_kept
    | with_reducible apply State.keepalives_kept
    | with_reducible apply State.drivesOff_kept
    | with_reducible apply Kept.ite
    | (simp only [Kept.mk2_iff])
    | (simp only [Kept.mk_iff])

theorem State.stopDone_kept {z s : State} (h : Kept z s) (a1 : Stop) : Kept z (State.stopDone s a1) := by
  unfold State.stopDone
  repeat' first
    | with_reducible assumption
    | ((try lift_lets); intro x; clear_value (e : x = _); refine Kept.use (s := z) (x := x) (Kept.via e ?_) (fun h => ?_))
    | ((try lift_lets); intro x; clear_value x)
    | with_reducible apply State.logAdd_kept
    | (simp only [Kept.mk2_iff])
    | (simp only [Kept.mk_iff])

theorem execStopDone_kept {z s : State} (h : Kept z s)  : KeptOut z (execStopDone s) := by
  unfold execStopDone
  repeat' first
    | with_reducible assumption
    | ((try lift_lets); intro x; clear_value (e : x = _); refine Kept.use (s := z) (x := x) (Kept.via e ?_) (fun h => ?_))
    | ((try lift_lets); intro x; clear_value x)
    | with_reducible apply Kept.next
    | with_reducible apply KeptOut.ite
    | with_reducible apply State.advanceTo_kept
    | with_reducible apply State.setFs_kept
    | with_reducible apply State.tally_kept
    | with_reducible apply State.raiseX_kept
    | with_reducible apply State.stopDone_kept
    | with_reducible apply State.keepalives_kept
    | with_reducible apply Kept.ite
    | split
    | (simp only [Kept.mk2_iff])
    | (simp only [Kept.mk_iff])

theorem execG4_kept {z s : State} (h : Kept z s)  : KeptOut z (execG4 s) := by
  unfold execG4
  repeat' first
    | with_reducible assumption
    | ((try lift_lets); intro x; clear_value (e : x = _); refine Kept.use (s := z) (x := x) (Kept.via e ?_) (fun h => ?_))
    | ((try lift_lets); intro x; clear_value x)
    | with_reducible apply Kept.next
    | with_reducible apply KeptOut.ite
    | with_reducible apply State.outputsReset_kept
    | with_reducible apply State.kaAllStatic_kept
    | with_reducible apply State.flush_kept
    | with_reducible apply State.saveLedger_kept
    | with_reducible apply State.reportG4_kept
    | with_reducible apply Kept.ite

theorem execKaHvTimeout_kept {z s : State} (h : Kept z s)  : KeptOut z (execKaHvTimeout s) := by
  unfold execKaHvTimeout
  repeat' first
    | with_reducible assumption
    | ((try lift_lets); intro x; clear_value (e : x = _); refine Kept.use (s := z) (x := x) (Kept.via e ?_) (fun h => ?_))
    | ((try lift_lets); intro x; clear_value x)
    | with_reducible apply Kept.next
    | with_reducible apply KeptOut.ite
    | with_reducible apply State.advanceTo_kept
    | with_reducible apply State.keepalives_kept
    | with_reducible apply Kept.ite
    | (simp only [Kept.mk2_iff])
    | (simp only [Kept.mk_iff])

theorem execHostRaise_kept {z s : State} (h : Kept z s) (a1 : BitVec 8) (a2 : BitVec 16) : KeptOut z (execHostRaise a1 a2 s) := by
  unfold execHostRaise
  repeat' first
    | with_reducible assumption
    | ((try lift_lets); intro x; clear_value (e : x = _); refine Kept.use (s := z) (x := x) (Kept.via e ?_) (fun h => ?_))
    | ((try lift_lets); intro x; clear_value x)
    | with_reducible apply Kept.next
    | with_reducible apply KeptOut.ite
    | with_reducible apply State.setFs_kept
    | with_reducible apply State.raise_kept
    | with_reducible apply State.flam_kept
    | with_reducible apply Kept.ite

theorem execPendClear_kept {z s : State} (h : Kept z s) (a1 : Fin 8) (a2 : BitVec 32) (a3 : BitVec 32) : KeptOut z (execPendClear a1 a2 a3 s) := by
  unfold execPendClear
  repeat' first
    | with_reducible assumption
    | ((try lift_lets); intro x; clear_value (e : x = _); refine Kept.use (s := z) (x := x) (Kept.via e ?_) (fun h => ?_))
    | ((try lift_lets); intro x)
    | with_reducible apply Kept.next
    | with_reducible apply KeptOut.ite
    | with_reducible apply State.flam_kept
    | with_reducible apply State.sendMsix_kept
    | with_reducible apply State.setBitF_kept
    | with_reducible apply Kept.ite
    | (with_reducible apply Kept.forBelow; intro i s h)
    | (dsimp (zetaDelta := true) only)
    | (simp (zetaDelta := true) only [Kept.mk2_iff, Kept.mk_iff])

theorem execEventConfigWrite_kept {z s : State} (h : Kept z s) (a1 : BitVec 8) (a2 : BitVec 32) : KeptOut z (execEventConfigWrite a1 a2 s) := by
  unfold execEventConfigWrite
  repeat' first
    | with_reducible assumption
    | ((try lift_lets); intro x; clear_value (e : x = _); refine Kept.use (s := z) (x := x) (Kept.via e ?_) (fun h => ?_))
    | ((try lift_lets); intro x; clear_value x)
    | with_reducible apply Kept.next
    | with_reducible apply KeptOut.ite
    | with_reducible apply State.flam_kept
    | with_reducible apply State.setF_kept
    | with_reducible apply State.setFs_kept
    | with_reducible apply Kept.ite

/-! ### Arm -/

theorem State.slotRefused_kept {z s : State} (h : Kept z s) (a1 : Nat) (a2 : Nat) (a3 : Nat) : Kept z (State.slotRefused s a1 a2 a3) := by
  unfold State.slotRefused
  repeat' first
    | with_reducible assumption
    | with_reducible apply State.raise_kept

theorem State.showPhase_kept {z s : State} (h : Kept z s) (a1 : Nat) : Kept z (State.showPhase s a1) := by
  unfold State.showPhase
  repeat' first
    | with_reducible assumption
    | with_reducible apply State.setF_kept
    | with_reducible apply State.setFs_kept
    | split

theorem State.setPhase_kept {z s : State} (h : Kept z s) (a1 : Nat) (a2 : Phase) : Kept z (State.setPhase s a1 a2) := by
  unfold State.setPhase
  repeat' first
    | with_reducible assumption
    | ((try lift_lets); intro x; clear_value (e : x = _); refine Kept.use (s := z) (x := x) (Kept.via e ?_) (fun h => ?_))
    | ((try lift_lets); intro x; clear_value x)
    | with_reducible apply State.setStation_kept
    | with_reducible apply State.showPhase_kept
    | with_reducible apply Kept.ite

theorem State.inkStepStart_kept {z s : State} (h : Kept z s) (a1 : Nat) (a2 : Nat) : Kept z (State.inkStepStart s a1 a2) := by
  unfold State.inkStepStart
  repeat' first
    | with_reducible assumption
    | with_reducible apply State.setPhase_kept

theorem State.epStepStart_kept {z s : State} (h : Kept z s) (a1 : Nat) (a2 : Nat) : Kept z (State.epStepStart s a1 a2) := by
  unfold State.epStepStart
  repeat' first
    | with_reducible assumption
    | ((try lift_lets); intro x; clear_value (e : x = _); refine Kept.use (s := z) (x := x) (Kept.via e ?_) (fun h => ?_))
    | ((try lift_lets); intro x; clear_value x)
    | with_reducible apply State.setPhase_kept
    | with_reducible apply State.setEp_kept

theorem State.freeSpare_kept {z s : State} (h : Kept z s) (a1 : Nat) : Kept z (State.freeSpare s a1) := by
  unfold State.freeSpare
  repeat' first
    | with_reducible assumption
    | with_reducible apply State.setFs_kept

theorem State.freeSparesOf_kept {z s : State} (h : Kept z s) (a1 : Nat) : Kept z (State.freeSparesOf s a1) := by
  unfold State.freeSparesOf
  repeat' first
    | with_reducible assumption
    | with_reducible apply State.freeSpare_kept
    | (with_reducible apply Kept.foldl; intro s x h)

theorem State.lanesFresh_kept {z s : State} (h : Kept z s) (a1 : Nat) : Kept z (State.lanesFresh s a1) := by
  unfold State.lanesFresh
  repeat' first
    | with_reducible assumption
    | ((try lift_lets); intro x; clear_value (e : x = _); refine Kept.use (s := z) (x := x) (Kept.via e ?_) (fun h => ?_))
    | ((try lift_lets); intro x; clear_value x)
    | with_reducible apply State.freeSparesOf_kept
    | with_reducible apply State.setFs_kept
    | with_reducible apply State.setLane_kept
    | (with_reducible apply Kept.foldl; intro s x h)

theorem State.armStart_kept {z s : State} (h : Kept z s) (a1 : Nat) (a2 : Bool) : Kept z (State.armStart s a1 a2) := by
  unfold State.armStart
  repeat' first
    | with_reducible assumption
    | ((try lift_lets); intro x; clear_value (e : x = _); refine Kept.use (s := z) (x := x) (Kept.via e ?_) (fun h => ?_))
    | ((try lift_lets); intro x; clear_value x)
    | with_reducible apply State.setB_kept
    | with_reducible apply State.setHv_kept
    | with_reducible apply State.setFs_kept
    | with_reducible apply State.epStepStart_kept
    | with_reducible apply State.setEp_kept
    | with_reducible apply State.inkStepStart_kept
    | with_reducible apply State.lanesFresh_kept
    | with_reducible apply State.setInk_kept
    | with_reducible apply Kept.ite
    | (with_reducible apply Kept.foldl; intro s x h)

theorem execArmRequest_kept {z s : State} (h : Kept z s) (a1 : BitVec 8) (a2 : BitVec 8) : KeptOut z (execArmRequest a1 a2 s) := by
  unfold execArmRequest
  repeat' first
    | with_reducible assumption
    | with_reducible apply Kept.next
    | with_reducible apply KeptOut.ite
    | with_reducible apply State.slotRefused_kept
    | with_reducible apply State.armStart_kept
    | with_reducible apply Kept.ite
    | (with_reducible apply Kept.forBelow; intro i s h)
    | split

theorem State.nowArmed_kept {z s : State} (h : Kept z s) (a1 : Nat) : Kept z (State.nowArmed s a1) := by
  unfold State.nowArmed
  repeat' first
    | with_reducible assumption
    | ((try lift_lets); intro x; clear_value (e : x = _); refine Kept.use (s := z) (x := x) (Kept.via e ?_) (fun h => ?_))
    | ((try lift_lets); intro x; clear_value x)
    | with_reducible apply State.setSlot_kept
    | with_reducible apply State.setPhase_kept
    | with_reducible apply State.setStation_kept
    | with_reducible apply State.setLbias_kept
    | with_reducible apply State.setGear_kept
    | with_reducible apply State.tally_kept
    | with_reducible apply State.stopDone_kept
    | with_reducible apply State.rebaseWeb_kept
    | with_reducible apply Kept.ite
    | (with_reducible apply Kept.forBelow; intro i s h)
    | split
    | (simp only [Kept.mk2_iff])
    | (simp only [Kept.mk_iff])

theorem State.skipOpen_kept {z s : State} (h : Kept z s) (a1 : Nat) : Kept z (State.skipOpen s a1) := by
  unfold State.skipOpen
  repeat' first
    | with_reducible assumption
    | ((try lift_lets); intro x; clear_value (e : x = _); refine Kept.use (s := z) (x := x) (Kept.via e ?_) (fun h => ?_))
    | ((try lift_lets); intro x; clear_value x)
    | with_reducible apply State.finalize_kept
    | with_reducible apply Kept.ite
    | (simp only [Kept.mk2_iff])
    | (simp only [Kept.mk_iff])

theorem State.leavePrint_kept {z s : State} (h : Kept z s) (a1 : Nat) : Kept z (State.leavePrint s a1) := by
  unfold State.leavePrint
  repeat' first
    | with_reducible assumption
    | ((try lift_lets); intro x; clear_value (e : x = _); refine Kept.use (s := z) (x := x) (Kept.via e ?_) (fun h => ?_))
    | ((try lift_lets); intro x; clear_value x)
    | with_reducible apply State.marksSince_kept
    | with_reducible apply State.csLeave_kept
    | with_reducible apply State.setStation_kept
    | with_reducible apply State.abandon_kept
    | with_reducible apply State.passHead_kept
    | with_reducible apply State.setFs_kept
    | with_reducible apply State.setF_kept
    | with_reducible apply State.setBitF_kept
    | with_reducible apply State.skipOpen_kept
    | with_reducible apply Kept.ite
    | (with_reducible apply Kept.foldl; intro s x h)
    | split

theorem State.lanesUnresolved_kept {z s : State} (h : Kept z s) (a1 : Nat) : Kept z (State.lanesUnresolved s a1) := by
  unfold State.lanesUnresolved
  repeat' first
    | with_reducible assumption
    | ((try lift_lets); intro x; clear_value (e : x = _); refine Kept.use (s := z) (x := x) (Kept.via e ?_) (fun h => ?_))
    | ((try lift_lets); intro x; clear_value x)
    | with_reducible apply State.logRetry_kept
    | with_reducible apply State.setHead_kept
    | with_reducible apply Kept.ite
    | (with_reducible apply Kept.foldl; intro s x h)
    | (with_reducible apply Kept.forBelow; intro i s h)
    | (simp only [Kept.mk2_iff])
    | (simp only [Kept.mk_iff])

theorem State.inkDisarm_kept {z s : State} (h : Kept z s) (a1 : Nat) : Kept z (State.inkDisarm s a1) := by
  unfold State.inkDisarm
  repeat' first
    | with_reducible assumption
    | ((try lift_lets); intro x; clear_value (e : x = _); refine Kept.use (s := z) (x := x) (Kept.via e ?_) (fun h => ?_))
    | ((try lift_lets); intro x; clear_value x)
    | with_reducible apply State.leavePrint_kept
    | with_reducible apply State.rebaseWeb_kept
    | with_reducible apply State.closeReported_kept
    | with_reducible apply State.setPhase_kept
    | with_reducible apply State.setInk_kept
    | with_reducible apply Kept.ite
    | (with_reducible apply Kept.foldl; intro s x h)

theorem State.unarm_kept {z s : State} (h : Kept z s) (a1 : Nat) : Kept z (State.unarm s a1) := by
  unfold State.unarm
  repeat' first
    | with_reducible assumption
    | ((try lift_lets); intro x; clear_value (e : x = _); refine Kept.use (s := z) (x := x) (Kept.via e ?_) (fun h => ?_))
    | ((try lift_lets); intro x; clear_value x)
    | with_reducible apply State.rebaseWeb_kept
    | with_reducible apply State.setPhase_kept
    | with_reducible apply State.setStation_kept

theorem State.lanesIdle_kept {z s : State} (h : Kept z s) (a1 : Nat) : Kept z (State.lanesIdle s a1) := by
  unfold State.lanesIdle
  repeat' first
    | with_reducible assumption
    | ((try lift_lets); intro x; clear_value (e : x = _); refine Kept.use (s := z) (x := x) (Kept.via e ?_) (fun h => ?_))
    | ((try lift_lets); intro x; clear_value x)
    | with_reducible apply State.setLane_kept
    | with_reducible apply State.setF_kept
    | (with_reducible apply Kept.foldl; intro s x h)

theorem execInkDisarm_kept {z s : State} (h : Kept z s) (a1 : Fin 8) : KeptOut z (execInkDisarm a1 s) := by
  unfold execInkDisarm
  repeat' first
    | with_reducible assumption
    | ((try lift_lets); intro x; clear_value (e : x = _); refine Kept.use (s := z) (x := x) (Kept.via e ?_) (fun h => ?_))
    | ((try lift_lets); intro x; clear_value x)
    | with_reducible apply Kept.next
    | with_reducible apply KeptOut.ite
    | with_reducible apply State.inkDisarm_kept
    | with_reducible apply State.unarm_kept
    | with_reducible apply State.lanesIdle_kept
    | with_reducible apply State.lanesUnresolved_kept
    | with_reducible apply Kept.ite
    | split

theorem State.closeLeft_kept {z s : State} (h : Kept z s) (n k : Nat) : Kept z (s.closeLeft n k) := by
  induction k generalizing s with
  | zero => exact h
  | succ k ih =>
    unfold State.closeLeft
    split
    · exact ih (State.silentClose_kept h _ _)
    · exact h

theorem execCap_kept {z s : State} (h : Kept z s) (a1 : Fin 8) : KeptOut z (execCap a1 s) := by
  unfold execCap
  repeat' first
    | with_reducible assumption
    | ((try lift_lets); intro x; clear_value (e : x = _); refine Kept.use (s := z) (x := x) (Kept.via e ?_) (fun h => ?_))
    | ((try lift_lets); intro x)
    | with_reducible apply Kept.next
    | with_reducible apply State.advanceTo_kept
    | with_reducible apply State.closeLeft_kept
    | with_reducible apply State.closeFrame_kept
    | with_reducible apply State.send_kept
    | with_reducible apply State.lanesUnresolved_kept
    | with_reducible apply State.unarm_kept
    | with_reducible apply State.lanesIdle_kept
    | with_reducible apply State.setInk_kept
    | (with_reducible apply Kept.foldl; intro s x h)
    | split
    | (dsimp (zetaDelta := true) only)
    | (simp (zetaDelta := true) only [Kept.mk2_iff, Kept.mk_iff])

theorem State.inkRefuse_kept {z s : State} (h : Kept z s) (a1 : Nat) (a2 : Nat) (a3 : Nat) : Kept z (State.inkRefuse s a1 a2 a3) := by
  unfold State.inkRefuse
  repeat' first
    | with_reducible assumption
    | with_reducible apply State.slotRefused_kept
    | with_reducible apply State.unarm_kept
    | with_reducible apply State.lanesIdle_kept
    | with_reducible apply State.lanesUnresolved_kept

theorem State.armLane_kept {z s : State} (h : Kept z s) (a1 : Nat) : Kept z (State.armLane s a1) := by
  unfold State.armLane
  repeat' first
    | with_reducible assumption
    | ((try lift_lets); intro x; clear_value (e : x = _); refine Kept.use (s := z) (x := x) (Kept.via e ?_) (fun h => ?_))
    | ((try lift_lets); intro x; clear_value x)
    | with_reducible apply State.freeSparesOf_kept
    | with_reducible apply State.giveSpare_kept
    | with_reducible apply State.setF_kept
    | with_reducible apply State.sendEcho_kept
    | with_reducible apply State.setLane_kept
    | with_reducible apply Kept.ite
    | split

theorem State.assignLanes_kept {z s : State} (h : Kept z s) (a1 : Nat) : Kept z (State.assignLanes s a1) := by
  unfold State.assignLanes
  repeat' first
    | with_reducible assumption
    | ((try lift_lets); intro x; clear_value (e : x = _); refine Kept.use (s := z) (x := x) (Kept.via e ?_) (fun h => ?_))
    | ((try lift_lets); intro x; clear_value x)
    | with_reducible apply State.send_kept
    | with_reducible apply State.setLane_kept
    | (with_reducible apply Kept.foldl; intro s x h)

theorem State.readHeads_kept {z s : State} (h : Kept z s) (a1 : Nat) : Kept z (State.readHeads s a1) := by
  unfold State.readHeads
  repeat' first
    | with_reducible assumption
    | ((try lift_lets); intro x; clear_value (e : x = _); refine Kept.use (s := z) (x := x) (Kept.via e ?_) (fun h => ?_))
    | ((try lift_lets); intro x)
    | with_reducible apply State.send_kept
    | (with_reducible apply Kept.foldl; intro s x h)
    | (dsimp (zetaDelta := true) only)
    | (simp (zetaDelta := true) only [Kept.mk2_iff, Kept.mk_iff])

theorem State.takeHeads_kept {z s : State} (h : Kept z s) (n : Nat) (l : List Nat) (bs : List (List Byte)) :
    KeptP z (s.takeHeads n l bs) := by
  induction l generalizing s bs with
  | nil => exact ⟨h⟩
  | cons x r ih =>
    cases bs with
    | nil => exact ⟨h⟩
    | cons b bs =>
      unfold State.takeHeads
      split
      · exact ih (State.setHead_kept h _ _ _) _
      · exact ⟨h⟩

theorem State.armWaves_kept {z s : State} (h : Kept z s) (a1 : Nat) : Kept z (State.armWaves s a1) := by
  unfold State.armWaves
  repeat' first
    | with_reducible assumption
    | ((try lift_lets); intro x; clear_value (e : x = _); refine Kept.use (s := z) (x := x) (Kept.via e ?_) (fun h => ?_))
    | ((try lift_lets); intro x; clear_value x)
    | with_reducible apply State.sendWaves_kept
    | with_reducible apply Kept.ite

theorem State.inkFinish_kept {z s : State} (h : Kept z s) (a1 : Nat) : Kept z (State.inkFinish s a1) := by
  unfold State.inkFinish
  repeat' first
    | with_reducible assumption
    | ((try lift_lets); intro x; clear_value (e : x = _); refine Kept.use (s := z) (x := x) (Kept.via e ?_) (fun h => ?_))
    | ((try lift_lets); intro x; clear_value x)
    | with_reducible apply State.setF_kept
    | with_reducible apply State.inkRefuse_kept
    | with_reducible apply State.nowArmed_kept
    | split

theorem execInkArmStep_kept {z s : State} (h : Kept z s) (a1 : Fin 8) (a2 : InkStep) : KeptOut z (execInkArmStep a1 a2 s) := by
  unfold execInkArmStep
  repeat' first
    | with_reducible assumption
    | ((try lift_lets); intro x; clear_value (e : x = _); refine Kept.use (s := z) (x := x) (Kept.via e ?_) (fun h => ?_))
    | ((try lift_lets); intro x)
    | with_reducible apply Kept.next
    | with_reducible apply KeptOut.ite
    | with_reducible apply State.advanceTo_kept
    | with_reducible apply State.assignLanes_kept
    | with_reducible apply State.inkStepStart_kept
    | with_reducible apply State.armLane_kept
    | with_reducible apply State.inkRefuse_kept
    | with_reducible apply State.readHeads_kept
    | with_reducible apply State.raise_kept
    | with_reducible apply State.takeHeads_kept
    | with_reducible apply State.armWaves_kept
    | with_reducible apply State.inkFinish_kept
    | with_reducible apply Kept.ite
    | (with_reducible apply Kept.foldl; intro s x h)
    | with_reducible apply KeptP.ite
    | (split <;> (rename_i heq; refine Kept.use (s := z) (KeptP.at heq ?_) (fun h => ?_)))
    | split
    | with_reducible apply KeptP.pair
    | with_reducible apply KeptP.fst
    | (dsimp (zetaDelta := true) only)
    | (simp (zetaDelta := true) only [Kept.mk2_iff, Kept.mk_iff])

theorem State.epLower_kept {z s : State} (h : Kept z s) (a1 : Nat) : Kept z (State.epLower s a1) := by
  unfold State.epLower
  repeat' first
    | with_reducible assumption
    | ((try lift_lets); intro x; clear_value (e : x = _); refine Kept.use (s := z) (x := x) (Kept.via e ?_) (fun h => ?_))
    | ((try lift_lets); intro x; clear_value x)
    | with_reducible apply State.setEp_kept
    | with_reducible apply State.hvSequence_kept
    | with_reducible apply State.setPhase_kept
    | with_reducible apply State.laserStatic_kept

theorem State.epUnresolved_kept {z s : State} (h : Kept z s) (a1 : Nat) : Kept z (State.epUnresolved s a1) := by
  unfold State.epUnresolved
  repeat' first
    | with_reducible assumption
    | ((try lift_lets); intro x; clear_value (e : x = _); refine Kept.use (s := z) (x := x) (Kept.via e ?_) (fun h => ?_))
    | ((try lift_lets); intro x; clear_value x)
    | with_reducible apply State.logRetry_kept
    | with_reducible apply State.setHv_kept
    | with_reducible apply Kept.ite
    | (with_reducible apply Kept.foldl; intro s x h)

theorem State.epDisarm_kept {z s : State} (h : Kept z s) (a1 : Nat) : Kept z (State.epDisarm s a1) := by
  unfold State.epDisarm
  repeat' first
    | with_reducible assumption
    | ((try lift_lets); intro x; clear_value (e : x = _); refine Kept.use (s := z) (x := x) (Kept.via e ?_) (fun h => ?_))
    | ((try lift_lets); intro x; clear_value x)
    | with_reducible apply State.leavePrint_kept
    | with_reducible apply State.epUnresolved_kept
    | with_reducible apply State.setEp_kept
    | with_reducible apply State.rebaseWeb_kept
    | with_reducible apply State.closeEp_kept
    | with_reducible apply State.epLower_kept

theorem State.epUndo_kept {z s : State} (h : Kept z s) (a1 : Nat) (a2 : Nat) : Kept z (State.epUndo s a1 a2) := by
  unfold State.epUndo
  repeat' first
    | with_reducible assumption
    | with_reducible apply State.epLower_kept
    | with_reducible apply State.epUnresolved_kept
    | with_reducible apply State.setF_kept
    | with_reducible apply State.unarm_kept
    | with_reducible apply Kept.ite

theorem State.epRefuse_kept {z s : State} (h : Kept z s) (a1 : Nat) (a2 : Nat) (a3 : Nat) (a4 : Nat) : Kept z (State.epRefuse s a1 a2 a3 a4) := by
  unfold State.epRefuse
  repeat' first
    | with_reducible assumption
    | ((try lift_lets); intro x; clear_value (e : x = _); refine Kept.use (s := z) (x := x) (Kept.via e ?_) (fun h => ?_))
    | ((try lift_lets); intro x; clear_value x)
    | with_reducible apply State.epUndo_kept
    | with_reducible apply State.slotRefused_kept
    | with_reducible apply State.setF_kept

theorem execEpDisarm_kept {z s : State} (h : Kept z s) (a1 : Fin 4) : KeptOut z (execEpDisarm a1 s) := by
  unfold execEpDisarm
  repeat' first
    | with_reducible assumption
    | ((try lift_lets); intro x; clear_value (e : x = _); refine Kept.use (s := z) (x := x) (Kept.via e ?_) (fun h => ?_))
    | ((try lift_lets); intro x; clear_value x)
    | with_reducible apply Kept.next
    | with_reducible apply KeptOut.ite
    | with_reducible apply State.epDisarm_kept
    | with_reducible apply State.epUndo_kept
    | with_reducible apply Kept.ite
    | split

theorem execEpDisarmDone_kept {z s : State} (h : Kept z s) (a1 : Fin 4) : KeptOut z (execEpDisarmDone a1 s) := by
  unfold execEpDisarmDone
  repeat' first
    | with_reducible assumption
    | ((try lift_lets); intro x; clear_value (e : x = _); refine Kept.use (s := z) (x := x) (Kept.via e ?_) (fun h => ?_))
    | ((try lift_lets); intro x; clear_value x)
    | with_reducible apply Kept.next
    | with_reducible apply KeptOut.ite
    | with_reducible apply State.setHv_kept
    | with_reducible apply State.setF_kept
    | with_reducible apply State.closeFrame_kept
    | with_reducible apply State.unarm_kept
    | with_reducible apply State.setEp_kept
    | with_reducible apply Kept.ite
    | (with_reducible apply Kept.foldl; intro s x h)
    | split

theorem State.laserOn_kept {z s : State} (h : Kept z s) (a1 : Nat) : Kept z (State.laserOn s a1) := by
  unfold State.laserOn
  repeat' first
    | with_reducible assumption
    | ((try lift_lets); intro x; clear_value (e : x = _); refine Kept.use (s := z) (x := x) (Kept.via e ?_) (fun h => ?_))
    | ((try lift_lets); intro x; clear_value x)
    | with_reducible apply State.kaStart_kept
    | with_reducible apply State.setBitF_kept
    | with_reducible apply State.setFs_kept
    | with_reducible apply State.setEp_kept
    | (with_reducible apply Kept.foldl; intro s x h)

theorem State.hvLift_kept {z s : State} (h : Kept z s) (a1 : Nat) : Kept z (State.hvLift s a1) := by
  unfold State.hvLift
  repeat' first
    | with_reducible assumption
    | ((try lift_lets); intro x; clear_value (e : x = _); refine Kept.use (s := z) (x := x) (Kept.via e ?_) (fun h => ?_))
    | ((try lift_lets); intro x; clear_value x)
    | with_reducible apply State.setHv_kept

theorem State.hvLate_kept {z s : State} (h : Kept z s) (a1 : Nat) (a2 : Nat) (a3 : Nat) : Kept z (State.hvLate s a1 a2 a3) := by
  unfold State.hvLate
  repeat' first
    | with_reducible assumption
    | ((try lift_lets); intro x; clear_value (e : x = _); refine Kept.use (s := z) (x := x) (Kept.via e ?_) (fun h => ?_))
    | ((try lift_lets); intro x; clear_value x)
    | with_reducible apply State.advanceTo_kept
    | with_reducible apply State.epRefuse_kept
    | split

theorem execEpArmStep_kept {z s : State} (h : Kept z s) (a1 : Fin 4) (a2 : EpStep) : KeptOut z (execEpArmStep a1 a2 s) := by
  unfold execEpArmStep
  repeat' first
    | with_reducible assumption
    | ((try lift_lets); intro x; clear_value (e : x = _); refine Kept.use (s := z) (x := x) (Kept.via e ?_) (fun h => ?_))
    | ((try lift_lets); intro x)
    | with_reducible apply Kept.next
    | with_reducible apply KeptOut.ite
    | with_reducible apply State.advanceTo_kept
    | with_reducible apply State.epRefuse_kept
    | with_reducible apply State.epStepStart_kept
    | with_reducible apply State.laserOn_kept
    | with_reducible apply State.setEp_kept
    | with_reducible apply State.hvLift_kept
    | with_reducible apply State.hvLate_kept
    | with_reducible apply State.nowArmed_kept
    | with_reducible apply State.setF_kept
    | with_reducible apply Kept.ite
    | split
    | (dsimp (zetaDelta := true) only)
    | (simp (zetaDelta := true) only [Kept.mk2_iff, Kept.mk_iff])

theorem State.disarmKind_kept {z s : State} (h : Kept z s) (a1 : Nat) : Kept z (State.disarmKind s a1) := by
  unfold State.disarmKind
  repeat' first
    | with_reducible assumption
    | with_reducible apply State.epDisarm_kept
    | with_reducible apply State.inkDisarm_kept
    | with_reducible apply Kept.ite

/-! ### Observer -/

theorem State.declareLost_kept {z s : State} (h : Kept z s) (a1 : Nat) : Kept z (State.declareLost s a1) := by
  unfold State.declareLost
  repeat' first
    | with_reducible assumption
    | ((try lift_lets); intro x; clear_value (e : x = _); refine Kept.use (s := z) (x := x) (Kept.via e ?_) (fun h => ?_))
    | ((try lift_lets); intro x; clear_value x)
    | with_reducible apply State.setF_kept
    | with_reducible apply State.raiseX_kept
    | with_reducible apply Kept.ite
    | (simp only [Kept.mk2_iff])
    | (simp only [Kept.mk_iff])

theorem State.badSample_kept {z s : State} (h : Kept z s) (a1 : Nat) (a2 : Bool) : Kept z (State.badSample s a1 a2) := by
  unfold State.badSample
  repeat' first
    | with_reducible assumption
    | ((try lift_lets); intro x; clear_value (e : x = _); refine Kept.use (s := z) (x := x) (Kept.via e ?_) (fun h => ?_))
    | ((try lift_lets); intro x; clear_value x)
    | with_reducible apply State.setSource_kept
    | with_reducible apply State.declareLost_kept
    | with_reducible apply State.logRetry_kept
    | with_reducible apply Kept.ite

theorem State.goodSample_kept {z s : State} (h : Kept z s) (a1 : Nat) : Kept z (State.goodSample s a1) := by
  unfold State.goodSample
  repeat' first
    | with_reducible assumption
    | ((try lift_lets); intro x; clear_value (e : x = _); refine Kept.use (s := z) (x := x) (Kept.via e ?_) (fun h => ?_))
    | ((try lift_lets); intro x; clear_value x)
    | with_reducible apply State.setSource_kept
    | with_reducible apply State.raiseX_kept
    | with_reducible apply State.logRetry_kept
    | with_reducible apply State.tally_kept
    | with_reducible apply State.addF_kept
    | with_reducible apply Kept.ite

theorem State.showErrs_kept {z s : State} (h : Kept z s) (a1 : Nat) (a2 : Reading) : Kept z (State.showErrs s a1 a2) := by
  unfold State.showErrs
  repeat' first
    | with_reducible assumption
    | ((try lift_lets); intro x; clear_value (e : x = _); refine Kept.use (s := z) (x := x) (Kept.via e ?_) (fun h => ?_))
    | ((try lift_lets); intro x; clear_value x)
    | with_reducible apply State.tally_kept
    | with_reducible apply State.setF_kept
    | with_reducible apply Kept.ite

theorem State.sampleSource_kept {z s : State} (h : Kept z s) (a1 : Nat) (a2 : Reading) : Kept z (State.sampleSource s a1 a2) := by
  unfold State.sampleSource
  repeat' first
    | with_reducible assumption
    | ((try lift_lets); intro x; clear_value (e : x = _); refine Kept.use (s := z) (x := x) (Kept.via e ?_) (fun h => ?_))
    | ((try lift_lets); intro x; clear_value x)
    | with_reducible apply State.showErrs_kept
    | with_reducible apply State.setPair_kept
    | with_reducible apply State.badSample_kept
    | with_reducible apply State.goodSample_kept
    | with_reducible apply State.setSource_kept
    | with_reducible apply Kept.ite

theorem State.track_kept {z s : State} (h : Kept z s) (a1 : Nat) (a2 : Int) (a3 : Int) : Kept z (State.track s a1 a2 a3) := by
  unfold State.track
  repeat' first
    | with_reducible assumption
    | ((try lift_lets); intro x; clear_value (e : x = _); refine Kept.use (s := z) (x := x) (Kept.via e ?_) (fun h => ?_))
    | ((try lift_lets); intro x; clear_value x)
    | with_reducible apply State.setSource_kept

theorem State.takeSource_kept {z s : State} (h : Kept z s) (a1 : Nat) (a2 : Int) (a3 : Option Nat) : Kept z (State.takeSource s a1 a2 a3) := by
  unfold State.takeSource
  repeat' first
    | with_reducible assumption
    | ((try lift_lets); intro x; clear_value (e : x = _); refine Kept.use (s := z) (x := x) (Kept.via e ?_) (fun h => ?_))
    | ((try lift_lets); intro x; clear_value x)
    | with_reducible apply State.setSource_kept
    | with_reducible apply State.logRetry_kept
    | with_reducible apply State.setF_kept
    | with_reducible apply State.setFs_kept
    | with_reducible apply State.coastEnd_kept
    | with_reducible apply State.setCorr_kept
    | with_reducible apply State.raiseX_kept
    | with_reducible apply State.jump_kept
    | with_reducible apply Kept.ite
    | (with_reducible apply Kept.foldl; intro s x h)
    | split
    | (simp only [Kept.mk2_iff])
    | (simp only [Kept.mk_iff])

theorem State.followMain_kept {z s : State} (h : Kept z s) (a1 : Nat → Int) (a2 : Bool) : Kept z (State.followMain s a1 a2) := by
  unfold State.followMain
  repeat' first
    | with_reducible assumption
    | ((try lift_lets); intro x; clear_value (e : x = _); refine Kept.use (s := z) (x := x) (Kept.via e ?_) (fun h => ?_))
    | ((try lift_lets); intro x; clear_value x)
    | with_reducible apply State.takeSource_kept
    | with_reducible apply Kept.ite
    | split

theorem State.chooseSource_kept {z s : State} (h : Kept z s) (a1 : Nat → Int) (a2 : Bool) : Kept z (State.chooseSource s a1 a2) := by
  unfold State.chooseSource
  repeat' first
    | with_reducible assumption
    | ((try lift_lets); intro x; clear_value (e : x = _); refine Kept.use (s := z) (x := x) (Kept.via e ?_) (fun h => ?_))
    | ((try lift_lets); intro x; clear_value x)
    | with_reducible apply State.takeSource_kept
    | with_reducible apply State.followMain_kept
    | with_reducible apply State.flam_kept
    | with_reducible apply Kept.ite
    | (simp only [Kept.mk2_iff])
    | (simp only [Kept.mk_iff])

theorem State.unchangedSample_kept {z s : State} (h : Kept z s) (a1 : Nat) : Kept z (State.unchangedSample s a1) := by
  unfold State.unchangedSample
  repeat' first
    | with_reducible assumption
    | ((try lift_lets); intro x; clear_value (e : x = _); refine Kept.use (s := z) (x := x) (Kept.via e ?_) (fun h => ?_))
    | ((try lift_lets); intro x; clear_value x)
    | with_reducible apply State.setSource_kept
    | with_reducible apply State.raiseX_kept
    | with_reducible apply State.setFs_kept
    | with_reducible apply Kept.ite
    | (simp only [Kept.mk2_iff])
    | (simp only [Kept.mk_iff])

theorem State.latchPos_kept {z s : State} (h : Kept z s) (a1 : Nat) (a2 : Int) : Kept z (State.latchPos s a1 a2) := by
  unfold State.latchPos
  repeat' first
    | with_reducible assumption
    | ((try lift_lets); intro x; clear_value (e : x = _); refine Kept.use (s := z) (x := x) (Kept.via e ?_) (fun h => ?_))
    | ((try lift_lets); intro x; clear_value x)
    | (simp only [Kept.mk2_iff])
    | (simp only [Kept.mk_iff])

theorem State.judgeSample_kept {z s : State} (h : Kept z s) (a1 : Nat) (a2 : Bool) (a3 : Bool) (a4 : Int) : Kept z (State.judgeSample s a1 a2 a3 a4) := by
  unfold State.judgeSample
  repeat' first
    | with_reducible assumption
    | ((try lift_lets); intro x; clear_value (e : x = _); refine Kept.use (s := z) (x := x) (Kept.via e ?_) (fun h => ?_))
    | ((try lift_lets); intro x; clear_value x)
    | with_reducible apply State.unchangedSample_kept
    | with_reducible apply State.setSource_kept
    | with_reducible apply State.tally_kept
    | with_reducible apply State.coastFrom_kept
    | with_reducible apply State.coastEnd_kept
    | with_reducible apply State.latchPos_kept
    | with_reducible apply State.measured_kept
    | with_reducible apply Kept.ite
    | with_reducible apply KeptQ.ite
    | (split <;> (rename_i heq; refine Kept.use (s := z) (KeptQ.at heq ?_) (fun h => ?_)))
    | with_reducible apply KeptQ.pair
    | with_reducible apply KeptQ.snd

theorem overspeedAt_kept {z s : State} (h : Kept z s) (a1 : Nat) : Kept z (overspeedAt a1 s) := by
  unfold overspeedAt
  repeat' first
    | with_reducible assumption
    | ((try lift_lets); intro x; clear_value (e : x = _); refine Kept.use (s := z) (x := x) (Kept.via e ?_) (fun h => ?_))
    | ((try lift_lets); intro x; clear_value x)
    | with_reducible apply State.setGear_kept
    | with_reducible apply State.setBitF_kept
    | with_reducible apply State.setF_kept
    | with_reducible apply State.raiseX_kept
    | with_reducible apply State.beginDrop_kept
    | with_reducible apply Kept.ite
    | split

theorem vminAt_kept {z s : State} (h : Kept z s) (a1 : Nat) : Kept z (vminAt a1 s) := by
  unfold vminAt
  repeat' first
    | with_reducible assumption
    | ((try lift_lets); intro x; clear_value (e : x = _); refine Kept.use (s := z) (x := x) (Kept.via e ?_) (fun h => ?_))
    | ((try lift_lets); intro x; clear_value x)
    | with_reducible apply State.setB_kept
    | with_reducible apply State.spoilUnstaged_kept
    | with_reducible apply State.raiseOwn_kept
    | with_reducible apply State.disarmKind_kept
    | with_reducible apply Kept.ite
    | with_reducible apply KeptP.ite
    | (split <;> (rename_i heq; refine Kept.use (s := z) (KeptP.at heq ?_) (fun h => ?_)))
    | split
    | with_reducible apply KeptP.pair
    | with_reducible apply KeptP.fst

theorem demandAt_kept {z s : State} (h : Kept z s) (a1 : Nat) : Kept z (demandAt a1 s) := by
  unfold demandAt
  repeat' first
    | with_reducible assumption
    | ((try lift_lets); intro x; clear_value (e : x = _); refine Kept.use (s := z) (x := x) (Kept.via e ?_) (fun h => ?_))
    | ((try lift_lets); intro x; clear_value x)
    | with_reducible apply State.setF_kept

theorem State.judgeUsed_kept {z s : State} (h : Kept z s) (a1 : Option Nat) (a2 : Nat → Bool) (a3 : Nat → Bool) (a4 : Nat → Int) : Kept z (State.judgeUsed s a1 a2 a3 a4) := by
  unfold State.judgeUsed
  repeat' first
    | with_reducible assumption
    | with_reducible apply State.judgeSample_kept
    | with_reducible apply Kept.ite
    | split

theorem State.trackMain_kept {z s : State} (h : Kept z s) (a1 : Nat → Bool) (a2 : Nat → Bool) (a3 : Nat → Int) : Kept z (State.trackMain s a1 a2 a3) := by
  unfold State.trackMain
  repeat' first
    | with_reducible assumption
    | with_reducible apply State.track_kept
    | with_reducible apply Kept.ite
    | (with_reducible apply Kept.foldl; intro s x h)
    | split

theorem State.reverseUsed_kept {z s : State} (h : Kept z s) (a1 : Nat → Int) : Kept z (State.reverseUsed s a1) := by
  unfold State.reverseUsed
  repeat' first
    | with_reducible assumption
    | with_reducible apply State.reverseEnd_kept
    | split

theorem State.observe_kept {z s : State} (h : Kept z s) (a1 : List Sample) : Kept z (State.observe s a1) := by
  unfold State.observe
  repeat' first
    | with_reducible assumption
    | ((try lift_lets); intro x; clear_value (e : x = _); refine Kept.use (s := z) (x := x) (Kept.via e ?_) (fun h => ?_))
    | ((try lift_lets); intro x; clear_value x)
    | with_reducible apply State.sampleSource_kept
    | with_reducible apply State.chooseSource_kept
    | with_reducible apply State.judgeUsed_kept
    | with_reducible apply State.trackMain_kept
    | with_reducible apply State.setB_kept
    | with_reducible apply State.reverseUsed_kept
    | (with_reducible apply Kept.forBelow; intro i s h)

theorem execObserverPeriod_kept {z s : State} (h : Kept z s) (a1 : Sample) (a2 : Sample) (a3 : Sample) (a4 : Sample) : KeptOut z (execObserverPeriod a1 a2 a3 a4 s) := by
  unfold execObserverPeriod
  repeat' first
    | with_reducible assumption
    | ((try lift_lets); intro x; clear_value (e : x = _); refine Kept.use (s := z) (x := x) (Kept.via e ?_) (fun h => ?_))
    | ((try lift_lets); intro x; clear_value x)
    | with_reducible apply Kept.next
    | with_reducible apply KeptOut.ite
    | with_reducible apply State.advanceTo_kept
    | with_reducible apply State.absorb_kept
    | with_reducible apply State.marksSince_kept
    | with_reducible apply State.observe_kept
    | with_reducible apply State.tally_kept
    | with_reducible apply overspeedAt_kept
    | with_reducible apply State.setF_kept
    | with_reducible apply vminAt_kept
    | with_reducible apply demandAt_kept
    | with_reducible apply State.noteLead_kept
    | with_reducible apply State.reachSplice_kept
    | with_reducible apply Kept.ite
    | (with_reducible apply Kept.forBelow; intro i s h)
    | (simp only [Kept.mk2_iff])
    | (simp only [Kept.mk_iff])

/-! ### Boundary -/

theorem State.headRunaway_kept {z s : State} (h : Kept z s) (a1 : Nat) (a2 : Nat) : Kept z (State.headRunaway s a1 a2) := by
  unfold State.headRunaway
  repeat' first
    | with_reducible assumption
    | ((try lift_lets); intro x; clear_value (e : x = _); refine Kept.use (s := z) (x := x) (Kept.via e ?_) (fun h => ?_))
    | ((try lift_lets); intro x; clear_value x)
    | with_reducible apply State.setHead_kept
    | with_reducible apply State.raise_kept
    | with_reducible apply Kept.ite
    | split

theorem State.drumRephase_kept {z s : State} (h : Kept z s) (a1 : Nat) : Kept z (State.drumRephase s a1) := by
  unfold State.drumRephase
  repeat' first
    | with_reducible assumption
    | ((try lift_lets); intro x; clear_value (e : x = _); refine Kept.use (s := z) (x := x) (Kept.via e ?_) (fun h => ?_))
    | ((try lift_lets); intro x; clear_value x)
    | with_reducible apply State.setBias_kept
    | with_reducible apply State.setAxis_kept
    | with_reducible apply State.showAbsorb_kept
    | with_reducible apply State.showHold_kept
    | with_reducible apply State.setF_kept
    | with_reducible apply Kept.ite

theorem State.arcFrame_kept {z s : State} (h : Kept z s) (a1 : Nat) (a2 : Frame) : Kept z (State.arcFrame s a1 a2) := by
  unfold State.arcFrame
  repeat' first
    | with_reducible assumption
    | ((try lift_lets); intro x; clear_value (e : x = _); refine Kept.use (s := z) (x := x) (Kept.via e ?_) (fun h => ?_))
    | ((try lift_lets); intro x; clear_value x)
    | with_reducible apply State.mapFrame_kept
    | with_reducible apply State.abandonIn_kept
    | with_reducible apply Kept.ite

theorem State.ovsClear_kept {z s : State} (h : Kept z s) (a1 : Nat) : Kept z (State.ovsClear s a1) := by
  unfold State.ovsClear
  repeat' first
    | with_reducible assumption
    | ((try lift_lets); intro x; clear_value (e : x = _); refine Kept.use (s := z) (x := x) (Kept.via e ?_) (fun h => ?_))
    | ((try lift_lets); intro x; clear_value x)
    | with_reducible apply State.setF_kept
    | with_reducible apply State.setBitF_kept
    | with_reducible apply State.setGear_kept
    | with_reducible apply Kept.ite

theorem State.pruneLines_kept {z s : State} (h : Kept z s) (a1 : Nat) : Kept z (State.pruneLines s a1) := by
  unfold State.pruneLines
  repeat' first
    | with_reducible assumption
    | ((try lift_lets); intro x; clear_value (e : x = _); refine Kept.use (s := z) (x := x) (Kept.via e ?_) (fun h => ?_))
    | ((try lift_lets); intro x; clear_value x)
    | with_reducible apply State.setStation_kept

theorem State.speedFrame_kept {z s : State} (h : Kept z s) (a1 : Nat) (a2 : Nat) : Kept z (State.speedFrame s a1 a2) := by
  unfold State.speedFrame
  repeat' first
    | with_reducible assumption
    | ((try lift_lets); intro x; clear_value (e : x = _); refine Kept.use (s := z) (x := x) (Kept.via e ?_) (fun h => ?_))
    | ((try lift_lets); intro x; clear_value x)
    | with_reducible apply State.setFs_kept
    | with_reducible apply State.setGear_kept
    | with_reducible apply State.showDrop_kept
    | with_reducible apply State.enterSpeed_kept
    | with_reducible apply Kept.ite
    | split

theorem State.frameEnds_kept {z s : State} (h : Kept z s) (a1 : Nat) : Kept z (State.frameEnds s a1) := by
  unfold State.frameEnds
  repeat' first
    | with_reducible assumption
    | ((try lift_lets); intro x; clear_value (e : x = _); refine Kept.use (s := z) (x := x) (Kept.via e ?_) (fun h => ?_))
    | ((try lift_lets); intro x; clear_value x)
    | with_reducible apply State.headRunaway_kept
    | with_reducible apply State.setStation_kept
    | with_reducible apply State.dropHold_kept
    | with_reducible apply State.unlockFrame_kept
    | with_reducible apply State.drumRephase_kept
    | with_reducible apply State.thermBoundary_kept
    | with_reducible apply State.ovsClear_kept
    | with_reducible apply Kept.ite
    | (with_reducible apply Kept.forBelow; intro i s h)
    | split
    | (simp only [Kept.mk2_iff])
    | (simp only [Kept.mk_iff])

theorem State.closeKind_kept {z s : State} (h : Kept z s) (a1 : Nat) : Kept z (State.closeKind s a1) := by
  unfold State.closeKind
  repeat' first
    | with_reducible assumption
    | with_reducible apply State.closeEp_kept
    | with_reducible apply State.closeReported_kept
    | with_reducible apply Kept.ite

theorem execFrameBoundary_kept {z s : State} (h : Kept z s) (a1 : Fin 8) : KeptOut z (execFrameBoundary a1 s) := by
  unfold execFrameBoundary
  repeat' first
    | with_reducible assumption
    | ((try lift_lets); intro x; clear_value (e : x = _); refine Kept.use (s := z) (x := x) (Kept.via e ?_) (fun h => ?_))
    | ((try lift_lets); intro x; clear_value x)
    | with_reducible apply Kept.next
    | with_reducible apply KeptOut.ite
    | with_reducible apply State.reachSplice_kept
    | with_reducible apply State.advanceTo_kept
    | with_reducible apply State.mapFrame_kept
    | with_reducible apply State.enterFrame_kept
    | with_reducible apply State.arcFrame_kept
    | with_reducible apply State.frameEnds_kept
    | with_reducible apply State.setStation_kept
    | with_reducible apply State.closeKind_kept
    | with_reducible apply State.pruneLines_kept
    | with_reducible apply State.speedFrame_kept
    | with_reducible apply State.setFs_kept
    | with_reducible apply State.raise_kept
    | with_reducible apply State.setF_kept
    | with_reducible apply Kept.ite
    | split

end Sys2Proof.Machine
end

