-- ==== Sys2Proof/Laws/KeptHost.lean ====
section
/-!
SUPPORT. Every operation of the keeper, the power tree, the register windows and the mallets keeps the queue, the memories' canonical form and the programmed OTP
bits: one lemma per operation, by its parts.
-/
namespace Sys2Proof.Machine

/-! ### Sign -/



/-! ### Otp -/

theorem State.showOtp_kept {z s : State} (h : Kept z s)  : Kept z (State.showOtp s) := by
  unfold State.showOtp
  repeat' first
    | with_reducible assumption
    | ((try lift_lets); intro x; clear_value (e : x = _); refine Kept.use (s := z) (x := x) (Kept.via e ?_) (fun h => ?_))
    | ((try lift_lets); intro x; clear_value x)
    | with_reducible apply State.setFs_kept
    | (with_reducible apply Kept.foldl; intro s x h)

theorem State.dropKey_kept {z s : State} (h : Kept z s)  : Kept z (State.dropKey s) := by
  unfold State.dropKey
  repeat' first
    | with_reducible assumption
    | ((try lift_lets); intro x; clear_value (e : x = _); refine Kept.use (s := z) (x := x) (Kept.via e ?_) (fun h => ?_))
    | ((try lift_lets); intro x; clear_value x)
    | (simp only [Kept.mk2_iff])
    | (simp only [Kept.mk_iff])

theorem execOtpKeyWrite_kept {z s : State} (h : Kept z s) (a1 : BitVec 32) : KeptOut z (execOtpKeyWrite a1 s) := by
  unfold execOtpKeyWrite
  repeat' first
    | with_reducible assumption
    | ((try lift_lets); intro x; clear_value (e : x = _); refine Kept.use (s := z) (x := x) (Kept.via e ?_) (fun h => ?_))
    | ((try lift_lets); intro x; clear_value x)
    | with_reducible apply Kept.next
    | (simp only [Kept.mk2_iff])
    | (simp only [Kept.mk_iff])

theorem State.otpMark_kept {z s : State} (h : Kept z s) (a1 : OtpRead) : Kept z (State.otpMark s a1) := by
  unfold State.otpMark
  repeat' first
    | with_reducible assumption
    | with_reducible apply State.raiseX_kept
    | with_reducible apply State.logRetry_kept
    | with_reducible apply State.tally_kept
    | with_reducible apply State.setF_kept
    | split

theorem State.otpCmd_kept {z s : State} (h : Kept z s) (a1 : Nat) (a2 : Nat) (a3 : Nat) (a4 : Bool) : Kept z (State.otpCmd s a1 a2 a3 a4) := by
  unfold State.otpCmd
  repeat' first
    | with_reducible assumption
    | with_reducible apply State.setB_kept
    | with_reducible apply State.setFs_kept

theorem execOtpRead_kept {z s : State} (h : Kept z s) (a1 : BitVec 4) (a2 : BitVec 5) (a3 : Bool) (a4 : OtpRead) : KeptOut z (execOtpRead a1 a2 a3 a4 s) := by
  unfold execOtpRead
  repeat' first
    | with_reducible assumption
    | ((try lift_lets); intro x; clear_value (e : x = _); refine Kept.use (s := z) (x := x) (Kept.via e ?_) (fun h => ?_))
    | ((try lift_lets); intro x; clear_value x)
    | with_reducible apply Kept.next
    | with_reducible apply KeptOut.ite
    | with_reducible apply State.dropKey_kept
    | with_reducible apply State.flam_kept
    | with_reducible apply State.tally_kept
    | with_reducible apply State.otpCmd_kept
    | with_reducible apply State.setFs_kept
    | with_reducible apply State.otpMark_kept
    | with_reducible apply Kept.ite

theorem execOtpProg_kept {z s : State} (h : Kept z s) (a1 : BitVec 4) (a2 : BitVec 5) (a3 : Bool) : KeptOut z (execOtpProg a1 a2 a3 s) := by
  unfold execOtpProg
  repeat' first
    | with_reducible assumption
    | ((try lift_lets); intro x; clear_value (e : x = _); refine Kept.use (s := z) (x := x) (Kept.via e ?_) (fun h => ?_))
    | ((try lift_lets); intro x; clear_value x)
    | with_reducible apply Kept.next
    | with_reducible apply KeptOut.ite
    | with_reducible apply State.dropKey_kept
    | with_reducible apply State.flam_kept
    | with_reducible apply State.otpCmd_kept
    | with_reducible apply State.setFs_kept
    | with_reducible apply Kept.ite
    | (simp only [Kept.mk2_iff])
    | (simp only [Kept.mk_iff])

theorem State.progOver_kept {z s : State} (h : Kept z s) (a1 : Nat) : Kept z (State.progOver s a1) := by
  unfold State.progOver
  repeat' first
    | with_reducible assumption
    | ((try lift_lets); intro x; clear_value (e : x = _); refine Kept.use (s := z) (x := x) (Kept.via e ?_) (fun h => ?_))
    | ((try lift_lets); intro x; clear_value x)
    | with_reducible apply State.showOtp_kept
    | with_reducible apply State.setFs_kept
    | (simp only [Kept.mk2_iff])
    | (simp only [Kept.mk_iff])

theorem execOtpProgDone_kept {z s : State} (h : Kept z s) (a1 : BitVec 32) : KeptOut z (execOtpProgDone a1 s) := by
  unfold execOtpProgDone
  split
  · rename_i i target _
    have hb : ∀ v, Kept z { s with otp := tput 0 s.otp i (tget 0 s.otp i ||| v) } := fun v =>
      Kept.otpWord h fun k => by
        by_cases e : i = k
        · subst e
          rw [tget_tput_same]
          exact Nat.eq_of_testBit_eq fun j => by simp only [Nat.testBit_and, Nat.testBit_or]; cases (tget 0 s.otp i).testBit j <;> rfl
        · rw [tget_tput_ne _ _ _ _ e, Nat.and_self]
    have hs := State.setF_kept (hb (a1.toNat &&& target)) F.OTP_STATUS_ATTEMPTS (s.f F.OTP_STATUS_ATTEMPTS + 1)
    refine KeptOut.ite (Kept.next (State.note_kept (State.progOver_kept hs _) _)) (KeptOut.ite (Kept.next ?_) (Kept.next hs))
    exact State.raiseX_kept (State.note_kept (State.setF_kept (State.progOver_kept hs _) _ _) _) _
  · exact Kept.next h

theorem State.checkGroup_kept {z s : State} (h : Kept z s) (a1 : Nat) : Kept z (State.checkGroup a1 s) := by
  unfold State.checkGroup
  repeat' first
    | with_reducible assumption
    | ((try lift_lets); intro x; clear_value (e : x = _); refine Kept.use (s := z) (x := x) (Kept.via e ?_) (fun h => ?_))
    | ((try lift_lets); intro x; clear_value x)
    | with_reducible apply State.raise_kept
    | with_reducible apply State.note_kept
    | with_reducible apply State.setF_kept
    | with_reducible apply Kept.ite

/-! ### Keeper -/

theorem State.mapKeeper_kept {z s : State} (h : Kept z s) (a1 : Keeper → Keeper) : Kept z (State.mapKeeper s a1) := by
  unfold State.mapKeeper
  repeat' first
    | with_reducible assumption
    | (simp only [Kept.mk2_iff])
    | (simp only [Kept.mk_iff])

theorem State.putRsp_kept {z s : State} (h : Kept z s) (a1 : List Nat) : Kept z (State.putRsp s a1) := by
  unfold State.putRsp
  repeat' first
    | with_reducible assumption
    | with_reducible apply State.setF_kept
    | (with_reducible apply Kept.forBelow; intro i s h)

theorem State.mailbox_kept {z s : State} (h : Kept z s) (a1 : Nat) (a2 : MbxRun) (hg2 : ∀ s, Kept z s → KeptP z (a2 s)) : Kept z (State.mailbox s a1 a2) := by
  unfold State.mailbox
  repeat' first
    | with_reducible assumption
    | ((try lift_lets); intro x; clear_value (e : x = _); refine Kept.use (s := z) (x := x) (Kept.via e ?_) (fun h => ?_))
    | ((try lift_lets); intro x; clear_value x)
    | with_reducible apply State.setF_kept
    | with_reducible apply State.tally_kept
    | with_reducible apply State.setFs_kept
    | with_reducible apply State.putRsp_kept
    | with_reducible apply hg2
    | with_reducible apply Kept.ite
    | with_reducible apply KeptP.ite
    | (split <;> (rename_i heq; refine Kept.use (s := z) (KeptP.at heq ?_) (fun h => ?_)))
    | split
    | with_reducible apply KeptP.pair
    | with_reducible apply KeptP.fst

theorem State.carillonMbx_kept {z s : State} (h : Kept z s) (a1 : Nat) (a2 : (Nat → Nat) → MbxRun) (hg2 : ∀ i0 s, Kept z s → KeptP z (a2 i0 s)) : Kept z (State.carillonMbx s a1 a2) := by
  unfold State.carillonMbx
  repeat' first
    | with_reducible assumption
    | ((try lift_lets); intro x; clear_value (e : x = _); refine Kept.use (s := z) (x := x) (Kept.via e ?_) (fun h => ?_))
    | ((try lift_lets); intro x; clear_value x)
    | with_reducible apply State.tally_kept
    | with_reducible apply State.keeperReply_kept
    | with_reducible apply hg2
    | with_reducible apply Kept.ite
    | with_reducible apply KeptP.ite
    | (split <;> (rename_i heq; refine Kept.use (s := z) (KeptP.at heq ?_) (fun h => ?_)))
    | split
    | (simp only [Kept.mk2_iff])
    | (simp only [Kept.mk_iff])
    | with_reducible apply KeptP.pair
    | with_reducible apply KeptP.fst

theorem State.eitherMbx_kept {z s : State} (h : Kept z s) (a1 : Nat) (a2 : Bool) (a3 : (Nat → Nat) → MbxRun) (hg3 : ∀ i0 s, Kept z s → KeptP z (a3 i0 s)) : Kept z (State.eitherMbx s a1 a2 a3) := by
  unfold State.eitherMbx
  repeat' first
    | with_reducible assumption
    | with_reducible refine State.carillonMbx_kept ?_ _ _ (fun i s h => ?_)
    | with_reducible refine State.mailbox_kept ?_ _ _ (fun s h => ?_)
    | with_reducible apply hg3
    | with_reducible apply Kept.ite
    | with_reducible apply KeptP.ite
    | (split <;> (rename_i heq; refine Kept.use (s := z) (KeptP.at heq ?_) (fun h => ?_)))
    | with_reducible apply KeptP.pair
    | with_reducible apply KeptP.fst

theorem State.keeperTouch_kept {z s : State} (h : Kept z s) (a1 : Nat) (a2 : Nat) (a3 : Ecc) : Kept z (State.keeperTouch s a1 a2 a3) := by
  unfold State.keeperTouch
  repeat' first
    | with_reducible assumption
    | with_reducible apply State.ecc_kept
    | with_reducible apply Kept.ite

theorem State.keeperWrite_kept {z s : State} (h : Kept z s) (a1 : Nat) (a2 : List Byte) : Kept z (State.keeperWrite s a1 a2) := by
  unfold State.keeperWrite
  repeat' first
    | with_reducible assumption
    | with_reducible apply State.dmaWrite_kept
    | with_reducible apply Kept.ite
    | (simp only [Kept.mk2_iff])
    | (simp only [Kept.mk_iff])

theorem State.getInfo_kept {z s : State} (h : Kept z s) (a1 : Nat → Nat) : KeptP z (State.getInfo s a1) := by
  unfold State.getInfo
  repeat' first
    | with_reducible assumption
    | (split <;> (rename_i heq; refine Kept.use (s := z) (KeptP.at heq ?_) (fun h => ?_)))
    | with_reducible apply KeptP.pair
    | with_reducible apply KeptP.fst

theorem execGetInfo_kept {z s : State} (h : Kept z s) (a1 : Bool) : KeptOut z (execGetInfo a1 s) := by
  unfold execGetInfo
  repeat' first
    | with_reducible assumption
    | with_reducible apply Kept.next
    | with_reducible refine State.eitherMbx_kept ?_ _ _ _ (fun i s h => ?_)
    | with_reducible apply State.getInfo_kept
    | (split <;> (rename_i heq; refine Kept.use (s := z) (KeptP.at heq ?_) (fun h => ?_)))
    | with_reducible apply KeptP.pair
    | with_reducible apply KeptP.fst
    | (dsimp (zetaDelta := true) only)
    | (simp (zetaDelta := true) only [Kept.mk2_iff, Kept.mk_iff])

theorem State.mbxReset_kept {z s : State} (h : Kept z s)  : KeptP z (State.mbxReset s) := by
  unfold State.mbxReset
  repeat' first
    | with_reducible assumption
    | with_reducible apply State.mapKeeper_kept
    | with_reducible apply Kept.ite
    | with_reducible apply KeptP.ite
    | (split <;> (rename_i heq; refine Kept.use (s := z) (KeptP.at heq ?_) (fun h => ?_)))
    | with_reducible apply KeptP.pair
    | with_reducible apply KeptP.fst

theorem execReset_kept {z s : State} (h : Kept z s)  : KeptOut z (execReset s) := by
  unfold execReset
  repeat' first
    | with_reducible assumption
    | with_reducible apply Kept.next
    | with_reducible refine State.mailbox_kept ?_ _ _ (fun s h => ?_)
    | with_reducible apply State.mbxReset_kept
    | (split <;> (rename_i heq; refine Kept.use (s := z) (KeptP.at heq ?_) (fun h => ?_)))
    | with_reducible apply KeptP.pair
    | with_reducible apply KeptP.fst

theorem State.closeConfig_kept {z s : State} (h : Kept z s)  : KeptP z (State.closeConfig s) := by
  unfold State.closeConfig
  repeat' first
    | with_reducible assumption
    | with_reducible apply State.setFs_kept
    | (split <;> (rename_i heq; refine Kept.use (s := z) (KeptP.at heq ?_) (fun h => ?_)))
    | with_reducible apply KeptP.pair
    | with_reducible apply KeptP.fst

theorem execCloseConfig_kept {z s : State} (h : Kept z s)  : KeptOut z (execCloseConfig s) := by
  unfold execCloseConfig
  repeat' first
    | with_reducible assumption
    | with_reducible apply Kept.next
    | with_reducible refine State.mailbox_kept ?_ _ _ (fun s h => ?_)
    | with_reducible apply State.closeConfig_kept
    | (split <;> (rename_i heq; refine Kept.use (s := z) (KeptP.at heq ?_) (fun h => ?_)))
    | with_reducible apply KeptP.pair
    | with_reducible apply KeptP.fst

theorem State.applyTcomp_kept {z s : State} (h : Kept z s) (a1 : Bool) (a2 : List Nat) : Kept z (State.applyTcomp s a1 a2) := by
  unfold State.applyTcomp
  repeat' first
    | with_reducible assumption
    | with_reducible apply State.setF_kept
    | with_reducible apply Kept.ite
    | (with_reducible apply Kept.forBelow; intro i s h)

theorem State.setTcomp_kept {z s : State} (h : Kept z s)  : KeptP z (State.setTcomp s) := by
  unfold State.setTcomp
  repeat' first
    | with_reducible assumption
    | ((try lift_lets); intro x; clear_value (e : x = _); refine Kept.use (s := z) (x := x) (Kept.via e ?_) (fun h => ?_))
    | ((try lift_lets); intro x; clear_value x)
    | with_reducible apply State.applyTcomp_kept
    | with_reducible apply State.mapKeeper_kept
    | (split <;> (rename_i heq; refine Kept.use (s := z) (KeptP.at heq ?_) (fun h => ?_)))
    | split
    | with_reducible apply KeptP.pair
    | with_reducible apply KeptP.fst

theorem execSetTcomp_kept {z s : State} (h : Kept z s)  : KeptOut z (execSetTcomp s) := by
  unfold execSetTcomp
  repeat' first
    | with_reducible assumption
    | with_reducible apply Kept.next
    | with_reducible refine State.mailbox_kept ?_ _ _ (fun s h => ?_)
    | with_reducible apply State.setTcomp_kept
    | (split <;> (rename_i heq; refine Kept.use (s := z) (KeptP.at heq ?_) (fun h => ?_)))
    | with_reducible apply KeptP.pair
    | with_reducible apply KeptP.fst

theorem State.calSet_kept {z s : State} (h : Kept z s) (a1 : Nat → Nat) : KeptP z (State.calSet s a1) := by
  unfold State.calSet
  repeat' first
    | with_reducible assumption
    | ((try lift_lets); intro x; clear_value (e : x = _); refine Kept.use (s := z) (x := x) (Kept.via e ?_) (fun h => ?_))
    | ((try lift_lets); intro x; clear_value x)
    | with_reducible apply State.setF_kept
    | with_reducible apply State.mapKeeper_kept
    | with_reducible apply State.note_kept
    | with_reducible apply Kept.ite
    | with_reducible apply KeptP.ite
    | (split <;> (rename_i heq; refine Kept.use (s := z) (KeptP.at heq ?_) (fun h => ?_)))
    | (simp only [Kept.mk2_iff])
    | (simp only [Kept.mk_iff])
    | with_reducible apply KeptP.pair
    | with_reducible apply KeptP.fst

theorem execCalSet_kept {z s : State} (h : Kept z s) (a1 : Bool) : KeptOut z (execCalSet a1 s) := by
  unfold execCalSet
  repeat' first
    | with_reducible assumption
    | with_reducible apply Kept.next
    | with_reducible refine State.eitherMbx_kept ?_ _ _ _ (fun i s h => ?_)
    | with_reducible apply State.calSet_kept
    | (split <;> (rename_i heq; refine Kept.use (s := z) (KeptP.at heq ?_) (fun h => ?_)))
    | with_reducible apply KeptP.pair
    | with_reducible apply KeptP.fst
    | (dsimp (zetaDelta := true) only)
    | (simp (zetaDelta := true) only [Kept.mk2_iff, Kept.mk_iff])

theorem State.imgReject_kept {z s : State} (h : Kept z s) (a1 : Nat) (a2 : Nat) (a3 : Nat) : KeptP z (State.imgReject s a1 a2 a3) := by
  unfold State.imgReject
  repeat' first
    | with_reducible assumption
    | with_reducible apply State.raise_kept
    | (split <;> (rename_i heq; refine Kept.use (s := z) (KeptP.at heq ?_) (fun h => ?_)))
    | with_reducible apply KeptP.pair
    | with_reducible apply KeptP.fst

theorem State.withBytes_kept {z s : State} (h : Kept z s) (a1 : Nat) (a2 : Nat) (a3 : Bool) (a4 : List Byte) (a5 : List Byte → Nat → State → State × Nat × List Nat) (hg5 : ∀ i0 i1 s, Kept z s → KeptP z (a5 i0 i1 s)) : KeptP z (State.withBytes s a1 a2 a3 a4 a5) := by
  unfold State.withBytes
  repeat' first
    | with_reducible assumption
    | ((try lift_lets); intro x; clear_value (e : x = _); refine Kept.use (s := z) (x := x) (Kept.via e ?_) (fun h => ?_))
    | ((try lift_lets); intro x; clear_value x)
    | with_reducible apply State.imgReject_kept
    | with_reducible apply hg5
    | with_reducible apply Kept.ite
    | with_reducible apply KeptP.ite
    | (split <;> (rename_i heq; refine Kept.use (s := z) (KeptP.at heq ?_) (fun h => ?_)))
    | split
    | with_reducible apply KeptP.pair
    | with_reducible apply KeptP.fst

theorem State.withImage_kept {z s : State} (h : Kept z s) (a1 : Nat) (a2 : Bool) (a3 : List Byte) (a4 : Ecc) (a5 : List Byte → Nat → State → State × Nat × List Nat) (hg5 : ∀ i0 i1 s, Kept z s → KeptP z (a5 i0 i1 s)) : KeptP z (State.withImage s a1 a2 a3 a4 a5) := by
  unfold State.withImage
  repeat' first
    | with_reducible assumption
    | ((try lift_lets); intro x; clear_value (e : x = _); refine Kept.use (s := z) (x := x) (Kept.via e ?_) (fun h => ?_))
    | ((try lift_lets); intro x; clear_value x)
    | with_reducible apply State.imgReject_kept
    | with_reducible apply State.keeperTouch_kept
    | with_reducible refine State.withBytes_kept ?_ _ _ _ _ _ (fun i j s h => ?_)
    | with_reducible apply hg5
    | with_reducible apply Kept.ite
    | with_reducible apply KeptP.ite
    | (split <;> (rename_i heq; refine Kept.use (s := z) (KeptP.at heq ?_) (fun h => ?_)))
    | split
    | with_reducible apply KeptP.pair
    | with_reducible apply KeptP.fst

theorem State.imgLoad_kept {z s : State} (h : Kept z s) (a1 : List Byte) (a2 : Ecc) : KeptP z (State.imgLoad s a1 a2) := by
  unfold State.imgLoad
  repeat' first
    | with_reducible assumption
    | ((try lift_lets); intro x; clear_value (e : x = _); refine Kept.use (s := z) (x := x) (Kept.via e ?_) (fun h => ?_))
    | ((try lift_lets); intro x; clear_value x)
    | with_reducible refine State.withImage_kept ?_ _ _ _ _ _ (fun i j s h => ?_)
    | with_reducible apply State.loadImage_kept
    | with_reducible apply State.assign_kept
    | with_reducible apply State.installImage_kept
    | with_reducible apply State.release_kept
    | with_reducible apply State.startMallet_kept
    | (split <;> (rename_i heq; refine Kept.use (s := z) (KeptP.at heq ?_) (fun h => ?_)))
    | with_reducible apply KeptP.pair
    | with_reducible apply KeptP.fst

theorem execImgLoad_kept {z s : State} (h : Kept z s) (a1 : List (BitVec 8)) (a2 : Ecc) : KeptOut z (execImgLoad a1 a2 s) := by
  unfold execImgLoad
  repeat' first
    | with_reducible assumption
    | with_reducible apply Kept.next
    | with_reducible refine State.mailbox_kept ?_ _ _ (fun s h => ?_)
    | with_reducible apply State.imgLoad_kept
    | (split <;> (rename_i heq; refine Kept.use (s := z) (KeptP.at heq ?_) (fun h => ?_)))
    | with_reducible apply KeptP.pair
    | with_reducible apply KeptP.fst

theorem State.imgStage_kept {z s : State} (h : Kept z s) (a1 : List Byte) (a2 : Ecc) : KeptP z (State.imgStage s a1 a2) := by
  unfold State.imgStage
  repeat' first
    | with_reducible assumption
    | ((try lift_lets); intro x; clear_value (e : x = _); refine Kept.use (s := z) (x := x) (Kept.via e ?_) (fun h => ?_))
    | ((try lift_lets); intro x; clear_value x)
    | with_reducible refine State.withImage_kept ?_ _ _ _ _ _ (fun i j s h => ?_)
    | with_reducible apply State.setRole_kept
    | with_reducible apply State.loadImage_kept
    | (split <;> (rename_i heq; refine Kept.use (s := z) (KeptP.at heq ?_) (fun h => ?_)))
    | with_reducible apply KeptP.pair
    | with_reducible apply KeptP.fst

theorem execImgStage_kept {z s : State} (h : Kept z s) (a1 : List (BitVec 8)) (a2 : Ecc) : KeptOut z (execImgStage a1 a2 s) := by
  unfold execImgStage
  repeat' first
    | with_reducible assumption
    | with_reducible apply Kept.next
    | with_reducible refine State.mailbox_kept ?_ _ _ (fun s h => ?_)
    | with_reducible apply State.imgStage_kept
    | (split <;> (rename_i heq; refine Kept.use (s := z) (KeptP.at heq ?_) (fun h => ?_)))
    | with_reducible apply KeptP.pair
    | with_reducible apply KeptP.fst

theorem State.imgRemove_kept {z s : State} (h : Kept z s)  : KeptP z (State.imgRemove s) := by
  unfold State.imgRemove
  repeat' first
    | with_reducible assumption
    | ((try lift_lets); intro x; clear_value (e : x = _); refine Kept.use (s := z) (x := x) (Kept.via e ?_) (fun h => ?_))
    | ((try lift_lets); intro x; clear_value x)
    | with_reducible apply State.release_kept
    | with_reducible apply State.setRole_kept
    | with_reducible apply Kept.ite
    | with_reducible apply KeptP.ite
    | (split <;> (rename_i heq; refine Kept.use (s := z) (KeptP.at heq ?_) (fun h => ?_)))
    | with_reducible apply KeptP.pair
    | with_reducible apply KeptP.fst

theorem execImgRemove_kept {z s : State} (h : Kept z s)  : KeptOut z (execImgRemove s) := by
  unfold execImgRemove
  repeat' first
    | with_reducible assumption
    | with_reducible apply Kept.next
    | with_reducible refine State.mailbox_kept ?_ _ _ (fun s h => ?_)
    | with_reducible apply State.imgRemove_kept
    | (split <;> (rename_i heq; refine Kept.use (s := z) (KeptP.at heq ?_) (fun h => ?_)))
    | with_reducible apply KeptP.pair
    | with_reducible apply KeptP.fst

theorem State.pkgScr_kept {z s : State} (h : Kept z s) (a1 : Nat) (a2 : List Byte) : Kept z (State.pkgScr s a1 a2) := by
  unfold State.pkgScr
  repeat' first
    | with_reducible assumption
    | with_reducible apply State.finishTable_kept
    | with_reducible apply State.memOf_kept
    | with_reducible apply State.tableErr_kept
    | with_reducible apply Kept.ite

theorem State.pkgInk_kept {z s : State} (h : Kept z s) (a1 : Nat) (a2 : List Byte) : Kept z (State.pkgInk s a1 a2) := by
  unfold State.pkgInk
  repeat' first
    | with_reducible assumption
    | with_reducible apply State.finishWave_kept
    | with_reducible apply State.memOf_kept
    | with_reducible apply State.waveErr_kept
    | with_reducible apply Kept.ite

theorem State.pkgAxs_kept {z s : State} (h : Kept z s) (a1 : Nat) (a2 : List Byte) : Kept z (State.pkgAxs s a1 a2) := by
  unfold State.pkgAxs
  repeat' first
    | with_reducible assumption
    | with_reducible apply State.axTableErr_kept
    | with_reducible apply State.finishAx_kept
    | with_reducible apply State.memOf_kept
    | with_reducible apply Kept.ite

theorem State.pkgTake_kept {z s : State} (h : Kept z s) (a1 : Nat) (a2 : Nat) (a3 : List Byte) : KeptP z (State.pkgTake s a1 a2 a3) := by
  unfold State.pkgTake
  repeat' first
    | with_reducible assumption
    | with_reducible apply State.pkgScr_kept
    | with_reducible apply State.pkgInk_kept
    | with_reducible apply State.pkgAxs_kept
    | with_reducible apply Kept.ite
    | with_reducible apply KeptP.ite
    | (split <;> (rename_i heq; refine Kept.use (s := z) (KeptP.at heq ?_) (fun h => ?_)))
    | with_reducible apply KeptP.pair
    | with_reducible apply KeptP.fst

theorem State.pkgBytes_kept {z s : State} (h : Kept z s) (a1 : Nat) (a2 : Nat) (a3 : Nat) (a4 : List Byte) : KeptP z (State.pkgBytes s a1 a2 a3 a4) := by
  unfold State.pkgBytes
  repeat' first
    | with_reducible assumption
    | with_reducible apply State.pkgTake_kept
    | with_reducible apply Kept.ite
    | with_reducible apply KeptP.ite
    | (split <;> (rename_i heq; refine Kept.use (s := z) (KeptP.at heq ?_) (fun h => ?_)))
    | with_reducible apply KeptP.pair
    | with_reducible apply KeptP.fst

theorem State.pkgLoad_kept {z s : State} (h : Kept z s) (a1 : List Byte) (a2 : Ecc) : KeptP z (State.pkgLoad s a1 a2) := by
  unfold State.pkgLoad
  repeat' first
    | with_reducible assumption
    | ((try lift_lets); intro x; clear_value (e : x = _); refine Kept.use (s := z) (x := x) (Kept.via e ?_) (fun h => ?_))
    | ((try lift_lets); intro x; clear_value x)
    | with_reducible apply State.keeperTouch_kept
    | with_reducible apply State.pkgBytes_kept
    | with_reducible apply Kept.ite
    | with_reducible apply KeptP.ite
    | (split <;> (rename_i heq; refine Kept.use (s := z) (KeptP.at heq ?_) (fun h => ?_)))
    | split
    | with_reducible apply KeptP.pair
    | with_reducible apply KeptP.fst

theorem execPkgLoad_kept {z s : State} (h : Kept z s) (a1 : List (BitVec 8)) (a2 : Ecc) : KeptOut z (execPkgLoad a1 a2 s) := by
  unfold execPkgLoad
  repeat' first
    | with_reducible assumption
    | with_reducible apply Kept.next
    | with_reducible refine State.mailbox_kept ?_ _ _ (fun s h => ?_)
    | with_reducible apply State.pkgLoad_kept
    | (split <;> (rename_i heq; refine Kept.use (s := z) (KeptP.at heq ?_) (fun h => ?_)))
    | with_reducible apply KeptP.pair
    | with_reducible apply KeptP.fst

theorem State.fwUpdate_kept {z s : State} (h : Kept z s) (a1 : Fw) (a2 : Bool) : KeptP z (State.fwUpdate s a1 a2) := by
  unfold State.fwUpdate
  repeat' first
    | with_reducible assumption
    | ((try lift_lets); intro x; clear_value (e : x = _); refine Kept.use (s := z) (x := x) (Kept.via e ?_) (fun h => ?_))
    | ((try lift_lets); intro x; clear_value x)
    | with_reducible apply State.mapKeeper_kept
    | with_reducible apply Kept.ite
    | with_reducible apply KeptP.ite
    | (split <;> (rename_i heq; refine Kept.use (s := z) (KeptP.at heq ?_) (fun h => ?_)))
    | with_reducible apply KeptP.pair
    | with_reducible apply KeptP.fst

theorem execFwUpdate_kept {z s : State} (h : Kept z s) (a1 : Fw) (a2 : Bool) : KeptOut z (execFwUpdate a1 a2 s) := by
  unfold execFwUpdate
  repeat' first
    | with_reducible assumption
    | with_reducible apply Kept.next
    | with_reducible refine State.mailbox_kept ?_ _ _ (fun s h => ?_)
    | with_reducible apply State.fwUpdate_kept
    | (split <;> (rename_i heq; refine Kept.use (s := z) (KeptP.at heq ?_) (fun h => ?_)))
    | with_reducible apply KeptP.pair
    | with_reducible apply KeptP.fst

theorem State.startSlot_kept {z s : State} (h : Kept z s) (a1 : Bool) : Kept z (State.startSlot s a1) := by
  unfold State.startSlot
  repeat' first
    | with_reducible assumption
    | ((try lift_lets); intro x; clear_value (e : x = _); refine Kept.use (s := z) (x := x) (Kept.via e ?_) (fun h => ?_))
    | ((try lift_lets); intro x; clear_value x)
    | with_reducible apply State.note_kept
    | with_reducible apply State.mapKeeper_kept
    | with_reducible apply State.setFs_kept
    | with_reducible apply Kept.ite
    | (simp only [Kept.mk2_iff])
    | (simp only [Kept.mk_iff])

theorem State.fwSwitch_kept {z s : State} (h : Kept z s)  : KeptP z (State.fwSwitch s) := by
  unfold State.fwSwitch
  repeat' first
    | with_reducible assumption
    | with_reducible apply State.startSlot_kept
    | (split <;> (rename_i heq; refine Kept.use (s := z) (KeptP.at heq ?_) (fun h => ?_)))
    | with_reducible apply KeptP.pair
    | with_reducible apply KeptP.fst

theorem execFwSwitch_kept {z s : State} (h : Kept z s)  : KeptOut z (execFwSwitch s) := by
  unfold execFwSwitch
  repeat' first
    | with_reducible assumption
    | with_reducible apply Kept.next
    | with_reducible refine State.mailbox_kept ?_ _ _ (fun s h => ?_)
    | with_reducible apply State.fwSwitch_kept
    | (split <;> (rename_i heq; refine Kept.use (s := z) (KeptP.at heq ?_) (fun h => ?_)))
    | with_reducible apply KeptP.pair
    | with_reducible apply KeptP.fst

theorem State.fwRevert_kept {z s : State} (h : Kept z s)  : Kept z (State.fwRevert s) := by
  unfold State.fwRevert
  repeat' first
    | with_reducible assumption
    | with_reducible apply State.raiseX_kept
    | with_reducible apply State.startSlot_kept
    | with_reducible apply Kept.ite

theorem execFwSwitchTimeout_kept {z s : State} (h : Kept z s)  : KeptOut z (execFwSwitchTimeout s) := by
  unfold execFwSwitchTimeout
  repeat' first
    | with_reducible assumption
    | with_reducible apply Kept.next
    | with_reducible apply KeptOut.ite
    | with_reducible apply State.fwRevert_kept
    | with_reducible apply Kept.ite

theorem State.fwConfirm_kept {z s : State} (h : Kept z s)  : KeptP z (State.fwConfirm s) := by
  unfold State.fwConfirm
  repeat' first
    | with_reducible assumption
    | with_reducible apply State.note_kept
    | with_reducible apply State.setF_kept
    | with_reducible apply State.mapKeeper_kept
    | (split <;> (rename_i heq; refine Kept.use (s := z) (KeptP.at heq ?_) (fun h => ?_)))
    | with_reducible apply KeptP.pair
    | with_reducible apply KeptP.fst

theorem execFwConfirm_kept {z s : State} (h : Kept z s)  : KeptOut z (execFwConfirm s) := by
  unfold execFwConfirm
  repeat' first
    | with_reducible assumption
    | with_reducible apply Kept.next
    | with_reducible refine State.mailbox_kept ?_ _ _ (fun s h => ?_)
    | with_reducible apply State.fwConfirm_kept
    | (split <;> (rename_i heq; refine Kept.use (s := z) (KeptP.at heq ?_) (fun h => ?_)))
    | with_reducible apply KeptP.pair
    | with_reducible apply KeptP.fst

theorem execKeeperWdog_kept {z s : State} (h : Kept z s)  : KeptOut z (execKeeperWdog s) := by
  unfold execKeeperWdog
  repeat' first
    | with_reducible assumption
    | ((try lift_lets); intro x; clear_value (e : x = _); refine Kept.use (s := z) (x := x) (Kept.via e ?_) (fun h => ?_))
    | ((try lift_lets); intro x; clear_value x)
    | with_reducible apply Kept.next
    | with_reducible apply KeptOut.ite
    | with_reducible apply State.mapKeeper_kept
    | with_reducible apply State.fwRevert_kept
    | with_reducible apply Kept.ite
    | split

theorem State.logRead_kept {z s : State} (h : Kept z s) (a1 : List (BitVec 32 × List (BitVec 8))) : KeptP z (State.logRead s a1) := by
  unfold State.logRead
  repeat' first
    | with_reducible assumption
    | ((try lift_lets); intro x; clear_value (e : x = _); refine Kept.use (s := z) (x := x) (Kept.via e ?_) (fun h => ?_))
    | ((try lift_lets); intro x; clear_value x)
    | with_reducible apply State.keeperWrite_kept
    | with_reducible apply Kept.ite
    | with_reducible apply KeptP.ite
    | (split <;> (rename_i heq; refine Kept.use (s := z) (KeptP.at heq ?_) (fun h => ?_)))
    | split
    | with_reducible apply KeptP.pair
    | with_reducible apply KeptP.fst

theorem execLogRead_kept {z s : State} (h : Kept z s) (a1 : List (BitVec 32 × List (BitVec 8))) : KeptOut z (execLogRead a1 s) := by
  unfold execLogRead
  repeat' first
    | with_reducible assumption
    | with_reducible apply Kept.next
    | with_reducible refine State.mailbox_kept ?_ _ _ (fun s h => ?_)
    | with_reducible apply State.logRead_kept
    | (split <;> (rename_i heq; refine Kept.use (s := z) (KeptP.at heq ?_) (fun h => ?_)))
    | with_reducible apply KeptP.pair
    | with_reducible apply KeptP.fst

theorem State.lifeCopies_kept {z s : State} (h : Kept z s) (a1 : Copies) : Kept z (State.lifeCopies s a1) := by
  unfold State.lifeCopies
  repeat' first
    | with_reducible assumption
    | with_reducible apply State.raiseX_kept
    | with_reducible apply State.logRetry_kept
    | with_reducible apply State.tally_kept
    | with_reducible apply State.raise_kept
    | split

theorem State.lifeRead_kept {z s : State} (h : Kept z s) (a1 : List Byte) (a2 : Copies) : KeptP z (State.lifeRead s a1 a2) := by
  unfold State.lifeRead
  repeat' first
    | with_reducible assumption
    | ((try lift_lets); intro x; clear_value (e : x = _); refine Kept.use (s := z) (x := x) (Kept.via e ?_) (fun h => ?_))
    | ((try lift_lets); intro x; clear_value x)
    | with_reducible apply State.lifeCopies_kept
    | with_reducible apply State.keeperWrite_kept
    | with_reducible apply Kept.ite
    | with_reducible apply KeptP.ite
    | (split <;> (rename_i heq; refine Kept.use (s := z) (KeptP.at heq ?_) (fun h => ?_)))
    | with_reducible apply KeptP.pair
    | with_reducible apply KeptP.fst

theorem execLifeRead_kept {z s : State} (h : Kept z s) (a1 : List (BitVec 8)) (a2 : Copies) : KeptOut z (execLifeRead a1 a2 s) := by
  unfold execLifeRead
  repeat' first
    | with_reducible assumption
    | with_reducible apply Kept.next
    | with_reducible refine State.mailbox_kept ?_ _ _ (fun s h => ?_)
    | with_reducible apply State.lifeRead_kept
    | (split <;> (rename_i heq; refine Kept.use (s := z) (KeptP.at heq ?_) (fun h => ?_)))
    | with_reducible apply KeptP.pair
    | with_reducible apply KeptP.fst

theorem execLifeCountWrite_kept {z s : State} (h : Kept z s)  : KeptOut z (execLifeCountWrite s) := by
  unfold execLifeCountWrite
  repeat' first
    | with_reducible assumption
    | with_reducible apply Kept.next
    | (simp only [Kept.mk2_iff])
    | (simp only [Kept.mk_iff])

theorem State.storeKey_kept {z s : State} (h : Kept z s) (a1 : Nat) (a2 : List Byte) : Kept z (State.storeKey s a1 a2) := by
  unfold State.storeKey
  repeat' first
    | with_reducible assumption
    | with_reducible apply State.mapKeeper_kept

theorem State.keySet_kept {z s : State} (h : Kept z s) (a1 : List Byte) (a2 : Ecc) : KeptP z (State.keySet s a1 a2) := by
  unfold State.keySet
  repeat' first
    | with_reducible assumption
    | ((try lift_lets); intro x; clear_value (e : x = _); refine Kept.use (s := z) (x := x) (Kept.via e ?_) (fun h => ?_))
    | ((try lift_lets); intro x; clear_value x)
    | with_reducible apply State.keeperTouch_kept
    | with_reducible apply State.storeKey_kept
    | with_reducible apply Kept.ite
    | with_reducible apply KeptP.ite
    | (split <;> (rename_i heq; refine Kept.use (s := z) (KeptP.at heq ?_) (fun h => ?_)))
    | split
    | with_reducible apply KeptP.pair
    | with_reducible apply KeptP.fst

theorem execKeySet_kept {z s : State} (h : Kept z s) (a1 : List (BitVec 8)) (a2 : Ecc) : KeptOut z (execKeySet a1 a2 s) := by
  unfold execKeySet
  repeat' first
    | with_reducible assumption
    | with_reducible apply Kept.next
    | with_reducible refine State.mailbox_kept ?_ _ _ (fun s h => ?_)
    | with_reducible apply State.keySet_kept
    | (split <;> (rename_i heq; refine Kept.use (s := z) (KeptP.at heq ?_) (fun h => ?_)))
    | with_reducible apply KeptP.pair
    | with_reducible apply KeptP.fst

theorem State.blowRevoked_kept {z s : State} (h : Kept z s) (key : Nat) : Kept z (s.blowRevoked key) :=
  Kept.otpWord h fun k => by
    by_cases e : keyGroup key * 32 + 30 = k
    · subst e
      rw [tget_tput_same]
      exact setBit_keeps _ _
    · rw [tget_tput_ne _ _ _ _ e, Nat.and_self]

theorem State.revokeProg_kept {z s : State} (h : Kept z s) (a1 : Nat) (a2 : Bool) : KeptP z (State.revokeProg s a1 a2) := by
  unfold State.revokeProg
  repeat' first
    | with_reducible assumption
    | with_reducible apply State.note_kept
    | with_reducible apply State.showOtp_kept
    | with_reducible apply State.blowRevoked_kept
    | with_reducible apply State.raiseX_kept
    | with_reducible apply State.setF_kept
    | with_reducible apply Kept.ite
    | with_reducible apply KeptP.ite
    | (split <;> (rename_i heq; refine Kept.use (s := z) (KeptP.at heq ?_) (fun h => ?_)))
    | with_reducible apply KeptP.pair
    | with_reducible apply KeptP.fst

theorem State.keyRevoke_kept {z s : State} (h : Kept z s) (a1 : List Byte) (a2 : Ecc) (a3 : Bool) : KeptP z (State.keyRevoke s a1 a2 a3) := by
  unfold State.keyRevoke
  repeat' first
    | with_reducible assumption
    | ((try lift_lets); intro x; clear_value (e : x = _); refine Kept.use (s := z) (x := x) (Kept.via e ?_) (fun h => ?_))
    | ((try lift_lets); intro x; clear_value x)
    | with_reducible apply State.keeperTouch_kept
    | with_reducible apply State.revokeProg_kept
    | with_reducible apply Kept.ite
    | with_reducible apply KeptP.ite
    | (split <;> (rename_i heq; refine Kept.use (s := z) (KeptP.at heq ?_) (fun h => ?_)))
    | split
    | with_reducible apply KeptP.pair
    | with_reducible apply KeptP.fst

theorem execKeyRevoke_kept {z s : State} (h : Kept z s) (a1 : List (BitVec 8)) (a2 : Ecc) (a3 : Bool) : KeptOut z (execKeyRevoke a1 a2 a3 s) := by
  unfold execKeyRevoke
  repeat' first
    | with_reducible assumption
    | with_reducible apply Kept.next
    | with_reducible refine State.mailbox_kept ?_ _ _ (fun s h => ?_)
    | with_reducible apply State.keyRevoke_kept
    | (split <;> (rename_i heq; refine Kept.use (s := z) (KeptP.at heq ?_) (fun h => ?_)))
    | with_reducible apply KeptP.pair
    | with_reducible apply KeptP.fst

theorem State.marginRun_kept {z s : State} (h : Kept z s) (a1 : Nat → Nat) : KeptP z (State.marginRun s a1) := by
  unfold State.marginRun
  repeat' first
    | with_reducible assumption
    | with_reducible apply State.mapKeeper_kept
    | (split <;> (rename_i heq; refine Kept.use (s := z) (KeptP.at heq ?_) (fun h => ?_)))
    | with_reducible apply KeptP.pair
    | with_reducible apply KeptP.fst

theorem execMarginRun_kept {z s : State} (h : Kept z s) (a1 : Bool) : KeptOut z (execMarginRun a1 s) := by
  unfold execMarginRun
  repeat' first
    | with_reducible assumption
    | with_reducible apply Kept.next
    | with_reducible refine State.eitherMbx_kept ?_ _ _ _ (fun i s h => ?_)
    | with_reducible apply State.marginRun_kept
    | (split <;> (rename_i heq; refine Kept.use (s := z) (KeptP.at heq ?_) (fun h => ?_)))
    | with_reducible apply KeptP.pair
    | with_reducible apply KeptP.fst
    | (dsimp (zetaDelta := true) only)
    | (simp (zetaDelta := true) only [Kept.mk2_iff, Kept.mk_iff])

theorem State.planFalls_kept {z s : State} (h : Kept z s)  : Kept z (State.planFalls s) := by
  unfold State.planFalls
  repeat' first
    | with_reducible assumption
    | ((try lift_lets); intro x; clear_value (e : x = _); refine Kept.use (s := z) (x := x) (Kept.via e ?_) (fun h => ?_))
    | ((try lift_lets); intro x; clear_value x)
    | with_reducible apply State.setF_kept
    | with_reducible apply State.mapKeeper_kept
    | with_reducible apply Kept.ite

theorem State.onChip_kept {z s : State} (h : Kept z s) (a1 : Review) : Kept z (State.onChip s a1) := by
  unfold State.onChip
  repeat' first
    | with_reducible assumption
    | with_reducible apply State.planFalls_kept
    | with_reducible apply State.mapKeeper_kept

theorem State.ageHeads_kept {z s : State} (h : Kept z s)  : Kept z (State.ageHeads s) := by
  unfold State.ageHeads
  repeat' first
    | with_reducible assumption
    | ((try lift_lets); intro x; clear_value (e : x = _); refine Kept.use (s := z) (x := x) (Kept.via e ?_) (fun h => ?_))
    | ((try lift_lets); intro x; clear_value x)
    | with_reducible apply State.setF_kept
    | (with_reducible apply Kept.forBelow; intro i s h)
    | (simp only [Kept.mk2_iff])
    | (simp only [Kept.mk_iff])

theorem State.projectEnds_kept {z s : State} (h : Kept z s) (a1 : Nat) (a2 : Nat) : Kept z (State.projectEnds s a1 a2) := by
  unfold State.projectEnds
  repeat' first
    | with_reducible assumption
    | ((try lift_lets); intro x; clear_value (e : x = _); refine Kept.use (s := z) (x := x) (Kept.via e ?_) (fun h => ?_))
    | ((try lift_lets); intro x; clear_value x)
    | with_reducible apply State.mapKeeper_kept
    | with_reducible apply State.raise_kept
    | with_reducible apply Kept.ite
    | (with_reducible apply Kept.foldl; intro s x h)

theorem execMarginReview_kept {z s : State} (h : Kept z s) (a1 : Review) (a2 : BitVec 16) (a3 : BitVec 16) : KeptOut z (execMarginReview a1 a2 a3 s) := by
  unfold execMarginReview
  repeat' first
    | with_reducible assumption
    | ((try lift_lets); intro x; clear_value (e : x = _); refine Kept.use (s := z) (x := x) (Kept.via e ?_) (fun h => ?_))
    | ((try lift_lets); intro x; clear_value x)
    | with_reducible apply Kept.next
    | with_reducible apply KeptOut.ite
    | with_reducible apply State.mapKeeper_kept
    | with_reducible apply State.projectEnds_kept
    | with_reducible apply State.note_kept
    | with_reducible apply State.ageHeads_kept
    | with_reducible apply State.onChip_kept
    | with_reducible apply Kept.ite

theorem execSupplyStep_kept {z s : State} (h : Kept z s)  : KeptOut z (execSupplyStep s) := by
  unfold execSupplyStep
  repeat' first
    | with_reducible assumption
    | ((try lift_lets); intro x; clear_value (e : x = _); refine Kept.use (s := z) (x := x) (Kept.via e ?_) (fun h => ?_))
    | ((try lift_lets); intro x; clear_value x)
    | with_reducible apply Kept.next
    | with_reducible apply KeptOut.ite
    | with_reducible apply State.setF_kept
    | with_reducible apply State.planFalls_kept
    | with_reducible apply Kept.ite

theorem State.mailboxGo_kept {z s : State} (h : Kept z s) (a1 : Nat) : Kept z (State.mailboxGo s a1) := by
  unfold State.mailboxGo
  repeat' first
    | with_reducible assumption
    | with_reducible apply after_kept
    | with_reducible apply execGetInfo_kept
    | with_reducible apply execReset_kept
    | with_reducible apply execCloseConfig_kept
    | with_reducible apply execSetTcomp_kept
    | with_reducible apply execCalSet_kept
    | with_reducible apply execImgRemove_kept
    | with_reducible apply execFwSwitch_kept
    | with_reducible apply execFwConfirm_kept
    | with_reducible apply execMarginRun_kept
    | with_reducible apply State.setFs_kept
    | with_reducible refine State.mailbox_kept ?_ _ _ (fun s h => ?_)
    | with_reducible apply Kept.ite
    | with_reducible apply KeptP.ite
    | (split <;> (rename_i heq; refine Kept.use (s := z) (KeptP.at heq ?_) (fun h => ?_)))
    | split
    | with_reducible apply KeptP.pair
    | with_reducible apply KeptP.fst

theorem State.mbxResume_kept {z s : State} (h : Kept z s)  : Kept z (State.mbxResume s) := by
  unfold State.mbxResume
  repeat' first
    | with_reducible assumption
    | with_reducible apply State.mailboxGo_kept
    | with_reducible apply Kept.ite
    | with_reducible apply KeptP.ite
    | (split <;> (rename_i heq; refine Kept.use (s := z) (KeptP.at heq ?_) (fun h => ?_)))
    | with_reducible apply KeptP.pair
    | with_reducible apply KeptP.fst

theorem execFwSwitched_kept {z s : State} (h : Kept z s)  : KeptOut z (execFwSwitched s) := by
  unfold execFwSwitched
  repeat' first
    | with_reducible assumption
    | ((try lift_lets); intro x; clear_value (e : x = _); refine Kept.use (s := z) (x := x) (Kept.via e ?_) (fun h => ?_))
    | ((try lift_lets); intro x; clear_value x)
    | with_reducible apply Kept.next
    | with_reducible apply KeptOut.ite
    | with_reducible apply State.setFs_kept
    | with_reducible apply State.logDrain_kept
    | with_reducible apply State.mbxResume_kept
    | with_reducible apply State.raiseX_kept
    | with_reducible apply Kept.ite

/-! ### Counters -/

theorem State.cntConfig_kept {z s : State} (h : Kept z s) (a1 : Nat) (a2 : Nat) : Kept z (State.cntConfig s a1 a2) := by
  unfold State.cntConfig
  repeat' first
    | with_reducible assumption
    | ((try lift_lets); intro x; clear_value (e : x = _); refine Kept.use (s := z) (x := x) (Kept.via e ?_) (fun h => ?_))
    | ((try lift_lets); intro x; clear_value x)
    | with_reducible apply State.setF_kept
    | with_reducible apply State.flam_kept
    | with_reducible apply State.setFs_kept
    | with_reducible apply Kept.ite

theorem execCounterEnable_kept {z s : State} (h : Kept z s) (a1 : Fin 56) (a2 : BitVec 32) : KeptOut z (execCounterEnable a1 a2 s) := by
  unfold execCounterEnable
  repeat' first
    | with_reducible assumption
    | with_reducible apply Kept.next
    | with_reducible apply State.cntConfig_kept

theorem State.readCounter_kept {z s : State} (h : Kept z s) (a1 : Nat) (a2 : Nat) : Kept z (State.readCounter s a1 a2) := by
  unfold State.readCounter
  repeat' first
    | with_reducible assumption
    | with_reducible apply State.latch_kept

theorem execCounterRead_kept {z s : State} (h : Kept z s) (a1 : Reader) (a2 : Bar) (a3 : Fin 56) : KeptOut z (execCounterRead a1 a2 a3 s) := by
  unfold execCounterRead
  repeat' first
    | with_reducible assumption
    | with_reducible apply Kept.next
    | with_reducible apply KeptOut.ite
    | with_reducible apply State.reply_kept
    | with_reducible apply State.readCounter_kept
    | with_reducible apply Kept.ite

theorem State.overflow_kept {z s : State} (h : Kept z s) (a1 : Nat) : Kept z (State.overflow s a1) := by
  unfold State.overflow
  repeat' first
    | with_reducible assumption
    | ((try lift_lets); intro x; clear_value (e : x = _); refine Kept.use (s := z) (x := x) (Kept.via e ?_) (fun h => ?_))
    | ((try lift_lets); intro x; clear_value x)
    | with_reducible apply State.setBitF_kept
    | with_reducible apply State.raise_kept
    | with_reducible apply Kept.ite

theorem State.throughBar_kept {z s t : State} (h : Kept z s) (bar : Bar) (ht : Kept z t) : Kept z (s.throughBar bar t) :=
  Kept.ite ht (State.flam_kept h _ _)

theorem State.stageHigh_kept {z s : State} (h : Kept z s) (a1 : Nat) (a2 : Nat) : Kept z (State.stageHigh s a1 a2) := by
  unfold State.stageHigh
  repeat' first
    | with_reducible assumption
    | (simp only [Kept.mk2_iff])
    | (simp only [Kept.mk_iff])

theorem execCntHiWrite_kept {z s : State} (h : Kept z s) (a1 : Bar) (a2 : Fin 56) (a3 : BitVec 32) : KeptOut z (execCntHiWrite a1 a2 a3 s) := by
  unfold execCntHiWrite
  repeat' first
    | with_reducible assumption
    | with_reducible apply Kept.next
    | with_reducible apply State.throughBar_kept
    | with_reducible apply State.stageHigh_kept

theorem State.writeCounter_kept {z s : State} (h : Kept z s) (a1 : Nat) (a2 : Nat) : Kept z (State.writeCounter s a1 a2) := by
  unfold State.writeCounter
  repeat' first
    | with_reducible assumption
    | ((try lift_lets); intro x; clear_value (e : x = _); refine Kept.use (s := z) (x := x) (Kept.via e ?_) (fun h => ?_))
    | ((try lift_lets); intro x; clear_value x)
    | with_reducible apply State.overflow_kept
    | with_reducible apply Kept.ite
    | (simp only [Kept.mk2_iff])
    | (simp only [Kept.mk_iff])

theorem execCntLoWrite_kept {z s : State} (h : Kept z s) (a1 : Bar) (a2 : Fin 56) (a3 : BitVec 32) : KeptOut z (execCntLoWrite a1 a2 a3 s) := by
  unfold execCntLoWrite
  repeat' first
    | with_reducible assumption
    | with_reducible apply Kept.next
    | with_reducible apply State.throughBar_kept
    | with_reducible apply State.writeCounter_kept

theorem State.wrapWritten_kept {z s : State} (h : Kept z s) (a1 : Nat) : Kept z (State.wrapWritten s a1) := by
  unfold State.wrapWritten
  repeat' first
    | with_reducible assumption
    | ((try lift_lets); intro x; clear_value (e : x = _); refine Kept.use (s := z) (x := x) (Kept.via e ?_) (fun h => ?_))
    | ((try lift_lets); intro x; clear_value x)
    | with_reducible apply State.overflow_kept
    | with_reducible apply Kept.ite
    | (simp only [Kept.mk2_iff])
    | (simp only [Kept.mk_iff])

theorem execCounterWrap_kept {z s : State} (h : Kept z s) (a1 : Fin 56) : KeptOut z (execCounterWrap a1 s) := by
  unfold execCounterWrap
  repeat' first
    | with_reducible assumption
    | ((try lift_lets); intro x; clear_value (e : x = _); refine Kept.use (s := z) (x := x) (Kept.via e ?_) (fun h => ?_))
    | ((try lift_lets); intro x; clear_value x)
    | with_reducible apply Kept.next
    | with_reducible apply KeptOut.ite
    | with_reducible apply State.wrapWritten_kept
    | with_reducible apply State.advanceTo_kept
    | with_reducible apply State.raise_kept
    | with_reducible apply State.overflow_kept
    | with_reducible apply State.setPair_kept
    | with_reducible apply Kept.ite
    | (simp only [Kept.mk2_iff])
    | (simp only [Kept.mk_iff])

theorem execCounterFreeze_kept {z s : State} (h : Kept z s) (a1 : Bool) : KeptOut z (execCounterFreeze a1 s) := by
  unfold execCounterFreeze
  repeat' first
    | with_reducible assumption
    | with_reducible apply Kept.next
    | with_reducible apply State.setFreeze_kept

theorem execSnapshot_kept {z s : State} (h : Kept z s)  : KeptOut z (execSnapshot s) := by
  unfold execSnapshot
  repeat' first
    | with_reducible assumption
    | with_reducible apply Kept.next
    | with_reducible apply State.snapshot_kept

/-! ### Power -/

theorem State.dropRegs_kept {z s : State} (h : Kept z s) (a1 : Nat) : Kept z (State.dropRegs s a1) := by
  unfold State.dropRegs
  repeat' first
    | with_reducible assumption
    | ((try lift_lets); intro x; clear_value (e : x = _); refine Kept.use (s := z) (x := x) (Kept.via e ?_) (fun h => ?_))
    | ((try lift_lets); intro x; clear_value x)
    | (simp only [Kept.mk2_iff])
    | (simp only [Kept.mk_iff])

theorem State.resetMallets_kept {z s : State} (h : Kept z s) (p : Nat → Bool) : Kept z (s.resetMallets p) := by
  refine h.trans ⟨rfl, fun w => ?_, fun _ => Nat.and_self _⟩
  simp only [State.memoryWf, State.resetMallets, Bool.and_eq_true] at *
  exact ⟨⟨⟨⟨⟨⟨w.1.1.1.1.1.1, w.1.1.1.1.1.2⟩, w.1.1.1.1.2⟩, twf_filter _ _ _ w.1.1.1.2⟩, twf_filter _ _ _ w.1.1.2⟩, w.1.2⟩, w.2⟩

theorem State.resetScreens_kept {z s : State} (h : Kept z s) (a1 : Nat) : Kept z (State.resetScreens s a1) := by
  unfold State.resetScreens
  repeat' first
    | with_reducible assumption
    | ((try lift_lets); intro x; clear_value (e : x = _); refine Kept.use (s := z) (x := x) (Kept.via e ?_) (fun h => ?_))
    | ((try lift_lets); intro x; clear_value x)
    | (simp only [Kept.mk2_iff])
    | (simp only [Kept.mk_iff])

theorem State.resetUnits_kept {z s : State} (h : Kept z s) (d : Nat) : Kept z (s.resetUnits d) := by
  unfold State.resetUnits
  split
  · exact Kept.msm h fun _ => rfl
  · exact State.resetMallets_kept h _
  · exact State.resetMallets_kept h _
  · exact State.resetScreens_kept h _
  · exact State.resetScreens_kept h _
  · exact Kept.scan (s := { s with lst := [], slots := [] }) (l := []) (Kept.lst (l := []) h fun _ => rfl) fun _ => rfl
  · exact h
  · exact h
  · exact Kept.waves h fun _ => rfl
  · exact h
  · exact h
  · exact h

theorem State.resetDomain_kept {z s : State} (h : Kept z s) (a1 : Nat) : Kept z (State.resetDomain s a1) := by
  unfold State.resetDomain
  repeat' first
    | with_reducible assumption
    | with_reducible apply State.resetUnits_kept
    | with_reducible apply State.dropRegs_kept

theorem State.dropRetries_kept {z s : State} (h : Kept z s) (a1 : Nat) : Kept z (State.dropRetries s a1) := by
  unfold State.dropRetries
  repeat' first
    | with_reducible assumption
    | with_reducible apply State.logRetry_kept
    | (with_reducible apply Kept.foldl; intro s x h)

theorem State.domainOff_kept {z s : State} (h : Kept z s) (a1 : Nat) : Kept z (State.domainOff s a1) := by
  unfold State.domainOff
  repeat' first
    | with_reducible assumption
    | ((try lift_lets); intro x; clear_value (e : x = _); refine Kept.use (s := z) (x := x) (Kept.via e ?_) (fun h => ?_))
    | ((try lift_lets); intro x; clear_value x)
    | with_reducible apply State.setBitF_kept
    | with_reducible apply State.dropRetries_kept
    | with_reducible apply State.toSlow_kept
    | with_reducible apply State.showTime_kept
    | with_reducible apply State.resetDomain_kept
    | with_reducible apply Kept.ite
    | (simp only [Kept.mk2_iff])
    | (simp only [Kept.mk_iff])

theorem State.pwrRefuse_kept {z s : State} (h : Kept z s) (a1 : Nat) : Kept z (State.pwrRefuse s a1) := by
  unfold State.pwrRefuse
  repeat' first
    | with_reducible assumption
    | with_reducible apply State.raiseX_kept
    | with_reducible apply State.setF_kept

theorem execDomainRequest_kept {z s : State} (h : Kept z s) (a1 : BitVec 12) : KeptOut z (execDomainRequest a1 s) := by
  unfold execDomainRequest
  repeat' first
    | with_reducible assumption
    | ((try lift_lets); intro x; clear_value (e : x = _); refine Kept.use (s := z) (x := x) (Kept.via e ?_) (fun h => ?_))
    | ((try lift_lets); intro x; clear_value x)
    | with_reducible apply Kept.next
    | with_reducible apply KeptOut.ite
    | with_reducible apply State.flam_kept
    | with_reducible apply State.pwrRefuse_kept
    | with_reducible apply State.setF_kept
    | with_reducible apply State.domainOff_kept
    | with_reducible apply State.mapKeeper_kept
    | with_reducible apply State.setB_kept
    | with_reducible apply Kept.ite
    | (with_reducible apply Kept.foldl; intro s x h)
    | (simp only [Kept.mk2_iff])
    | (simp only [Kept.mk_iff])

theorem State.putBand_kept {z s : State} (h : Kept z s) (a1 : Field) (a2 : Field) (a3 : Field) (a4 : Field) (a5 : Nat) : Kept z (State.putBand s a1 a2 a3 a4 a5) := by
  unfold State.putBand
  repeat' first
    | with_reducible assumption
    | with_reducible apply State.setFs_kept

theorem State.fillBands_kept {z s : State} (h : Kept z s)  : Kept z (State.fillBands s) := by
  unfold State.fillBands
  repeat' first
    | with_reducible assumption
    | ((try lift_lets); intro x; clear_value (e : x = _); refine Kept.use (s := z) (x := x) (Kept.via e ?_) (fun h => ?_))
    | ((try lift_lets); intro x; clear_value x)
    | with_reducible apply State.putBand_kept
    | (with_reducible apply Kept.forBelow; intro i s h)

theorem State.wakeAna_kept {z s : State} (h : Kept z s)  : Kept z (State.wakeAna s) := by
  unfold State.wakeAna
  repeat' first
    | with_reducible assumption
    | ((try lift_lets); intro x; clear_value (e : x = _); refine Kept.use (s := z) (x := x) (Kept.via e ?_) (fun h => ?_))
    | ((try lift_lets); intro x; clear_value x)
    | with_reducible apply State.applyTcomp_kept
    | with_reducible apply State.fillBands_kept
    | with_reducible apply State.adpllOn_kept
    | with_reducible apply State.setF_kept

theorem State.wakeMem_kept {z s : State} (h : Kept z s)  : Kept z (State.wakeMem s) := by
  unfold State.wakeMem
  repeat' first
    | with_reducible assumption
    | ((try lift_lets); intro x; clear_value (e : x = _); refine Kept.use (s := z) (x := x) (Kept.via e ?_) (fun h => ?_))
    | ((try lift_lets); intro x; clear_value x)
    | with_reducible apply State.mapKeeper_kept
    | with_reducible apply State.setFs_kept

theorem State.domainOn_kept {z s : State} (h : Kept z s) (a1 : Nat) : Kept z (State.domainOn s a1) := by
  unfold State.domainOn
  repeat' first
    | with_reducible assumption
    | ((try lift_lets); intro x; clear_value (e : x = _); refine Kept.use (s := z) (x := x) (Kept.via e ?_) (fun h => ?_))
    | ((try lift_lets); intro x; clear_value x)
    | with_reducible apply State.showTime_kept
    | with_reducible apply State.setBitF_kept
    | with_reducible apply State.resetDomain_kept
    | with_reducible apply State.wakeAna_kept
    | with_reducible apply State.wakeMem_kept
    | with_reducible apply Kept.ite

theorem execDomainPowerUp_kept {z s : State} (h : Kept z s) (a1 : Fin 12) : KeptOut z (execDomainPowerUp a1 s) := by
  unfold execDomainPowerUp
  repeat' first
    | with_reducible assumption
    | ((try lift_lets); intro x; clear_value (e : x = _); refine Kept.use (s := z) (x := x) (Kept.via e ?_) (fun h => ?_))
    | ((try lift_lets); intro x; clear_value x)
    | with_reducible apply Kept.next
    | with_reducible apply KeptOut.ite
    | with_reducible apply State.domainOn_kept
    | with_reducible apply State.toService_kept
    | with_reducible apply State.setF_kept
    | with_reducible apply Kept.ite

theorem execDomainPgLost_kept {z s : State} (h : Kept z s) (a1 : Fin 12) : KeptOut z (execDomainPgLost a1 s) := by
  unfold execDomainPgLost
  repeat' first
    | with_reducible assumption
    | ((try lift_lets); intro x; clear_value (e : x = _); refine Kept.use (s := z) (x := x) (Kept.via e ?_) (fun h => ?_))
    | ((try lift_lets); intro x; clear_value x)
    | with_reducible apply Kept.next
    | with_reducible apply KeptOut.ite
    | with_reducible apply State.setBitF_kept
    | with_reducible apply State.showTime_kept
    | with_reducible apply State.toSlow_kept
    | with_reducible apply State.raise_kept
    | with_reducible apply State.dropRetries_kept
    | with_reducible apply Kept.ite
    | (simp only [Kept.mk2_iff])
    | (simp only [Kept.mk_iff])

theorem State.allOff_kept {z s : State} (h : Kept z s) (a1 : Nat) : Kept z (State.allOff s a1) := by
  unfold State.allOff
  repeat' first
    | with_reducible assumption
    | with_reducible apply State.domainOff_kept
    | with_reducible apply Kept.ite
    | (with_reducible apply Kept.foldl; intro s x h)

theorem execStandbyRequest_kept {z s : State} (h : Kept z s)  : KeptOut z (execStandbyRequest s) := by
  unfold execStandbyRequest
  repeat' first
    | with_reducible assumption
    | ((try lift_lets); intro x; clear_value (e : x = _); refine Kept.use (s := z) (x := x) (Kept.via e ?_) (fun h => ?_))
    | ((try lift_lets); intro x; clear_value x)
    | with_reducible apply Kept.next
    | with_reducible apply KeptOut.ite
    | with_reducible apply State.pwrRefuse_kept
    | with_reducible apply State.flam_kept
    | with_reducible apply State.mapKeeper_kept
    | with_reducible apply State.setFs_kept
    | with_reducible apply State.allOff_kept
    | with_reducible apply Kept.ite
    | (simp only [Kept.mk2_iff])
    | (simp only [Kept.mk_iff])

theorem State.keepOnly_kept {z s : State} (h : Kept z s) : Kept z s.keepOnly := by
  refine h.trans ⟨rfl, fun w => ?_, fun _ => Nat.and_self _⟩
  simp only [State.memoryWf, Bool.and_eq_true] at *
  exact ⟨⟨⟨⟨⟨⟨w.1.1.1.1.1.1, rfl⟩, rfl⟩, rfl⟩, rfl⟩, rfl⟩, rfl⟩

theorem State.readOtp_kept {z s : State} (h : Kept z s) (a1 : Boot) : Kept z (State.readOtp s a1) := by
  unfold State.readOtp
  repeat' first
    | with_reducible assumption
    | ((try lift_lets); intro x; clear_value (e : x = _); refine Kept.use (s := z) (x := x) (Kept.via e ?_) (fun h => ?_))
    | ((try lift_lets); intro x; clear_value x)
    | with_reducible apply State.tally_kept
    | with_reducible apply State.otpMark_kept
    | (with_reducible apply Kept.foldl; intro s x h)

theorem State.ready_kept {z s : State} (h : Kept z s) (a1 : Nat) : Kept z (State.ready s a1) := by
  unfold State.ready
  repeat' first
    | with_reducible assumption
    | ((try lift_lets); intro x; clear_value (e : x = _); refine Kept.use (s := z) (x := x) (Kept.via e ?_) (fun h => ?_))
    | ((try lift_lets); intro x; clear_value x)
    | with_reducible apply State.setFs_kept
    | with_reducible apply State.raise_kept
    | with_reducible apply State.raiseX_kept
    | with_reducible apply State.mapKeeper_kept
    | with_reducible apply State.mbxResume_kept
    | with_reducible apply Kept.ite

theorem State.startNormal_kept {z s : State} (h : Kept z s) (a1 : Boot) : Kept z (State.startNormal s a1) := by
  unfold State.startNormal
  repeat' first
    | with_reducible assumption
    | ((try lift_lets); intro x; clear_value (e : x = _); refine Kept.use (s := z) (x := x) (Kept.via e ?_) (fun h => ?_))
    | ((try lift_lets); intro x; clear_value x)
    | with_reducible apply State.setFs_kept
    | with_reducible apply State.domainOn_kept
    | with_reducible apply State.mapKeeper_kept
    | with_reducible apply State.ready_kept
    | with_reducible apply State.toService_kept
    | with_reducible apply State.onChip_kept

theorem execKeeperRelease_kept {z s : State} (h : Kept z s) (a1 : Boot) : KeptOut z (execKeeperRelease a1 s) := by
  unfold execKeeperRelease
  repeat' first
    | with_reducible assumption
    | ((try lift_lets); intro x; clear_value (e : x = _); refine Kept.use (s := z) (x := x) (Kept.via e ?_) (fun h => ?_))
    | ((try lift_lets); intro x; clear_value x)
    | with_reducible apply Kept.next
    | with_reducible apply KeptOut.ite
    | with_reducible apply State.mapKeeper_kept
    | with_reducible apply State.setFs_kept
    | with_reducible apply State.note_kept
    | with_reducible apply State.showOtp_kept
    | with_reducible apply State.readOtp_kept
    | with_reducible apply State.checkGroup_kept
    | with_reducible apply State.ready_kept
    | with_reducible apply State.startNormal_kept
    | with_reducible apply Kept.ite
    | (with_reducible apply Kept.forBelow; intro i s h)
    | split
    | (simp only [Kept.mk2_iff])
    | (simp only [Kept.mk_iff])

theorem State.loseMemory_kept {z s : State} (h : Kept z s) : Kept z s.loseMemory := by
  refine h.trans ⟨rfl, fun w => ?_, fun _ => Nat.and_self _⟩
  simp only [State.memoryWf, State.loseMemory, Bool.and_eq_true] at *
  exact ⟨⟨⟨⟨⟨⟨rfl, w.1.1.1.1.1.2⟩, w.1.1.1.1.2⟩, w.1.1.1.2⟩, w.1.1.2⟩, w.1.2⟩, w.2⟩

theorem execPor_kept {z s : State} (h : Kept z s) (a1 : Bool) : KeptOut z (execPor a1 s) := by
  unfold execPor
  repeat' first
    | with_reducible assumption
    | ((try lift_lets); intro x; clear_value (e : x = _); refine Kept.use (s := z) (x := x) (Kept.via e ?_) (fun h => ?_))
    | ((try lift_lets); intro x; clear_value x)
    | with_reducible apply Kept.next
    | with_reducible apply KeptOut.ite
    | with_reducible apply State.loseMemory_kept
    | with_reducible apply State.lived_kept
    | with_reducible apply State.keepOnly_kept
    | with_reducible apply State.mapKeeper_kept
    | with_reducible apply Kept.ite
    | (simp only [Kept.mk2_iff])
    | (simp only [Kept.mk_iff])

theorem execResetPin_kept {z s : State} (h : Kept z s) (a1 : List Bool) : KeptOut z (execResetPin a1 s) := by
  unfold execResetPin
  repeat' first
    | with_reducible assumption
    | with_reducible apply Kept.next
    | with_reducible apply KeptOut.ite
    | with_reducible apply State.mapKeeper_kept
    | with_reducible apply Kept.ite

theorem State.beginReset_kept {z s : State} (h : Kept z s) (a1 : Nat) : Kept z (State.beginReset s a1) := by
  unfold State.beginReset
  repeat' first
    | with_reducible assumption
    | ((try lift_lets); intro x; clear_value (e : x = _); refine Kept.use (s := z) (x := x) (Kept.via e ?_) (fun h => ?_))
    | ((try lift_lets); intro x; clear_value x)
    | with_reducible apply State.mapKeeper_kept
    | with_reducible apply State.outputsReset_kept
    | with_reducible apply State.kaAllStatic_kept
    | with_reducible apply State.setF_kept
    | with_reducible apply State.reportG4_kept
    | with_reducible apply State.flush_kept
    | with_reducible apply State.saveLedger_kept
    | with_reducible apply Kept.ite

theorem execDeviceReset_kept {z s : State} (h : Kept z s)  : KeptOut z (execDeviceReset s) := by
  unfold execDeviceReset
  repeat' first
    | with_reducible assumption
    | with_reducible apply Kept.next
    | with_reducible apply KeptOut.ite
    | with_reducible apply State.beginReset_kept
    | with_reducible apply State.advanceTo_kept
    | with_reducible apply Kept.ite
    | split

theorem State.endRetries_kept {z s : State} (h : Kept z s)  : Kept z (State.endRetries s) := by
  unfold State.endRetries
  repeat' first
    | with_reducible assumption
    | with_reducible apply State.dropRetries_kept
    | (with_reducible apply Kept.foldl; intro s x h)

theorem execResetIsolate_kept {z s : State} (h : Kept z s)  : KeptOut z (execResetIsolate s) := by
  unfold execResetIsolate
  repeat' first
    | with_reducible assumption
    | with_reducible apply Kept.next
    | with_reducible apply State.mapKeeper_kept
    | with_reducible apply State.keepOnly_kept
    | with_reducible apply State.endRetries_kept
    | with_reducible apply State.advanceTo_kept
    | split

theorem State.vinStop_kept {z s : State} (h : Kept z s)  : Kept z (State.vinStop s) := by
  unfold State.vinStop
  repeat' first
    | with_reducible assumption
    | ((try lift_lets); intro x; clear_value (e : x = _); refine Kept.use (s := z) (x := x) (Kept.via e ?_) (fun h => ?_))
    | ((try lift_lets); intro x; clear_value x)
    | with_reducible apply State.mapKeeper_kept
    | with_reducible apply State.logAdd_kept
    | with_reducible apply Kept.ite

theorem execVinSample_kept {z s : State} (h : Kept z s) (a1 : BitVec 16) : KeptOut z (execVinSample a1 s) := by
  unfold execVinSample
  repeat' first
    | with_reducible assumption
    | ((try lift_lets); intro x; clear_value (e : x = _); refine Kept.use (s := z) (x := x) (Kept.via e ?_) (fun h => ?_))
    | ((try lift_lets); intro x; clear_value x)
    | with_reducible apply Kept.next
    | with_reducible apply KeptOut.ite
    | with_reducible apply State.setF_kept
    | with_reducible apply State.mapKeeper_kept
    | with_reducible apply State.vinStop_kept
    | with_reducible apply State.raiseX_kept
    | with_reducible apply State.addF_kept
    | with_reducible apply Kept.ite

theorem execVinUvlo_kept {z s : State} (h : Kept z s)  : KeptOut z (execVinUvlo s) := by
  unfold execVinUvlo
  repeat' first
    | with_reducible assumption
    | ((try lift_lets); intro x; clear_value (e : x = _); refine Kept.use (s := z) (x := x) (Kept.via e ?_) (fun h => ?_))
    | ((try lift_lets); intro x; clear_value x)
    | with_reducible apply Kept.next
    | with_reducible apply State.endRetries_kept
    | with_reducible apply State.mapKeeper_kept
    | with_reducible apply State.keepOnly_kept
    | (simp only [Kept.mk2_iff])
    | (simp only [Kept.mk_iff])

theorem execRegFault_kept {z s : State} (h : Kept z s) (a1 : BitVec 4) : KeptOut z (execRegFault a1 s) := by
  unfold execRegFault
  repeat' first
    | with_reducible assumption
    | with_reducible apply Kept.next
    | with_reducible apply State.raise_kept
    | with_reducible apply State.setF_kept

theorem execVbatLow_kept {z s : State} (h : Kept z s) (a1 : BitVec 16) : KeptOut z (execVbatLow a1 s) := by
  unfold execVbatLow
  repeat' first
    | with_reducible assumption
    | ((try lift_lets); intro x; clear_value (e : x = _); refine Kept.use (s := z) (x := x) (Kept.via e ?_) (fun h => ?_))
    | ((try lift_lets); intro x; clear_value x)
    | with_reducible apply Kept.next
    | with_reducible apply KeptOut.ite
    | with_reducible apply State.setF_kept
    | with_reducible apply State.raiseX_kept
    | with_reducible apply Kept.ite

theorem execVioSupplyChange_kept {z s : State} (h : Kept z s) (a1 : Bool) (a2 : Bool) : KeptOut z (execVioSupplyChange a1 a2 s) := by
  unfold execVioSupplyChange
  repeat' first
    | with_reducible assumption
    | with_reducible apply Kept.next
    | with_reducible apply KeptOut.ite
    | with_reducible apply State.mapKeeper_kept
    | with_reducible apply Kept.ite

theorem execPowerManagementState_kept {z s : State} (h : Kept z s) (a1 : Bool) : KeptOut z (execPowerManagementState a1 s) := by
  unfold execPowerManagementState
  repeat' first
    | with_reducible assumption
    | with_reducible apply Kept.next
    | (simp only [Kept.mk2_iff])
    | (simp only [Kept.mk_iff])

/-! ### Balls -/



/-! ### Regs -/

theorem State.showMlt_kept {z s : State} (h : Kept z s) (a1 : Nat) (a2 : Nat) : Kept z (State.showMlt s a1 a2) := by
  unfold State.showMlt
  repeat' first
    | with_reducible assumption
    | ((try lift_lets); intro x; clear_value (e : x = _); refine Kept.use (s := z) (x := x) (Kept.via e ?_) (fun h => ?_))
    | ((try lift_lets); intro x; clear_value x)
    | with_reducible apply State.setF_kept
    | with_reducible apply State.setFs_kept
    | split

theorem State.showStation_kept {z s : State} (h : Kept z s) (a1 : Nat) (a2 : Nat) : Kept z (State.showStation s a1 a2) := by
  unfold State.showStation
  repeat' first
    | with_reducible assumption
    | with_reducible apply State.setPairS_kept
    | with_reducible apply State.setFs_kept
    | with_reducible apply State.setF_kept
    | split

theorem State.showOther_kept {z s : State} (h : Kept z s) (a1 : Nat) (a2 : Nat) : Kept z (State.showOther s a1 a2) := by
  unfold State.showOther
  repeat' first
    | with_reducible assumption
    | with_reducible apply State.setFs_kept
    | with_reducible apply State.setF_kept
    | with_reducible apply State.setPair_kept
    | split

theorem State.shown_kept {z s : State} (h : Kept z s) (a1 : Nat) (a2 : Nat) : Kept z (State.shown s a1 a2) := by
  unfold State.shown
  repeat' first
    | with_reducible assumption
    | with_reducible apply State.showMlt_kept
    | with_reducible apply State.showOther_kept
    | with_reducible apply State.showStation_kept
    | split

theorem State.latchFor_kept {z s : State} (h : Kept z s) (a1 : Nat) (a2 : Nat) (a3 : Nat) (a4 : Nat) : Kept z (State.latchFor s a1 a2 a3 a4) := by
  unfold State.latchFor
  repeat' first
    | with_reducible assumption
    | ((try lift_lets); intro x; clear_value (e : x = _); refine Kept.use (s := z) (x := x) (Kept.via e ?_) (fun h => ?_))
    | ((try lift_lets); intro x; clear_value x)
    | with_reducible apply State.readSnare_kept
    | with_reducible apply State.latch_kept
    | with_reducible apply State.shown_kept
    | with_reducible apply Kept.ite

theorem State.clearRead_kept {z s : State} (h : Kept z s) (l : List (Field × Access)) : Kept z (s.clearRead l) := by
  induction l generalizing s with
  | nil => exact h
  | cons x r ih => exact ih (Kept.ite (State.setF_kept h _ _) h)

theorem State.readReg_kept {z s : State} (h : Kept z s) (a1 : Nat) (a2 : Nat) : KeptQ z (State.readReg s a1 a2) := by
  unfold State.readReg
  repeat' first
    | with_reducible assumption
    | ((try lift_lets); intro x; clear_value (e : x = _); refine Kept.use (s := z) (x := x) (Kept.via e ?_) (fun h => ?_))
    | ((try lift_lets); intro x; clear_value x)
    | with_reducible apply State.readDdResult_kept
    | with_reducible apply State.readLeadnow_kept
    | with_reducible apply State.shown_kept
    | with_reducible apply State.clearRead_kept
    | with_reducible apply State.latchFor_kept
    | with_reducible apply State.setF_kept
    | with_reducible apply Kept.ite
    | with_reducible apply KeptQ.ite
    | (split <;> (rename_i heq; refine Kept.use (s := z) (KeptQ.at heq ?_) (fun h => ?_)))
    | split
    | with_reducible apply KeptQ.pair
    | with_reducible apply KeptQ.snd

theorem State.readBar0_kept {z s : State} (h : Kept z s) (a1 : Nat) (a2 : Nat) : KeptQ z (State.readBar0 s a1 a2) := by
  unfold State.readBar0
  repeat' first
    | with_reducible assumption
    | with_reducible apply State.readReg_kept
    | with_reducible apply Kept.ite
    | with_reducible apply KeptQ.ite
    | (split <;> (rename_i heq; refine Kept.use (s := z) (KeptQ.at heq ?_) (fun h => ?_)))
    | with_reducible apply KeptQ.pair
    | with_reducible apply KeptQ.snd

theorem State.readBar4_kept {z s : State} (h : Kept z s) (a1 : Nat) (a2 : Nat) : KeptQ z (State.readBar4 s a1 a2) := by
  unfold State.readBar4
  repeat' first
    | with_reducible assumption
    | with_reducible apply State.readReg_kept
    | with_reducible apply Kept.ite
    | with_reducible apply KeptQ.ite
    | (split <;> (rename_i heq; refine Kept.use (s := z) (KeptQ.at heq ?_) (fun h => ?_)))
    | split
    | with_reducible apply KeptQ.pair
    | with_reducible apply KeptQ.snd

theorem State.busRead_kept {z s : State} (h : Kept z s) (a1 : Reader) (a2 : Bar) (a3 : Nat) (a4 : Nat) : Kept z (State.busRead s a1 a2 a3 a4) := by
  unfold State.busRead
  repeat' first
    | with_reducible assumption
    | with_reducible apply State.reply_kept
    | with_reducible apply State.readBar0_kept
    | with_reducible apply State.readBar4_kept
    | with_reducible apply Kept.ite
    | with_reducible apply KeptQ.ite
    | (split <;> (rename_i heq; refine Kept.use (s := z) (KeptQ.at heq ?_) (fun h => ?_)))
    | split
    | (simp only [Kept.mk2_iff])
    | (simp only [Kept.mk_iff])
    | with_reducible apply KeptQ.pair
    | with_reducible apply KeptQ.snd

theorem execFlamRead_kept {z s : State} (h : Kept z s) (a1 : Reader) (a2 : BitVec 26) (a3 : BitVec 13) : KeptOut z (execFlamRead a1 a2 a3 s) := by
  unfold execFlamRead
  repeat' first
    | with_reducible assumption
    | with_reducible apply Kept.next
    | with_reducible apply KeptOut.ite
    | with_reducible apply State.busRead_kept
    | with_reducible apply Kept.ite

theorem execCountRead_kept {z s : State} (h : Kept z s) (a1 : Reader) (a2 : Bar) (a3 : BitVec 26) (a4 : BitVec 13) : KeptOut z (execCountRead a1 a2 a3 a4 s) := by
  unfold execCountRead
  repeat' first
    | with_reducible assumption
    | with_reducible apply Kept.next
    | with_reducible apply KeptOut.ite
    | with_reducible apply State.busRead_kept
    | with_reducible apply Kept.ite

theorem traceWords_kept {z s : State} (h : Kept z s) (u k : Nat) : KeptQ z (traceWords u k s) := by
  induction k generalizing s with
  | zero => exact ⟨h⟩
  | succ k ih =>
    unfold traceWords
    split
    rename_i heq
    have h1 := KeptQ.at heq (ih h)
    split
    · split
      rename_i heq2
      exact ⟨KeptQ.at heq2 (State.readReg_kept h1 _ _)⟩
    · exact ⟨h1⟩

theorem State.traceAfter_kept {z s : State} (h : Kept z s) (a1 : Nat) (a2 : List Word) : Kept z (State.traceAfter s a1 a2) := by
  unfold State.traceAfter
  repeat' first
    | with_reducible assumption
    | ((try lift_lets); intro x; clear_value (e : x = _); refine Kept.use (s := z) (x := x) (Kept.via e ?_) (fun h => ?_))
    | ((try lift_lets); intro x; clear_value x)
    | with_reducible apply State.setTrace_kept
    | with_reducible apply State.raise_kept
    | with_reducible apply State.setFs_kept
    | with_reducible apply Kept.ite

theorem execTraceSample_kept {z s : State} (h : Kept z s) (a1 : Fin 4) : KeptOut z (execTraceSample a1 s) := by
  unfold execTraceSample
  repeat' first
    | with_reducible assumption
    | ((try lift_lets); intro x; clear_value (e : x = _); refine Kept.use (s := z) (x := x) (Kept.via e ?_) (fun h => ?_))
    | ((try lift_lets); intro x; clear_value x)
    | with_reducible apply Kept.next
    | with_reducible apply KeptOut.ite
    | with_reducible apply State.advanceTo_kept
    | with_reducible apply traceWords_kept
    | with_reducible apply State.setTrace_kept
    | with_reducible apply State.traceAfter_kept
    | with_reducible apply State.trigger_kept
    | with_reducible apply Kept.ite
    | with_reducible apply KeptQ.ite
    | (split <;> (rename_i heq; refine Kept.use (s := z) (KeptQ.at heq ?_) (fun h => ?_)))
    | split
    | with_reducible apply KeptQ.pair
    | with_reducible apply KeptQ.snd

/-! ### Bus -/

theorem State.putAccess_kept {z s : State} (h : Kept z s) (a1 : Nat) (a2 : Field) (a3 : Access) : Kept z (State.putAccess s a1 a2 a3) := by
  unfold State.putAccess
  repeat' first
    | with_reducible assumption
    | ((try lift_lets); intro x; clear_value (e : x = _); refine Kept.use (s := z) (x := x) (Kept.via e ?_) (fun h => ?_))
    | ((try lift_lets); intro x; clear_value x)
    | with_reducible apply State.setF_kept
    | with_reducible apply Kept.ite
    | split

theorem State.putFields_kept {z s : State} (h : Kept z s) (v : Nat) (skip : List Field) (l : List (Field × Access)) :
    Kept z (s.putFields v skip l) := by
  induction l generalizing s with
  | nil => exact h
  | cons x r ih => exact ih (Kept.ite h (State.putAccess_kept h _ _ _))

theorem State.put_kept {z s : State} (h : Kept z s) (a1 : Reg) (a2 : Nat) (a3 : List Field) : Kept z (State.put s a1 a2 a3) := by
  unfold State.put
  repeat' first
    | with_reducible assumption
    | with_reducible apply State.putFields_kept

theorem State.putIf_kept {z s : State} (h : Kept z s) (a1 : Reg) (a2 : Nat) (a3 : Bool) (a4 : Field) : Kept z (State.putIf s a1 a2 a3 a4) := by
  unfold State.putIf
  repeat' first
    | with_reducible assumption
    | with_reducible apply State.put_kept
    | with_reducible apply State.flam_kept
    | with_reducible apply Kept.ite

theorem State.writeClk_kept {z s : State} (h : Kept z s) (a1 : Reader) (a2 : Reg) (a3 : Nat) : Kept z (State.writeClk s a1 a2 a3) := by
  unfold State.writeClk
  repeat' first
    | with_reducible assumption
    | ((try lift_lets); intro x; clear_value (e : x = _); refine Kept.use (s := z) (x := x) (Kept.via e ?_) (fun h => ?_))
    | ((try lift_lets); intro x; clear_value x)
    | with_reducible apply State.setF_kept
    | with_reducible apply State.adpllOn_kept
    | with_reducible apply after_kept
    | with_reducible apply execAdpllDisable_kept
    | with_reducible apply State.put_kept
    | with_reducible apply execMdllEnable_kept
    | with_reducible apply State.setMdll_kept
    | with_reducible apply State.setFs_kept
    | with_reducible apply execPixfWrite_kept
    | with_reducible apply Kept.ite
    | split

theorem State.writeTime_kept {z s : State} (h : Kept z s) (a1 : Reg) (a2 : Nat) : Kept z (State.writeTime s a1 a2) := by
  unfold State.writeTime
  repeat' first
    | with_reducible assumption
    | ((try lift_lets); intro x; clear_value (e : x = _); refine Kept.use (s := z) (x := x) (Kept.via e ?_) (fun h => ?_))
    | ((try lift_lets); intro x; clear_value x)
    | with_reducible apply State.put_kept
    | with_reducible apply State.armSnare_kept
    | with_reducible apply State.disarmSnare_kept
    | with_reducible apply Kept.ite
    | split

theorem State.writeWeb_kept {z s : State} (h : Kept z s) (a1 : Reg) (a2 : Nat) : Kept z (State.writeWeb s a1 a2) := by
  unfold State.writeWeb
  repeat' first
    | with_reducible assumption
    | ((try lift_lets); intro x; clear_value (e : x = _); refine Kept.use (s := z) (x := x) (Kept.via e ?_) (fun h => ?_))
    | ((try lift_lets); intro x; clear_value x)
    | with_reducible apply State.flam_kept
    | with_reducible apply State.put_kept
    | with_reducible apply State.observerOn_kept
    | with_reducible apply after_kept
    | with_reducible apply execWebSwitch_kept
    | with_reducible apply execSourceEnable_kept
    | with_reducible apply execRatioCancel_kept
    | with_reducible apply execRatioSchedule_kept
    | with_reducible apply State.putIf_kept
    | with_reducible apply Kept.ite
    | split

theorem State.startDma_kept {z s : State} (h : Kept z s) (a1 : Fin 16) : Kept z (State.startDma s a1) := by
  unfold State.startDma
  repeat' first
    | with_reducible assumption
    | with_reducible apply after_kept
    | with_reducible apply execDmaStart_kept

theorem State.abortWrite_kept {z s : State} (h : Kept z s) (a1 : Fin 16) : Kept z (State.abortWrite s a1) := by
  unfold State.abortWrite
  repeat' first
    | with_reducible assumption
    | ((try lift_lets); intro x; clear_value (e : x = _); refine Kept.use (s := z) (x := x) (Kept.via e ?_) (fun h => ?_))
    | ((try lift_lets); intro x; clear_value x)
    | with_reducible apply after_kept
    | with_reducible apply execDmaAbort_kept
    | (simp only [Kept.mk2_iff])
    | (simp only [Kept.mk_iff])

theorem State.writeDma_kept {z s : State} (h : Kept z s) (a1 : Reg) (a2 : Nat) : Kept z (State.writeDma s a1 a2) := by
  unfold State.writeDma
  repeat' first
    | with_reducible assumption
    | ((try lift_lets); intro x; clear_value (e : x = _); refine Kept.use (s := z) (x := x) (Kept.via e ?_) (fun h => ?_))
    | ((try lift_lets); intro x; clear_value x)
    | with_reducible apply State.put_kept
    | with_reducible apply State.startDma_kept
    | with_reducible apply State.abortWrite_kept
    | with_reducible apply Kept.ite
    | split

theorem State.writeFeed_kept {z s : State} (h : Kept z s) (a1 : Reg) (a2 : Nat) : Kept z (State.writeFeed s a1 a2) := by
  unfold State.writeFeed
  repeat' first
    | with_reducible assumption
    | ((try lift_lets); intro x; clear_value (e : x = _); refine Kept.use (s := z) (x := x) (Kept.via e ?_) (fun h => ?_))
    | ((try lift_lets); intro x; clear_value x)
    | with_reducible apply State.setF_kept
    | with_reducible apply State.put_kept
    | with_reducible apply State.ringTail_kept
    | with_reducible apply Kept.ite
    | split

theorem State.screenCommand_kept {z s : State} (h : Kept z s) (a1 : Fin 8) : Kept z (State.screenCommand s a1) := by
  unfold State.screenCommand
  repeat' first
    | with_reducible assumption
    | ((try lift_lets); intro x; clear_value (e : x = _); refine Kept.use (s := z) (x := x) (Kept.via e ?_) (fun h => ?_))
    | ((try lift_lets); intro x; clear_value x)
    | with_reducible apply after_kept
    | with_reducible apply execTableLoad_kept
    | with_reducible apply execTableCopy_kept
    | with_reducible apply execTableMark_kept
    | with_reducible apply execTableClear_kept
    | with_reducible apply execTableSwap_kept
    | with_reducible apply State.tableErr_kept
    | split

theorem State.writeScr_kept {z s : State} (h : Kept z s) (a1 : Reg) (a2 : Nat) : Kept z (State.writeScr s a1 a2) := by
  unfold State.writeScr
  repeat' first
    | with_reducible assumption
    | ((try lift_lets); intro x; clear_value (e : x = _); refine Kept.use (s := z) (x := x) (Kept.via e ?_) (fun h => ?_))
    | ((try lift_lets); intro x; clear_value x)
    | with_reducible apply State.flam_kept
    | with_reducible apply State.put_kept
    | with_reducible apply after_kept
    | with_reducible apply execLeadWrite_kept
    | with_reducible apply State.screenCommand_kept
    | with_reducible apply execHidingEdit_kept
    | with_reducible apply Kept.ite
    | split

theorem State.waveCommand_kept {z s : State} (h : Kept z s) (a1 : Fin 8) : Kept z (State.waveCommand s a1) := by
  unfold State.waveCommand
  repeat' first
    | with_reducible assumption
    | with_reducible apply after_kept
    | with_reducible apply execWaveLoad_kept
    | with_reducible apply execWaveClear_kept
    | with_reducible apply execWaveSwap_kept
    | with_reducible apply State.waveErr_kept
    | split

theorem State.writeInk_kept {z s : State} (h : Kept z s) (a1 : Reg) (a2 : Nat) : Kept z (State.writeInk s a1 a2) := by
  unfold State.writeInk
  repeat' first
    | with_reducible assumption
    | ((try lift_lets); intro x; clear_value (e : x = _); refine Kept.use (s := z) (x := x) (Kept.via e ?_) (fun h => ?_))
    | ((try lift_lets); intro x; clear_value x)
    | with_reducible apply State.put_kept
    | with_reducible apply after_kept
    | with_reducible apply execSidebandGo_kept
    | with_reducible apply State.putIf_kept
    | with_reducible apply State.waveCommand_kept
    | with_reducible apply Kept.ite
    | split

theorem State.zoneEnable_kept {z s : State} (h : Kept z s) (a1 : Nat) : Kept z (State.zoneEnable s a1) := by
  unfold State.zoneEnable
  repeat' first
    | with_reducible assumption
    | with_reducible apply State.fuserOff_kept
    | with_reducible apply State.setF_kept
    | with_reducible apply State.setFs_kept
    | with_reducible apply Kept.ite

theorem State.writeEps_kept {z s : State} (h : Kept z s) (a1 : Reg) (a2 : Nat) : Kept z (State.writeEps s a1 a2) := by
  unfold State.writeEps
  repeat' first
    | with_reducible assumption
    | ((try lift_lets); intro x; clear_value (e : x = _); refine Kept.use (s := z) (x := x) (Kept.via e ?_) (fun h => ?_))
    | ((try lift_lets); intro x; clear_value x)
    | with_reducible apply State.putIf_kept
    | with_reducible apply State.keepalives_kept
    | with_reducible apply State.zoneEnable_kept
    | with_reducible apply State.put_kept
    | with_reducible apply State.hvLift_kept
    | with_reducible apply State.sendTargets_kept
    | with_reducible apply Kept.ite
    | split

theorem State.writeChg_kept {z s : State} (h : Kept z s) (a1 : Reg) (a2 : Nat) : Kept z (State.writeChg s a1 a2) := by
  unfold State.writeChg
  repeat' first
    | with_reducible assumption
    | ((try lift_lets); intro x; clear_value (e : x = _); refine Kept.use (s := z) (x := x) (Kept.via e ?_) (fun h => ?_))
    | ((try lift_lets); intro x; clear_value x)
    | with_reducible apply State.put_kept
    | with_reducible apply after_kept
    | with_reducible apply execCsQueue_kept
    | with_reducible apply execCsCancel_kept
    | with_reducible apply State.csReject_kept
    | with_reducible apply Kept.ite
    | split

theorem State.writeMlt_kept {z s : State} (h : Kept z s) (a1 : Reg) (a2 : Nat) : Kept z (State.writeMlt s a1 a2) := by
  unfold State.writeMlt
  repeat' first
    | with_reducible assumption
    | ((try lift_lets); intro x; clear_value (e : x = _); refine Kept.use (s := z) (x := x) (Kept.via e ?_) (fun h => ?_))
    | ((try lift_lets); intro x; clear_value x)
    | with_reducible apply State.put_kept
    | with_reducible apply after_kept
    | with_reducible apply execRoleAssign_kept
    | with_reducible apply execRoleRelease_kept
    | with_reducible apply State.assignDone_kept
    | with_reducible apply execHostSend_kept
    | with_reducible apply execHostRxPop_kept
    | with_reducible apply execHostHalt_kept
    | with_reducible apply Kept.ite
    | split

theorem State.axTableCommand_kept {z s : State} (h : Kept z s)  : Kept z (State.axTableCommand s) := by
  unfold State.axTableCommand
  repeat' first
    | with_reducible assumption
    | ((try lift_lets); intro x; clear_value (e : x = _); refine Kept.use (s := z) (x := x) (Kept.via e ?_) (fun h => ?_))
    | ((try lift_lets); intro x; clear_value x)
    | with_reducible apply after_kept
    | with_reducible apply execAxsTableLoad_kept
    | with_reducible apply execAxsTableClear_kept
    | with_reducible apply execAxsTableSwap_kept
    | with_reducible apply State.axTableErr_kept
    | split

theorem State.putWhileOff_kept {z s : State} (h : Kept z s) (a1 : Reg) (a2 : Nat) (a3 : Field) (a4 : Field) (a5 : State → State) (a6 : State → State) (hg5 : ∀ s, Kept z s → Kept z (a5 s)) (hg6 : ∀ s, Kept z s → Kept z (a6 s)) : Kept z (State.putWhileOff s a1 a2 a3 a4 a5 a6) := by
  unfold State.putWhileOff
  repeat' first
    | with_reducible assumption
    | ((try lift_lets); intro x; clear_value (e : x = _); refine Kept.use (s := z) (x := x) (Kept.via e ?_) (fun h => ?_))
    | ((try lift_lets); intro x; clear_value x)
    | with_reducible apply State.flam_kept
    | with_reducible apply State.put_kept
    | with_reducible apply hg5
    | with_reducible apply hg6
    | with_reducible apply Kept.ite
    | with_reducible apply KeptP.ite
    | (split <;> (rename_i heq; refine Kept.use (s := z) (KeptP.at heq ?_) (fun h => ?_)))
    | with_reducible apply KeptP.pair
    | with_reducible apply KeptP.fst

theorem State.writeAxis_kept {z s : State} (h : Kept z s) (a1 : Reg) (a2 : Nat) : Kept z (State.writeAxis s a1 a2) := by
  unfold State.writeAxis
  repeat' first
    | with_reducible assumption
    | ((try lift_lets); intro x; clear_value (e : x = _); refine Kept.use (s := z) (x := x) (Kept.via e ?_) (fun h => ?_))
    | ((try lift_lets); intro x; clear_value x)
    | with_reducible apply State.putIf_kept
    | with_reducible apply after_kept
    | with_reducible apply execAxisEnable_kept
    | with_reducible apply State.axDisable_kept
    | with_reducible apply execAxisSwitch_kept
    | with_reducible apply State.put_kept
    | with_reducible apply State.axCommand_kept
    | with_reducible apply execRatioCancel_kept
    | with_reducible apply execRatioSchedule_kept
    | with_reducible apply Kept.ite
    | split

theorem State.writeAxs_kept {z s : State} (h : Kept z s) (a1 : Reg) (a2 : Nat) : Kept z (State.writeAxs s a1 a2) := by
  unfold State.writeAxs
  repeat' first
    | with_reducible assumption
    | ((try lift_lets); intro x; clear_value (e : x = _); refine Kept.use (s := z) (x := x) (Kept.via e ?_) (fun h => ?_))
    | ((try lift_lets); intro x; clear_value x)
    | with_reducible apply State.put_kept
    | with_reducible apply State.axTableCommand_kept
    | with_reducible apply after_kept
    | with_reducible apply execLoopTimerEnable_kept
    | with_reducible apply State.timerOff_kept
    | with_reducible apply State.flam_kept
    | with_reducible apply State.setF_kept
    | with_reducible apply State.putIf_kept
    | with_reducible apply execTraceArm_kept
    | with_reducible apply execTraceForce_kept
    | with_reducible apply State.stepOff_kept
    | with_reducible apply State.stepOn_kept
    | with_reducible apply State.writeAxis_kept
    | with_reducible apply Kept.ite
    | split

theorem State.writeMot_kept {z s : State} (h : Kept z s) (a1 : Reg) (a2 : Nat) : Kept z (State.writeMot s a1 a2) := by
  unfold State.writeMot
  repeat' first
    | with_reducible assumption
    | ((try lift_lets); intro x; clear_value (e : x = _); refine Kept.use (s := z) (x := x) (Kept.via e ?_) (fun h => ?_))
    | ((try lift_lets); intro x; clear_value x)
    | with_reducible apply State.putIf_kept
    | with_reducible apply State.chopperFitted_kept
    | with_reducible apply State.busWritten_kept
    | with_reducible apply State.put_kept
    | with_reducible apply after_kept
    | with_reducible apply execBrkFaultClear_kept
    | with_reducible apply execBusOvClear_kept
    | with_reducible refine State.putWhileOff_kept ?_ _ _ _ _ _ _ (fun s h => ?_) (fun s h => ?_)
    | with_reducible apply State.motorOff_kept
    | with_reducible apply execMotorEnable_kept
    | with_reducible apply Kept.ite
    | split

theorem State.writeHk_kept {z s : State} (h : Kept z s) (a1 : Reg) (a2 : Nat) : Kept z (State.writeHk s a1 a2) := by
  unfold State.writeHk
  repeat' first
    | with_reducible assumption
    | ((try lift_lets); intro x; clear_value (e : x = _); refine Kept.use (s := z) (x := x) (Kept.via e ?_) (fun h => ?_))
    | ((try lift_lets); intro x; clear_value x)
    | with_reducible apply State.holdDemand_kept
    | with_reducible apply State.put_kept
    | with_reducible apply after_kept
    | with_reducible apply execHkTest_kept
    | with_reducible refine State.putWhileOff_kept ?_ _ _ _ _ _ _ (fun s h => ?_) (fun s h => ?_)
    | with_reducible apply State.hkOff_kept
    | with_reducible apply State.hkOn_kept
    | with_reducible apply State.putIf_kept
    | with_reducible apply execHkRequal_kept
    | with_reducible apply Kept.ite
    | split

theorem State.writeEvt_kept {z s : State} (h : Kept z s) (a1 : Reg) (a2 : Nat) (a3 : Nat) : Kept z (State.writeEvt s a1 a2 a3) := by
  unfold State.writeEvt
  repeat' first
    | with_reducible assumption
    | ((try lift_lets); intro x; clear_value (e : x = _); refine Kept.use (s := z) (x := x) (Kept.via e ?_) (fun h => ?_))
    | ((try lift_lets); intro x; clear_value x)
    | with_reducible apply State.keepalives_kept
    | with_reducible apply State.put_kept
    | with_reducible apply after_kept
    | with_reducible apply execHostRaise_kept
    | with_reducible apply execPendClear_kept
    | with_reducible apply execEventConfigWrite_kept
    | with_reducible apply Kept.ite
    | split

theorem State.writeCnt_kept {z s : State} (h : Kept z s) (a1 : Reg) (a2 : Nat) : Kept z (State.writeCnt s a1 a2) := by
  unfold State.writeCnt
  repeat' first
    | with_reducible assumption
    | ((try lift_lets); intro x; clear_value (e : x = _); refine Kept.use (s := z) (x := x) (Kept.via e ?_) (fun h => ?_))
    | ((try lift_lets); intro x; clear_value x)
    | with_reducible apply State.put_kept
    | with_reducible apply State.setFreeze_kept
    | with_reducible apply State.snapshot_kept
    | with_reducible apply State.cntConfig_kept
    | with_reducible apply State.writeCounter_kept
    | with_reducible apply State.stageHigh_kept
    | with_reducible apply State.putIf_kept
    | with_reducible apply Kept.ite
    | split

theorem State.writeMbx_kept {z s : State} (h : Kept z s) (a1 : Reg) (a2 : Nat) : Kept z (State.writeMbx s a1 a2) := by
  unfold State.writeMbx
  repeat' first
    | with_reducible assumption
    | with_reducible apply State.flam_kept
    | with_reducible apply State.mailboxGo_kept
    | with_reducible apply State.setF_kept
    | with_reducible apply State.put_kept
    | with_reducible apply Kept.ite
    | with_reducible apply KeptP.ite
    | (split <;> (rename_i heq; refine Kept.use (s := z) (KeptP.at heq ?_) (fun h => ?_)))
    | split
    | with_reducible apply KeptP.pair
    | with_reducible apply KeptP.fst

theorem State.otpGo_kept {z s : State} (h : Kept z s) (a1 : Nat) : Kept z (State.otpGo s a1) := by
  unfold State.otpGo
  repeat' first
    | with_reducible assumption
    | ((try lift_lets); intro x; clear_value (e : x = _); refine Kept.use (s := z) (x := x) (Kept.via e ?_) (fun h => ?_))
    | ((try lift_lets); intro x; clear_value x)
    | with_reducible apply after_kept
    | with_reducible apply execOtpRead_kept
    | with_reducible apply execOtpProg_kept
    | with_reducible apply State.dropKey_kept
    | with_reducible apply State.otpCmd_kept
    | with_reducible apply Kept.ite
    | split

theorem State.writeOtp_kept {z s : State} (h : Kept z s) (a1 : Reg) (a2 : Nat) : Kept z (State.writeOtp s a1 a2) := by
  unfold State.writeOtp
  repeat' first
    | with_reducible assumption
    | with_reducible apply State.otpGo_kept
    | with_reducible apply State.dropKey_kept
    | with_reducible apply State.put_kept
    | with_reducible apply after_kept
    | with_reducible apply execOtpKeyWrite_kept
    | with_reducible apply Kept.ite
    | split

theorem State.writePwr_kept {z s : State} (h : Kept z s) (a1 : Reg) (a2 : Nat) : Kept z (State.writePwr s a1 a2) := by
  unfold State.writePwr
  repeat' first
    | with_reducible assumption
    | with_reducible apply after_kept
    | with_reducible apply execStandbyRequest_kept
    | with_reducible apply execDomainRequest_kept
    | with_reducible apply State.setF_kept
    | with_reducible apply State.put_kept
    | with_reducible apply Kept.ite
    | split

theorem State.writeBlock_kept {z s : State} (h : Kept z s) (a1 : Reader) (a2 : Reg) (a3 : Nat) (a4 : Nat) (a5 : Nat) : Kept z (State.writeBlock s a1 a2 a3 a4 a5) := by
  unfold State.writeBlock
  repeat' first
    | with_reducible assumption
    | with_reducible apply State.writeClk_kept
    | with_reducible apply State.writeTime_kept
    | with_reducible apply State.writeWeb_kept
    | with_reducible apply State.writeDma_kept
    | with_reducible apply State.writeFeed_kept
    | with_reducible apply State.writeScr_kept
    | with_reducible apply State.writeInk_kept
    | with_reducible apply State.writeEps_kept
    | with_reducible apply State.writeChg_kept
    | with_reducible apply State.writeMlt_kept
    | with_reducible apply State.writeAxs_kept
    | with_reducible apply State.writeMot_kept
    | with_reducible apply State.writeHk_kept
    | with_reducible apply State.writeEvt_kept
    | with_reducible apply State.writeCnt_kept
    | with_reducible apply State.writeMbx_kept
    | with_reducible apply State.writeOtp_kept
    | with_reducible apply State.writePwr_kept
    | with_reducible apply State.put_kept
    | with_reducible apply Kept.ite
    | with_reducible apply KeptP.ite
    | (split <;> (rename_i heq; refine Kept.use (s := z) (KeptP.at heq ?_) (fun h => ?_)))
    | split
    | with_reducible apply KeptP.pair
    | with_reducible apply KeptP.fst

theorem State.writeReg_kept {z s : State} (h : Kept z s) (a1 : Reader) (a2 : Nat) (a3 : Nat) (a4 : Nat) : Kept z (State.writeReg s a1 a2 a3 a4) := by
  unfold State.writeReg
  repeat' first
    | with_reducible assumption
    | ((try lift_lets); intro x; clear_value (e : x = _); refine Kept.use (s := z) (x := x) (Kept.via e ?_) (fun h => ?_))
    | ((try lift_lets); intro x; clear_value x)
    | with_reducible apply State.writeBlock_kept
    | with_reducible apply State.flam_kept
    | with_reducible apply Kept.ite
    | split

theorem State.writeMsm_kept {z s : State} (h : Kept z s) (a : Nat) (v : Word) : Kept z (s.writeMsm a v) :=
  Kept.msmP h (tputs_twf _ _ _ _)

theorem State.writeMalletMem_kept {z s : State} (h : Kept z s) (o : Nat) (v : Word) : Kept z (s.writeMalletMem o v) := by
  unfold State.writeMalletMem
  refine Kept.ite h (Kept.ite (State.flam_kept h _ _) (Kept.ite (Kept.imem h (tput_twf (fun _ => 0) _ _ _)) ?_))
  exact Kept.dmemP h (tputs_twf _ _ _ _)

theorem State.writeHigh_kept {z s : State} (h : Kept z s) (a1 : Nat) (a2 : Word) : Kept z (State.writeHigh s a1 a2) := by
  unfold State.writeHigh
  repeat' first
    | with_reducible assumption
    | with_reducible apply State.writeMsm_kept
    | with_reducible apply State.writeMalletMem_kept
    | with_reducible apply Kept.ite

theorem State.writeMsix_kept {z s : State} (h : Kept z s) (a1 : Nat) (a2 : Nat) : Kept z (State.writeMsix s a1 a2) := by
  unfold State.writeMsix
  repeat' first
    | with_reducible assumption
    | ((try lift_lets); intro x; clear_value (e : x = _); refine Kept.use (s := z) (x := x) (Kept.via e ?_) (fun h => ?_))
    | ((try lift_lets); intro x; clear_value x)
    | with_reducible apply State.sendMsix_kept
    | with_reducible apply Kept.ite
    | (simp only [Kept.mk2_iff])
    | (simp only [Kept.mk_iff])

theorem State.writeBar4_kept {z s : State} (h : Kept z s) (a1 : Reader) (a2 : Nat) (a3 : Nat) (a4 : Nat) : Kept z (State.writeBar4 s a1 a2 a3 a4) := by
  unfold State.writeBar4
  repeat' first
    | with_reducible assumption
    | with_reducible apply State.flam_kept
    | with_reducible apply State.writeReg_kept
    | with_reducible apply State.writeMsix_kept
    | with_reducible apply Kept.ite
    | split

theorem State.busWrite_kept {z s : State} (h : Kept z s) (a1 : Reader) (a2 : Bar) (a3 : Nat) (a4 : Nat) (a5 : Word) (a6 : Word) : Kept z (State.busWrite s a1 a2 a3 a4 a5 a6) := by
  unfold State.busWrite
  repeat' first
    | with_reducible assumption
    | with_reducible apply State.flam_kept
    | with_reducible apply State.writeHigh_kept
    | with_reducible apply State.writeReg_kept
    | with_reducible apply State.writeBar4_kept
    | with_reducible apply Kept.ite
    | split

theorem execRegisterWrite_kept {z s : State} (h : Kept z s) (a1 : Reader) (a2 : Bar) (a3 : BitVec 26) (a4 : BitVec 13) (a5 : BitVec 32) (a6 : BitVec 32) : KeptOut z (execRegisterWrite a1 a2 a3 a4 a5 a6 s) := by
  unfold execRegisterWrite
  repeat' first
    | with_reducible assumption
    | with_reducible apply Kept.next
    | with_reducible apply State.busWrite_kept

/-! ### Operands -/

theorem State.memTransient_kept {z s : State} (h : Kept z s) (a1 : Nat) (a2 : Bool) : Kept z (State.memTransient s a1 a2) := by
  unfold State.memTransient
  repeat' first
    | with_reducible assumption
    | ((try lift_lets); intro x; clear_value (e : x = _); refine Kept.use (s := z) (x := x) (Kept.via e ?_) (fun h => ?_))
    | ((try lift_lets); intro x; clear_value x)
    | with_reducible apply State.logRetry_kept
    | with_reducible apply State.addF_kept
    | with_reducible apply State.setF_kept
    | with_reducible apply State.raise_kept
    | with_reducible apply Kept.ite

theorem State.readCheck_kept {z s : State} (h : Kept z s) (a1 : Nat) (a2 : Bool) (a3 : List Nat) (a4 : MemEcc) : KeptP z (State.readCheck s a1 a2 a3 a4) := by
  unfold State.readCheck
  repeat' first
    | with_reducible assumption
    | ((try lift_lets); intro x; clear_value (e : x = _); refine Kept.use (s := z) (x := x) (Kept.via e ?_) (fun h => ?_))
    | ((try lift_lets); intro x; clear_value x)
    | with_reducible apply State.memTransient_kept
    | with_reducible apply State.logRetry_kept
    | with_reducible apply Kept.ite
    | with_reducible apply KeptP.ite
    | (split <;> (rename_i heq; refine Kept.use (s := z) (KeptP.at heq ?_) (fun h => ?_)))
    | split
    | (simp only [Kept.mk2_iff])
    | (simp only [Kept.mk_iff])
    | with_reducible apply KeptP.pair
    | with_reducible apply KeptP.fst

theorem State.fetchCheck_kept {z s : State} (h : Kept z s) (a1 : Nat) (a2 : MemEcc) : KeptP z (State.fetchCheck s a1 a2) := by
  unfold State.fetchCheck
  repeat' first
    | with_reducible assumption
    | with_reducible apply State.memTransient_kept
    | with_reducible apply State.logRetry_kept
    | with_reducible apply Kept.ite
    | with_reducible apply KeptP.ite
    | (split <;> (rename_i heq; refine Kept.use (s := z) (KeptP.at heq ?_) (fun h => ?_)))
    | split
    | with_reducible apply KeptP.pair
    | with_reducible apply KeptP.fst

theorem State.instr_kept {z s : State} (h : Kept z s) (a1 : Fetch) (a2 : Nat) (a3 : Nat → State → State) (hg3 : ∀ i0 s, Kept z s → Kept z (a3 i0 s)) : KeptOut z (State.instr s a1 a2 a3) := by
  unfold State.instr
  repeat' first
    | with_reducible assumption
    | ((try lift_lets); intro x; clear_value (e : x = _); refine Kept.use (s := z) (x := x) (Kept.via e ?_) (fun h => ?_))
    | ((try lift_lets); intro x; clear_value x)
    | with_reducible apply Kept.next
    | with_reducible apply KeptOut.ite
    | with_reducible apply State.fetchCheck_kept
    | with_reducible apply State.advanceTo_kept
    | with_reducible apply State.setMallet_kept
    | with_reducible apply State.halt_kept
    | with_reducible apply hg3
    | with_reducible apply Kept.ite
    | with_reducible apply KeptP.ite
    | (split <;> (rename_i heq; refine Kept.use (s := z) (KeptP.at heq ?_) (fun h => ?_)))
    | split
    | with_reducible apply KeptP.pair
    | with_reducible apply KeptP.fst

theorem State.pure__kept {z s : State} (h : Kept z s) (a1 : Fetch) (a2 : Nat) (a3 : Mallet → Mallet) : KeptOut z (State.pure_ s a1 a2 a3) := by
  unfold State.pure_
  repeat' first
    | with_reducible assumption
    | with_reducible apply Kept.next
    | with_reducible refine State.instr_kept ?_ _ _ _ (fun i s h => ?_)
    | with_reducible apply State.mapMallet_kept

theorem State.legal_kept {z s : State} (h : Kept z s) (a1 : Fetch) (a2 : Nat) (a3 : Bool) (a4 : Nat → State → State) (hg4 : ∀ i0 s, Kept z s → Kept z (a4 i0 s)) : KeptOut z (State.legal s a1 a2 a3 a4) := by
  unfold State.legal
  repeat' first
    | with_reducible assumption
    | with_reducible apply Kept.next
    | with_reducible apply KeptOut.ite
    | with_reducible refine State.instr_kept ?_ _ _ _ (fun i s h => ?_)
    | with_reducible apply State.exception_kept
    | with_reducible apply hg4
    | with_reducible apply Kept.ite
    | with_reducible apply KeptP.ite
    | (split <;> (rename_i heq; refine Kept.use (s := z) (KeptP.at heq ?_) (fun h => ?_)))
    | with_reducible apply KeptP.pair
    | with_reducible apply KeptP.fst

theorem State.dmemWrite_kept {z s : State} (h : Kept z s) (m a : Nat) (bs : List Byte) : Kept z (s.dmemWrite m a bs) :=
  Kept.dmemP h (tputs_twf _ _ _ _)

theorem State.withDmem_kept {z s : State} (h : Kept z s) (a1 : Nat) (a2 : Nat) (a3 : Nat) (a4 : Nat) (a5 : Nat) (a6 : List Nat) (a7 : MemEcc) (a8 : State → State) (hg8 : ∀ s, Kept z s → Kept z (a8 s)) : Kept z (State.withDmem s a1 a2 a3 a4 a5 a6 a7 a8) := by
  unfold State.withDmem
  repeat' first
    | with_reducible assumption
    | with_reducible apply State.exception_kept
    | with_reducible apply State.readCheck_kept
    | with_reducible apply hg8
    | (split <;> (rename_i heq; refine Kept.use (s := z) (KeptP.at heq ?_) (fun h => ?_)))
    | split
    | with_reducible apply KeptP.pair
    | with_reducible apply KeptP.fst

/-! ### MalletAlu -/

theorem execAdd_kept {z s : State} (h : Kept z s) (a1 : Fetch) (a2 : BitVec 4) (a3 : BitVec 4) (a4 : BitVec 4) : KeptOut z (execAdd a1 a2 a3 a4 s) := by
  unfold execAdd
  repeat' first
    | with_reducible assumption
    | with_reducible apply Kept.next
    | with_reducible apply State.pure__kept

theorem execAddC_kept {z s : State} (h : Kept z s) (a1 : Fetch) (a2 : BitVec 4) (a3 : BitVec 4) (a4 : BitVec 4) : KeptOut z (execAddC a1 a2 a3 a4 s) := by
  unfold execAddC
  repeat' first
    | with_reducible assumption
    | with_reducible apply Kept.next
    | with_reducible apply State.pure__kept

theorem execSub_kept {z s : State} (h : Kept z s) (a1 : Fetch) (a2 : BitVec 4) (a3 : BitVec 4) (a4 : BitVec 4) : KeptOut z (execSub a1 a2 a3 a4 s) := by
  unfold execSub
  repeat' first
    | with_reducible assumption
    | with_reducible apply Kept.next
    | with_reducible apply State.pure__kept

theorem execSubC_kept {z s : State} (h : Kept z s) (a1 : Fetch) (a2 : BitVec 4) (a3 : BitVec 4) (a4 : BitVec 4) : KeptOut z (execSubC a1 a2 a3 a4 s) := by
  unfold execSubC
  repeat' first
    | with_reducible assumption
    | with_reducible apply Kept.next
    | with_reducible apply State.pure__kept

theorem execAnd_kept {z s : State} (h : Kept z s) (a1 : Fetch) (a2 : BitVec 4) (a3 : BitVec 4) (a4 : BitVec 4) : KeptOut z (execAnd a1 a2 a3 a4 s) := by
  unfold execAnd
  repeat' first
    | with_reducible assumption
    | with_reducible apply Kept.next
    | with_reducible apply State.pure__kept

theorem execOr_kept {z s : State} (h : Kept z s) (a1 : Fetch) (a2 : BitVec 4) (a3 : BitVec 4) (a4 : BitVec 4) : KeptOut z (execOr a1 a2 a3 a4 s) := by
  unfold execOr
  repeat' first
    | with_reducible assumption
    | with_reducible apply Kept.next
    | with_reducible apply State.pure__kept

theorem execXor_kept {z s : State} (h : Kept z s) (a1 : Fetch) (a2 : BitVec 4) (a3 : BitVec 4) (a4 : BitVec 4) : KeptOut z (execXor a1 a2 a3 a4 s) := by
  unfold execXor
  repeat' first
    | with_reducible assumption
    | with_reducible apply Kept.next
    | with_reducible apply State.pure__kept

theorem execMov_kept {z s : State} (h : Kept z s) (a1 : Fetch) (a2 : BitVec 4) (a3 : BitVec 4) : KeptOut z (execMov a1 a2 a3 s) := by
  unfold execMov
  repeat' first
    | with_reducible assumption
    | with_reducible apply Kept.next
    | with_reducible apply State.pure__kept

theorem execShl_kept {z s : State} (h : Kept z s) (a1 : Fetch) (a2 : BitVec 4) (a3 : BitVec 4) (a4 : BitVec 4) : KeptOut z (execShl a1 a2 a3 a4 s) := by
  unfold execShl
  repeat' first
    | with_reducible assumption
    | with_reducible apply Kept.next
    | with_reducible apply State.pure__kept

theorem execShr_kept {z s : State} (h : Kept z s) (a1 : Fetch) (a2 : BitVec 4) (a3 : BitVec 4) (a4 : BitVec 4) : KeptOut z (execShr a1 a2 a3 a4 s) := by
  unfold execShr
  repeat' first
    | with_reducible assumption
    | with_reducible apply Kept.next
    | with_reducible apply State.pure__kept

theorem execSar_kept {z s : State} (h : Kept z s) (a1 : Fetch) (a2 : BitVec 4) (a3 : BitVec 4) (a4 : BitVec 4) : KeptOut z (execSar a1 a2 a3 a4 s) := by
  unfold execSar
  repeat' first
    | with_reducible assumption
    | with_reducible apply Kept.next
    | with_reducible apply State.pure__kept

theorem execCmp_kept {z s : State} (h : Kept z s) (a1 : Fetch) (a2 : BitVec 4) (a3 : BitVec 4) : KeptOut z (execCmp a1 a2 a3 s) := by
  unfold execCmp
  repeat' first
    | with_reducible assumption
    | with_reducible apply Kept.next
    | with_reducible apply State.pure__kept

theorem execMul_kept {z s : State} (h : Kept z s) (a1 : Fetch) (a2 : BitVec 4) (a3 : BitVec 4) (a4 : BitVec 4) : KeptOut z (execMul a1 a2 a3 a4 s) := by
  unfold execMul
  repeat' first
    | with_reducible assumption
    | with_reducible apply Kept.next
    | with_reducible apply State.pure__kept

theorem execMulW_kept {z s : State} (h : Kept z s) (a1 : Fetch) (a2 : BitVec 4) (a3 : BitVec 4) (a4 : BitVec 4) : KeptOut z (execMulW a1 a2 a3 a4 s) := by
  unfold execMulW
  repeat' first
    | with_reducible assumption
    | with_reducible apply Kept.next
    | with_reducible refine State.legal_kept ?_ _ _ _ _ (fun i s h => ?_)
    | with_reducible apply State.mapMallet_kept

theorem execMulWu_kept {z s : State} (h : Kept z s) (a1 : Fetch) (a2 : BitVec 4) (a3 : BitVec 4) (a4 : BitVec 4) : KeptOut z (execMulWu a1 a2 a3 a4 s) := by
  unfold execMulWu
  repeat' first
    | with_reducible assumption
    | with_reducible apply Kept.next
    | with_reducible refine State.legal_kept ?_ _ _ _ _ (fun i s h => ?_)
    | with_reducible apply State.mapMallet_kept

theorem execAddImm_kept {z s : State} (h : Kept z s) (a1 : Fetch) (a2 : BitVec 4) (a3 : BitVec 4) (a4 : BitVec 18) : KeptOut z (execAddImm a1 a2 a3 a4 s) := by
  unfold execAddImm
  repeat' first
    | with_reducible assumption
    | with_reducible apply Kept.next
    | with_reducible apply State.pure__kept

theorem execAndImm_kept {z s : State} (h : Kept z s) (a1 : Fetch) (a2 : BitVec 4) (a3 : BitVec 4) (a4 : BitVec 18) : KeptOut z (execAndImm a1 a2 a3 a4 s) := by
  unfold execAndImm
  repeat' first
    | with_reducible assumption
    | with_reducible apply Kept.next
    | with_reducible apply State.pure__kept

theorem execOrImm_kept {z s : State} (h : Kept z s) (a1 : Fetch) (a2 : BitVec 4) (a3 : BitVec 4) (a4 : BitVec 18) : KeptOut z (execOrImm a1 a2 a3 a4 s) := by
  unfold execOrImm
  repeat' first
    | with_reducible assumption
    | with_reducible apply Kept.next
    | with_reducible apply State.pure__kept

theorem execXorImm_kept {z s : State} (h : Kept z s) (a1 : Fetch) (a2 : BitVec 4) (a3 : BitVec 4) (a4 : BitVec 18) : KeptOut z (execXorImm a1 a2 a3 a4 s) := by
  unfold execXorImm
  repeat' first
    | with_reducible assumption
    | with_reducible apply Kept.next
    | with_reducible apply State.pure__kept

theorem execShiftImm_kept {z s : State} (h : Kept z s) (a1 : Fetch) (a2 : BitVec 4) (a3 : BitVec 4) (a4 : BitVec 2) (a5 : BitVec 5) : KeptOut z (execShiftImm a1 a2 a3 a4 a5 s) := by
  unfold execShiftImm
  repeat' first
    | with_reducible assumption
    | with_reducible apply Kept.next
    | with_reducible refine State.legal_kept ?_ _ _ _ _ (fun i s h => ?_)
    | with_reducible apply State.mapMallet_kept

theorem execCmpImm_kept {z s : State} (h : Kept z s) (a1 : Fetch) (a2 : BitVec 4) (a3 : BitVec 18) : KeptOut z (execCmpImm a1 a2 a3 s) := by
  unfold execCmpImm
  repeat' first
    | with_reducible assumption
    | with_reducible apply Kept.next
    | with_reducible apply State.pure__kept

theorem execMovi_kept {z s : State} (h : Kept z s) (a1 : Fetch) (a2 : BitVec 4) (a3 : BitVec 18) : KeptOut z (execMovi a1 a2 a3 s) := by
  unfold execMovi
  repeat' first
    | with_reducible assumption
    | with_reducible apply Kept.next
    | with_reducible apply State.pure__kept

theorem execMovhi_kept {z s : State} (h : Kept z s) (a1 : Fetch) (a2 : BitVec 4) (a3 : BitVec 4) (a4 : BitVec 18) : KeptOut z (execMovhi a1 a2 a3 a4 s) := by
  unfold execMovhi
  repeat' first
    | with_reducible assumption
    | with_reducible apply Kept.next
    | with_reducible apply State.pure__kept

/-! ### MalletMem -/

theorem State.load_kept {z s : State} (h : Kept z s) (a1 : Fetch) (a2 : BitVec 4) (a3 : BitVec 4) (a4 : BitVec 18) (a5 : Nat) (a6 : MemEcc) : KeptOut z (State.load s a1 a2 a3 a4 a5 a6) := by
  unfold State.load
  repeat' first
    | with_reducible assumption
    | ((try lift_lets); intro x; clear_value (e : x = _); refine Kept.use (s := z) (x := x) (Kept.via e ?_) (fun h => ?_))
    | ((try lift_lets); intro x; clear_value x)
    | with_reducible apply Kept.next
    | with_reducible refine State.instr_kept ?_ _ _ _ (fun i s h => ?_)
    | with_reducible refine State.withDmem_kept ?_ _ _ _ _ _ _ _ _ (fun s h => ?_)
    | with_reducible apply State.mapMallet_kept

theorem State.storeD_kept {z s : State} (h : Kept z s) (a1 : Fetch) (a2 : BitVec 4) (a3 : BitVec 4) (a4 : BitVec 18) (a5 : Nat) : KeptOut z (State.storeD s a1 a2 a3 a4 a5) := by
  unfold State.storeD
  repeat' first
    | with_reducible assumption
    | ((try lift_lets); intro x; clear_value (e : x = _); refine Kept.use (s := z) (x := x) (Kept.via e ?_) (fun h => ?_))
    | ((try lift_lets); intro x; clear_value x)
    | with_reducible apply Kept.next
    | with_reducible refine State.instr_kept ?_ _ _ _ (fun i s h => ?_)
    | with_reducible apply State.exception_kept
    | with_reducible apply State.dmemWrite_kept
    | split

theorem execLd_kept {z s : State} (h : Kept z s) (a1 : Fetch) (a2 : BitVec 4) (a3 : BitVec 4) (a4 : BitVec 18) (a5 : MemEcc) : KeptOut z (execLd a1 a2 a3 a4 a5 s) := by
  unfold execLd
  repeat' first
    | with_reducible assumption
    | with_reducible apply Kept.next
    | with_reducible apply State.load_kept

theorem execLdH_kept {z s : State} (h : Kept z s) (a1 : Fetch) (a2 : BitVec 4) (a3 : BitVec 4) (a4 : BitVec 18) (a5 : MemEcc) : KeptOut z (execLdH a1 a2 a3 a4 a5 s) := by
  unfold execLdH
  repeat' first
    | with_reducible assumption
    | with_reducible apply Kept.next
    | with_reducible apply State.load_kept

theorem execLdB_kept {z s : State} (h : Kept z s) (a1 : Fetch) (a2 : BitVec 4) (a3 : BitVec 4) (a4 : BitVec 18) (a5 : MemEcc) : KeptOut z (execLdB a1 a2 a3 a4 a5 s) := by
  unfold execLdB
  repeat' first
    | with_reducible assumption
    | with_reducible apply Kept.next
    | with_reducible apply State.load_kept

theorem execSt_kept {z s : State} (h : Kept z s) (a1 : Fetch) (a2 : BitVec 4) (a3 : BitVec 4) (a4 : BitVec 18) : KeptOut z (execSt a1 a2 a3 a4 s) := by
  unfold execSt
  repeat' first
    | with_reducible assumption
    | with_reducible apply Kept.next
    | with_reducible apply State.storeD_kept

theorem execStH_kept {z s : State} (h : Kept z s) (a1 : Fetch) (a2 : BitVec 4) (a3 : BitVec 4) (a4 : BitVec 18) : KeptOut z (execStH a1 a2 a3 a4 s) := by
  unfold execStH
  repeat' first
    | with_reducible assumption
    | with_reducible apply Kept.next
    | with_reducible apply State.storeD_kept

theorem execStB_kept {z s : State} (h : Kept z s) (a1 : Fetch) (a2 : BitVec 4) (a3 : BitVec 4) (a4 : BitVec 18) : KeptOut z (execStB a1 a2 a3 a4 s) := by
  unfold execStB
  repeat' first
    | with_reducible assumption
    | with_reducible apply Kept.next
    | with_reducible apply State.storeD_kept

theorem State.xLoad_kept {z s : State} (h : Kept z s) (a1 : Nat) (a2 : Nat) (a3 : MemEcc) : KeptQ z (State.xLoad s a1 a2 a3) := by
  unfold State.xLoad
  repeat' first
    | with_reducible assumption
    | with_reducible apply State.readCheck_kept
    | with_reducible apply State.readReg_kept
    | with_reducible apply Kept.ite
    | with_reducible apply KeptP.ite
    | with_reducible apply KeptQ.ite
    | (split <;> (rename_i heq; refine Kept.use (s := z) (KeptP.at heq ?_) (fun h => ?_)))
    | (split <;> (rename_i heq; refine Kept.use (s := z) (KeptQ.at heq ?_) (fun h => ?_)))
    | split
    | with_reducible apply KeptP.pair
    | with_reducible apply KeptQ.pair
    | with_reducible apply KeptP.fst
    | with_reducible apply KeptQ.snd

theorem execLdx_kept {z s : State} (h : Kept z s) (a1 : Fetch) (a2 : BitVec 4) (a3 : BitVec 4) (a4 : BitVec 18) (a5 : MemEcc) : KeptOut z (execLdx a1 a2 a3 a4 a5 s) := by
  unfold execLdx
  repeat' first
    | with_reducible assumption
    | ((try lift_lets); intro x; clear_value (e : x = _); refine Kept.use (s := z) (x := x) (Kept.via e ?_) (fun h => ?_))
    | ((try lift_lets); intro x; clear_value x)
    | with_reducible apply Kept.next
    | with_reducible apply KeptOut.ite
    | with_reducible refine State.instr_kept ?_ _ _ _ (fun i s h => ?_)
    | with_reducible apply State.exception_kept
    | with_reducible apply State.draw_kept
    | with_reducible apply State.mapMallet_kept
    | with_reducible apply State.xLoad_kept
    | with_reducible apply Kept.ite
    | with_reducible apply KeptQ.ite
    | (split <;> (rename_i heq; refine Kept.use (s := z) (KeptQ.at heq ?_) (fun h => ?_)))
    | split
    | with_reducible apply KeptQ.pair
    | with_reducible apply KeptQ.snd

theorem State.pushStore_kept {z s : State} (h : Kept z s) (a1 : Nat) (a2 : Nat) (a3 : Word) : Kept z (State.pushStore s a1 a2 a3) := by
  unfold State.pushStore
  repeat' first
    | with_reducible assumption
    | ((try lift_lets); intro x; clear_value (e : x = _); refine Kept.use (s := z) (x := x) (Kept.via e ?_) (fun h => ?_))
    | ((try lift_lets); intro x; clear_value x)
    | with_reducible apply State.mapMallet_kept
    | (simp only [Kept.mk2_iff])
    | (simp only [Kept.mk_iff])

theorem execStx_kept {z s : State} (h : Kept z s) (a1 : Fetch) (a2 : BitVec 4) (a3 : BitVec 4) (a4 : BitVec 18) : KeptOut z (execStx a1 a2 a3 a4 s) := by
  unfold execStx
  repeat' first
    | with_reducible assumption
    | ((try lift_lets); intro x; clear_value (e : x = _); refine Kept.use (s := z) (x := x) (Kept.via e ?_) (fun h => ?_))
    | ((try lift_lets); intro x; clear_value x)
    | with_reducible apply Kept.next
    | with_reducible apply KeptOut.ite
    | with_reducible refine State.instr_kept ?_ _ _ _ (fun i s h => ?_)
    | with_reducible apply State.exception_kept
    | with_reducible apply State.draw_kept
    | with_reducible apply State.mapMallet_kept
    | with_reducible apply State.pushStore_kept
    | with_reducible apply Kept.ite
    | split

theorem State.storeLands_kept {z s : State} (h : Kept z s) (a1 : Fin 36) (a2 : Store) : Kept z (State.storeLands s a1 a2) := by
  unfold State.storeLands
  repeat' first
    | with_reducible assumption
    | with_reducible apply State.writeMsm_kept
    | with_reducible apply State.busWrite_kept
    | with_reducible apply Kept.ite

theorem State.endStall_kept {z s : State} (h : Kept z s) (a1 : Nat) : Kept z (State.endStall s a1) := by
  unfold State.endStall
  repeat' first
    | with_reducible assumption
    | ((try lift_lets); intro x; clear_value (e : x = _); refine Kept.use (s := z) (x := x) (Kept.via e ?_) (fun h => ?_))
    | ((try lift_lets); intro x; clear_value x)
    | with_reducible apply State.setMallet_kept
    | with_reducible apply State.halt_kept
    | with_reducible apply State.pushStore_kept
    | with_reducible apply Kept.ite
    | split

theorem execStoreBufferLeave_kept {z s : State} (h : Kept z s) (a1 : Fin 36) (a2 : BitVec 2) : KeptOut z (execStoreBufferLeave a1 a2 s) := by
  unfold execStoreBufferLeave
  repeat' first
    | with_reducible assumption
    | ((try lift_lets); intro x; clear_value (e : x = _); refine Kept.use (s := z) (x := x) (Kept.via e ?_) (fun h => ?_))
    | ((try lift_lets); intro x; clear_value x)
    | with_reducible apply Kept.next
    | with_reducible apply KeptOut.ite
    | with_reducible apply State.endStall_kept
    | with_reducible apply State.storeLands_kept
    | with_reducible apply State.setMallet_kept
    | with_reducible apply Kept.ite
    | split

theorem execFence_kept {z s : State} (h : Kept z s) (a1 : Fetch) : KeptOut z (execFence a1 s) := by
  unfold execFence
  repeat' first
    | with_reducible assumption
    | with_reducible apply Kept.next
    | with_reducible apply State.pure__kept

theorem execDrain_kept {z s : State} (h : Kept z s) (a1 : Fetch) : KeptOut z (execDrain a1 s) := by
  unfold execDrain
  repeat' first
    | with_reducible assumption
    | with_reducible apply Kept.next
    | with_reducible apply KeptOut.ite
    | with_reducible apply State.pure__kept
    | with_reducible apply Kept.ite

theorem execHalt_kept {z s : State} (h : Kept z s) (a1 : Fetch) : KeptOut z (execHalt a1 s) := by
  unfold execHalt
  repeat' first
    | with_reducible assumption
    | with_reducible apply Kept.next
    | with_reducible apply KeptOut.ite
    | with_reducible refine State.instr_kept ?_ _ _ _ (fun i s h => ?_)
    | with_reducible apply State.halt_kept
    | with_reducible apply State.mapMallet_kept
    | with_reducible apply Kept.ite

/-! ### MalletControl -/

theorem execBr_kept {z s : State} (h : Kept z s) (a1 : Fetch) (a2 : BitVec 4) (a3 : BitVec 22) : KeptOut z (execBr a1 a2 a3 s) := by
  unfold execBr
  repeat' first
    | with_reducible assumption
    | ((try lift_lets); intro x; clear_value (e : x = _); refine Kept.use (s := z) (x := x) (Kept.via e ?_) (fun h => ?_))
    | ((try lift_lets); intro x; clear_value x)
    | with_reducible apply Kept.next
    | with_reducible refine State.instr_kept ?_ _ _ _ (fun i s h => ?_)
    | with_reducible apply State.exception_kept
    | with_reducible apply State.mapMallet_kept
    | split

theorem execCall_kept {z s : State} (h : Kept z s) (a1 : Fetch) (a2 : BitVec 22) : KeptOut z (execCall a1 a2 s) := by
  unfold execCall
  repeat' first
    | with_reducible assumption
    | ((try lift_lets); intro x; clear_value (e : x = _); refine Kept.use (s := z) (x := x) (Kept.via e ?_) (fun h => ?_))
    | ((try lift_lets); intro x; clear_value x)
    | with_reducible apply Kept.next
    | with_reducible refine State.instr_kept ?_ _ _ _ (fun i s h => ?_)
    | with_reducible apply State.mapMallet_kept

theorem execRet_kept {z s : State} (h : Kept z s) (a1 : Fetch) : KeptOut z (execRet a1 s) := by
  unfold execRet
  repeat' first
    | with_reducible assumption
    | with_reducible apply Kept.next
    | with_reducible apply State.pure__kept

theorem execRete_kept {z s : State} (h : Kept z s) (a1 : Fetch) : KeptOut z (execRete a1 s) := by
  unfold execRete
  repeat' first
    | with_reducible assumption
    | with_reducible apply Kept.next
    | with_reducible apply State.pure__kept

theorem State.readSr_kept {z s : State} (h : Kept z s) (a1 : Nat) (a2 : Nat) : KeptO z (State.readSr s a1 a2) := by
  unfold State.readSr
  repeat' first
    | with_reducible assumption
    | ((try lift_lets); intro x; clear_value (e : x = _); refine Kept.use (s := z) (x := x) (Kept.via e ?_) (fun h => ?_))
    | ((try lift_lets); intro x; clear_value x)
    | with_reducible apply State.readTime_kept
    | with_reducible apply State.setMallet_kept
    | with_reducible apply Kept.ite
    | split
    | exact KeptO.none
    | with_reducible apply KeptO.some

theorem execMfs_kept {z s : State} (h : Kept z s) (x : Fetch) (kd : BitVec 4) (sr : BitVec 5) : KeptOut z (execMfs x kd sr s) := by
  unfold execMfs
  apply State.instr_kept h
  intro pc s h
  split
  · rename_i heq
    exact State.mapMallet_kept (KeptO.at heq (State.readSr_kept h _ _)) _ _
  · exact State.exception_kept h _ _ _ _

theorem execMts_kept {z s : State} (h : Kept z s) (a1 : Fetch) (a2 : BitVec 4) (a3 : BitVec 5) : KeptOut z (execMts a1 a2 a3 s) := by
  unfold execMts
  repeat' first
    | with_reducible assumption
    | ((try lift_lets); intro x; clear_value (e : x = _); refine Kept.use (s := z) (x := x) (Kept.via e ?_) (fun h => ?_))
    | ((try lift_lets); intro x; clear_value x)
    | with_reducible apply Kept.next
    | with_reducible refine State.instr_kept ?_ _ _ _ (fun i s h => ?_)
    | with_reducible apply State.setMallet_kept
    | with_reducible apply State.exception_kept
    | split

theorem execCnt_kept {z s : State} (h : Kept z s) (a1 : Fetch) (a2 : BitVec 4) (a3 : BitVec 6) : KeptOut z (execCnt a1 a2 a3 s) := by
  unfold execCnt
  repeat' first
    | with_reducible assumption
    | with_reducible apply Kept.next
    | with_reducible apply KeptOut.ite
    | with_reducible refine State.legal_kept ?_ _ _ _ _ (fun i s h => ?_)
    | with_reducible apply State.mapMallet_kept
    | with_reducible apply State.exception_kept
    | with_reducible apply Kept.ite

theorem execSpec_kept {z s : State} (h : Kept z s) (a1 : Fetch) (a2 : BitVec 14) : KeptOut z (execSpec a1 a2 s) := by
  unfold execSpec
  repeat' first
    | with_reducible assumption
    | ((try lift_lets); intro x; clear_value (e : x = _); refine Kept.use (s := z) (x := x) (Kept.via e ?_) (fun h => ?_))
    | ((try lift_lets); intro x; clear_value x)
    | with_reducible apply Kept.next
    | with_reducible apply KeptOut.ite
    | with_reducible refine State.instr_kept ?_ _ _ _ (fun i s h => ?_)
    | with_reducible apply State.exception_kept
    | with_reducible apply State.setMallet_kept
    | with_reducible apply Kept.ite

theorem State.commitRegion_kept {z s : State} (h : Kept z s) (a1 : Nat) (a2 : Bool) : Kept z (State.commitRegion s a1 a2) := by
  unfold State.commitRegion
  repeat' first
    | with_reducible assumption
    | ((try lift_lets); intro x; clear_value (e : x = _); refine Kept.use (s := z) (x := x) (Kept.via e ?_) (fun h => ?_))
    | ((try lift_lets); intro x; clear_value x)
    | with_reducible apply State.confirm_kept
    | with_reducible apply State.setMallet_kept

theorem execCommit_kept {z s : State} (h : Kept z s) (a1 : Fetch) (a2 : Bool) : KeptOut z (execCommit a1 a2 s) := by
  unfold execCommit
  repeat' first
    | with_reducible assumption
    | with_reducible apply Kept.next
    | with_reducible apply KeptOut.ite
    | with_reducible refine State.instr_kept ?_ _ _ _ (fun i s h => ?_)
    | with_reducible apply State.commitRegion_kept
    | with_reducible apply State.exception_kept
    | with_reducible apply Kept.ite

theorem State.closeRegion_kept {z s : State} (h : Kept z s) (a1 : Nat) : Kept z (State.closeRegion s a1) := by
  unfold State.closeRegion
  repeat' first
    | with_reducible assumption
    | ((try lift_lets); intro x; clear_value (e : x = _); refine Kept.use (s := z) (x := x) (Kept.via e ?_) (fun h => ?_))
    | ((try lift_lets); intro x; clear_value x)
    | with_reducible apply State.mapMallet_kept

theorem execSquash_kept {z s : State} (h : Kept z s) (a1 : Fetch) : KeptOut z (execSquash a1 s) := by
  unfold execSquash
  repeat' first
    | with_reducible assumption
    | with_reducible apply Kept.next
    | with_reducible apply KeptOut.ite
    | with_reducible refine State.instr_kept ?_ _ _ _ (fun i s h => ?_)
    | with_reducible apply State.closeRegion_kept
    | with_reducible apply State.squashAt_kept
    | with_reducible apply State.exception_kept
    | with_reducible apply Kept.ite

theorem execUndefinedInstruction_kept {z s : State} (h : Kept z s) (a1 : Fetch) (a2 : BitVec 32) : KeptOut z (execUndefinedInstruction a1 a2 s) := by
  unfold execUndefinedInstruction
  repeat' first
    | with_reducible assumption
    | with_reducible apply Kept.next
    | with_reducible apply KeptOut.ite
    | with_reducible refine State.instr_kept ?_ _ _ _ (fun i s h => ?_)
    | with_reducible apply State.exception_kept
    | with_reducible apply Kept.ite

/-! ### MalletWait -/

theorem State.resume_kept {z s : State} (h : Kept z s) (a1 : Nat) (a2 : Nat) (a3 : Bool) : Kept z (State.resume s a1 a2 a3) := by
  unfold State.resume
  repeat' first
    | with_reducible assumption
    | with_reducible apply State.mapMallet_kept

theorem State.resumeWith_kept {z s : State} (h : Kept z s) (a1 : Nat) (a2 : Nat) (a3 : Nat) (a4 : Nat) (a5 : Bool) : Kept z (State.resumeWith s a1 a2 a3 a4 a5) := by
  unfold State.resumeWith
  repeat' first
    | with_reducible assumption
    | with_reducible apply State.resume_kept
    | with_reducible apply State.mapMallet_kept

theorem State.eventCond_kept {z s : State} (h : Kept z s) (a1 : Nat) (a2 : BitVec 256) (a3 : Bool) (a4 : Bool) : KeptO z (State.eventCond s a1 a2 a3 a4) := by
  unfold State.eventCond
  repeat' first
    | with_reducible assumption
    | with_reducible apply State.mapMallet_kept
    | with_reducible apply Kept.ite
    | split
    | exact KeptO.none
    | with_reducible apply KeptO.some

theorem execWaitt_kept {z s : State} (h : Kept z s) (a1 : Fetch) (a2 : BitVec 4) : KeptOut z (execWaitt a1 a2 s) := by
  unfold execWaitt
  repeat' first
    | with_reducible assumption
    | ((try lift_lets); intro x; clear_value (e : x = _); refine Kept.use (s := z) (x := x) (Kept.via e ?_) (fun h => ?_))
    | ((try lift_lets); intro x; clear_value x)
    | with_reducible apply Kept.next
    | with_reducible apply KeptOut.ite
    | with_reducible refine State.legal_kept ?_ _ _ _ _ (fun i s h => ?_)
    | with_reducible apply State.resume_kept
    | with_reducible apply State.mapMallet_kept
    | with_reducible apply Kept.ite

theorem execWaitp_kept {z s : State} (h : Kept z s) (a1 : Fetch) (a2 : BitVec 4) (a3 : BitVec 4) (a4 : Bool) : KeptOut z (execWaitp a1 a2 a3 a4 s) := by
  unfold execWaitp
  repeat' first
    | with_reducible assumption
    | ((try lift_lets); intro x; clear_value (e : x = _); refine Kept.use (s := z) (x := x) (Kept.via e ?_) (fun h => ?_))
    | ((try lift_lets); intro x; clear_value x)
    | with_reducible apply Kept.next
    | with_reducible apply KeptOut.ite
    | with_reducible refine State.legal_kept ?_ _ _ _ _ (fun i s h => ?_)
    | with_reducible apply State.exception_kept
    | with_reducible apply State.resume_kept
    | with_reducible apply State.setMallet_kept
    | with_reducible apply Kept.ite

theorem State.beginWaite_kept {z s : State} (h : Kept z s) (m kd : Nat) (mask : BitVec 256) (limit : Option Nat) (queue timer : Bool) :
    Kept z (s.beginWaite m kd mask limit queue timer) := by
  unfold State.beginWaite
  extract_lets s'
  have h' : Kept z s' := State.mapMallet_kept h _ _
  split
  · rename_i heq
    exact State.resumeWith_kept (KeptO.at heq (State.eventCond_kept h' _ _ _ _)) _ _ _ _ _
  · exact Kept.ite (State.resumeWith_kept h' _ _ _ _ _) (State.mapMallet_kept h' _ _)

theorem execWaite_kept {z s : State} (h : Kept z s) (a1 : Fetch) (a2 : BitVec 4) (a3 : BitVec 4) (a4 : BitVec 4) (a5 : Bool) (a6 : Bool) (a7 : Bool) (a8 : MemEcc) : KeptOut z (execWaite a1 a2 a3 a4 a5 a6 a7 a8 s) := by
  unfold execWaite
  repeat' first
    | with_reducible assumption
    | ((try lift_lets); intro x; clear_value (e : x = _); refine Kept.use (s := z) (x := x) (Kept.via e ?_) (fun h => ?_))
    | ((try lift_lets); intro x; clear_value x)
    | with_reducible apply Kept.next
    | with_reducible refine State.legal_kept ?_ _ _ _ _ (fun i s h => ?_)
    | with_reducible refine State.withDmem_kept ?_ _ _ _ _ _ _ _ _ (fun s h => ?_)
    | with_reducible apply State.beginWaite_kept

theorem execWaitResume_kept {z s : State} (h : Kept z s) (a1 : Fin 36) : KeptOut z (execWaitResume a1 s) := by
  unfold execWaitResume
  repeat' first
    | with_reducible assumption
    | ((try lift_lets); intro x; clear_value (e : x = _); refine Kept.use (s := z) (x := x) (Kept.via e ?_) (fun h => ?_))
    | ((try lift_lets); intro x; clear_value x)
    | with_reducible apply Kept.next
    | with_reducible apply KeptOut.ite
    | with_reducible apply State.resume_kept
    | with_reducible apply State.advanceTo_kept
    | with_reducible apply State.resumeWith_kept
    | with_reducible apply State.mapMallet_kept
    | with_reducible apply Kept.ite
    | split

/-! ### MalletLoop -/

theorem State.loopOp_kept {z s : State} (h : Kept z s) (a1 : Fetch) (a2 : Nat) (a3 : Bool) (a4 : Nat → State → State) (hg4 : ∀ i0 s, Kept z s → Kept z (a4 i0 s)) : KeptOut z (State.loopOp s a1 a2 a3 a4) := by
  unfold State.loopOp
  repeat' first
    | with_reducible assumption
    | with_reducible apply Kept.next
    | with_reducible refine State.legal_kept ?_ _ _ _ _ (fun i s h => ?_)
    | with_reducible apply hg4
    | (split <;> (rename_i heq; refine Kept.use (s := z) (KeptP.at heq ?_) (fun h => ?_)))
    | with_reducible apply KeptP.pair
    | with_reducible apply KeptP.fst

theorem execMac_kept {z s : State} (h : Kept z s) (a1 : Fetch) (a2 : BitVec 4) (a3 : BitVec 4) : KeptOut z (execMac a1 a2 a3 s) := by
  unfold execMac
  repeat' first
    | with_reducible assumption
    | with_reducible apply Kept.next
    | with_reducible refine State.loopOp_kept ?_ _ _ _ _ (fun i s h => ?_)
    | with_reducible apply State.mapMallet_kept

theorem execMacZ_kept {z s : State} (h : Kept z s) (a1 : Fetch) (a2 : BitVec 4) (a3 : BitVec 4) : KeptOut z (execMacZ a1 a2 a3 s) := by
  unfold execMacZ
  repeat' first
    | with_reducible assumption
    | with_reducible apply Kept.next
    | with_reducible refine State.loopOp_kept ?_ _ _ _ _ (fun i s h => ?_)
    | with_reducible apply State.mapMallet_kept

theorem execMsu_kept {z s : State} (h : Kept z s) (a1 : Fetch) (a2 : BitVec 4) (a3 : BitVec 4) : KeptOut z (execMsu a1 a2 a3 s) := by
  unfold execMsu
  repeat' first
    | with_reducible assumption
    | with_reducible apply Kept.next
    | with_reducible refine State.loopOp_kept ?_ _ _ _ _ (fun i s h => ?_)
    | with_reducible apply State.mapMallet_kept

theorem execSatq_kept {z s : State} (h : Kept z s) (a1 : Fetch) (a2 : BitVec 4) (a3 : BitVec 5) (a4 : Bool) (a5 : Bool) : KeptOut z (execSatq a1 a2 a3 a4 a5 s) := by
  unfold execSatq
  repeat' first
    | with_reducible assumption
    | ((try lift_lets); intro x; clear_value (e : x = _); refine Kept.use (s := z) (x := x) (Kept.via e ?_) (fun h => ?_))
    | ((try lift_lets); intro x; clear_value x)
    | with_reducible apply Kept.next
    | with_reducible apply KeptOut.ite
    | with_reducible refine State.loopOp_kept ?_ _ _ _ _ (fun i s h => ?_)
    | with_reducible apply State.mapMallet_kept
    | with_reducible apply Kept.ite

theorem execLim_kept {z s : State} (h : Kept z s) (a1 : Fetch) (a2 : BitVec 4) (a3 : BitVec 4) (a4 : BitVec 4) : KeptOut z (execLim a1 a2 a3 a4 s) := by
  unfold execLim
  repeat' first
    | with_reducible assumption
    | ((try lift_lets); intro x; clear_value (e : x = _); refine Kept.use (s := z) (x := x) (Kept.via e ?_) (fun h => ?_))
    | ((try lift_lets); intro x; clear_value x)
    | with_reducible apply Kept.next
    | with_reducible refine State.loopOp_kept ?_ _ _ _ _ (fun i s h => ?_)
    | with_reducible apply State.mapMallet_kept

theorem execIntg_kept {z s : State} (h : Kept z s) (a1 : Fetch) (a2 : BitVec 4) (a3 : BitVec 4) (a4 : BitVec 4) : KeptOut z (execIntg a1 a2 a3 a4 s) := by
  unfold execIntg
  repeat' first
    | with_reducible assumption
    | ((try lift_lets); intro x; clear_value (e : x = _); refine Kept.use (s := z) (x := x) (Kept.via e ?_) (fun h => ?_))
    | ((try lift_lets); intro x; clear_value x)
    | with_reducible apply Kept.next
    | with_reducible refine State.loopOp_kept ?_ _ _ _ _ (fun i s h => ?_)
    | with_reducible apply State.mapMallet_kept

theorem execDiff_kept {z s : State} (h : Kept z s) (a1 : Fetch) (a2 : BitVec 4) (a3 : BitVec 4) (a4 : BitVec 4) : KeptOut z (execDiff a1 a2 a3 a4 s) := by
  unfold execDiff
  repeat' first
    | with_reducible assumption
    | ((try lift_lets); intro x; clear_value (e : x = _); refine Kept.use (s := z) (x := x) (Kept.via e ?_) (fun h => ?_))
    | ((try lift_lets); intro x; clear_value x)
    | with_reducible apply Kept.next
    | with_reducible refine State.loopOp_kept ?_ _ _ _ _ (fun i s h => ?_)
    | with_reducible apply State.mapMallet_kept

theorem execTlu_kept {z s : State} (h : Kept z s) (a1 : Fetch) (a2 : BitVec 4) (a3 : BitVec 4) (a4 : BitVec 4) (a5 : BitVec 4) (a6 : MemEcc) : KeptOut z (execTlu a1 a2 a3 a4 a5 a6 s) := by
  unfold execTlu
  repeat' first
    | with_reducible assumption
    | ((try lift_lets); intro x; clear_value (e : x = _); refine Kept.use (s := z) (x := x) (Kept.via e ?_) (fun h => ?_))
    | ((try lift_lets); intro x; clear_value x)
    | with_reducible apply Kept.next
    | with_reducible refine State.loopOp_kept ?_ _ _ _ _ (fun i s h => ?_)
    | with_reducible refine State.withDmem_kept ?_ _ _ _ _ _ _ _ _ (fun s h => ?_)
    | with_reducible apply State.mapMallet_kept

/-! ### MalletPort -/

theorem State.setC_kept {z s : State} (h : Kept z s) (a1 : Nat) (a2 : Bool) : Kept z (State.setC s a1 a2) := by
  unfold State.setC
  repeat' first
    | with_reducible assumption
    | with_reducible apply State.mapMallet_kept

theorem State.placeEff_kept {z s : State} (h : Kept z s) (a1 : Nat) (a2 : Nat) (a3 : Nat) (a4 : Checkpoint) (a5 : Eff) : Kept z (State.placeEff s a1 a2 a3 a4 a5) := by
  unfold State.placeEff
  repeat' first
    | with_reducible assumption
    | ((try lift_lets); intro x; clear_value (e : x = _); refine Kept.use (s := z) (x := x) (Kept.via e ?_) (fun h => ?_))
    | ((try lift_lets); intro x; clear_value x)
    | with_reducible apply State.mapMallet_kept

theorem State.placeIf_kept {z : State} {r : State × Bool} (h : KeptP z r) (m port fire before : Nat) (cp : Checkpoint) (e : Eff) :
    Kept z (State.placeIf m port fire before cp e r) := by
  unfold State.placeIf
  exact Kept.ite h.fst (Kept.ite (State.placeEff_kept h.fst _ _ _ _ _) (State.setC_kept h.fst _ _))

theorem State.stagePort_kept {z s : State} (h : Kept z s) (a1 : Nat) (a2 : Nat) (a3 : Nat) (a4 : Nat) (a5 : Bool) (a6 : Nat) : Kept z (State.stagePort s a1 a2 a3 a4 a5 a6) := by
  unfold State.stagePort
  repeat' first
    | with_reducible assumption
    | ((try lift_lets); intro x; clear_value (e : x = _); refine Kept.use (s := z) (x := x) (Kept.via e ?_) (fun h => ?_))
    | ((try lift_lets); intro x; clear_value x)
    | with_reducible apply State.exception_kept
    | with_reducible apply State.placeIf_kept
    | with_reducible apply State.stageLine_kept
    | with_reducible apply State.stageScan_kept
    | with_reducible apply State.placeEff_kept
    | with_reducible apply Kept.ite
    | with_reducible apply KeptP.ite
    | (split <;> (rename_i heq; refine Kept.use (s := z) (KeptP.at heq ?_) (fun h => ?_)))
    | split
    | with_reducible apply KeptP.pair
    | with_reducible apply KeptP.fst

theorem execStage_kept {z s : State} (h : Kept z s) (a1 : Fetch) (a2 : BitVec 8) (a3 : BitVec 4) (a4 : BitVec 4) (a5 : Bool) : KeptOut z (execStage a1 a2 a3 a4 a5 s) := by
  unfold execStage
  repeat' first
    | with_reducible assumption
    | ((try lift_lets); intro x; clear_value (e : x = _); refine Kept.use (s := z) (x := x) (Kept.via e ?_) (fun h => ?_))
    | ((try lift_lets); intro x; clear_value x)
    | with_reducible apply Kept.next
    | with_reducible apply KeptOut.ite
    | with_reducible refine State.legal_kept ?_ _ _ _ _ (fun i s h => ?_)
    | with_reducible apply State.exception_kept
    | with_reducible apply State.stagePort_kept
    | with_reducible apply Kept.ite

theorem State.emitPin_kept {z s : State} (h : Kept z s) (a1 : Nat) (a2 : Nat) (a3 : Nat) (a4 : Bool) : Kept z (State.emitPin s a1 a2 a3 a4) := by
  unfold State.emitPin
  repeat' first
    | with_reducible assumption
    | ((try lift_lets); intro x; clear_value (e : x = _); refine Kept.use (s := z) (x := x) (Kept.via e ?_) (fun h => ?_))
    | ((try lift_lets); intro x; clear_value x)
    | with_reducible apply State.pinAt_kept
    | with_reducible apply State.setC_kept
    | with_reducible apply Kept.ite

theorem State.portActs_kept {z s : State} (h : Kept z s) (a1 : Nat) (a2 : Nat) (a3 : Nat) : Kept z (State.portActs s a1 a2 a3) := by
  unfold State.portActs
  repeat' first
    | with_reducible assumption
    | ((try lift_lets); intro x; clear_value (e : x = _); refine Kept.use (s := z) (x := x) (Kept.via e ?_) (fun h => ?_))
    | ((try lift_lets); intro x; clear_value x)
    | with_reducible apply State.armSnare_kept
    | with_reducible apply State.disarmSnare_kept
    | with_reducible apply State.axCommand_kept
    | with_reducible apply State.spoilAt_kept
    | with_reducible apply State.portEvent_kept
    | with_reducible apply State.output_kept
    | with_reducible apply Kept.ite
    | split
    | (simp only [Kept.mk2_iff])
    | (simp only [Kept.mk_iff])

theorem State.emitPort_kept {z s : State} (h : Kept z s) (a1 : Nat) (a2 : Nat) (a3 : Nat) (a4 : Nat) (a5 : Bool) : Kept z (State.emitPort s a1 a2 a3 a4 a5) := by
  unfold State.emitPort
  repeat' first
    | with_reducible assumption
    | with_reducible apply State.emitPin_kept
    | with_reducible refine State.inNext_kept ?_ _ (fun s h => ?_)
    | with_reducible apply State.portActs_kept
    | with_reducible apply Kept.ite

theorem execEmit_kept {z s : State} (h : Kept z s) (a1 : Fetch) (a2 : BitVec 8) (a3 : BitVec 4) (a4 : BitVec 4) (a5 : Bool) : KeptOut z (execEmit a1 a2 a3 a4 a5 s) := by
  unfold execEmit
  repeat' first
    | with_reducible assumption
    | ((try lift_lets); intro x; clear_value (e : x = _); refine Kept.use (s := z) (x := x) (Kept.via e ?_) (fun h => ?_))
    | ((try lift_lets); intro x; clear_value x)
    | with_reducible apply Kept.next
    | with_reducible apply KeptOut.ite
    | with_reducible refine State.legal_kept ?_ _ _ _ _ (fun i s h => ?_)
    | with_reducible apply State.exception_kept
    | with_reducible apply State.stagePort_kept
    | with_reducible apply State.emitPort_kept
    | with_reducible apply Kept.ite

theorem State.stageBare_kept {z s : State} (h : Kept z s) (a1 : Nat) (a2 : Nat) (a3 : Eff) : Kept z (State.stageBare s a1 a2 a3) := by
  unfold State.stageBare
  repeat' first
    | with_reducible assumption
    | with_reducible apply State.exception_kept
    | with_reducible apply State.placeEff_kept
    | split

theorem execSignal_kept {z s : State} (h : Kept z s) (a1 : Fetch) (a2 : BitVec 4) (a3 : BitVec 8) : KeptOut z (execSignal a1 a2 a3 s) := by
  unfold execSignal
  repeat' first
    | with_reducible assumption
    | ((try lift_lets); intro x; clear_value (e : x = _); refine Kept.use (s := z) (x := x) (Kept.via e ?_) (fun h => ?_))
    | ((try lift_lets); intro x; clear_value x)
    | with_reducible apply Kept.next
    | with_reducible apply KeptOut.ite
    | with_reducible refine State.instr_kept ?_ _ _ _ (fun i s h => ?_)
    | with_reducible apply State.exception_kept
    | with_reducible apply State.stageBare_kept
    | with_reducible refine State.inNext_kept ?_ _ (fun s h => ?_)
    | with_reducible apply State.portEvent_kept
    | with_reducible apply Kept.ite

theorem execSend_kept {z s : State} (h : Kept z s) (a1 : Fetch) (a2 : BitVec 4) : KeptOut z (execSend a1 a2 s) := by
  unfold execSend
  repeat' first
    | with_reducible assumption
    | ((try lift_lets); intro x; clear_value (e : x = _); refine Kept.use (s := z) (x := x) (Kept.via e ?_) (fun h => ?_))
    | ((try lift_lets); intro x; clear_value x)
    | with_reducible apply Kept.next
    | with_reducible apply KeptOut.ite
    | with_reducible refine State.legal_kept ?_ _ _ _ _ (fun i s h => ?_)
    | with_reducible apply State.advanceTo_kept
    | with_reducible apply State.mapMallet_kept
    | with_reducible apply State.exception_kept
    | with_reducible apply State.setMallet_kept
    | with_reducible apply State.stageBare_kept
    | with_reducible apply State.mailOut_kept
    | with_reducible apply Kept.ite
    | split

theorem execRecv_kept {z s : State} (h : Kept z s) (a1 : Fetch) (a2 : BitVec 4) : KeptOut z (execRecv a1 a2 s) := by
  unfold execRecv
  repeat' first
    | with_reducible assumption
    | with_reducible apply Kept.next
    | with_reducible refine State.legal_kept ?_ _ _ _ _ (fun i s h => ?_)
    | with_reducible apply State.mapMallet_kept

end Sys2Proof.Machine
end

