-- ==== Sys2Proof/Laws/State.lean ====
section
/-!
SUPPORT. What one write of a register field or of a unit changes and what it leaves, one small lemma for each (R8).
-/
namespace Sys2Proof.Machine

variable (s : State) (x y : Field) (v w : Nat)

/-! ## A register field -/

@[simp] theorem State.f_setF_same : (s.setF x v).f x = v % 2 ^ x.width := by
  unfold State.f State.setF
  simp only [tget_tput_same, Nat.mod_mod]

theorem State.f_setF_ne {x y : Field} (h : y.key ≠ x.key) : (s.setF x v).f y = s.f y := by
  unfold State.f State.setF
  simp only [tget_tput_ne _ _ _ _ (Ne.symm h)]

theorem State.f_lt : s.f x < 2 ^ x.width := Nat.mod_lt _ (Nat.two_pow_pos _)


@[simp] theorem State.setF_pending : (s.setF x v).pending = s.pending := rfl
@[simp] theorem State.setF_free : (s.setF x v).free = s.free := rfl
@[simp] theorem State.setF_answer : (s.setF x v).answer = s.answer := rfl
@[simp] theorem State.setF_time : (s.setF x v).time = s.time := rfl
@[simp] theorem State.setF_shadow : (s.setF x v).shadow = s.shadow := rfl
@[simp] theorem State.setF_count : (s.setF x v).count = s.count := rfl
@[simp] theorem State.setF_freeze : (s.setF x v).freeze = s.freeze := rfl
@[simp] theorem State.setF_clk : (s.setF x v).clk = s.clk := rfl
@[simp] theorem State.setF_snare : (s.setF x v).snare = s.snare := rfl
@[simp] theorem State.setF_web : (s.setF x v).web = s.web := rfl
@[simp] theorem State.setF_gear : (s.setF x v).gear = s.gear := rfl
@[simp] theorem State.setF_st : (s.setF x v).st = s.st := rfl
@[simp] theorem State.setF_mem : (s.setF x v).mem = s.mem := rfl
@[simp] theorem State.setF_lst : (s.setF x v).lst = s.lst := rfl
@[simp] theorem State.setF_slots : (s.setF x v).slots = s.slots := rfl
@[simp] theorem State.setF_dma : (s.setF x v).dma = s.dma := rfl
@[simp] theorem State.setF_hostOut : (s.setF x v).hostOut = s.hostOut := rfl
@[simp] theorem State.setF_scan : (s.setF x v).scan = s.scan := rfl
@[simp] theorem State.setF_engaged : (s.setF x v).engaged = s.engaged := rfl
@[simp] theorem State.setF_tmem : (s.setF x v).tmem = s.tmem := rfl
@[simp] theorem State.setF_cs : (s.setF x v).cs = s.cs := rfl
@[simp] theorem State.setF_nextEpoch : (s.setF x v).nextEpoch = s.nextEpoch := rfl
@[simp] theorem State.setF_ledger : (s.setF x v).ledger = s.ledger := rfl
@[simp] theorem State.setF_mlt : (s.setF x v).mlt = s.mlt := rfl
@[simp] theorem State.setF_imem : (s.setF x v).imem = s.imem := rfl
@[simp] theorem State.setF_dmem : (s.setF x v).dmem = s.dmem := rfl
@[simp] theorem State.setF_msm : (s.setF x v).msm = s.msm := rfl
@[simp] theorem State.setF_mltPoison : (s.setF x v).mltPoison = s.mltPoison := rfl
@[simp] theorem State.setF_roles : (s.setF x v).roles = s.roles := rfl
@[simp] theorem State.setF_flights : (s.setF x v).flights = s.flights := rfl
@[simp] theorem State.setF_hostRx : (s.setF x v).hostRx = s.hostRx := rfl
@[simp] theorem State.setF_gong : (s.setF x v).gong = s.gong := rfl
@[simp] theorem State.setF_lanes : (s.setF x v).lanes = s.lanes := rfl
@[simp] theorem State.setF_heads : (s.setF x v).heads = s.heads := rfl
@[simp] theorem State.setF_ink : (s.setF x v).ink = s.ink := rfl
@[simp] theorem State.setF_waves : (s.setF x v).waves = s.waves := rfl
@[simp] theorem State.setF_dd : (s.setF x v).dd = s.dd := rfl
@[simp] theorem State.setF_ddResults : (s.setF x v).ddResults = s.ddResults := rfl
@[simp] theorem State.setF_sb : (s.setF x v).sb = s.sb := rfl
@[simp] theorem State.setF_spares : (s.setF x v).spares = s.spares := rfl
@[simp] theorem State.setF_ep : (s.setF x v).ep = s.ep := rfl
@[simp] theorem State.setF_hv : (s.setF x v).hv = s.hv := rfl
@[simp] theorem State.setF_fuser : (s.setF x v).fuser = s.fuser := rfl
@[simp] theorem State.setF_zcAt : (s.setF x v).zcAt = s.zcAt := rfl
@[simp] theorem State.setF_resid : (s.setF x v).resid = s.resid := rfl
@[simp] theorem State.setF_msix : (s.setF x v).msix = s.msix := rfl
@[simp] theorem State.setF_pba : (s.setF x v).pba = s.pba := rfl
@[simp] theorem State.setF_d3hot : (s.setF x v).d3hot = s.d3hot := rfl
@[simp] theorem State.setF_link : (s.setF x v).link = s.link := rfl
@[simp] theorem State.setF_log : (s.setF x v).log = s.log := rfl
@[simp] theorem State.setF_logKept : (s.setF x v).logKept = s.logKept := rfl
@[simp] theorem State.setF_logSeq : (s.setF x v).logSeq = s.logSeq := rfl
@[simp] theorem State.setF_finals : (s.setF x v).finals = s.finals := rfl
@[simp] theorem State.setF_saved : (s.setF x v).saved = s.saved := rfl
@[simp] theorem State.setF_calSec : (s.setF x v).calSec = s.calSec := rfl
@[simp] theorem State.setF_calFrac : (s.setF x v).calFrac = s.calFrac := rfl
@[simp] theorem State.setF_calSub : (s.setF x v).calSub = s.calSub := rfl
@[simp] theorem State.setF_boots : (s.setF x v).boots = s.boots := rfl
@[simp] theorem State.setF_gpio : (s.setF x v).gpio = s.gpio := rfl
@[simp] theorem State.setF_timed : (s.setF x v).timed = s.timed := rfl
@[simp] theorem State.setF_feedTurn : (s.setF x v).feedTurn = s.feedTurn := rfl
@[simp] theorem State.setF_storeSeq : (s.setF x v).storeSeq = s.storeSeq := rfl
@[simp] theorem State.setF_tmemBad : (s.setF x v).tmemBad = s.tmemBad := rfl
@[simp] theorem State.setF_loadAt : (s.setF x v).loadAt = s.loadAt := rfl
@[simp] theorem State.setF_keeperRx : (s.setF x v).keeperRx = s.keeperRx := rfl
@[simp] theorem State.setF_eventPort : (s.setF x v).eventPort = s.eventPort := rfl
@[simp] theorem State.setF_stops : (s.setF x v).stops = s.stops := rfl
@[simp] theorem State.setF_stopOpen : (s.setF x v).stopOpen = s.stopOpen := rfl
@[simp] theorem State.setF_life : (s.setF x v).life = s.life := rfl
@[simp] theorem State.setF_lifeSaved : (s.setF x v).lifeSaved = s.lifeSaved := rfl
@[simp] theorem State.setF_timers : (s.setF x v).timers = s.timers := rfl
@[simp] theorem State.setF_pgenAt : (s.setF x v).pgenAt = s.pgenAt := rfl
@[simp] theorem State.setF_axes : (s.setF x v).axes = s.axes := rfl
@[simp] theorem State.setF_groups : (s.setF x v).groups = s.groups := rfl
@[simp] theorem State.setF_steppers : (s.setF x v).steppers = s.steppers := rfl
@[simp] theorem State.setF_traces : (s.setF x v).traces = s.traces := rfl
@[simp] theorem State.setF_outs : (s.setF x v).outs = s.outs := rfl
@[simp] theorem State.setF_motors : (s.setF x v).motors = s.motors := rfl
@[simp] theorem State.setF_buses : (s.setF x v).buses = s.buses := rfl
@[simp] theorem State.setF_hk : (s.setF x v).hk = s.hk := rfl
@[simp] theorem State.setF_stepAt : (s.setF x v).stepAt = s.stepAt := rfl
@[simp] theorem State.setF_checkAt : (s.setF x v).checkAt = s.checkAt := rfl
@[simp] theorem State.setF_otp : (s.setF x v).otp = s.otp := rfl
@[simp] theorem State.setF_keeper : (s.setF x v).keeper = s.keeper := rfl
@[simp] theorem State.setF_fifo : (s.setF x v).fifo = s.fifo := rfl
@[simp] theorem State.setF_fifoLost : (s.setF x v).fifoLost = s.fifoLost := rfl
@[simp] theorem State.setF_cntStage : (s.setF x v).cntStage = s.cntStage := rfl

theorem State.setF_eq : s.setF x v = { s with regs := (s.setF x v).regs } := rfl

/-! ## Several register fields -/

theorem State.setFs_eq (L : List (Field × Nat)) : s.setFs L = { s with regs := (s.setFs L).regs } := by
  induction L generalizing s with
  | nil => rfl
  | cons p r ih => exact (ih (s.setF p.1 p.2)).trans rfl

theorem State.setFs_f_out (L : List (Field × Nat)) (h : ∀ p ∈ L, y.key ≠ p.1.key) : (s.setFs L).f y = s.f y := by
  induction L generalizing s with
  | nil => rfl
  | cons p r ih =>
    refine (ih (s.setF p.1 p.2) fun q hq => h q (List.mem_cons_of_mem _ hq)).trans ?_
    exact State.f_setF_ne s p.2 (h p List.mem_cons_self)

theorem State.setFs_f_in (L : List (Field × Nat)) (hn : (L.map fun p => p.1.key).Nodup) (p : Field × Nat) (hp : p ∈ L) :
    (s.setFs L).f p.1 = p.2 % 2 ^ p.1.width := by
  induction L generalizing s with
  | nil => cases hp
  | cons q r ih =>
    have hn' := List.nodup_cons.mp hn
    rcases List.mem_cons.mp hp with rfl | hr
    · refine (State.setFs_f_out (s.setF p.1 p.2) p.1 r fun q hq e => hn'.1 ?_).trans (State.f_setF_same ..)
      show p.1.key ∈ _
      rw [e]
      exact List.mem_map_of_mem (f := fun p : Field × Nat => p.1.key) hq
    · exact ih (s.setF q.1 q.2) hn'.2 hr

@[simp] theorem State.setFs_pending (L : List (Field × Nat)) : (s.setFs L).pending = s.pending := by rw [State.setFs_eq]
@[simp] theorem State.setFs_free (L : List (Field × Nat)) : (s.setFs L).free = s.free := by rw [State.setFs_eq]
@[simp] theorem State.setFs_answer (L : List (Field × Nat)) : (s.setFs L).answer = s.answer := by rw [State.setFs_eq]
@[simp] theorem State.setFs_time (L : List (Field × Nat)) : (s.setFs L).time = s.time := by rw [State.setFs_eq]
@[simp] theorem State.setFs_shadow (L : List (Field × Nat)) : (s.setFs L).shadow = s.shadow := by rw [State.setFs_eq]
@[simp] theorem State.setFs_count (L : List (Field × Nat)) : (s.setFs L).count = s.count := by rw [State.setFs_eq]
@[simp] theorem State.setFs_freeze (L : List (Field × Nat)) : (s.setFs L).freeze = s.freeze := by rw [State.setFs_eq]
@[simp] theorem State.setFs_clk (L : List (Field × Nat)) : (s.setFs L).clk = s.clk := by rw [State.setFs_eq]
@[simp] theorem State.setFs_snare (L : List (Field × Nat)) : (s.setFs L).snare = s.snare := by rw [State.setFs_eq]
@[simp] theorem State.setFs_web (L : List (Field × Nat)) : (s.setFs L).web = s.web := by rw [State.setFs_eq]
@[simp] theorem State.setFs_gear (L : List (Field × Nat)) : (s.setFs L).gear = s.gear := by rw [State.setFs_eq]
@[simp] theorem State.setFs_st (L : List (Field × Nat)) : (s.setFs L).st = s.st := by rw [State.setFs_eq]
@[simp] theorem State.setFs_mem (L : List (Field × Nat)) : (s.setFs L).mem = s.mem := by rw [State.setFs_eq]
@[simp] theorem State.setFs_lst (L : List (Field × Nat)) : (s.setFs L).lst = s.lst := by rw [State.setFs_eq]
@[simp] theorem State.setFs_slots (L : List (Field × Nat)) : (s.setFs L).slots = s.slots := by rw [State.setFs_eq]
@[simp] theorem State.setFs_dma (L : List (Field × Nat)) : (s.setFs L).dma = s.dma := by rw [State.setFs_eq]
@[simp] theorem State.setFs_hostOut (L : List (Field × Nat)) : (s.setFs L).hostOut = s.hostOut := by rw [State.setFs_eq]
@[simp] theorem State.setFs_scan (L : List (Field × Nat)) : (s.setFs L).scan = s.scan := by rw [State.setFs_eq]
@[simp] theorem State.setFs_engaged (L : List (Field × Nat)) : (s.setFs L).engaged = s.engaged := by rw [State.setFs_eq]
@[simp] theorem State.setFs_tmem (L : List (Field × Nat)) : (s.setFs L).tmem = s.tmem := by rw [State.setFs_eq]
@[simp] theorem State.setFs_cs (L : List (Field × Nat)) : (s.setFs L).cs = s.cs := by rw [State.setFs_eq]
@[simp] theorem State.setFs_nextEpoch (L : List (Field × Nat)) : (s.setFs L).nextEpoch = s.nextEpoch := by rw [State.setFs_eq]
@[simp] theorem State.setFs_ledger (L : List (Field × Nat)) : (s.setFs L).ledger = s.ledger := by rw [State.setFs_eq]
@[simp] theorem State.setFs_mlt (L : List (Field × Nat)) : (s.setFs L).mlt = s.mlt := by rw [State.setFs_eq]
@[simp] theorem State.setFs_imem (L : List (Field × Nat)) : (s.setFs L).imem = s.imem := by rw [State.setFs_eq]
@[simp] theorem State.setFs_dmem (L : List (Field × Nat)) : (s.setFs L).dmem = s.dmem := by rw [State.setFs_eq]
@[simp] theorem State.setFs_msm (L : List (Field × Nat)) : (s.setFs L).msm = s.msm := by rw [State.setFs_eq]
@[simp] theorem State.setFs_mltPoison (L : List (Field × Nat)) : (s.setFs L).mltPoison = s.mltPoison := by rw [State.setFs_eq]
@[simp] theorem State.setFs_roles (L : List (Field × Nat)) : (s.setFs L).roles = s.roles := by rw [State.setFs_eq]
@[simp] theorem State.setFs_flights (L : List (Field × Nat)) : (s.setFs L).flights = s.flights := by rw [State.setFs_eq]
@[simp] theorem State.setFs_hostRx (L : List (Field × Nat)) : (s.setFs L).hostRx = s.hostRx := by rw [State.setFs_eq]
@[simp] theorem State.setFs_gong (L : List (Field × Nat)) : (s.setFs L).gong = s.gong := by rw [State.setFs_eq]
@[simp] theorem State.setFs_lanes (L : List (Field × Nat)) : (s.setFs L).lanes = s.lanes := by rw [State.setFs_eq]
@[simp] theorem State.setFs_heads (L : List (Field × Nat)) : (s.setFs L).heads = s.heads := by rw [State.setFs_eq]
@[simp] theorem State.setFs_ink (L : List (Field × Nat)) : (s.setFs L).ink = s.ink := by rw [State.setFs_eq]
@[simp] theorem State.setFs_waves (L : List (Field × Nat)) : (s.setFs L).waves = s.waves := by rw [State.setFs_eq]
@[simp] theorem State.setFs_dd (L : List (Field × Nat)) : (s.setFs L).dd = s.dd := by rw [State.setFs_eq]
@[simp] theorem State.setFs_ddResults (L : List (Field × Nat)) : (s.setFs L).ddResults = s.ddResults := by rw [State.setFs_eq]
@[simp] theorem State.setFs_sb (L : List (Field × Nat)) : (s.setFs L).sb = s.sb := by rw [State.setFs_eq]
@[simp] theorem State.setFs_spares (L : List (Field × Nat)) : (s.setFs L).spares = s.spares := by rw [State.setFs_eq]
@[simp] theorem State.setFs_ep (L : List (Field × Nat)) : (s.setFs L).ep = s.ep := by rw [State.setFs_eq]
@[simp] theorem State.setFs_hv (L : List (Field × Nat)) : (s.setFs L).hv = s.hv := by rw [State.setFs_eq]
@[simp] theorem State.setFs_fuser (L : List (Field × Nat)) : (s.setFs L).fuser = s.fuser := by rw [State.setFs_eq]
@[simp] theorem State.setFs_zcAt (L : List (Field × Nat)) : (s.setFs L).zcAt = s.zcAt := by rw [State.setFs_eq]
@[simp] theorem State.setFs_resid (L : List (Field × Nat)) : (s.setFs L).resid = s.resid := by rw [State.setFs_eq]
@[simp] theorem State.setFs_msix (L : List (Field × Nat)) : (s.setFs L).msix = s.msix := by rw [State.setFs_eq]
@[simp] theorem State.setFs_pba (L : List (Field × Nat)) : (s.setFs L).pba = s.pba := by rw [State.setFs_eq]
@[simp] theorem State.setFs_d3hot (L : List (Field × Nat)) : (s.setFs L).d3hot = s.d3hot := by rw [State.setFs_eq]
@[simp] theorem State.setFs_link (L : List (Field × Nat)) : (s.setFs L).link = s.link := by rw [State.setFs_eq]
@[simp] theorem State.setFs_log (L : List (Field × Nat)) : (s.setFs L).log = s.log := by rw [State.setFs_eq]
@[simp] theorem State.setFs_logKept (L : List (Field × Nat)) : (s.setFs L).logKept = s.logKept := by rw [State.setFs_eq]
@[simp] theorem State.setFs_logSeq (L : List (Field × Nat)) : (s.setFs L).logSeq = s.logSeq := by rw [State.setFs_eq]
@[simp] theorem State.setFs_finals (L : List (Field × Nat)) : (s.setFs L).finals = s.finals := by rw [State.setFs_eq]
@[simp] theorem State.setFs_saved (L : List (Field × Nat)) : (s.setFs L).saved = s.saved := by rw [State.setFs_eq]
@[simp] theorem State.setFs_calSec (L : List (Field × Nat)) : (s.setFs L).calSec = s.calSec := by rw [State.setFs_eq]
@[simp] theorem State.setFs_calFrac (L : List (Field × Nat)) : (s.setFs L).calFrac = s.calFrac := by rw [State.setFs_eq]
@[simp] theorem State.setFs_calSub (L : List (Field × Nat)) : (s.setFs L).calSub = s.calSub := by rw [State.setFs_eq]
@[simp] theorem State.setFs_boots (L : List (Field × Nat)) : (s.setFs L).boots = s.boots := by rw [State.setFs_eq]
@[simp] theorem State.setFs_gpio (L : List (Field × Nat)) : (s.setFs L).gpio = s.gpio := by rw [State.setFs_eq]
@[simp] theorem State.setFs_timed (L : List (Field × Nat)) : (s.setFs L).timed = s.timed := by rw [State.setFs_eq]
@[simp] theorem State.setFs_feedTurn (L : List (Field × Nat)) : (s.setFs L).feedTurn = s.feedTurn := by rw [State.setFs_eq]
@[simp] theorem State.setFs_storeSeq (L : List (Field × Nat)) : (s.setFs L).storeSeq = s.storeSeq := by rw [State.setFs_eq]
@[simp] theorem State.setFs_tmemBad (L : List (Field × Nat)) : (s.setFs L).tmemBad = s.tmemBad := by rw [State.setFs_eq]
@[simp] theorem State.setFs_loadAt (L : List (Field × Nat)) : (s.setFs L).loadAt = s.loadAt := by rw [State.setFs_eq]
@[simp] theorem State.setFs_keeperRx (L : List (Field × Nat)) : (s.setFs L).keeperRx = s.keeperRx := by rw [State.setFs_eq]
@[simp] theorem State.setFs_eventPort (L : List (Field × Nat)) : (s.setFs L).eventPort = s.eventPort := by rw [State.setFs_eq]
@[simp] theorem State.setFs_stops (L : List (Field × Nat)) : (s.setFs L).stops = s.stops := by rw [State.setFs_eq]
@[simp] theorem State.setFs_stopOpen (L : List (Field × Nat)) : (s.setFs L).stopOpen = s.stopOpen := by rw [State.setFs_eq]
@[simp] theorem State.setFs_life (L : List (Field × Nat)) : (s.setFs L).life = s.life := by rw [State.setFs_eq]
@[simp] theorem State.setFs_lifeSaved (L : List (Field × Nat)) : (s.setFs L).lifeSaved = s.lifeSaved := by rw [State.setFs_eq]
@[simp] theorem State.setFs_timers (L : List (Field × Nat)) : (s.setFs L).timers = s.timers := by rw [State.setFs_eq]
@[simp] theorem State.setFs_pgenAt (L : List (Field × Nat)) : (s.setFs L).pgenAt = s.pgenAt := by rw [State.setFs_eq]
@[simp] theorem State.setFs_axes (L : List (Field × Nat)) : (s.setFs L).axes = s.axes := by rw [State.setFs_eq]
@[simp] theorem State.setFs_groups (L : List (Field × Nat)) : (s.setFs L).groups = s.groups := by rw [State.setFs_eq]
@[simp] theorem State.setFs_steppers (L : List (Field × Nat)) : (s.setFs L).steppers = s.steppers := by rw [State.setFs_eq]
@[simp] theorem State.setFs_traces (L : List (Field × Nat)) : (s.setFs L).traces = s.traces := by rw [State.setFs_eq]
@[simp] theorem State.setFs_outs (L : List (Field × Nat)) : (s.setFs L).outs = s.outs := by rw [State.setFs_eq]
@[simp] theorem State.setFs_motors (L : List (Field × Nat)) : (s.setFs L).motors = s.motors := by rw [State.setFs_eq]
@[simp] theorem State.setFs_buses (L : List (Field × Nat)) : (s.setFs L).buses = s.buses := by rw [State.setFs_eq]
@[simp] theorem State.setFs_hk (L : List (Field × Nat)) : (s.setFs L).hk = s.hk := by rw [State.setFs_eq]
@[simp] theorem State.setFs_stepAt (L : List (Field × Nat)) : (s.setFs L).stepAt = s.stepAt := by rw [State.setFs_eq]
@[simp] theorem State.setFs_checkAt (L : List (Field × Nat)) : (s.setFs L).checkAt = s.checkAt := by rw [State.setFs_eq]
@[simp] theorem State.setFs_otp (L : List (Field × Nat)) : (s.setFs L).otp = s.otp := by rw [State.setFs_eq]
@[simp] theorem State.setFs_keeper (L : List (Field × Nat)) : (s.setFs L).keeper = s.keeper := by rw [State.setFs_eq]
@[simp] theorem State.setFs_fifo (L : List (Field × Nat)) : (s.setFs L).fifo = s.fifo := by rw [State.setFs_eq]
@[simp] theorem State.setFs_fifoLost (L : List (Field × Nat)) : (s.setFs L).fifoLost = s.fifoLost := by rw [State.setFs_eq]
@[simp] theorem State.setFs_cntStage (L : List (Field × Nat)) : (s.setFs L).cntStage = s.cntStage := by rw [State.setFs_eq]

/-- What a run of register writes does (R8): its fields hold the values, all else stands. -/
theorem Writes.setFs (L : List (Field × Nat)) (hn : (L.map fun p => p.1.key).Nodup) : Writes L s (s.setFs L) :=
  ⟨State.setFs_eq s L, State.setFs_f_in s L hn, fun y => State.setFs_f_out s y L⟩

theorem Writes.of_regs {L : List (Field × Nat)} {s t : State} (hn : (L.map fun p => p.1.key).Nodup)
    (h : t = { s with regs := (s.setFs L).regs }) : Writes L s t := by
  rw [h, ← State.setFs_eq]
  exact Writes.setFs s L hn

/-- The register file after a run of writes. -/
def putRegs (r : Tbl Nat) : List (Field × Nat) → Tbl Nat
  | [] => r
  | (x, v) :: l => putRegs (tput x.reset r x.key (v % 2 ^ x.width)) l

theorem State.setFs_put (L : List (Field × Nat)) : s.setFs L = { s with regs := putRegs s.regs L } := by
  induction L generalizing s with
  | nil => rfl
  | cons p r ih => exact (ih (s.setF p.1 p.2)).trans rfl

theorem State.setF_put : s.setF x v = { s with regs := putRegs s.regs [(x, v)] } := rfl

theorem putRegs_append (r : Tbl Nat) (L M : List (Field × Nat)) : putRegs (putRegs r L) M = putRegs r (L ++ M) := by
  induction L generalizing r with
  | nil => rfl
  | cons p l ih => exact ih _

theorem State.f_put_out (L : List (Field × Nat)) (h : ∀ p ∈ L, y.key ≠ p.1.key) : tget y.reset (putRegs s.regs L) y.key % 2 ^ y.width = s.f y := by
  have := State.setFs_f_out s y L h
  rw [State.setFs_put] at this
  exact this

/-- A state that is another one but for a run of register writes. -/
theorem Writes.put {L : List (Field × Nat)} {s t : State} (hn : (L.map fun p => p.1.key).Nodup)
    (h : t = { s with regs := putRegs s.regs L }) : Writes L s t := by
  rw [h, ← State.setFs_put]
  exact Writes.setFs s L hn

theorem Writes.nil : Writes [] s s := ⟨rfl, fun _ h => absurd h List.not_mem_nil, fun _ _ => rfl⟩

theorem Writes.trans {L M : List (Field × Nat)} {s t u : State} (h1 : Writes L s t) (h2 : Writes M t u)
    (hd : ∀ p ∈ L, ∀ q ∈ M, p.1.key ≠ q.1.key) : Writes (L ++ M) s u := by
  refine ⟨?_, fun p hp => ?_, fun y hy => ?_⟩
  · rw [h2.1, h1.1]
  · rcases List.mem_append.mp hp with h | h
    · rw [h2.2.2 p.1 fun q hq => hd p h q hq]
      exact h1.2.1 p h
    · exact h2.2.1 p h
  · rw [h2.2.2 y fun q hq => hy q (List.mem_append_right _ hq)]
    exact h1.2.2 y fun q hq => hy q (List.mem_append_left _ hq)

theorem State.setPair_eq (hi lo : Field) : s.setPair hi lo v = s.setFs [(lo, v), (hi, v / 2 ^ lo.width)] := rfl

theorem State.setB_eq (b : Bool) : s.setB x b = s.setFs [(x, b2n b)] := rfl

theorem State.setBitF_eq (i : Nat) (b : Bool) : s.setBitF x i b = s.setFs [(x, putBit (s.f x) i b)] := rfl

theorem State.addF_eq (n : Nat) : s.addF x n = s.setFs [(x, min (s.f x + n) (2 ^ x.width - 1))] := rfl

theorem State.setFs_cons (p : Field × Nat) (L : List (Field × Nat)) : s.setFs (p :: L) = (s.setF p.1 p.2).setFs L := rfl

/-! ## The units -/

@[simp] theorem State.setStation_f (n : Nat) (z : Station) : (s.setStation n z).f x = s.f x := rfl
@[simp] theorem State.setStation_time (n : Nat) (z : Station) : (s.setStation n z).time = s.time := rfl
@[simp] theorem State.setStation_pending (n : Nat) (z : Station) : (s.setStation n z).pending = s.pending := rfl
@[simp] theorem State.setStation_station_same (n : Nat) (z : Station) : (s.setStation n z).station n = z := tget_tput_same ..
theorem State.setStation_station_ne {n m : Nat} (z : Station) (h : m ≠ n) : (s.setStation n z).station m = s.station m := tget_tput_ne _ _ _ _ (Ne.symm h)
@[simp] theorem State.setF_station (n : Nat) : (s.setF x v).station n = s.station n := rfl
@[simp] theorem State.setFs_station (n : Nat) (L : List (Field × Nat)) : (s.setFs L).station n = s.station n := by rw [State.setFs_eq]; rfl

@[simp] theorem State.setGear_f (n : Nat) (z : Gear) : (s.setGear n z).f x = s.f x := rfl
@[simp] theorem State.setGear_time (n : Nat) (z : Gear) : (s.setGear n z).time = s.time := rfl
@[simp] theorem State.setGear_pending (n : Nat) (z : Gear) : (s.setGear n z).pending = s.pending := rfl
@[simp] theorem State.setGear_gearOf_same (n : Nat) (z : Gear) : (s.setGear n z).gearOf n = z := tget_tput_same ..
theorem State.setGear_gearOf_ne {n m : Nat} (z : Gear) (h : m ≠ n) : (s.setGear n z).gearOf m = s.gearOf m := tget_tput_ne _ _ _ _ (Ne.symm h)
@[simp] theorem State.setF_gearOf (n : Nat) : (s.setF x v).gearOf n = s.gearOf n := rfl
@[simp] theorem State.setFs_gearOf (n : Nat) (L : List (Field × Nat)) : (s.setFs L).gearOf n = s.gearOf n := by rw [State.setFs_eq]; rfl

@[simp] theorem State.setSource_f (i : Nat) (z : Src) : (s.setSource i z).f x = s.f x := rfl
@[simp] theorem State.setSource_time (i : Nat) (z : Src) : (s.setSource i z).time = s.time := rfl
@[simp] theorem State.setSource_pending (i : Nat) (z : Src) : (s.setSource i z).pending = s.pending := rfl
@[simp] theorem State.setSource_source_same (i : Nat) (z : Src) : (s.setSource i z).source i = z := tget_tput_same ..
theorem State.setSource_source_ne {i m : Nat} (z : Src) (h : m ≠ i) : (s.setSource i z).source m = s.source m := tget_tput_ne _ _ _ _ (Ne.symm h)
@[simp] theorem State.setF_source (i : Nat) : (s.setF x v).source i = s.source i := rfl
@[simp] theorem State.setFs_source (i : Nat) (L : List (Field × Nat)) : (s.setFs L).source i = s.source i := by rw [State.setFs_eq]; rfl

@[simp] theorem State.setMdll_f (n : Nat) (z : Mdll) : (s.setMdll n z).f x = s.f x := rfl
@[simp] theorem State.setMdll_time (n : Nat) (z : Mdll) : (s.setMdll n z).time = s.time := rfl
@[simp] theorem State.setMdll_pending (n : Nat) (z : Mdll) : (s.setMdll n z).pending = s.pending := rfl
@[simp] theorem State.setMdll_mdll_same (n : Nat) (z : Mdll) : (s.setMdll n z).mdll n = z := tget_tput_same ..
theorem State.setMdll_mdll_ne {n m : Nat} (z : Mdll) (h : m ≠ n) : (s.setMdll n z).mdll m = s.mdll m := tget_tput_ne _ _ _ _ (Ne.symm h)
@[simp] theorem State.setF_mdll (n : Nat) : (s.setF x v).mdll n = s.mdll n := rfl
@[simp] theorem State.setFs_mdll (n : Nat) (L : List (Field × Nat)) : (s.setFs L).mdll n = s.mdll n := by rw [State.setFs_eq]; rfl

@[simp] theorem State.setMallet_f (m : Nat) (z : Mallet) : (s.setMallet m z).f x = s.f x := rfl
@[simp] theorem State.setMallet_time (m : Nat) (z : Mallet) : (s.setMallet m z).time = s.time := rfl
@[simp] theorem State.setMallet_pending (m : Nat) (z : Mallet) : (s.setMallet m z).pending = s.pending := rfl
@[simp] theorem State.setMallet_mallet_same (m : Nat) (z : Mallet) : (s.setMallet m z).mallet m = z := tget_tput_same ..
theorem State.setMallet_mallet_ne {m k : Nat} (z : Mallet) (h : k ≠ m) : (s.setMallet m z).mallet k = s.mallet k := tget_tput_ne _ _ _ _ (Ne.symm h)
@[simp] theorem State.setF_mallet (m : Nat) : (s.setF x v).mallet m = s.mallet m := rfl
@[simp] theorem State.setFs_mallet (m : Nat) (L : List (Field × Nat)) : (s.setFs L).mallet m = s.mallet m := by rw [State.setFs_eq]; rfl

@[simp] theorem State.setRole_f (r : Nat) (z : Role) : (s.setRole r z).f x = s.f x := rfl
@[simp] theorem State.setRole_time (r : Nat) (z : Role) : (s.setRole r z).time = s.time := rfl
@[simp] theorem State.setRole_pending (r : Nat) (z : Role) : (s.setRole r z).pending = s.pending := rfl
@[simp] theorem State.setRole_role_same (r : Nat) (z : Role) : (s.setRole r z).role r = z := tget_tput_same ..
theorem State.setRole_role_ne {r m : Nat} (z : Role) (h : m ≠ r) : (s.setRole r z).role m = s.role m := tget_tput_ne _ _ _ _ (Ne.symm h)
@[simp] theorem State.setF_role (r : Nat) : (s.setF x v).role r = s.role r := rfl
@[simp] theorem State.setFs_role (r : Nat) (L : List (Field × Nat)) : (s.setFs L).role r = s.role r := by rw [State.setFs_eq]; rfl

@[simp] theorem State.setLane_f (l : Nat) (z : Lane) : (s.setLane l z).f x = s.f x := rfl
@[simp] theorem State.setLane_time (l : Nat) (z : Lane) : (s.setLane l z).time = s.time := rfl
@[simp] theorem State.setLane_pending (l : Nat) (z : Lane) : (s.setLane l z).pending = s.pending := rfl
@[simp] theorem State.setLane_lane_same (l : Nat) (z : Lane) : (s.setLane l z).lane l = z := tget_tput_same ..
theorem State.setLane_lane_ne {l m : Nat} (z : Lane) (h : m ≠ l) : (s.setLane l z).lane m = s.lane m := tget_tput_ne _ _ _ _ (Ne.symm h)
@[simp] theorem State.setF_lane (l : Nat) : (s.setF x v).lane l = s.lane l := rfl
@[simp] theorem State.setFs_lane (l : Nat) (L : List (Field × Nat)) : (s.setFs L).lane l = s.lane l := by rw [State.setFs_eq]; rfl

@[simp] theorem State.setChan_f (c : Nat) (z : Dma) : (s.setChan c z).f x = s.f x := rfl
@[simp] theorem State.setChan_time (c : Nat) (z : Dma) : (s.setChan c z).time = s.time := rfl
@[simp] theorem State.setChan_pending (c : Nat) (z : Dma) : (s.setChan c z).pending = s.pending := rfl
@[simp] theorem State.setChan_chan_same (c : Nat) (z : Dma) : (s.setChan c z).chan c = z := tget_tput_same ..
theorem State.setChan_chan_ne {c m : Nat} (z : Dma) (h : m ≠ c) : (s.setChan c z).chan m = s.chan m := tget_tput_ne _ _ _ _ (Ne.symm h)
@[simp] theorem State.setF_chan (c : Nat) : (s.setF x v).chan c = s.chan c := rfl
@[simp] theorem State.setFs_chan (c : Nat) (L : List (Field × Nat)) : (s.setFs L).chan c = s.chan c := by rw [State.setFs_eq]; rfl

@[simp] theorem State.setSlot_f (n i : Nat) (z : Option Slot) : (s.setSlot n i z).f x = s.f x := rfl
@[simp] theorem State.setSlot_time (n i : Nat) (z : Option Slot) : (s.setSlot n i z).time = s.time := rfl
@[simp] theorem State.setSlot_pending (n i : Nat) (z : Option Slot) : (s.setSlot n i z).pending = s.pending := rfl
@[simp] theorem State.setSlot_slot_same (n i : Nat) (z : Option Slot) : (s.setSlot n i z).slot n i = z := tget_tput_same ..
@[simp] theorem State.setF_slot (n i : Nat) : (s.setF x v).slot n i = s.slot n i := rfl
@[simp] theorem State.setFs_slot (n i : Nat) (L : List (Field × Nat)) : (s.setFs L).slot n i = s.slot n i := by rw [State.setFs_eq]; rfl

@[simp] theorem State.setEp_f (n : Nat) (z : Ep) : (s.setEp n z).f x = s.f x := rfl
@[simp] theorem State.setEp_time (n : Nat) (z : Ep) : (s.setEp n z).time = s.time := rfl
@[simp] theorem State.setEp_pending (n : Nat) (z : Ep) : (s.setEp n z).pending = s.pending := rfl
@[simp] theorem State.setEp_epSt_same (n : Nat) (z : Ep) : (s.setEp n z).epSt n = z := tget_tput_same ..
theorem State.setEp_epSt_ne {n m : Nat} (z : Ep) (h : m ≠ n) : (s.setEp n z).epSt m = s.epSt m := tget_tput_ne _ _ _ _ (Ne.symm h)
@[simp] theorem State.setF_epSt (n : Nat) : (s.setF x v).epSt n = s.epSt n := rfl
@[simp] theorem State.setFs_epSt (n : Nat) (L : List (Field × Nat)) : (s.setFs L).epSt n = s.epSt n := by rw [State.setFs_eq]; rfl

@[simp] theorem State.setInk_f (n : Nat) (z : InkSt) : (s.setInk n z).f x = s.f x := rfl
@[simp] theorem State.setInk_time (n : Nat) (z : InkSt) : (s.setInk n z).time = s.time := rfl
@[simp] theorem State.setInk_pending (n : Nat) (z : InkSt) : (s.setInk n z).pending = s.pending := rfl
@[simp] theorem State.setInk_inkSt_same (n : Nat) (z : InkSt) : (s.setInk n z).inkSt n = z := tget_tput_same ..
theorem State.setInk_inkSt_ne {n m : Nat} (z : InkSt) (h : m ≠ n) : (s.setInk n z).inkSt m = s.inkSt m := tget_tput_ne _ _ _ _ (Ne.symm h)
@[simp] theorem State.setF_inkSt (n : Nat) : (s.setF x v).inkSt n = s.inkSt n := rfl
@[simp] theorem State.setFs_inkSt (n : Nat) (L : List (Field × Nat)) : (s.setFs L).inkSt n = s.inkSt n := by rw [State.setFs_eq]; rfl

@[simp] theorem State.setHead_f (n h : Nat) (z : Head) : (s.setHead n h z).f x = s.f x := rfl
@[simp] theorem State.setHead_time (n h : Nat) (z : Head) : (s.setHead n h z).time = s.time := rfl
@[simp] theorem State.setHead_pending (n h : Nat) (z : Head) : (s.setHead n h z).pending = s.pending := rfl
@[simp] theorem State.setHead_head_same (n h : Nat) (z : Head) : (s.setHead n h z).head n h = z := tget_tput_same ..
@[simp] theorem State.setF_head (n h : Nat) : (s.setF x v).head n h = s.head n h := rfl
@[simp] theorem State.setFs_head (n h : Nat) (L : List (Field × Nat)) : (s.setFs L).head n h = s.head n h := by rw [State.setFs_eq]; rfl

@[simp] theorem State.setHv_f (c : Nat) (z : Hv) : (s.setHv c z).f x = s.f x := rfl
@[simp] theorem State.setHv_time (c : Nat) (z : Hv) : (s.setHv c z).time = s.time := rfl
@[simp] theorem State.setHv_pending (c : Nat) (z : Hv) : (s.setHv c z).pending = s.pending := rfl
@[simp] theorem State.setHv_hvCh_same (c : Nat) (z : Hv) : (s.setHv c z).hvCh c = z := tget_tput_same ..
theorem State.setHv_hvCh_ne {c m : Nat} (z : Hv) (h : m ≠ c) : (s.setHv c z).hvCh m = s.hvCh m := tget_tput_ne _ _ _ _ (Ne.symm h)
@[simp] theorem State.setF_hvCh (c : Nat) : (s.setF x v).hvCh c = s.hvCh c := rfl
@[simp] theorem State.setFs_hvCh (c : Nat) (L : List (Field × Nat)) : (s.setFs L).hvCh c = s.hvCh c := by rw [State.setFs_eq]; rfl

@[simp] theorem State.setZone_f (c : Nat) (z : Fuser) : (s.setZone c z).f x = s.f x := rfl
@[simp] theorem State.setZone_time (c : Nat) (z : Fuser) : (s.setZone c z).time = s.time := rfl
@[simp] theorem State.setZone_pending (c : Nat) (z : Fuser) : (s.setZone c z).pending = s.pending := rfl
@[simp] theorem State.setZone_zone_same (c : Nat) (z : Fuser) : (s.setZone c z).zone c = z := tget_tput_same ..
theorem State.setZone_zone_ne {c m : Nat} (z : Fuser) (h : m ≠ c) : (s.setZone c z).zone m = s.zone m := tget_tput_ne _ _ _ _ (Ne.symm h)
@[simp] theorem State.setF_zone (c : Nat) : (s.setF x v).zone c = s.zone c := rfl
@[simp] theorem State.setFs_zone (c : Nat) (L : List (Field × Nat)) : (s.setFs L).zone c = s.zone c := by rw [State.setFs_eq]; rfl

@[simp] theorem State.setAxis_f (a : Nat) (z : Axis) : (s.setAxis a z).f x = s.f x := rfl
@[simp] theorem State.setAxis_time (a : Nat) (z : Axis) : (s.setAxis a z).time = s.time := rfl
@[simp] theorem State.setAxis_pending (a : Nat) (z : Axis) : (s.setAxis a z).pending = s.pending := rfl
@[simp] theorem State.setAxis_axis_same (a : Nat) (z : Axis) : (s.setAxis a z).axis a = z := tget_tput_same ..
theorem State.setAxis_axis_ne {a m : Nat} (z : Axis) (h : m ≠ a) : (s.setAxis a z).axis m = s.axis m := tget_tput_ne _ _ _ _ (Ne.symm h)
@[simp] theorem State.setF_axis (a : Nat) : (s.setF x v).axis a = s.axis a := rfl
@[simp] theorem State.setFs_axis (a : Nat) (L : List (Field × Nat)) : (s.setFs L).axis a = s.axis a := by rw [State.setFs_eq]; rfl

@[simp] theorem State.setGroup_f (g : Nat) (z : Group) : (s.setGroup g z).f x = s.f x := rfl
@[simp] theorem State.setGroup_time (g : Nat) (z : Group) : (s.setGroup g z).time = s.time := rfl
@[simp] theorem State.setGroup_pending (g : Nat) (z : Group) : (s.setGroup g z).pending = s.pending := rfl
@[simp] theorem State.setGroup_group_same (g : Nat) (z : Group) : (s.setGroup g z).group g = z := tget_tput_same ..
theorem State.setGroup_group_ne {g m : Nat} (z : Group) (h : m ≠ g) : (s.setGroup g z).group m = s.group m := tget_tput_ne _ _ _ _ (Ne.symm h)
@[simp] theorem State.setF_group (g : Nat) : (s.setF x v).group g = s.group g := rfl
@[simp] theorem State.setFs_group (g : Nat) (L : List (Field × Nat)) : (s.setFs L).group g = s.group g := by rw [State.setFs_eq]; rfl

@[simp] theorem State.setStepper_f (i : Nat) (z : Stepper) : (s.setStepper i z).f x = s.f x := rfl
@[simp] theorem State.setStepper_time (i : Nat) (z : Stepper) : (s.setStepper i z).time = s.time := rfl
@[simp] theorem State.setStepper_pending (i : Nat) (z : Stepper) : (s.setStepper i z).pending = s.pending := rfl
@[simp] theorem State.setStepper_stepper_same (i : Nat) (z : Stepper) : (s.setStepper i z).stepper i = z := tget_tput_same ..
theorem State.setStepper_stepper_ne {i m : Nat} (z : Stepper) (h : m ≠ i) : (s.setStepper i z).stepper m = s.stepper m := tget_tput_ne _ _ _ _ (Ne.symm h)
@[simp] theorem State.setF_stepper (i : Nat) : (s.setF x v).stepper i = s.stepper i := rfl
@[simp] theorem State.setFs_stepper (i : Nat) (L : List (Field × Nat)) : (s.setFs L).stepper i = s.stepper i := by rw [State.setFs_eq]; rfl

@[simp] theorem State.setTrace_f (u : Nat) (z : Trace) : (s.setTrace u z).f x = s.f x := rfl
@[simp] theorem State.setTrace_time (u : Nat) (z : Trace) : (s.setTrace u z).time = s.time := rfl
@[simp] theorem State.setTrace_pending (u : Nat) (z : Trace) : (s.setTrace u z).pending = s.pending := rfl
@[simp] theorem State.setTrace_trace_same (u : Nat) (z : Trace) : (s.setTrace u z).trace u = z := tget_tput_same ..
theorem State.setTrace_trace_ne {u m : Nat} (z : Trace) (h : m ≠ u) : (s.setTrace u z).trace m = s.trace m := tget_tput_ne _ _ _ _ (Ne.symm h)
@[simp] theorem State.setF_trace (u : Nat) : (s.setF x v).trace u = s.trace u := rfl
@[simp] theorem State.setFs_trace (u : Nat) (L : List (Field × Nat)) : (s.setFs L).trace u = s.trace u := by rw [State.setFs_eq]; rfl

@[simp] theorem State.setMotor_f (c : Nat) (z : Motor) : (s.setMotor c z).f x = s.f x := rfl
@[simp] theorem State.setMotor_time (c : Nat) (z : Motor) : (s.setMotor c z).time = s.time := rfl
@[simp] theorem State.setMotor_pending (c : Nat) (z : Motor) : (s.setMotor c z).pending = s.pending := rfl
@[simp] theorem State.setMotor_motor_same (c : Nat) (z : Motor) : (s.setMotor c z).motor c = z := tget_tput_same ..
theorem State.setMotor_motor_ne {c m : Nat} (z : Motor) (h : m ≠ c) : (s.setMotor c z).motor m = s.motor m := tget_tput_ne _ _ _ _ (Ne.symm h)
@[simp] theorem State.setF_motor (c : Nat) : (s.setF x v).motor c = s.motor c := rfl
@[simp] theorem State.setFs_motor (c : Nat) (L : List (Field × Nat)) : (s.setFs L).motor c = s.motor c := by rw [State.setFs_eq]; rfl

@[simp] theorem State.setBus_f (b : Nat) (z : Bus) : (s.setBus b z).f x = s.f x := rfl
@[simp] theorem State.setBus_time (b : Nat) (z : Bus) : (s.setBus b z).time = s.time := rfl
@[simp] theorem State.setBus_pending (b : Nat) (z : Bus) : (s.setBus b z).pending = s.pending := rfl
@[simp] theorem State.setBus_busOf_same (b : Nat) (z : Bus) : (s.setBus b z).busOf b = z := tget_tput_same ..
theorem State.setBus_busOf_ne {b m : Nat} (z : Bus) (h : m ≠ b) : (s.setBus b z).busOf m = s.busOf m := tget_tput_ne _ _ _ _ (Ne.symm h)
@[simp] theorem State.setF_busOf (b : Nat) : (s.setF x v).busOf b = s.busOf b := rfl
@[simp] theorem State.setFs_busOf (b : Nat) (L : List (Field × Nat)) : (s.setFs L).busOf b = s.busOf b := by rw [State.setFs_eq]; rfl

@[simp] theorem State.setHk_f (c : Nat) (z : HkCh) : (s.setHk c z).f x = s.f x := rfl
@[simp] theorem State.setHk_time (c : Nat) (z : HkCh) : (s.setHk c z).time = s.time := rfl
@[simp] theorem State.setHk_pending (c : Nat) (z : HkCh) : (s.setHk c z).pending = s.pending := rfl
@[simp] theorem State.setHk_hkCh_same (c : Nat) (z : HkCh) : (s.setHk c z).hkCh c = z := tget_tput_same ..
theorem State.setHk_hkCh_ne {c m : Nat} (z : HkCh) (h : m ≠ c) : (s.setHk c z).hkCh m = s.hkCh m := tget_tput_ne _ _ _ _ (Ne.symm h)
@[simp] theorem State.setF_hkCh (c : Nat) : (s.setF x v).hkCh c = s.hkCh c := rfl
@[simp] theorem State.setFs_hkCh (c : Nat) (L : List (Field × Nat)) : (s.setFs L).hkCh c = s.hkCh c := by rw [State.setFs_eq]; rfl

/-! ## Answers, latched words and free values -/

@[simp] theorem State.draw_pending  : (s.draw).pending = s.pending := rfl
@[simp] theorem State.draw_answer  : (s.draw).answer = s.answer := rfl
@[simp] theorem State.draw_time  : (s.draw).time = s.time := rfl
@[simp] theorem State.draw_regs  : (s.draw).regs = s.regs := rfl
@[simp] theorem State.draw_shadow  : (s.draw).shadow = s.shadow := rfl
@[simp] theorem State.draw_count  : (s.draw).count = s.count := rfl
@[simp] theorem State.draw_freeze  : (s.draw).freeze = s.freeze := rfl
@[simp] theorem State.draw_clk  : (s.draw).clk = s.clk := rfl
@[simp] theorem State.draw_snare  : (s.draw).snare = s.snare := rfl
@[simp] theorem State.draw_web  : (s.draw).web = s.web := rfl
@[simp] theorem State.draw_gear  : (s.draw).gear = s.gear := rfl
@[simp] theorem State.draw_st  : (s.draw).st = s.st := rfl
@[simp] theorem State.draw_mem  : (s.draw).mem = s.mem := rfl
@[simp] theorem State.draw_lst  : (s.draw).lst = s.lst := rfl
@[simp] theorem State.draw_slots  : (s.draw).slots = s.slots := rfl
@[simp] theorem State.draw_dma  : (s.draw).dma = s.dma := rfl
@[simp] theorem State.draw_hostOut  : (s.draw).hostOut = s.hostOut := rfl
@[simp] theorem State.draw_scan  : (s.draw).scan = s.scan := rfl
@[simp] theorem State.draw_engaged  : (s.draw).engaged = s.engaged := rfl
@[simp] theorem State.draw_tmem  : (s.draw).tmem = s.tmem := rfl
@[simp] theorem State.draw_cs  : (s.draw).cs = s.cs := rfl
@[simp] theorem State.draw_nextEpoch  : (s.draw).nextEpoch = s.nextEpoch := rfl
@[simp] theorem State.draw_ledger  : (s.draw).ledger = s.ledger := rfl
@[simp] theorem State.draw_mlt  : (s.draw).mlt = s.mlt := rfl
@[simp] theorem State.draw_imem  : (s.draw).imem = s.imem := rfl
@[simp] theorem State.draw_dmem  : (s.draw).dmem = s.dmem := rfl
@[simp] theorem State.draw_msm  : (s.draw).msm = s.msm := rfl
@[simp] theorem State.draw_mltPoison  : (s.draw).mltPoison = s.mltPoison := rfl
@[simp] theorem State.draw_roles  : (s.draw).roles = s.roles := rfl
@[simp] theorem State.draw_flights  : (s.draw).flights = s.flights := rfl
@[simp] theorem State.draw_hostRx  : (s.draw).hostRx = s.hostRx := rfl
@[simp] theorem State.draw_gong  : (s.draw).gong = s.gong := rfl
@[simp] theorem State.draw_lanes  : (s.draw).lanes = s.lanes := rfl
@[simp] theorem State.draw_heads  : (s.draw).heads = s.heads := rfl
@[simp] theorem State.draw_ink  : (s.draw).ink = s.ink := rfl
@[simp] theorem State.draw_waves  : (s.draw).waves = s.waves := rfl
@[simp] theorem State.draw_dd  : (s.draw).dd = s.dd := rfl
@[simp] theorem State.draw_ddResults  : (s.draw).ddResults = s.ddResults := rfl
@[simp] theorem State.draw_sb  : (s.draw).sb = s.sb := rfl
@[simp] theorem State.draw_spares  : (s.draw).spares = s.spares := rfl
@[simp] theorem State.draw_ep  : (s.draw).ep = s.ep := rfl
@[simp] theorem State.draw_hv  : (s.draw).hv = s.hv := rfl
@[simp] theorem State.draw_fuser  : (s.draw).fuser = s.fuser := rfl
@[simp] theorem State.draw_zcAt  : (s.draw).zcAt = s.zcAt := rfl
@[simp] theorem State.draw_resid  : (s.draw).resid = s.resid := rfl
@[simp] theorem State.draw_msix  : (s.draw).msix = s.msix := rfl
@[simp] theorem State.draw_pba  : (s.draw).pba = s.pba := rfl
@[simp] theorem State.draw_d3hot  : (s.draw).d3hot = s.d3hot := rfl
@[simp] theorem State.draw_link  : (s.draw).link = s.link := rfl
@[simp] theorem State.draw_log  : (s.draw).log = s.log := rfl
@[simp] theorem State.draw_logKept  : (s.draw).logKept = s.logKept := rfl
@[simp] theorem State.draw_logSeq  : (s.draw).logSeq = s.logSeq := rfl
@[simp] theorem State.draw_finals  : (s.draw).finals = s.finals := rfl
@[simp] theorem State.draw_saved  : (s.draw).saved = s.saved := rfl
@[simp] theorem State.draw_calSec  : (s.draw).calSec = s.calSec := rfl
@[simp] theorem State.draw_calFrac  : (s.draw).calFrac = s.calFrac := rfl
@[simp] theorem State.draw_calSub  : (s.draw).calSub = s.calSub := rfl
@[simp] theorem State.draw_boots  : (s.draw).boots = s.boots := rfl
@[simp] theorem State.draw_gpio  : (s.draw).gpio = s.gpio := rfl
@[simp] theorem State.draw_timed  : (s.draw).timed = s.timed := rfl
@[simp] theorem State.draw_feedTurn  : (s.draw).feedTurn = s.feedTurn := rfl
@[simp] theorem State.draw_storeSeq  : (s.draw).storeSeq = s.storeSeq := rfl
@[simp] theorem State.draw_tmemBad  : (s.draw).tmemBad = s.tmemBad := rfl
@[simp] theorem State.draw_loadAt  : (s.draw).loadAt = s.loadAt := rfl
@[simp] theorem State.draw_keeperRx  : (s.draw).keeperRx = s.keeperRx := rfl
@[simp] theorem State.draw_eventPort  : (s.draw).eventPort = s.eventPort := rfl
@[simp] theorem State.draw_stops  : (s.draw).stops = s.stops := rfl
@[simp] theorem State.draw_stopOpen  : (s.draw).stopOpen = s.stopOpen := rfl
@[simp] theorem State.draw_life  : (s.draw).life = s.life := rfl
@[simp] theorem State.draw_lifeSaved  : (s.draw).lifeSaved = s.lifeSaved := rfl
@[simp] theorem State.draw_timers  : (s.draw).timers = s.timers := rfl
@[simp] theorem State.draw_pgenAt  : (s.draw).pgenAt = s.pgenAt := rfl
@[simp] theorem State.draw_axes  : (s.draw).axes = s.axes := rfl
@[simp] theorem State.draw_groups  : (s.draw).groups = s.groups := rfl
@[simp] theorem State.draw_steppers  : (s.draw).steppers = s.steppers := rfl
@[simp] theorem State.draw_traces  : (s.draw).traces = s.traces := rfl
@[simp] theorem State.draw_outs  : (s.draw).outs = s.outs := rfl
@[simp] theorem State.draw_motors  : (s.draw).motors = s.motors := rfl
@[simp] theorem State.draw_buses  : (s.draw).buses = s.buses := rfl
@[simp] theorem State.draw_hk  : (s.draw).hk = s.hk := rfl
@[simp] theorem State.draw_stepAt  : (s.draw).stepAt = s.stepAt := rfl
@[simp] theorem State.draw_checkAt  : (s.draw).checkAt = s.checkAt := rfl
@[simp] theorem State.draw_otp  : (s.draw).otp = s.otp := rfl
@[simp] theorem State.draw_keeper  : (s.draw).keeper = s.keeper := rfl
@[simp] theorem State.draw_fifo  : (s.draw).fifo = s.fifo := rfl
@[simp] theorem State.draw_fifoLost  : (s.draw).fifoLost = s.fifoLost := rfl
@[simp] theorem State.draw_cntStage  : (s.draw).cntStage = s.cntStage := rfl
@[simp] theorem State.draw_f  : (s.draw).f x = s.f x := rfl

@[simp] theorem State.latch_pending (a b c : Nat) : (s.latch a b c).pending = s.pending := rfl
@[simp] theorem State.latch_free (a b c : Nat) : (s.latch a b c).free = s.free := rfl
@[simp] theorem State.latch_answer (a b c : Nat) : (s.latch a b c).answer = s.answer := rfl
@[simp] theorem State.latch_time (a b c : Nat) : (s.latch a b c).time = s.time := rfl
@[simp] theorem State.latch_regs (a b c : Nat) : (s.latch a b c).regs = s.regs := rfl
@[simp] theorem State.latch_count (a b c : Nat) : (s.latch a b c).count = s.count := rfl
@[simp] theorem State.latch_freeze (a b c : Nat) : (s.latch a b c).freeze = s.freeze := rfl
@[simp] theorem State.latch_clk (a b c : Nat) : (s.latch a b c).clk = s.clk := rfl
@[simp] theorem State.latch_snare (a b c : Nat) : (s.latch a b c).snare = s.snare := rfl
@[simp] theorem State.latch_web (a b c : Nat) : (s.latch a b c).web = s.web := rfl
@[simp] theorem State.latch_gear (a b c : Nat) : (s.latch a b c).gear = s.gear := rfl
@[simp] theorem State.latch_st (a b c : Nat) : (s.latch a b c).st = s.st := rfl
@[simp] theorem State.latch_mem (a b c : Nat) : (s.latch a b c).mem = s.mem := rfl
@[simp] theorem State.latch_lst (a b c : Nat) : (s.latch a b c).lst = s.lst := rfl
@[simp] theorem State.latch_slots (a b c : Nat) : (s.latch a b c).slots = s.slots := rfl
@[simp] theorem State.latch_dma (a b c : Nat) : (s.latch a b c).dma = s.dma := rfl
@[simp] theorem State.latch_hostOut (a b c : Nat) : (s.latch a b c).hostOut = s.hostOut := rfl
@[simp] theorem State.latch_scan (a b c : Nat) : (s.latch a b c).scan = s.scan := rfl
@[simp] theorem State.latch_engaged (a b c : Nat) : (s.latch a b c).engaged = s.engaged := rfl
@[simp] theorem State.latch_tmem (a b c : Nat) : (s.latch a b c).tmem = s.tmem := rfl
@[simp] theorem State.latch_cs (a b c : Nat) : (s.latch a b c).cs = s.cs := rfl
@[simp] theorem State.latch_nextEpoch (a b c : Nat) : (s.latch a b c).nextEpoch = s.nextEpoch := rfl
@[simp] theorem State.latch_ledger (a b c : Nat) : (s.latch a b c).ledger = s.ledger := rfl
@[simp] theorem State.latch_mlt (a b c : Nat) : (s.latch a b c).mlt = s.mlt := rfl
@[simp] theorem State.latch_imem (a b c : Nat) : (s.latch a b c).imem = s.imem := rfl
@[simp] theorem State.latch_dmem (a b c : Nat) : (s.latch a b c).dmem = s.dmem := rfl
@[simp] theorem State.latch_msm (a b c : Nat) : (s.latch a b c).msm = s.msm := rfl
@[simp] theorem State.latch_mltPoison (a b c : Nat) : (s.latch a b c).mltPoison = s.mltPoison := rfl
@[simp] theorem State.latch_roles (a b c : Nat) : (s.latch a b c).roles = s.roles := rfl
@[simp] theorem State.latch_flights (a b c : Nat) : (s.latch a b c).flights = s.flights := rfl
@[simp] theorem State.latch_hostRx (a b c : Nat) : (s.latch a b c).hostRx = s.hostRx := rfl
@[simp] theorem State.latch_gong (a b c : Nat) : (s.latch a b c).gong = s.gong := rfl
@[simp] theorem State.latch_lanes (a b c : Nat) : (s.latch a b c).lanes = s.lanes := rfl
@[simp] theorem State.latch_heads (a b c : Nat) : (s.latch a b c).heads = s.heads := rfl
@[simp] theorem State.latch_ink (a b c : Nat) : (s.latch a b c).ink = s.ink := rfl
@[simp] theorem State.latch_waves (a b c : Nat) : (s.latch a b c).waves = s.waves := rfl
@[simp] theorem State.latch_dd (a b c : Nat) : (s.latch a b c).dd = s.dd := rfl
@[simp] theorem State.latch_ddResults (a b c : Nat) : (s.latch a b c).ddResults = s.ddResults := rfl
@[simp] theorem State.latch_sb (a b c : Nat) : (s.latch a b c).sb = s.sb := rfl
@[simp] theorem State.latch_spares (a b c : Nat) : (s.latch a b c).spares = s.spares := rfl
@[simp] theorem State.latch_ep (a b c : Nat) : (s.latch a b c).ep = s.ep := rfl
@[simp] theorem State.latch_hv (a b c : Nat) : (s.latch a b c).hv = s.hv := rfl
@[simp] theorem State.latch_fuser (a b c : Nat) : (s.latch a b c).fuser = s.fuser := rfl
@[simp] theorem State.latch_zcAt (a b c : Nat) : (s.latch a b c).zcAt = s.zcAt := rfl
@[simp] theorem State.latch_resid (a b c : Nat) : (s.latch a b c).resid = s.resid := rfl
@[simp] theorem State.latch_msix (a b c : Nat) : (s.latch a b c).msix = s.msix := rfl
@[simp] theorem State.latch_pba (a b c : Nat) : (s.latch a b c).pba = s.pba := rfl
@[simp] theorem State.latch_d3hot (a b c : Nat) : (s.latch a b c).d3hot = s.d3hot := rfl
@[simp] theorem State.latch_link (a b c : Nat) : (s.latch a b c).link = s.link := rfl
@[simp] theorem State.latch_log (a b c : Nat) : (s.latch a b c).log = s.log := rfl
@[simp] theorem State.latch_logKept (a b c : Nat) : (s.latch a b c).logKept = s.logKept := rfl
@[simp] theorem State.latch_logSeq (a b c : Nat) : (s.latch a b c).logSeq = s.logSeq := rfl
@[simp] theorem State.latch_finals (a b c : Nat) : (s.latch a b c).finals = s.finals := rfl
@[simp] theorem State.latch_saved (a b c : Nat) : (s.latch a b c).saved = s.saved := rfl
@[simp] theorem State.latch_calSec (a b c : Nat) : (s.latch a b c).calSec = s.calSec := rfl
@[simp] theorem State.latch_calFrac (a b c : Nat) : (s.latch a b c).calFrac = s.calFrac := rfl
@[simp] theorem State.latch_calSub (a b c : Nat) : (s.latch a b c).calSub = s.calSub := rfl
@[simp] theorem State.latch_boots (a b c : Nat) : (s.latch a b c).boots = s.boots := rfl
@[simp] theorem State.latch_gpio (a b c : Nat) : (s.latch a b c).gpio = s.gpio := rfl
@[simp] theorem State.latch_timed (a b c : Nat) : (s.latch a b c).timed = s.timed := rfl
@[simp] theorem State.latch_feedTurn (a b c : Nat) : (s.latch a b c).feedTurn = s.feedTurn := rfl
@[simp] theorem State.latch_storeSeq (a b c : Nat) : (s.latch a b c).storeSeq = s.storeSeq := rfl
@[simp] theorem State.latch_tmemBad (a b c : Nat) : (s.latch a b c).tmemBad = s.tmemBad := rfl
@[simp] theorem State.latch_loadAt (a b c : Nat) : (s.latch a b c).loadAt = s.loadAt := rfl
@[simp] theorem State.latch_keeperRx (a b c : Nat) : (s.latch a b c).keeperRx = s.keeperRx := rfl
@[simp] theorem State.latch_eventPort (a b c : Nat) : (s.latch a b c).eventPort = s.eventPort := rfl
@[simp] theorem State.latch_stops (a b c : Nat) : (s.latch a b c).stops = s.stops := rfl
@[simp] theorem State.latch_stopOpen (a b c : Nat) : (s.latch a b c).stopOpen = s.stopOpen := rfl
@[simp] theorem State.latch_life (a b c : Nat) : (s.latch a b c).life = s.life := rfl
@[simp] theorem State.latch_lifeSaved (a b c : Nat) : (s.latch a b c).lifeSaved = s.lifeSaved := rfl
@[simp] theorem State.latch_timers (a b c : Nat) : (s.latch a b c).timers = s.timers := rfl
@[simp] theorem State.latch_pgenAt (a b c : Nat) : (s.latch a b c).pgenAt = s.pgenAt := rfl
@[simp] theorem State.latch_axes (a b c : Nat) : (s.latch a b c).axes = s.axes := rfl
@[simp] theorem State.latch_groups (a b c : Nat) : (s.latch a b c).groups = s.groups := rfl
@[simp] theorem State.latch_steppers (a b c : Nat) : (s.latch a b c).steppers = s.steppers := rfl
@[simp] theorem State.latch_traces (a b c : Nat) : (s.latch a b c).traces = s.traces := rfl
@[simp] theorem State.latch_outs (a b c : Nat) : (s.latch a b c).outs = s.outs := rfl
@[simp] theorem State.latch_motors (a b c : Nat) : (s.latch a b c).motors = s.motors := rfl
@[simp] theorem State.latch_buses (a b c : Nat) : (s.latch a b c).buses = s.buses := rfl
@[simp] theorem State.latch_hk (a b c : Nat) : (s.latch a b c).hk = s.hk := rfl
@[simp] theorem State.latch_stepAt (a b c : Nat) : (s.latch a b c).stepAt = s.stepAt := rfl
@[simp] theorem State.latch_checkAt (a b c : Nat) : (s.latch a b c).checkAt = s.checkAt := rfl
@[simp] theorem State.latch_otp (a b c : Nat) : (s.latch a b c).otp = s.otp := rfl
@[simp] theorem State.latch_keeper (a b c : Nat) : (s.latch a b c).keeper = s.keeper := rfl
@[simp] theorem State.latch_fifo (a b c : Nat) : (s.latch a b c).fifo = s.fifo := rfl
@[simp] theorem State.latch_fifoLost (a b c : Nat) : (s.latch a b c).fifoLost = s.fifoLost := rfl
@[simp] theorem State.latch_cntStage (a b c : Nat) : (s.latch a b c).cntStage = s.cntStage := rfl
@[simp] theorem State.latch_f (a b c : Nat) : (s.latch a b c).f x = s.f x := rfl

@[simp] theorem State.reply_pending (a : Nat) : (s.reply a).pending = s.pending := rfl
@[simp] theorem State.reply_free (a : Nat) : (s.reply a).free = s.free := rfl
@[simp] theorem State.reply_time (a : Nat) : (s.reply a).time = s.time := rfl
@[simp] theorem State.reply_regs (a : Nat) : (s.reply a).regs = s.regs := rfl
@[simp] theorem State.reply_shadow (a : Nat) : (s.reply a).shadow = s.shadow := rfl
@[simp] theorem State.reply_count (a : Nat) : (s.reply a).count = s.count := rfl
@[simp] theorem State.reply_freeze (a : Nat) : (s.reply a).freeze = s.freeze := rfl
@[simp] theorem State.reply_clk (a : Nat) : (s.reply a).clk = s.clk := rfl
@[simp] theorem State.reply_snare (a : Nat) : (s.reply a).snare = s.snare := rfl
@[simp] theorem State.reply_web (a : Nat) : (s.reply a).web = s.web := rfl
@[simp] theorem State.reply_gear (a : Nat) : (s.reply a).gear = s.gear := rfl
@[simp] theorem State.reply_st (a : Nat) : (s.reply a).st = s.st := rfl
@[simp] theorem State.reply_mem (a : Nat) : (s.reply a).mem = s.mem := rfl
@[simp] theorem State.reply_lst (a : Nat) : (s.reply a).lst = s.lst := rfl
@[simp] theorem State.reply_slots (a : Nat) : (s.reply a).slots = s.slots := rfl
@[simp] theorem State.reply_dma (a : Nat) : (s.reply a).dma = s.dma := rfl
@[simp] theorem State.reply_hostOut (a : Nat) : (s.reply a).hostOut = s.hostOut := rfl
@[simp] theorem State.reply_scan (a : Nat) : (s.reply a).scan = s.scan := rfl
@[simp] theorem State.reply_engaged (a : Nat) : (s.reply a).engaged = s.engaged := rfl
@[simp] theorem State.reply_tmem (a : Nat) : (s.reply a).tmem = s.tmem := rfl
@[simp] theorem State.reply_cs (a : Nat) : (s.reply a).cs = s.cs := rfl
@[simp] theorem State.reply_nextEpoch (a : Nat) : (s.reply a).nextEpoch = s.nextEpoch := rfl
@[simp] theorem State.reply_ledger (a : Nat) : (s.reply a).ledger = s.ledger := rfl
@[simp] theorem State.reply_mlt (a : Nat) : (s.reply a).mlt = s.mlt := rfl
@[simp] theorem State.reply_imem (a : Nat) : (s.reply a).imem = s.imem := rfl
@[simp] theorem State.reply_dmem (a : Nat) : (s.reply a).dmem = s.dmem := rfl
@[simp] theorem State.reply_msm (a : Nat) : (s.reply a).msm = s.msm := rfl
@[simp] theorem State.reply_mltPoison (a : Nat) : (s.reply a).mltPoison = s.mltPoison := rfl
@[simp] theorem State.reply_roles (a : Nat) : (s.reply a).roles = s.roles := rfl
@[simp] theorem State.reply_flights (a : Nat) : (s.reply a).flights = s.flights := rfl
@[simp] theorem State.reply_hostRx (a : Nat) : (s.reply a).hostRx = s.hostRx := rfl
@[simp] theorem State.reply_gong (a : Nat) : (s.reply a).gong = s.gong := rfl
@[simp] theorem State.reply_lanes (a : Nat) : (s.reply a).lanes = s.lanes := rfl
@[simp] theorem State.reply_heads (a : Nat) : (s.reply a).heads = s.heads := rfl
@[simp] theorem State.reply_ink (a : Nat) : (s.reply a).ink = s.ink := rfl
@[simp] theorem State.reply_waves (a : Nat) : (s.reply a).waves = s.waves := rfl
@[simp] theorem State.reply_dd (a : Nat) : (s.reply a).dd = s.dd := rfl
@[simp] theorem State.reply_ddResults (a : Nat) : (s.reply a).ddResults = s.ddResults := rfl
@[simp] theorem State.reply_sb (a : Nat) : (s.reply a).sb = s.sb := rfl
@[simp] theorem State.reply_spares (a : Nat) : (s.reply a).spares = s.spares := rfl
@[simp] theorem State.reply_ep (a : Nat) : (s.reply a).ep = s.ep := rfl
@[simp] theorem State.reply_hv (a : Nat) : (s.reply a).hv = s.hv := rfl
@[simp] theorem State.reply_fuser (a : Nat) : (s.reply a).fuser = s.fuser := rfl
@[simp] theorem State.reply_zcAt (a : Nat) : (s.reply a).zcAt = s.zcAt := rfl
@[simp] theorem State.reply_resid (a : Nat) : (s.reply a).resid = s.resid := rfl
@[simp] theorem State.reply_msix (a : Nat) : (s.reply a).msix = s.msix := rfl
@[simp] theorem State.reply_pba (a : Nat) : (s.reply a).pba = s.pba := rfl
@[simp] theorem State.reply_d3hot (a : Nat) : (s.reply a).d3hot = s.d3hot := rfl
@[simp] theorem State.reply_link (a : Nat) : (s.reply a).link = s.link := rfl
@[simp] theorem State.reply_log (a : Nat) : (s.reply a).log = s.log := rfl
@[simp] theorem State.reply_logKept (a : Nat) : (s.reply a).logKept = s.logKept := rfl
@[simp] theorem State.reply_logSeq (a : Nat) : (s.reply a).logSeq = s.logSeq := rfl
@[simp] theorem State.reply_finals (a : Nat) : (s.reply a).finals = s.finals := rfl
@[simp] theorem State.reply_saved (a : Nat) : (s.reply a).saved = s.saved := rfl
@[simp] theorem State.reply_calSec (a : Nat) : (s.reply a).calSec = s.calSec := rfl
@[simp] theorem State.reply_calFrac (a : Nat) : (s.reply a).calFrac = s.calFrac := rfl
@[simp] theorem State.reply_calSub (a : Nat) : (s.reply a).calSub = s.calSub := rfl
@[simp] theorem State.reply_boots (a : Nat) : (s.reply a).boots = s.boots := rfl
@[simp] theorem State.reply_gpio (a : Nat) : (s.reply a).gpio = s.gpio := rfl
@[simp] theorem State.reply_timed (a : Nat) : (s.reply a).timed = s.timed := rfl
@[simp] theorem State.reply_feedTurn (a : Nat) : (s.reply a).feedTurn = s.feedTurn := rfl
@[simp] theorem State.reply_storeSeq (a : Nat) : (s.reply a).storeSeq = s.storeSeq := rfl
@[simp] theorem State.reply_tmemBad (a : Nat) : (s.reply a).tmemBad = s.tmemBad := rfl
@[simp] theorem State.reply_loadAt (a : Nat) : (s.reply a).loadAt = s.loadAt := rfl
@[simp] theorem State.reply_keeperRx (a : Nat) : (s.reply a).keeperRx = s.keeperRx := rfl
@[simp] theorem State.reply_eventPort (a : Nat) : (s.reply a).eventPort = s.eventPort := rfl
@[simp] theorem State.reply_stops (a : Nat) : (s.reply a).stops = s.stops := rfl
@[simp] theorem State.reply_stopOpen (a : Nat) : (s.reply a).stopOpen = s.stopOpen := rfl
@[simp] theorem State.reply_life (a : Nat) : (s.reply a).life = s.life := rfl
@[simp] theorem State.reply_lifeSaved (a : Nat) : (s.reply a).lifeSaved = s.lifeSaved := rfl
@[simp] theorem State.reply_timers (a : Nat) : (s.reply a).timers = s.timers := rfl
@[simp] theorem State.reply_pgenAt (a : Nat) : (s.reply a).pgenAt = s.pgenAt := rfl
@[simp] theorem State.reply_axes (a : Nat) : (s.reply a).axes = s.axes := rfl
@[simp] theorem State.reply_groups (a : Nat) : (s.reply a).groups = s.groups := rfl
@[simp] theorem State.reply_steppers (a : Nat) : (s.reply a).steppers = s.steppers := rfl
@[simp] theorem State.reply_traces (a : Nat) : (s.reply a).traces = s.traces := rfl
@[simp] theorem State.reply_outs (a : Nat) : (s.reply a).outs = s.outs := rfl
@[simp] theorem State.reply_motors (a : Nat) : (s.reply a).motors = s.motors := rfl
@[simp] theorem State.reply_buses (a : Nat) : (s.reply a).buses = s.buses := rfl
@[simp] theorem State.reply_hk (a : Nat) : (s.reply a).hk = s.hk := rfl
@[simp] theorem State.reply_stepAt (a : Nat) : (s.reply a).stepAt = s.stepAt := rfl
@[simp] theorem State.reply_checkAt (a : Nat) : (s.reply a).checkAt = s.checkAt := rfl
@[simp] theorem State.reply_otp (a : Nat) : (s.reply a).otp = s.otp := rfl
@[simp] theorem State.reply_keeper (a : Nat) : (s.reply a).keeper = s.keeper := rfl
@[simp] theorem State.reply_fifo (a : Nat) : (s.reply a).fifo = s.fifo := rfl
@[simp] theorem State.reply_fifoLost (a : Nat) : (s.reply a).fifoLost = s.fifoLost := rfl
@[simp] theorem State.reply_cntStage (a : Nat) : (s.reply a).cntStage = s.cntStage := rfl
@[simp] theorem State.reply_f (a : Nat) : (s.reply a).f x = s.f x := rfl

end Sys2Proof.Machine
end

