-- ==== Sys2Proof/Laws/Quiet.lean ====
section
/-!
SUPPORT. What the raising of an event leaves as it is: everything that `Quiet` names, one lemma per operation.
-/
namespace Sys2Proof.Machine

theorem Quiet.refl (s : State) : Quiet s s := ⟨rfl, fun _ _ => rfl, fun _ _ => rfl⟩

theorem Quiet.ring {s t : State} (h : Quiet s t) : t.ring = s.ring := by
  unfold State.ring State.addr State.pair
  rw [h.2.1 _ (by decide), h.2.1 _ (by decide)]

theorem Quiet.trans {a b c : State} (h1 : Quiet a b) (h2 : Quiet b c) : Quiet a c := by
  refine ⟨h2.1.trans h1.1, fun y hy => (h2.2.1 y hy).trans (h1.2.1 y hy), fun k hk => ?_⟩
  rw [← h1.2.2 k hk]
  refine h2.2.2 k ?_
  rw [h1.ring]
  exact hk

theorem Quiet.setF {z s : State} (h : Quiet z s) (x : Field) (v : Nat) (hx : loudField x = true) : Quiet z (s.setF x v) := by
  refine ⟨h.1, fun y hy => ?_, h.2.2⟩
  rw [← h.2.1 y hy]
  refine State.f_setF_ne s v fun e => ?_
  have : loudField y = loudField x := by unfold loudField; rw [e]
  rw [this, hx] at hy
  exact Bool.noConfusion hy

theorem Quiet.setFs {z s : State} (h : Quiet z s) (L : List (Field × Nat)) (hL : ∀ p ∈ L, loudField p.1 = true) : Quiet z (s.setFs L) := by
  induction L generalizing s with
  | nil => exact h
  | cons p r ih => exact ih (h.setF p.1 p.2 (hL p List.mem_cons_self)) fun q hq => hL q (List.mem_cons_of_mem _ hq)

theorem Quiet.setPair {z s : State} (h : Quiet z s) (hi lo : Field) (v : Nat) (h1 : loudField hi = true) (h2 : loudField lo = true) :
    Quiet z (s.setPair hi lo v) := (h.setF lo v h2).setF hi _ h1

/-- A change of what a raising may reach outside the registers and device memory. -/
theorem Quiet.mk_iff {z t : State} {v_free : Nat} {v_count : Tbl Counter} {v_st : Tbl Station} {p1 : List Nat}
    {v_ledger : List Entry} {v_mlt : Tbl Mallet} {v_gong : Gong} {v_ep : Tbl Ep} {v_pba : Nat} {v_log : List LogRec}
    {v_logKept : Tbl (List LogRec)} {v_logSeq : Nat} {v_finals : List (List Byte)} {v_stopOpen : Option Stop}
    {v_traces : Tbl Trace} {v_fifo : List LogRec} {v_fifoLost : Nat} :
    Quiet z { t with
        free := v_free, count := v_count, st := v_st, ledger := v_ledger, mlt := v_mlt, gong := v_gong, ep := v_ep, pba := v_pba, log := v_log
        logKept := v_logKept, logSeq := v_logSeq, finals := v_finals, stopOpen := v_stopOpen, traces := v_traces, fifo := v_fifo
        fifoLost := v_fifoLost, mem := ⟨t.mem.bytes, p1, t.mem.retired, t.mem.queue⟩ } ↔ Quiet z t := Iff.rfl

theorem Quiet.mk2_iff {z t : State} {v_free : Nat} {v_count : Tbl Counter} {v_st : Tbl Station}
    {v_ledger : List Entry} {v_mlt : Tbl Mallet} {v_gong : Gong} {v_ep : Tbl Ep} {v_pba : Nat} {v_log : List LogRec}
    {v_logKept : Tbl (List LogRec)} {v_logSeq : Nat} {v_finals : List (List Byte)} {v_stopOpen : Option Stop}
    {v_traces : Tbl Trace} {v_fifo : List LogRec} {v_fifoLost : Nat} :
    Quiet z { t with
        free := v_free, count := v_count, st := v_st, ledger := v_ledger, mlt := v_mlt, gong := v_gong, ep := v_ep, pba := v_pba, log := v_log
        logKept := v_logKept, logSeq := v_logSeq, finals := v_finals, stopOpen := v_stopOpen, traces := v_traces, fifo := v_fifo
        fifoLost := v_fifoLost } ↔ Quiet z t := Iff.rfl

theorem Quiet.forBelow {z : State} {n : Nat} {g : Nat → State → State} (hg : ∀ i s, i < n → Quiet z s → Quiet z (g i s)) {s : State}
    (h : Quiet z s) : Quiet z (forBelow n g s) := by
  induction n with
  | zero => exact h
  | succ n ih => exact hg n _ (Nat.lt_succ_self n) (ih fun i s hi => hg i s (Nat.lt_succ_of_lt hi))

theorem Quiet.foldl {α : Type} {z : State} {f : State → α → State} {l : List α} (hf : ∀ s x, x ∈ l → Quiet z s → Quiet z (f s x)) {s : State}
    (h : Quiet z s) : Quiet z (l.foldl f s) := by
  induction l generalizing s with
  | nil => exact h
  | cons a r ih => exact ih (fun s x hx => hf s x (List.mem_cons_of_mem _ hx)) (hf s a List.mem_cons_self h)

theorem Quiet.ite {s a b : State} {c : Prop} [Decidable c] (h1 : Quiet s a) (h2 : Quiet s b) : Quiet s (if c then a else b) := by
  split <;> assumption


/-- A pair whose first part is quiet. -/
structure QuietP {α : Type} (s : State) (p : State × α) : Prop where
  fst : Quiet s p.1

theorem QuietP.pair {α : Type} {z s : State} {a : α} (h : Quiet z s) : QuietP z (s, a) := ⟨h⟩

theorem QuietP.at {α : Type} {z s : State} {a : α} {p : State × α} (e : p = (s, a)) (h : QuietP z p) : Quiet z s := by
  subst e
  exact h.fst

theorem Quiet.use {s x : State} {q : Prop} (h1 : Quiet s x) (h2 : Quiet s x → q) : q := h2 h1

theorem Quiet.via {z v x : State} (e : x = v) (h : Quiet z v) : Quiet z x := e ▸ h

/-- A field of the EVT and CNT blocks. -/
theorem loud_evt {y : Field} (h1 : 0x110000 * 32 ≤ y.key) (h2 : y.key < 0x130000 * 32) (_ : True) : loudField y = true := by
  unfold loudField
  simp [h1, h2]

/-- Bytes written within the ledger's ring. -/
theorem State.memPut_quiet {z s : State} (h : Quiet z s) (a : Nat) (bs : List Byte)
    (hr : z.ring ≤ a ∧ a + bs.length ≤ z.ring + 65536 * 64) : Quiet z (s.memPut a bs) := by
  refine ⟨h.1, h.2.1, fun k hk => ?_⟩
  rw [← h.2.2 k hk]
  refine tget_tputs_out _ _ _ _ _ ?_
  omega

theorem State.memWriteBlock_quiet {z s : State} (h : Quiet z s) (a : Nat) (bs : List Byte)
    (hr : z.ring ≤ a ∧ a + bs.length ≤ z.ring + 65536 * 64) : Quiet z (s.memWriteBlock a bs) := by
  unfold State.memWriteBlock
  refine Quiet.ite (Quiet.ite ?_ ?_) ?_
  · exact State.memPut_quiet (Quiet.mk_iff.mpr h) a bs hr
  · exact h.setF _ _ (by decide)
  · exact State.memPut_quiet h a bs hr

theorem memWriteGo_quiet {z s : State} (h : Quiet z s) (k a : Nat) (bs : List Byte)
    (hr : bs = [] ∨ z.ring ≤ a ∧ a + bs.length ≤ z.ring + 65536 * 64) : Quiet z (memWriteGo s a bs k) := by
  induction k generalizing s a bs with
  | zero => exact h
  | succ k ih =>
    unfold memWriteGo
    split
    · exact h
    · rename_i hne
      have hr := hr.resolve_left fun e => hne e
      dsimp only
      refine ih (State.memWriteBlock_quiet h _ _ ?_) _ _ ?_
      · rw [List.length_take]
        omega
      · by_cases hl : bs.length ≤ 64 - a % 64
        · exact Or.inl (List.drop_eq_nil_of_le hl)
        · refine Or.inr ?_
          rw [List.length_drop]
          omega

theorem State.memWrite_quiet {z s : State} (h : Quiet z s) (a : Nat) (bs : List Byte)
    (hr : z.ring ≤ a ∧ a + bs.length ≤ z.ring + 65536 * 64) : Quiet z (s.memWrite a bs) := by
  unfold State.memWrite
  exact memWriteGo_quiet h _ _ _ (Or.inr hr)

theorem toLE_length (v n : Nat) : (toLE v n).length = n := by
  induction n generalizing v with
  | zero => rfl
  | succ n ih => simp [toLE, ih]

/-- An entry is 64 bytes (R247). -/
theorem Entry.bytes_length (x : Entry) (final : Bool) (still : Nat → Rec) : (x.bytes final still).length = 64 := by
  simp [Entry.bytes, toLE_length, upFrom]


theorem State.draw_quiet {z s : State} (h : Quiet z s)  : Quiet z (State.draw s) := by
  unfold State.draw
  repeat' first
    | with_reducible assumption
    | (simp only [Quiet.mk2_iff])
    | (simp only [Quiet.mk_iff])
    | assumption
    | decide
    | (with_reducible refine loud_evt ?_ ?_ ?_ <;> simp [Field.key, F.EVT_E_CAUSE, F.EVT_E_TIME, F.EVT_E_COUNT, F.EVT_PEND] <;> omega)

theorem State.tally_quiet {z s : State} (h : Quiet z s) (a1 : Nat) (a2 : Nat) : Quiet z (State.tally s a1 a2) := by
  unfold State.tally
  repeat' first
    | with_reducible assumption
    | with_reducible apply Quiet.ite
    | (simp only [Quiet.mk2_iff])
    | (simp only [Quiet.mk_iff])
    | assumption
    | decide
    | (with_reducible refine loud_evt ?_ ?_ ?_ <;> simp [Field.key, F.EVT_E_CAUSE, F.EVT_E_TIME, F.EVT_E_COUNT, F.EVT_PEND] <;> omega)

theorem State.setMallet_quiet {z s : State} (h : Quiet z s) (a1 : Nat) (a2 : Mallet) : Quiet z (State.setMallet s a1 a2) := by
  unfold State.setMallet
  repeat' first
    | with_reducible assumption
    | (simp only [Quiet.mk2_iff])
    | (simp only [Quiet.mk_iff])
    | assumption
    | decide
    | (with_reducible refine loud_evt ?_ ?_ ?_ <;> simp [Field.key, F.EVT_E_CAUSE, F.EVT_E_TIME, F.EVT_E_COUNT, F.EVT_PEND] <;> omega)

theorem State.setStation_quiet {z s : State} (h : Quiet z s) (a1 : Nat) (a2 : Station) : Quiet z (State.setStation s a1 a2) := by
  unfold State.setStation
  repeat' first
    | with_reducible assumption
    | (simp only [Quiet.mk2_iff])
    | (simp only [Quiet.mk_iff])
    | assumption
    | decide
    | (with_reducible refine loud_evt ?_ ?_ ?_ <;> simp [Field.key, F.EVT_E_CAUSE, F.EVT_E_TIME, F.EVT_E_COUNT, F.EVT_PEND] <;> omega)

theorem State.setEp_quiet {z s : State} (h : Quiet z s) (a1 : Nat) (a2 : Ep) : Quiet z (State.setEp s a1 a2) := by
  unfold State.setEp
  repeat' first
    | with_reducible assumption
    | (simp only [Quiet.mk2_iff])
    | (simp only [Quiet.mk_iff])
    | assumption
    | decide
    | (with_reducible refine loud_evt ?_ ?_ ?_ <;> simp [Field.key, F.EVT_E_CAUSE, F.EVT_E_TIME, F.EVT_E_COUNT, F.EVT_PEND] <;> omega)

theorem State.setTrace_quiet {z s : State} (h : Quiet z s) (a1 : Nat) (a2 : Trace) : Quiet z (State.setTrace s a1 a2) := by
  unfold State.setTrace
  repeat' first
    | with_reducible assumption
    | (simp only [Quiet.mk2_iff])
    | (simp only [Quiet.mk_iff])
    | assumption
    | decide
    | (with_reducible refine loud_evt ?_ ?_ ?_ <;> simp [Field.key, F.EVT_E_CAUSE, F.EVT_E_TIME, F.EVT_E_COUNT, F.EVT_PEND] <;> omega)

theorem State.sendMsix_quiet {z s : State} (h : Quiet z s) (a1 : Nat) : Quiet z (State.sendMsix s a1) := by
  unfold State.sendMsix
  repeat' first
    | with_reducible assumption
    | ((try lift_lets); intro x; clear_value (e : x = _); refine Quiet.use (s := z) (x := x) (Quiet.via e ?_) (fun h => ?_))
    | ((try lift_lets); intro x; clear_value x)
    | with_reducible apply Quiet.ite
    | (simp only [Quiet.mk2_iff])
    | (simp only [Quiet.mk_iff])
    | assumption
    | decide
    | (with_reducible refine loud_evt ?_ ?_ ?_ <;> simp [Field.key, F.EVT_E_CAUSE, F.EVT_E_TIME, F.EVT_E_COUNT, F.EVT_PEND] <;> omega)

theorem broadcastTo_quiet {z s : State} (h : Quiet z s) (a1 : Nat) (a2 : Nat) : Quiet z (broadcastTo a1 a2 s) := by
  unfold broadcastTo
  repeat' first
    | with_reducible assumption
    | ((try lift_lets); intro x; clear_value (e : x = _); refine Quiet.use (s := z) (x := x) (Quiet.via e ?_) (fun h => ?_))
    | ((try lift_lets); intro x; clear_value x)
    | with_reducible apply State.setMallet_quiet
    | with_reducible apply Quiet.ite
    | (with_reducible apply Quiet.forBelow; intro i s hi h)
    | assumption
    | decide
    | (with_reducible refine loud_evt ?_ ?_ ?_ <;> simp [Field.key, F.EVT_E_CAUSE, F.EVT_E_TIME, F.EVT_E_COUNT, F.EVT_PEND] <;> omega)

theorem State.logWrite_quiet {z s : State} (h : Quiet z s) (a1 : LogRec) : Quiet z (State.logWrite s a1) := by
  unfold State.logWrite
  repeat' first
    | with_reducible assumption
    | ((try lift_lets); intro x; clear_value (e : x = _); refine Quiet.use (s := z) (x := x) (Quiet.via e ?_) (fun h => ?_))
    | ((try lift_lets); intro x; clear_value x)
    | with_reducible apply State.tally_quiet
    | (simp only [Quiet.mk2_iff])
    | (simp only [Quiet.mk_iff])
    | assumption
    | decide
    | (with_reducible refine loud_evt ?_ ?_ ?_ <;> simp [Field.key, F.EVT_E_CAUSE, F.EVT_E_TIME, F.EVT_E_COUNT, F.EVT_PEND] <;> omega)

theorem State.logPut_quiet {z s : State} (h : Quiet z s) (a1 : LogRec) : Quiet z (State.logPut s a1) := by
  unfold State.logPut
  repeat' first
    | with_reducible assumption
    | with_reducible apply State.tally_quiet
    | with_reducible apply State.logWrite_quiet
    | with_reducible apply Quiet.ite
    | (simp only [Quiet.mk2_iff])
    | (simp only [Quiet.mk_iff])
    | assumption
    | decide
    | (with_reducible refine loud_evt ?_ ?_ ?_ <;> simp [Field.key, F.EVT_E_CAUSE, F.EVT_E_TIME, F.EVT_E_COUNT, F.EVT_PEND] <;> omega)

theorem State.logAdd_quiet {z s : State} (h : Quiet z s) (a1 : Nat) (a2 : Nat) (a3 : Nat) (a4 : Nat) (a5 : Nat) (a6 : Nat) : Quiet z (State.logAdd s a1 a2 a3 a4 a5 a6) := by
  unfold State.logAdd
  repeat' first
    | with_reducible assumption
    | with_reducible apply State.logPut_quiet
    | assumption
    | decide
    | (with_reducible refine loud_evt ?_ ?_ ?_ <;> simp [Field.key, F.EVT_E_CAUSE, F.EVT_E_TIME, F.EVT_E_COUNT, F.EVT_PEND] <;> omega)

theorem State.logRaise_quiet {z s : State} (h : Quiet z s) (a1 : Nat) (a2 : Nat) (a3 : Nat) : Quiet z (State.logRaise s a1 a2 a3) := by
  unfold State.logRaise
  repeat' first
    | with_reducible assumption
    | ((try lift_lets); intro x; clear_value (e : x = _); refine Quiet.use (s := z) (x := x) (Quiet.via e ?_) (fun h => ?_))
    | ((try lift_lets); intro x; clear_value x)
    | with_reducible apply State.logAdd_quiet
    | with_reducible apply Quiet.ite
    | (simp only [Quiet.mk2_iff])
    | (simp only [Quiet.mk_iff])
    | assumption
    | decide
    | (with_reducible refine loud_evt ?_ ?_ ?_ <;> simp [Field.key, F.EVT_E_CAUSE, F.EVT_E_TIME, F.EVT_E_COUNT, F.EVT_PEND] <;> omega)

theorem State.note_quiet {z s : State} (h : Quiet z s) (a1 : Nat) : Quiet z (State.note s a1) := by
  unfold State.note
  repeat' first
    | with_reducible assumption
    | with_reducible apply State.logAdd_quiet
    | assumption
    | decide
    | (with_reducible refine loud_evt ?_ ?_ ?_ <;> simp [Field.key, F.EVT_E_CAUSE, F.EVT_E_TIME, F.EVT_E_COUNT, F.EVT_PEND] <;> omega)

theorem State.logRetry_quiet {z s : State} (h : Quiet z s) (a1 : Nat) (a2 : Nat) (a3 : Nat) : Quiet z (State.logRetry s a1 a2 a3) := by
  unfold State.logRetry
  repeat' first
    | with_reducible assumption
    | with_reducible apply State.logAdd_quiet
    | assumption
    | decide
    | (with_reducible refine loud_evt ?_ ?_ ?_ <;> simp [Field.key, F.EVT_E_CAUSE, F.EVT_E_TIME, F.EVT_E_COUNT, F.EVT_PEND] <;> omega)

theorem State.snapshot_quiet {z s : State} (h : Quiet z s) : Quiet z (State.snapshot s) :=
  Quiet.setPair (Quiet.forBelow (fun _ _ _ h => Quiet.mk2_iff.mpr h) h) _ _ _ (by decide) (by decide)

theorem loud_tr {y : Field} (h1 : 0xE0300 * 32 ≤ y.key) (h2 : y.key < 0xE0400 * 32) : loudField y = true := by
  unfold loudField
  simp [h1, h2]

theorem State.trigger_quiet {z s : State} (h : Quiet z s) (u : Nat) (hu : u < 4) : Quiet z (State.trigger s u) := by
  unfold State.trigger
  refine Quiet.mk2_iff.mpr (Quiet.setPair (Quiet.setFs h _ fun p hp => ?_) _ _ _ ?_ ?_)
  · simp only [List.mem_cons, List.not_mem_nil, or_false] at hp
    rcases hp with rfl | rfl <;> refine loud_tr ?_ ?_ <;> simp only [Field.key, F.TR_STATUS_STATE, F.TR_STATUS_PREVALID] <;> omega
  all_goals
    refine loud_tr ?_ ?_ <;> simp only [Field.key, F.TR_TTIME_HI, F.TR_TTIME_LO] <;> omega

theorem traceTriggers_quiet {z s : State} (h : Quiet z s) (e : Nat) : Quiet z (traceTriggers e s) := by
  unfold traceTriggers
  exact Quiet.forBelow (fun u s hu h => Quiet.ite (State.trigger_quiet h u hu) h) h

theorem loud_e {y : Field} {e : Nat} (he : e < 256) (h : y.key = (0x111004 + e * 0x10) * 32 ∨ y.key = (0x111008 + e * 0x10) * 32 ∨
    y.key = (0x11100C + e * 0x10) * 32 ∨ y.key = (0x110040 + e / 32 * 4) * 32) : loudField y = true := by
  refine loud_evt ?_ ?_ trivial <;> omega

theorem State.post_quiet {z s : State} (h : Quiet z s) (a1 : Nat) (a2 : Nat) (a3 : Nat) (he : a1 < 256) : Quiet z (State.post s a1 a2 a3) := by
  have h1 : Quiet z (((s.setF (F.EVT_E_CAUSE a1) a2).setF (F.EVT_E_TIME a1) (lo32 s.time)).addF (F.EVT_E_COUNT a1) 1) :=
    ((h.setF _ _ (loud_e he (by simp [Field.key, F.EVT_E_CAUSE]))).setF _ _ (loud_e he (by simp [Field.key, F.EVT_E_TIME]))).setF _ _
      (loud_e he (by simp [Field.key, F.EVT_E_COUNT]))
  have h2 := State.tally_quiet (State.tally_quiet h1 (0x300 + a1) 1) 0x005 1
  unfold State.post
  dsimp only
  refine traceTriggers_quiet ?_ _
  have step : ∀ {s : State}, Quiet z s → Quiet z (if s.on F.CNT_CTL_SNAP_EV_EN = true ∧ s.f F.CNT_CTL_SNAP_EV = a1 then s.snapshot else s) :=
    fun h => Quiet.ite (State.snapshot_quiet h) h
  refine step ?_
  have step : ∀ {s : State}, Quiet z s → Quiet z (if s.on (F.EVT_E_CFG_KEEP a1) = true then s.logRaise a1 a2 a3 else s) :=
    fun h => Quiet.ite (State.logRaise_quiet h _ _ _) h
  refine step ?_
  have step : ∀ {s : State}, Quiet z s → Quiet z (if s.on (F.EVT_E_CFG_BCAST a1) = true then broadcastTo a1 36 s else s) :=
    fun h => Quiet.ite (broadcastTo_quiet h _ _) h
  refine step ?_
  refine Quiet.ite (State.sendMsix_quiet ?_ _) ?_
  all_goals
    refine Quiet.setF ?_ _ _ (loud_e he (by simp [Field.key, F.EVT_PEND]))
    split
    · exact State.tally_quiet h2 _ _
    · exact h2

theorem State.mapCurrent_quiet {z s : State} (h : Quiet z s) (a1 : Nat) (a2 : Frame → Frame) : Quiet z (State.mapCurrent s a1 a2) := by
  unfold State.mapCurrent
  repeat' first
    | with_reducible assumption
    | ((try lift_lets); intro x; clear_value (e : x = _); refine Quiet.use (s := z) (x := x) (Quiet.via e ?_) (fun h => ?_))
    | ((try lift_lets); intro x; clear_value x)
    | with_reducible apply State.setStation_quiet
    | assumption
    | decide
    | (with_reducible refine loud_evt ?_ ?_ ?_ <;> simp [Field.key, F.EVT_E_CAUSE, F.EVT_E_TIME, F.EVT_E_COUNT, F.EVT_PEND] <;> omega)

theorem State.degrade_quiet {z s : State} (h : Quiet z s) (a1 : Nat) : Quiet z (State.degrade s a1) := by
  unfold State.degrade
  repeat' first
    | with_reducible assumption
    | with_reducible apply State.mapCurrent_quiet
    | assumption
    | decide
    | (with_reducible refine loud_evt ?_ ?_ ?_ <;> simp [Field.key, F.EVT_E_CAUSE, F.EVT_E_TIME, F.EVT_E_COUNT, F.EVT_PEND] <;> omega)

theorem State.degradeAll_quiet {z s : State} (h : Quiet z s)  : Quiet z (State.degradeAll s) := by
  unfold State.degradeAll
  repeat' first
    | with_reducible assumption
    | with_reducible apply State.degrade_quiet
    | with_reducible apply Quiet.ite
    | (with_reducible apply Quiet.forBelow; intro i s hi h)
    | assumption
    | decide
    | (with_reducible refine loud_evt ?_ ?_ ?_ <;> simp [Field.key, F.EVT_E_CAUSE, F.EVT_E_TIME, F.EVT_E_COUNT, F.EVT_PEND] <;> omega)

theorem State.markG1_quiet {z s : State} (h : Quiet z s) (a1 : Nat) (a2 : Nat) (a3 : Nat) (a4 : Names) : Quiet z (State.markG1 s a1 a2 a3 a4) := by
  unfold State.markG1
  repeat' first
    | with_reducible assumption
    | with_reducible apply State.degrade_quiet
    | with_reducible apply State.degradeAll_quiet
    | with_reducible apply Quiet.ite
    | (with_reducible apply Quiet.foldl; intro s x _ h)
    | split
    | assumption
    | decide
    | (with_reducible refine loud_evt ?_ ?_ ?_ <;> simp [Field.key, F.EVT_E_CAUSE, F.EVT_E_TIME, F.EVT_E_COUNT, F.EVT_PEND] <;> omega)

theorem State.markStop_quiet {z s : State} (h : Quiet z s) (a1 : Nat) (a2 : Nat) (a3 : Nat) : Quiet z (State.markStop s a1 a2 a3) := by
  unfold State.markStop
  repeat' first
    | with_reducible assumption
    | ((try lift_lets); intro x; clear_value (e : x = _); refine Quiet.use (s := z) (x := x) (Quiet.via e ?_) (fun h => ?_))
    | ((try lift_lets); intro x; clear_value x)
    | with_reducible refine Quiet.setF ?_ _ _ ?_
    | with_reducible apply Quiet.ite
    | (simp only [Quiet.mk2_iff])
    | (simp only [Quiet.mk_iff])
    | assumption
    | decide
    | (with_reducible refine loud_evt ?_ ?_ ?_ <;> simp [Field.key, F.EVT_E_CAUSE, F.EVT_E_TIME, F.EVT_E_COUNT, F.EVT_PEND] <;> omega)

theorem State.raiseCore_quiet {z s : State} (h : Quiet z s) (a1 : Nat) (a2 : Nat) (a3 : Option Nat) (a4 : Names) (he : a1 < 256) : QuietP z (State.raiseCore s a1 a2 a3 a4) := by
  unfold State.raiseCore
  repeat' first
    | with_reducible assumption
    | ((try lift_lets); intro x; clear_value (e : x = _); refine Quiet.use (s := z) (x := x) (Quiet.via e ?_) (fun h => ?_))
    | ((try lift_lets); intro x; clear_value x)
    | with_reducible apply State.post_quiet
    | with_reducible apply State.markStop_quiet
    | with_reducible apply State.markG1_quiet
    | with_reducible apply Quiet.ite
    | with_reducible apply QuietP.ite
    | (split <;> (rename_i heq; refine Quiet.use (s := z) (QuietP.at heq ?_) (fun h => ?_)))
    | split
    | (simp only [Quiet.mk2_iff])
    | (simp only [Quiet.mk_iff])
    | with_reducible apply QuietP.pair
    | with_reducible apply QuietP.fst
    | assumption
    | decide
    | (with_reducible refine loud_evt ?_ ?_ ?_ <;> simp [Field.key, F.EVT_E_CAUSE, F.EVT_E_TIME, F.EVT_E_COUNT, F.EVT_PEND] <;> omega)

theorem State.raiseLow_quiet {z s : State} (h : Quiet z s) (a1 : Nat) (a2 : Nat) (he : a1 < 256) : Quiet z (State.raiseLow s a1 a2) := by
  unfold State.raiseLow
  repeat' first
    | with_reducible assumption
    | with_reducible apply State.raiseCore_quiet
    | (split <;> (rename_i heq; refine Quiet.use (s := z) (QuietP.at heq ?_) (fun h => ?_)))
    | with_reducible apply QuietP.pair
    | with_reducible apply QuietP.fst
    | assumption
    | decide
    | (with_reducible refine loud_evt ?_ ?_ ?_ <;> simp [Field.key, F.EVT_E_CAUSE, F.EVT_E_TIME, F.EVT_E_COUNT, F.EVT_PEND] <;> omega)

theorem State.writeEntry_quiet {z s : State} (h : Quiet z s) (a1 : Entry) (a2 : Bool) (a3 : Nat → Rec) : Quiet z (State.writeEntry s a1 a2 a3) := by
  unfold State.writeEntry
  refine State.memWrite_quiet h _ _ ?_
  rw [Entry.bytes_length]
  have : s.addr F.CHG_LED_BASE_HI F.CHG_LED_BASE_LO = z.ring := h.ring
  rw [this]
  omega

theorem State.flush_quiet {z s : State} (h : Quiet z s) (a1 : Option Nat) : Quiet z (State.flush s a1) := by
  unfold State.flush
  repeat' first
    | with_reducible assumption
    | ((try lift_lets); intro x; clear_value (e : x = _); refine Quiet.use (s := z) (x := x) (Quiet.via e ?_) (fun h => ?_))
    | ((try lift_lets); intro x; clear_value x)
    | with_reducible apply State.writeEntry_quiet
    | with_reducible refine Quiet.setF ?_ _ _ ?_
    | (with_reducible apply Quiet.foldl; intro s x _ h)
    | assumption
    | decide
    | (with_reducible refine loud_evt ?_ ?_ ?_ <;> simp [Field.key, F.EVT_E_CAUSE, F.EVT_E_TIME, F.EVT_E_COUNT, F.EVT_PEND] <;> omega)

theorem State.mapFrameAt_quiet {z s : State} (h : Quiet z s) (a1 : Nat) (a2 : Int) (a3 : Frame → Frame) : Quiet z (State.mapFrameAt s a1 a2 a3) := by
  unfold State.mapFrameAt
  repeat' first
    | with_reducible assumption
    | ((try lift_lets); intro x; clear_value (e : x = _); refine Quiet.use (s := z) (x := x) (Quiet.via e ?_) (fun h => ?_))
    | ((try lift_lets); intro x; clear_value x)
    | with_reducible apply State.setStation_quiet
    | with_reducible apply Quiet.ite
    | assumption
    | decide
    | (with_reducible refine loud_evt ?_ ?_ ?_ <;> simp [Field.key, F.EVT_E_CAUSE, F.EVT_E_TIME, F.EVT_E_COUNT, F.EVT_PEND] <;> omega)

theorem loud_squash (n : Nat) : loudField (F.CHG_S_STATUS_SQUASH (n % 8)) = true := by
  have : n % 8 < 8 := Nat.mod_lt _ (by decide)
  generalize n % 8 = k at this
  revert k
  decide

theorem loud_squash_ep (n : Nat) : loudField (F.EPS_S_STATUS_SQUASH (n % 4)) = true := by
  have : n % 4 < 4 := Nat.mod_lt _ (by decide)
  generalize n % 4 = k at this
  revert k
  decide

theorem State.squashEffect_quiet {z s : State} (h : Quiet z s) (a1 : Eff) (a2 : Bool) : Quiet z (State.squashEffect s a1 a2) := by
  unfold State.squashEffect
  split
  · have h1 : Quiet z ((s.tally (0x168 + ‹Nat›) 1).setF (F.CHG_S_STATUS_SQUASH (‹Nat› % 8)) 1) :=
      (State.tally_quiet h _ _).setF _ _ (loud_squash _)
    dsimp only
    refine Quiet.ite (State.mapFrameAt_quiet (State.setStation_quiet h1 _ _) _ _ _) (State.setStation_quiet h1 _ _)
  · refine State.setEp_quiet (Quiet.setFs (State.tally_quiet (State.tally_quiet h _ _) _ _) _ fun p hp => ?_) _ _
    simp only [List.mem_cons, List.not_mem_nil, or_false] at hp
    rcases hp with rfl | rfl
    · exact loud_squash _
    · exact loud_squash_ep _
  · exact h

theorem State.squashAt_quiet {z s : State} (h : Quiet z s) (a1 : Nat) (a2 : Nat) (a3 : Nat) : Quiet z (State.squashAt s a1 a2 a3) := by
  unfold State.squashAt
  repeat' first
    | with_reducible assumption
    | ((try lift_lets); intro x; clear_value (e : x = _); refine Quiet.use (s := z) (x := x) (Quiet.via e ?_) (fun h => ?_))
    | ((try lift_lets); intro x; clear_value x)
    | with_reducible apply State.squashEffect_quiet
    | with_reducible apply State.tally_quiet
    | with_reducible apply State.setMallet_quiet
    | with_reducible apply State.raiseLow_quiet
    | with_reducible apply Quiet.ite
    | (with_reducible apply Quiet.foldl; intro s x _ h)
    | split
    | assumption
    | decide
    | (with_reducible refine loud_evt ?_ ?_ ?_ <;> simp [Field.key, F.EVT_E_CAUSE, F.EVT_E_TIME, F.EVT_E_COUNT, F.EVT_PEND] <;> omega)

theorem squashWhere_quiet {z s : State} (h : Quiet z s) (a1 : Eff → Bool) (a2 : Nat) (a3 : Nat) : Quiet z (squashWhere a1 a2 a3 s) := by
  unfold squashWhere
  repeat' first
    | with_reducible assumption
    | with_reducible apply State.squashAt_quiet
    | (with_reducible apply Quiet.forBelow; intro i s hi h)
    | split
    | assumption
    | decide
    | (with_reducible refine loud_evt ?_ ?_ ?_ <;> simp [Field.key, F.EVT_E_CAUSE, F.EVT_E_TIME, F.EVT_E_COUNT, F.EVT_PEND] <;> omega)

theorem State.abandonTo_quiet {z s : State} (h : Quiet z s) (a1 : Nat) (a2 : Int) (a3 : Option Int) : Quiet z (State.abandonTo s a1 a2 a3) := by
  unfold State.abandonTo
  repeat' first
    | with_reducible assumption
    | ((try lift_lets); intro x; clear_value (e : x = _); refine Quiet.use (s := z) (x := x) (Quiet.via e ?_) (fun h => ?_))
    | ((try lift_lets); intro x; clear_value x)
    | with_reducible apply squashWhere_quiet
    | with_reducible apply State.setStation_quiet
    | with_reducible apply Quiet.ite
    | assumption
    | decide
    | (with_reducible refine loud_evt ?_ ?_ ?_ <;> simp [Field.key, F.EVT_E_CAUSE, F.EVT_E_TIME, F.EVT_E_COUNT, F.EVT_PEND] <;> omega)

theorem State.abandon_quiet {z s : State} (h : Quiet z s) (a1 : Nat) (a2 : Int) : Quiet z (State.abandon s a1 a2) := by
  unfold State.abandon
  repeat' first
    | with_reducible assumption
    | with_reducible apply State.abandonTo_quiet
    | assumption
    | decide
    | (with_reducible refine loud_evt ?_ ?_ ?_ <;> simp [Field.key, F.EVT_E_CAUSE, F.EVT_E_TIME, F.EVT_E_COUNT, F.EVT_PEND] <;> omega)

theorem State.abandonIn_quiet {z s : State} (h : Quiet z s) (a1 : Nat) (a2 : Frame) (a3 : Int) : Quiet z (State.abandonIn s a1 a2 a3) := by
  unfold State.abandonIn
  repeat' first
    | with_reducible assumption
    | with_reducible apply State.abandonTo_quiet
    | with_reducible apply Quiet.ite
    | assumption
    | decide
    | (with_reducible refine loud_evt ?_ ?_ ?_ <;> simp [Field.key, F.EVT_E_CAUSE, F.EVT_E_TIME, F.EVT_E_COUNT, F.EVT_PEND] <;> omega)

theorem State.spoilFrom_quiet {z s : State} (h : Quiet z s) (a1 : Nat) (a2 : Nat) (a3 : Int) : Quiet z (State.spoilFrom s a1 a2 a3) := by
  unfold State.spoilFrom
  repeat' first
    | with_reducible assumption
    | with_reducible apply State.abandonIn_quiet
    | with_reducible apply State.mapCurrent_quiet
    | split
    | assumption
    | decide
    | (with_reducible refine loud_evt ?_ ?_ ?_ <;> simp [Field.key, F.EVT_E_CAUSE, F.EVT_E_TIME, F.EVT_E_COUNT, F.EVT_PEND] <;> omega)

theorem State.spoil_quiet {z s : State} (h : Quiet z s) (a1 : Nat) (a2 : Nat) : Quiet z (State.spoil s a1 a2) := by
  unfold State.spoil
  repeat' first
    | with_reducible assumption
    | with_reducible apply State.spoilFrom_quiet
    | assumption
    | decide
    | (with_reducible refine loud_evt ?_ ?_ ?_ <;> simp [Field.key, F.EVT_E_CAUSE, F.EVT_E_TIME, F.EVT_E_COUNT, F.EVT_PEND] <;> omega)

theorem State.spoilAll_quiet {z s : State} (h : Quiet z s) (a1 : Nat) : Quiet z (State.spoilAll s a1) := by
  unfold State.spoilAll
  repeat' first
    | with_reducible assumption
    | with_reducible apply State.spoil_quiet
    | with_reducible apply Quiet.ite
    | (with_reducible apply Quiet.forBelow; intro i s hi h)
    | assumption
    | decide
    | (with_reducible refine loud_evt ?_ ?_ ?_ <;> simp [Field.key, F.EVT_E_CAUSE, F.EVT_E_TIME, F.EVT_E_COUNT, F.EVT_PEND] <;> omega)

theorem State.actG2_quiet {z s : State} (h : Quiet z s) (a1 : Nat) (a2 : Nat) (a3 : Names) : Quiet z (State.actG2 s a1 a2 a3) := by
  unfold State.actG2
  repeat' first
    | with_reducible assumption
    | ((try lift_lets); intro x; clear_value (e : x = _); refine Quiet.use (s := z) (x := x) (Quiet.via e ?_) (fun h => ?_))
    | ((try lift_lets); intro x; clear_value x)
    | with_reducible apply State.spoil_quiet
    | with_reducible apply State.spoilAll_quiet
    | with_reducible apply State.flush_quiet
    | with_reducible apply Quiet.ite
    | (with_reducible apply Quiet.foldl; intro s x _ h)
    | split
    | assumption
    | decide
    | (with_reducible refine loud_evt ?_ ?_ ?_ <;> simp [Field.key, F.EVT_E_CAUSE, F.EVT_E_TIME, F.EVT_E_COUNT, F.EVT_PEND] <;> omega)

theorem State.raiseAt_quiet {z s : State} (h : Quiet z s) (a1 : Nat) (a2 : Nat) (a3 : Option Nat) (a4 : Names) (he : a1 < 256) : Quiet z (State.raiseAt s a1 a2 a3 a4) := by
  unfold State.raiseAt
  repeat' first
    | with_reducible assumption
    | with_reducible apply State.raiseCore_quiet
    | with_reducible apply State.actG2_quiet
    | with_reducible apply Quiet.ite
    | with_reducible apply QuietP.ite
    | (split <;> (rename_i heq; refine Quiet.use (s := z) (QuietP.at heq ?_) (fun h => ?_)))
    | split
    | with_reducible apply QuietP.pair
    | with_reducible apply QuietP.fst
    | assumption
    | decide
    | (with_reducible refine loud_evt ?_ ?_ ?_ <;> simp [Field.key, F.EVT_E_CAUSE, F.EVT_E_TIME, F.EVT_E_COUNT, F.EVT_PEND] <;> omega)

theorem State.raise_quiet {z s : State} (h : Quiet z s) (a1 : Nat) (a2 : Nat) (he : a1 < 256) : Quiet z (State.raise s a1 a2) := by
  unfold State.raise
  repeat' first
    | with_reducible assumption
    | with_reducible apply State.raiseAt_quiet
    | assumption
    | decide
    | (with_reducible refine loud_evt ?_ ?_ ?_ <;> simp [Field.key, F.EVT_E_CAUSE, F.EVT_E_TIME, F.EVT_E_COUNT, F.EVT_PEND] <;> omega)

theorem State.raiseF_quiet {z s : State} (h : Quiet z s) (a1 : Nat) (a2 : Nat) (he : a1 < 256) : Quiet z (State.raiseF s a1 a2) := by
  unfold State.raiseF
  repeat' first
    | with_reducible assumption
    | with_reducible apply State.raiseAt_quiet
    | assumption
    | decide
    | (with_reducible refine loud_evt ?_ ?_ ?_ <;> simp [Field.key, F.EVT_E_CAUSE, F.EVT_E_TIME, F.EVT_E_COUNT, F.EVT_PEND] <;> omega)

theorem State.raiseOwn_quiet {z s : State} (h : Quiet z s) (a1 : Nat) (a2 : Nat) (he : a1 < 256) : Quiet z (State.raiseOwn s a1 a2) := by
  unfold State.raiseOwn
  repeat' first
    | with_reducible assumption
    | with_reducible apply State.raiseAt_quiet
    | assumption
    | decide
    | (with_reducible refine loud_evt ?_ ?_ ?_ <;> simp [Field.key, F.EVT_E_CAUSE, F.EVT_E_TIME, F.EVT_E_COUNT, F.EVT_PEND] <;> omega)

theorem State.raiseU_quiet {z s : State} (h : Quiet z s) (a1 : Nat) (a2 : Option Nat) (a3 : Names) (he : a1 < 256) : Quiet z (State.raiseU s a1 a2 a3) := by
  unfold State.raiseU
  repeat' first
    | with_reducible assumption
    | ((try lift_lets); intro x; clear_value (e : x = _); refine Quiet.use (s := z) (x := x) (Quiet.via e ?_) (fun h => ?_))
    | ((try lift_lets); intro x; clear_value x)
    | with_reducible apply State.raiseAt_quiet
    | with_reducible apply State.draw_quiet
    | assumption
    | decide
    | (with_reducible refine loud_evt ?_ ?_ ?_ <;> simp [Field.key, F.EVT_E_CAUSE, F.EVT_E_TIME, F.EVT_E_COUNT, F.EVT_PEND] <;> omega)

theorem State.raiseX_quiet {z s : State} (h : Quiet z s) (a1 : Nat) (he : a1 < 256) : Quiet z (State.raiseX s a1) := by
  unfold State.raiseX
  repeat' first
    | with_reducible assumption
    | with_reducible apply State.raiseU_quiet
    | assumption
    | decide
    | (with_reducible refine loud_evt ?_ ?_ ?_ <;> simp [Field.key, F.EVT_E_CAUSE, F.EVT_E_TIME, F.EVT_E_COUNT, F.EVT_PEND] <;> omega)

end Sys2Proof.Machine
end

