-- ==== Sys2Proof/Machine/Balls.lean ====
section
/-!
DEFINITION. The ball map (R453–R456) and the states of the balls (R457, R458).
-/
namespace Sys2Proof.Machine

/-- A signal ball: the manual's name without its numbers, the number of its unit (n, c, s, b, i, k or z; 0 where there is one), and the bit in
brackets, the ball of several alike, or 0. BP2_D[5]_N is ⟨"BP_D_N", 2, 5⟩. -/
structure Ball where
  sig : String
  unit : Nat
  bit : Nat
deriving DecidableEq, Repr

/-- A block of the map (R454): its first and last row, its first and last column, and its signals in fill order. -/
structure BallBlock where
  row : Nat
  rowEnd : Nat
  col : Nat
  colEnd : Nat
  fill : List Ball
deriving DecidableEq, Repr

/-! ## Fill orders (R454, R455) -/

/-- One ball each. -/
def balls1 (names : List String) : List Ball := names.map fun n => ⟨n, 0, 0⟩

/-- Bits 0 to k - 1 of a bus. -/
def ballBits (name : String) (unit k : Nat) : List Ball := (upFrom 0 k).map fun j => ⟨name, unit, j⟩

/-- For each of k bits the named balls in turn. -/
def ballsPer (unit k : Nat) (names : List String) : List Ball := (upFrom 0 k).flatMap fun j => names.map fun n => ⟨n, unit, j⟩

/-- For each of k units the named balls in turn. -/
def ballsOfUnits (k : Nat) (names : List String) : List Ball := (upFrom 0 k).flatMap fun u => names.map fun n => ⟨n, u, 0⟩

def fillPcie : List Ball :=
  ballsPer 0 8 ["PE_TXP", "PE_TXN", "PE_RXP", "PE_RXN"] ++ balls1 ["PE_REFCLK_P", "PE_REFCLK_N", "PERST_N", "CLKREQ_N"]

def fillLanes : List Ball :=
  ballsPer 0 18 ["IL_TXP", "IL_TXN"] ++ ballsPer 0 18 ["IL_RXP", "IL_RXN"] ++ ballBits "ILS_SEL" 0 4 ++ ballBits "ILS_SEL" 1 4

def fillSystem : List Ball :=
  balls1 ["XIN", "XOUT", "CXIN", "CXOUT", "RESET_N", "PG_OUT", "VIOA_REG", "TCK", "TMS", "TDI", "TDO", "TRST_N", "TEST"]

def fillBeam : List Ball :=
  (upFrom 0 4).flatMap fun n =>
    ballsPer n 8 ["BP_D_P", "BP_D_N"] ++ (["BP_CK_P", "BP_CK_N", "BP_BD", "BP_SCK", "BP_MOSI", "BP_MISO", "BP_CS_N"].map fun x => ⟨x, n, 0⟩)

def fillKeepalives : List Ball :=
  balls1 ["KA_HV"] ++ ballBits "KA_LASER" 0 4 ++ balls1 ["KA_DRIVE", "KA_FUSER", "KA_AUX"] ++ ballBits "BRK" 0 4 ++ ballBits "DRVEN" 0 4
    ++ ballBits "SDCLK" 0 4

def fillSteppers : List Ball :=
  ballsOfUnits 12 ["STP_AH", "STP_AL", "STP_BH", "STP_BL", "STP_IA", "STP_IB"] ++ ballsOfUnits 4 ["BK_V", "BK_I"]

def fillGeneral : List Ball :=
  ballBits "GPIO" 0 64 ++ ballsOfUnits 16 ["ENC_A", "ENC_B", "ENC_Z"] ++ ballsOfUnits 4 ["SSI_CLK", "SSI_DAT"]

def fillAnalog : List Ball := ballsOfUnits 16 ["RD_P", "RD_N"] ++ ballBits "TH" 0 16 ++ ballBits "AIN" 0 16

def fillPower : List Ball :=
  ballBits "VIN" 0 72 ++ ((upFrom 0 8).flatMap fun k => ballBits "LXC" k 3) ++ ballBits "VCORE" 0 96 ++ balls1 ["VCORE_SNS"]
    ++ ballBits "LXA" 0 2 ++ ballBits "V1P8" 0 4 ++ ballBits "LXB" 0 2 ++ ballBits "V3P3" 0 2 ++ ballBits "LXM" 0 4 ++ ballBits "VMEM" 0 8
    ++ ballBits "LXS" 0 4 ++ ballBits "VSER" 0 8 ++ ballBits "VPLL" 0 2 ++ ballBits "VKEEP" 0 2 ++ balls1 ["VREF_TH", "VBAT"]
    ++ ballBits "VIO_A" 0 4 ++ ballBits "VIO_B" 0 4

def fillThreePhase : List Ball :=
  ballsOfUnits 12 ["MTR_UH", "MTR_UL", "MTR_VH", "MTR_VL", "MTR_WH", "MTR_WL", "MTR_FLT_N", "MTR_IU", "MTR_IV", "MTR_HA", "MTR_HB", "MTR_HC",
    "MTR_ZU", "MTR_ZV", "MTR_ZW"]

def fillHv : List Ball :=
  ballBits "HVSET" 0 16 ++ ballBits "HVFLT_N" 0 16 ++ ballBits "FUS_SSR" 0 2 ++ ballBits "FUS_OTS" 0 2 ++ balls1 ["ZC_IN"]

/-- The LPDDR5X balls of channel A (0) or B (1). -/
def fillMemory (ch : Nat) : List Ball :=
  ballBits "M_DQ" ch 64 ++ ballBits "M_DMI" ch 8 ++ ballsPer ch 8 ["M_RDQS_P", "M_RDQS_N"] ++ ballsPer ch 8 ["M_WCK_P", "M_WCK_N"]
    ++ ballsPer ch 4 ["M_CK_P", "M_CK_N"] ++ ballBits "M_CA" ch 28 ++ ballBits "M_CS" ch 4 ++ [⟨"M_RESET_N", ch, 0⟩, ⟨"M_ZQ", ch, 0⟩]

def fillSerial : List Ball :=
  balls1 ["XSPI_CK", "XSPI_CS_N", "XSPI_DQS", "XSPI_RST_N"] ++ ballBits "XSPI_DQ" 0 8 ++ ballsOfUnits 4 ["I2C_SCL", "I2C_SDA"]
    ++ ballsOfUnits 2 ["UART_TX", "UART_RX"] ++ ballBits "DG_IN" 0 2

/-- The blocks of the 44 × 44 grid (R454). -/
def ballBlocks : List BallBlock :=
  [⟨1, 10, 1, 4, fillPcie⟩, ⟨1, 4, 5, 40, fillLanes⟩, ⟨1, 4, 41, 44, fillSystem⟩, ⟨5, 7, 5, 40, fillBeam⟩, ⟨5, 10, 41, 44, fillKeepalives⟩,
    ⟨8, 10, 5, 40, fillSteppers⟩, ⟨11, 26, 1, 8, fillGeneral⟩, ⟨27, 34, 1, 8, fillAnalog⟩, ⟨11, 34, 9, 36, fillPower⟩,
    ⟨11, 34, 37, 44, fillThreePhase⟩, ⟨35, 44, 1, 4, fillHv⟩, ⟨35, 44, 5, 22, fillMemory 0⟩, ⟨35, 44, 23, 40, fillMemory 1⟩,
    ⟨35, 44, 41, 44, fillSerial⟩]

/-! ## Positions (R453) -/

/-- The row and column of position k of a block: left to right along a row, then row by row downward. -/
def BallBlock.place (b : BallBlock) (k : Nat) : Nat × Nat :=
  (b.row + k / (b.colEnd + 1 - b.col), b.col + k % (b.colEnd + 1 - b.col))

/-- Where a signal is in a fill order. -/
def indexIn (x : Ball) : List Ball → Option Nat
  | [] => none
  | y :: r => if y = x then some 0 else (indexIn x r).map (· + 1)

/-- The row and column of a signal's ball. -/
def placeOf (x : Ball) : Option (Nat × Nat) :=
  ballBlocks.findSome? fun b => (indexIn x b.fill).map b.place

/-- The signal at a position; none for GND. -/
def signalAt (row col : Nat) : Option Ball :=
  ballBlocks.findSome? fun b =>
    if b.row ≤ row ∧ row ≤ b.rowEnd ∧ b.col ≤ col ∧ col ≤ b.colEnd then
      (b.fill.drop ((row - b.row) * (b.colEnd + 1 - b.col) + (col - b.col))).head?
    else none

/-- The ball of snare n (R456). -/
def snareBall (n : Nat) : Ball := ⟨"GPIO", 0, 32 + n⟩

/-! ## Ball states (R457, R458) -/

/-- What a ball supplies its ring from. -/
inductive Supply
  | vser
  | vioA
  | vioB
  | v1p8
  | vmem
  | vpll
  | vkeep
  | noSupply
deriving DecidableEq, Repr

/-- The states of R457; `driven` where the unit that owns the ball drives or samples it. -/
inductive BallLevel
  | hiZ
  | hiZTolerant
  | hiZToGround
  | input
  | pulledUp
  | pulledDown
  | released
  | low
  | high
  | electricalIdle
  | fundamentalReset
  | coldMemory
  | selfRefresh
  | oscillating
  | strap
  | driven
deriving DecidableEq, Repr

/-- A row of the table of R457: supply, domain, reset state and unpowered state. -/
structure BallClass where
  supply : Supply
  dom : Nat
  atReset : BallLevel
  unpowered : BallLevel
deriving DecidableEq, Repr

/-- The rows of R457 by the signals they name. -/
def ballRows : List (List String × BallClass) :=
  [(["PE_TXP", "PE_TXN", "PE_RXP", "PE_RXN", "PE_REFCLK_P", "PE_REFCLK_N"], ⟨.vser, Dom.PCIE, .fundamentalReset, .hiZ⟩),
    (["PERST_N"], ⟨.vioB, Dom.PCIE, .input, .hiZTolerant⟩),
    (["CLKREQ_N"], ⟨.vioB, Dom.PCIE, .released, .hiZTolerant⟩),
    (["IL_TXP", "IL_TXN", "IL_RXP", "IL_RXN"], ⟨.vser, Dom.LANE, .electricalIdle, .hiZ⟩),
    (["BP_D_P", "BP_CK_P"], ⟨.vser, Dom.LANE, .low, .hiZ⟩),
    (["BP_D_N", "BP_CK_N"], ⟨.vser, Dom.LANE, .high, .hiZ⟩),
    (["ILS_SEL", "BP_SCK", "BP_MOSI"], ⟨.vioA, Dom.LANE, .low, .hiZ⟩),
    (["BP_CS_N"], ⟨.vioA, Dom.LANE, .high, .hiZ⟩),
    (["BP_BD", "BP_MISO"], ⟨.vioA, Dom.LANE, .input, .hiZ⟩),
    (["KA_HV", "KA_LASER", "KA_DRIVE", "KA_FUSER", "KA_AUX"], ⟨.vioA, Dom.KEEP, .low, .hiZToGround⟩),
    (["MTR_UH", "MTR_UL", "MTR_VH", "MTR_VL", "MTR_WH", "MTR_WL", "STP_AH", "STP_AL", "STP_BH", "STP_BL", "BRK", "DRVEN", "HVSET", "FUS_SSR"],
      ⟨.vioA, Dom.MOT, .low, .hiZToGround⟩),
    (["SDCLK", "SSI_CLK"], ⟨.vioA, Dom.MOT, .low, .hiZ⟩),
    (["MTR_FLT_N", "MTR_HA", "MTR_HB", "MTR_HC", "MTR_ZU", "MTR_ZV", "MTR_ZW", "MTR_IU", "MTR_IV", "STP_IA", "STP_IB", "BK_V", "BK_I", "ENC_A",
      "ENC_B", "ENC_Z", "SSI_DAT", "HVFLT_N"], ⟨.vioA, Dom.MOT, .input, .hiZ⟩),
    (["ZC_IN", "DG_IN", "UART_RX"], ⟨.vioB, Dom.FAB, .input, .hiZTolerant⟩),
    (["UART_TX", "I2C_SCL", "I2C_SDA"], ⟨.vioB, Dom.FAB, .released, .hiZTolerant⟩),
    (["XSPI_CS_N"], ⟨.v1p8, Dom.KEEP, .high, .hiZ⟩),
    (["XSPI_CK", "XSPI_DQS", "XSPI_DQ"], ⟨.v1p8, Dom.KEEP, .input, .hiZ⟩),
    (["XSPI_RST_N"], ⟨.v1p8, Dom.KEEP, .low, .hiZ⟩),
    (["RD_P", "RD_N", "TH", "AIN", "FUS_OTS"], ⟨.v1p8, Dom.ANA, .input, .hiZ⟩),
    (["M_DQ", "M_DMI", "M_RDQS_P", "M_RDQS_N", "M_WCK_P", "M_WCK_N", "M_CK_P", "M_CK_N", "M_CA", "M_CS", "M_RESET_N", "M_ZQ"],
      ⟨.vmem, Dom.MEM, .coldMemory, .hiZ⟩),
    (["XIN", "XOUT"], ⟨.vpll, Dom.ANA, .oscillating, .hiZ⟩),
    (["CXIN", "CXOUT"], ⟨.vkeep, Dom.KEEP, .oscillating, .hiZ⟩),
    (["RESET_N"], ⟨.vkeep, Dom.KEEP, .input, .hiZ⟩),
    (["PG_OUT"], ⟨.vkeep, Dom.KEEP, .low, .hiZ⟩),
    (["TCK", "TMS", "TDI"], ⟨.vioA, Dom.KEEP, .pulledUp, .hiZ⟩),
    (["TRST_N"], ⟨.vioA, Dom.KEEP, .pulledDown, .hiZ⟩),
    (["TDO"], ⟨.vioA, Dom.KEEP, .hiZ, .hiZ⟩),
    (["VIOA_REG", "TEST"], ⟨.noSupply, Dom.KEEP, .strap, .strap⟩)]

/-- The row of R457 that a ball belongs to; none for a supply or GND. General I/O 0 to 31 is of bank A, 32 to 63 of bank B. -/
def Ball.row (x : Ball) : Option BallClass :=
  if x.sig = "GPIO" then some ⟨if x.bit < 32 then .vioA else .vioB, Dom.FAB, .input, if x.bit < 32 then .hiZ else .hiZTolerant⟩
  else ballRows.findSome? fun r => if r.1.contains x.sig then some r.2 else none

/-- Whether a supply is present to its balls: the balls of a bank of VIO also wait for the keeper's release (R458); the regulators run from the
release and through a warm reset (R462, R463; DEDUCED, log entry 78). -/
def State.supplyUp (s : State) (x : Supply) : Bool :=
  let regulators := s.keeper.supplied && (s.keeper.released || s.keeper.selfRefresh)
  match x with
  | .vioA => s.keeper.released && s.keeper.vioA
  | .vioB => s.keeper.released && s.keeper.vioB
  | .vkeep => s.keeper.supplied
  | .noSupply => true
  | .vser => regulators
  | .v1p8 => regulators
  | .vmem => regulators
  | .vpll => regulators

/-- The state of a ball (R457, R458): unpowered while its supply is absent, its reset state while its domain is off or before release, and then
what its unit drives. -/
def State.ballLevel (s : State) (x : Ball) : Option BallLevel :=
  x.row.map fun c =>
    if s.supplyUp c.supply = false then c.unpowered
    else if c.atReset = .strap ∨ c.atReset = .oscillating then c.atReset
    else if c.dom = Dom.MEM ∧ s.keeper.selfRefresh = true then .selfRefresh
    else if s.keeper.released && s.powered c.dom then .driven
    else c.atReset

/-- The level of general I/O ball g (R457, R458, R456): none while it is Hi-Z, else what the fabric last drove or the pin shows. -/
def State.ball (s : State) (g : Nat) : Option Nat :=
  if s.ballLevel ⟨"GPIO", 0, g⟩ = some .driven then some (tget 0 s.gpio g) else none

end Sys2Proof.Machine
end

