-- ==== Sys2Proof/WellFormed.lean ====
section
/-!
DEFINITION. Which commands are well formed: the bounds the specification gives a command's operands beyond their types. A command that is
not well formed is still executed as the specification says (ILLEGAL, a refusal code, a dropped access).
-/
namespace Sys2Proof

/-- Whether a register number names a pair (R283). -/
def pairReg (r : BitVec 4) : Bool := r.toNat % 2 == 0

/-- Whether the limit field of a wait is well formed (R283, R289): an even pair with LIM, zero without. -/
def limitReg (r : BitVec 4) (lim : Bool) : Bool := if lim then pairReg r else r == 0

/-- Whether an instruction's mallet is a loop mallet (R257). -/
def onLoop (x : Fetch) : Bool := decide (26 ≤ x.m.val)

/-- The bounds of a command's operands: the windows of R31, head memories of 64 bytes (R184), roles 0–61 (R267), sideband data of at most
32 bytes (R175), one sample for each axis (R306), and the legal fields of mallet instructions (R257, R283, R287, R300, R302, R304). -/
def wellFormed : Instr → Bool
  | .registerWrite _ bar off len _ _ => (bar == .bar0 || decide (off.toNat < 0x10000)) && decide (1 ≤ len.toNat)
  | .flamRead _ _ len => decide (1 ≤ len.toNat)
  | .countRead _ bar off len => (bar == .bar0 || decide (off.toNat < 0x10000)) && decide (1 ≤ len.toNat)
  | .armRequest .. => true
  | .inkArmStep _ r => match r with
    | .check => true
    | .late => true
    | .heads mem => mem.all fun b => b.length == 64
  | .epArmStep .. => true
  | .inkDisarm .. => true
  | .cap .. => true
  | .epDisarm .. => true
  | .epDisarmDone .. => true
  | .adpllEnable => true
  | .pllLock => true
  | .pllLockLost => true
  | .refLost => true
  | .refReturn => true
  | .holdoverTimeout => true
  | .fclkLost => true
  | .tcompUpdate => true
  | .calCompStep => true
  | .pixfWrite .. => true
  | .mdllEnable .. => true
  | .mdllUnlock .. => true
  | .mdllUnlockTimeout .. => true
  | .timeLoRead .. => true
  | .snareArm .. => true
  | .snareDisarm .. => true
  | .snareCapture .. => true
  | .snareRead .. => true
  | .sourceEnable .. => true
  | .observerPeriod .. => true
  | .observerPublish .. => true
  | .webReverse .. => true
  | .obsStale => true
  | .coastExpired => true
  | .webSwitch => true
  | .ratioSchedule .. => true
  | .ratioCancel .. => true
  | .gearApplied .. => true
  | .frameBoundary .. => true
  | .bar2Write a bs => decide (1 ≤ bs.length) && decide (bs.length ≤ 512) && decide (a.toNat + bs.length ≤ 2 ^ 36)
  | .bar2Read a n _ => decide (1 ≤ n.toNat) && decide (n.toNat ≤ 512) && decide (a.toNat + n.toNat ≤ 2 ^ 36)
  | .pageCopyDone => true
  | .fqTailWrite .. => true
  | .descFetch .. => true
  | .feedRequest .. => true
  | .lineSlotFilled .. => true
  | .dmaStart .. => true
  | .dmaDrainDone .. => true
  | .dmaDescDone .. => true
  | .dmaAbort .. => true
  | .pcieCompletion .. => true
  | .pcieCplTimeout .. => true
  | .screenLine .. => true
  | .leadWrite .. => true
  | .leadnowRead .. => true
  | .tableLoad .. => true
  | .tableLoadDone .. => true
  | .tableCopy .. => true
  | .tableCopyDone .. => true
  | .tableMark .. => true
  | .tableClear .. => true
  | .tableSwap .. => true
  | .hidingEdit .. => true
  | .tb => true
  | .spareDelayMeasure .. => true
  | .echo .. => true
  | .ack .. => true
  | .nack .. => true
  | .ackTimeout .. => true
  | .spareUlock .. => true
  | .status .. => true
  | .telemetry .. => true
  | .missed .. => true
  | .hubSilentTimeout .. => true
  | .sidebandGo => true
  | .sbRsp _ _ _ _ data => decide (data.length ≤ 32)
  | .sidebandTimeout => true
  | .waveLoad .. => true
  | .waveLoadDone .. => true
  | .waveLoadTimeout .. => true
  | .waveClear .. => true
  | .waveSwap .. => true
  | .ddTestStart => true
  | .ddTestDone .. => true
  | .inkDdResultRead => true
  | .bdLightStart .. => true
  | .bdLightTimeout .. => true
  | .bdEdge .. => true
  | .bdMissing .. => true
  | .apcPoll .. => true
  | .apcReply .. => true
  | .hvRampStep .. => true
  | .hvMonitorSample .. => true
  | .hvArcHoldEnd .. => true
  | .hvArcWindowEnd .. => true
  | .hvRampTimeout .. => true
  | .zcEdge => true
  | .zcLost => true
  | .fuserCut .. => true
  | .fuserCutClear .. => true
  | .confirmCheck .. => true
  | .heldSquash .. => true
  | .csQueue .. => true
  | .csCancel => true
  | .roleAssign role _ => decide (role.toNat ≤ 61)
  | .roleRelease role => decide (role.toNat ≤ 61)
  | .hostHalt .. => true
  | .hostSend => true
  | .hostRxPop => true
  | .carillonDeliver .. => true
  | .wdog .. => true
  | .takeoverStart .. => true
  | .waitResume .. => true
  | .storeBufferLeave .. => true
  | .timedPinAction => true
  | .add .. => true
  | .addC .. => true
  | .sub .. => true
  | .subC .. => true
  | .and .. => true
  | .or .. => true
  | .xor .. => true
  | .mov .. => true
  | .shl .. => true
  | .shr .. => true
  | .sar .. => true
  | .cmp .. => true
  | .mul .. => true
  | .mulW _ kd _ _ => pairReg kd
  | .mulWu _ kd _ _ => pairReg kd
  | .addImm .. => true
  | .andImm .. => true
  | .orImm .. => true
  | .xorImm .. => true
  | .shiftImm _ _ _ op _ => op != 3
  | .cmpImm .. => true
  | .movi .. => true
  | .movhi .. => true
  | .ld .. => true
  | .ldH .. => true
  | .ldB .. => true
  | .st .. => true
  | .stH .. => true
  | .stB .. => true
  | .ldx .. => true
  | .stx .. => true
  | .br _ cond _ => cond != 15
  | .call .. => true
  | .ret .. => true
  | .rete .. => true
  | .waitt _ ka => pairReg ka
  | .waitp _ ka kb lim => pairReg ka && limitReg kb lim
  | .waite _ _ _ kb lim _ _ _ => limitReg kb lim
  | .emit _ _ _ kw _ => pairReg kw
  | .signal .. => true
  | .spec .. => true
  | .stage _ _ _ kw _ => pairReg kw
  | .commit .. => true
  | .squash .. => true
  | .send _ ka => ka.toNat % 4 == 0
  | .recv _ kd => kd.toNat % 4 == 0
  | .mfs .. => true
  | .mts .. => true
  | .cnt _ kd i => pairReg kd && decide (i.toNat < 56)
  | .fence .. => true
  | .drain .. => true
  | .halt .. => true
  | .mac x _ _ => onLoop x
  | .macZ x _ _ => onLoop x
  | .msu x _ _ => onLoop x
  | .satq x _ _ _ _ => onLoop x
  | .lim x _ _ kb => onLoop x && pairReg kb
  | .tlu x _ _ _ n _ => onLoop x && decide (1 ≤ n.toNat) && decide (n.toNat ≤ 11)
  | .intg x _ _ kb => onLoop x && pairReg kb
  | .diff x kd _ kb => onLoop x && kd != kb
  | .loopTimerEnable .. => true
  | .loopTimerFire _ samples => decide (samples.map fun x => x.axis).Nodup
  | .axisEnable .. => true
  | .axisSwitch .. => true
  | .axisCoastExpired .. => true
  | .axsTableLoad .. => true
  | .axsTableLoadDone .. => true
  | .axsTableClear .. => true
  | .axsTableSwap .. => true
  | .pgenUpdate .. => true
  | .stop .. => true
  | .moveAbs .. => true
  | .moveRel .. => true
  | .vel .. => true
  | .gear .. => true
  | .qstop .. => true
  | .home .. => true
  | .disable .. => true
  | .groupMove .. => true
  | .limitActive .. => true
  | .homeHoldoffEnd .. => true
  | .stepperChopPeriod .. => true
  | .stepperHoldTimeout .. => true
  | .traceArm .. => true
  | .traceForce .. => true
  | .traceSample .. => true
  | .traceRead .. => true
  | .motorEnable .. => true
  | .pwmPeriod .. => true
  | .gateFault .. => true
  | .catchWindowEnd .. => true
  | .brakeCycleEnd .. => true
  | .slsStartTimeout .. => true
  | .lockedRotor .. => true
  | .busVoltageSample .. => true
  | .brakeCheckEnd .. => true
  | .brkFaultClear .. => true
  | .busOvClear .. => true
  | .hkSample .. => true
  | .hkRequal .. => true
  | .hkTest => true
  | .throttleDemandStep => true
  | .throttleApplyCheck => true
  | .g3Stop => true
  | .decelCheck => true
  | .stopTimeout => true
  | .stopDone => true
  | .g4 => true
  | .kaHvTimeout => true
  | .hostRaise .. => true
  | .pendClear .. => true
  | .eventConfigWrite .. => true
  | .keeperRelease .. => true
  | .otpKeyWrite .. => true
  | .otpRead .. => true
  | .otpProg .. => true
  | .otpProgDone .. => true
  | .getInfo .. => true
  | .reset => true
  | .closeConfig => true
  | .setTcomp => true
  | .calSet .. => true
  | .imgLoad .. => true
  | .imgStage .. => true
  | .imgRemove => true
  | .pkgLoad .. => true
  | .fwUpdate .. => true
  | .fwSwitch => true
  | .fwSwitched => true
  | .fwSwitchTimeout => true
  | .fwConfirm => true
  | .keeperWdog => true
  | .logRead .. => true
  | .lifeRead .. => true
  | .marginRun .. => true
  | .marginReview .. => true
  | .supplyStep => true
  | .keyRevoke .. => true
  | .keySet .. => true
  | .lifeCountWrite => true
  | .counterEnable .. => true
  | .counterRead .. => true
  | .cntHiWrite .. => true
  | .cntLoWrite .. => true
  | .counterWrap .. => true
  | .counterFreeze .. => true
  | .snapshot => true
  | .domainRequest .. => true
  | .domainPowerUp .. => true
  | .domainPgLost .. => true
  | .standbyRequest => true
  | .por .. => true
  | .resetPin .. => true
  | .deviceReset => true
  | .resetIsolate => true
  | .vinSample .. => true
  | .vinUvlo => true
  | .regFault .. => true
  | .vbatLow .. => true
  | .adpllDisable => true
  | .undefinedInstruction x w => !legalWord (onLoop x) w
  | .powerManagementState .. => true
  | .laneBlockLock .. => true
  | .indexPulse .. => true
  | .vioSupplyChange .. => true

end Sys2Proof
end

