-- ==== Sys2Proof/Tests/Slice0.lean ====
section
/-!
SUPPORT. Tests: an ill-formed term for each check of WellFormed.lean, the worked examples of the specification with their printed results, and
the witnesses of the statements about every step. Expected values stand in the specification, at the file and table that each test names.
-/
namespace Sys2Proof.Tests
open Sys2Proof Sys2Proof.Machine

/-! ## Ill-formed commands -/

theorem test_ill_formed_register_accesses :
    wellFormed (.registerWrite .host .bar4 0x10000 4 0 0) = false ∧ wellFormed (.registerWrite .host .bar0 0 0 0 0) = false ∧
    wellFormed (.countRead .keeper .bar4 0x10000 4) = false ∧ wellFormed (.countRead .keeper .bar0 0 0) = false ∧
    wellFormed (.flamRead .host 0 0) = false := by decide

theorem test_ill_formed_device_memory_accesses :
    wellFormed (.bar2Write 0 []) = false ∧ wellFormed (.bar2Write 0 (List.replicate 513 0)) = false ∧
    wellFormed (.bar2Write 0xFFFFFFFFF [0, 0]) = false ∧ wellFormed (.bar2Read 0 0 .clean) = false ∧
    wellFormed (.bar2Read 0 513 .clean) = false ∧ wellFormed (.bar2Read 0xFFFFFFFFF 2 .clean) = false := by decide +kernel

theorem test_ill_formed_data_and_roles :
    wellFormed (.inkArmStep 0 (.heads [[1]])) = false ∧ wellFormed (.sbRsp 0 true 0 0 (List.replicate 33 0)) = false ∧
    wellFormed (.roleAssign 62 0) = false ∧ wellFormed (.roleRelease 62) = false ∧
    wellFormed (.loopTimerFire 0 [⟨1, ⟨[], [], false⟩, ⟨[], [], false⟩⟩, ⟨1, ⟨[], [], false⟩, ⟨[], [], false⟩⟩]) = false := by decide +kernel

theorem test_ill_formed_register_fields :
    wellFormed (.mulW ⟨0, .clean⟩ 3 0 0) = false ∧ wellFormed (.mulWu ⟨0, .clean⟩ 15 0 0) = false ∧
    wellFormed (.shiftImm ⟨0, .clean⟩ 0 0 3 0) = false ∧ wellFormed (.br ⟨0, .clean⟩ 15 0) = false ∧
    wellFormed (.waitt ⟨0, .clean⟩ 5) = false ∧ wellFormed (.waitp ⟨0, .clean⟩ 3 0 false) = false ∧
    wellFormed (.waitp ⟨0, .clean⟩ 2 7 true) = false ∧ wellFormed (.waite ⟨0, .clean⟩ 0 0 6 false false false .clean) = false := by decide

theorem test_ill_formed_port_fields :
    wellFormed (.emit ⟨0, .clean⟩ 0 0 1 false) = false ∧ wellFormed (.stage ⟨0, .clean⟩ 0 0 9 true) = false ∧
    wellFormed (.send ⟨0, .clean⟩ 2) = false ∧ wellFormed (.recv ⟨0, .clean⟩ 13) = false ∧
    wellFormed (.cnt ⟨0, .clean⟩ 1 0) = false ∧ wellFormed (.cnt ⟨0, .clean⟩ 0 56) = false := by decide

theorem test_ill_formed_loop_instructions :
    wellFormed (.mac ⟨25, .clean⟩ 0 0) = false ∧ wellFormed (.macZ ⟨0, .clean⟩ 0 0) = false ∧ wellFormed (.msu ⟨0, .clean⟩ 0 0) = false ∧
    wellFormed (.satq ⟨0, .clean⟩ 0 0 false false) = false ∧ wellFormed (.lim ⟨26, .clean⟩ 0 0 1) = false ∧
    wellFormed (.tlu ⟨26, .clean⟩ 0 0 0 0 .clean) = false ∧ wellFormed (.tlu ⟨26, .clean⟩ 0 0 0 12 .clean) = false ∧
    wellFormed (.intg ⟨26, .clean⟩ 0 0 3) = false ∧ wellFormed (.diff ⟨26, .clean⟩ 4 0 4) = false := by decide

theorem test_ill_formed_undefined_word : wellFormed (.undefinedInstruction ⟨0, .clean⟩ 0) = !wellFormed (.undefinedInstruction ⟨0, .clean⟩ 0xFFFFFFFF) := by
  decide

/-! ## Worked examples of the specification -/

/-- 01_press_model.md, line position at an inkjet station. -/
theorem test_line_position_of_the_white_station :
    (State.reset.setFs [(F.WEB_ST_RAT_LO 4, 0x2F3E7D), (F.WEB_ST_OFS_LO 4, 170393600)]).lposAtPos 4 694681600 = 0x5C460 * 65536 + 0xC240 := by
  decide +kernel

/-- 02_clocks_and_press_time.md, magnification trim: a step of 280 is taken, the whole change of 839 is refused. -/
theorem test_magnification_trim_step :
    let s := (State.reset.setF (F.CLK_MDLL_STATUS_PIXF_USED 0) 1677722).setMdll 0 { Mdll.reset with band := some (100, 320) }
    (s.applyPixf 0 1678002).f (F.CLK_MDLL_STATUS_PIXF_USED 0) = 1678002 ∧
    s.pixStepOk 0 1678561 = false := by
  decide +kernel

/-- The nozzles 998 to 1,002 of the example of 05_screening.md: 1,000 missing, 1,001 strong, every nozzle with its thresholds. -/
def oneMissing : State :=
  let thr : List (Nat × Nat × Nat × Nat) :=
    [(998, 700, 2500, 3600), (999, 900, 2100, 3300), (1001, 1200, 2600, 3900), (1002, 500, 1700, 3000)]
  let s := ((State.reset.setCell 4 0 0 (1001 * 16 + 7) 1809).setCell 4 0 0 (1001 * 16 + 8) 2067).setCell 4 2 0 1064 1
  let s := (((s.setCell 4 2 0 60 32).setCell 4 2 0 61 96).setCell 4 2 0 62 96).setCell 4 2 0 63 32
  thr.foldl (fun s t => ((s.setCell 4 1 0 (t.1 % 256) t.2.1).setCell 4 1 0 (65536 + t.1 % 256) t.2.2.1).setCell 4 1 0
    (131072 + t.1 % 256) t.2.2.2) s

def lineOf128 : LineJob := ⟨4, 0, 0, 0, [128, 128, 128, 128, 128], 998, 1, 1003, 0, []⟩

/-- 05_screening.md, one missing nozzle at 1,200 dpi: the sums and the codes at contone 128. -/
theorem test_missing_nozzle_is_hidden :
    ([998, 999, 1001, 1002].map fun x => oneMissing.hidden lineOf128 x) = [2304, 2816, 2713, 2304] ∧
    ([998, 999, 1000, 1001, 1002].map fun x => oneMissing.contoneCode lineOf128 false x) =
      [(1, 0, false), (2, 0, false), (0, 0, false), (2, 0, false), (2, 0, false)] := by decide +kernel

/-- 07_ep_stations.md, one facet at 80 m/min: an edge 150 of 9,525 ticks after line 8,000 has the error 4 / 256 line. -/
theorem test_cross_scan_error :
    let r := (State.reset.setFs [(F.WEB_ST_RAT_LO 0, 65536)]).edgeError 0 (8000 * 65536 + 150 * 65536 / 9525)
    r.1 = 8000 ∧ r.2 / 256 = 4 := by decide +kernel

/-- 13_thermal_and_housekeeping.md, the hottest sensor fails: the demand at step 2, and the web speed allowed at step 7. -/
theorem test_throttle_demand_and_speed :
    let s := (State.reset.setFs [(F.WEB_ST_RAT_LO 3, 3096189), (F.SCR_CFG_WIDTH 3, 51200), (F.HK_THLIM_A, 2), (F.HK_THLIM_D, 7)]).setStation 3
      { State.reset.station 3 with phase := .armed }
    (demandAt 3 { s with web := { s.web with pub := ⟨0, 150000 * 2 ^ 56 / 600000000 / 3096189, 0, 0⟩ } }).f (F.SCR_DEMAND_RATIO 3) = 234 ∧
    s.vmaxT = 595 := by decide +kernel

/-- 06_inkjet_stations.md, the switch-in of R178: SWITCH leaves 8 ticks after the spare is given, the COMMIT 12 ticks later (the tick
in which the last block leaves, times of 1/25 tick rounded up). -/
theorem test_switch_in_leaves :
    (State.reset.leaves 16 .switch + 24) / 25 = 8 ∧
    ((State.reset.transmitOn 16 ⟨6, 0, 0, .switch⟩).leaves 16 (.commit 0 0 1) + 24) / 25 = 20 := by decide +kernel

/-- 17_balls_power_and_reset.md, the ball of BP2_D[5]_N and that of snare 9. -/
theorem test_balls_of_the_example : placeOf ⟨"BP_D_N", 2, 5⟩ = some (6, 26) ∧ placeOf (snareBall 9) = some (16, 2) := by decide +kernel

/-! ## Witnesses of the statements about every step -/

def readyWrite : State := { State.reset.setFs [(F.FEED_MEM_CFG_SIZE, 2), (F.MBX_STATUS_READY, 1), (F.MBX_STATUS_MODE, 1)] with pending := [.bar2Write 5 [7]] }

theorem wit_StepRunsFrontCommand : ∃ s : State, s.pending = [] := ⟨State.reset, rfl⟩

theorem wit_ExecKeepsQueue : ∃ (c : Instr) (s t : State), exec c s = .next t := ⟨.adpllEnable, State.reset, _, rfl⟩

theorem wit_MemoryFormKept : ∃ s t : State, s.memoryWf = true ∧ step s = .next t := ⟨readyWrite, _, by decide +kernel, rfl⟩

theorem wit_OtpBitsNeverClear : ∃ (s t : State) (k i : Nat), step s = .next t ∧ bitOf (tget 0 s.otp k) i = true :=
  ⟨{ readyWrite with otp := [(0, 1)] }, _, 0, 0, rfl, by decide +kernel⟩

end Sys2Proof.Tests
end

