-- ==== Sys2Proof/Tests/Witness.lean ====
section
/-!
SUPPORT. Concrete states and operands that meet the premises of every statement that has premises (Sys2Proof/Certificates/Slice0):
one theorem for each statement, one conjunct for each of its clauses. A clause whose premises another clause repeats with more beside
them has its witness there.
-/

set_option Elab.async false

namespace Sys2Proof.Tests
open Sys2Proof Sys2Proof.Machine

/-- A state with register fields set. -/
def wit (L : List (Field × Nat)) : State := State.reset.setFs L
/-- The state with a station armed. -/
def witArm (n : Nat) (s : State) : State := s.setStation n { s.station n with phase := .armed }
def wClk (p : PllPhase) (s : State) : State := { s with clk := { s.clk with pll := p, begun := true, running := true, holdSince := 9 } }
def wRoot : State := wit [(F.CLK_BAND_ROOT_VALID 7, 1), (F.CLK_BAND_ROOT_FLO 7, 2400), (F.CLK_BAND_ROOT_FHI 7, 2401)]
def wAcq : State := wClk .acquiring State.reset
def wLock : State := witArm 7 (wClk .locked State.reset)
def wHold : State := wClk .holdover State.reset
def wPix : State :=
  let s := wit [(F.EPS_S_CFG_FOLLOW 1, 0), (F.EPS_S_CFG_FOLLOW 2, 0), (F.EPS_S_CFG_FOLLOW 3, 0), (F.CLK_MDLL_CTL_EN 1, 1), (F.CLK_MDLL_CTL_EN 2, 1), (F.CLK_MDLL_CTL_APPLY 2, 0),
    (F.CLK_MDLL_STATUS_PIXF_USED 2, 699051), (F.CLK_MDLL_FREQ_PIXF 3, 2236962), (F.CLK_MDLL_BAND_VALID 3 7, 1),
    (F.CLK_MDLL_BAND_FLO 3 7, 319), (F.CLK_MDLL_BAND_FHI 3 7, 400)]
  (witArm 1 s).setMdll 2 ⟨none, none, some (99, 101), true, 0, false⟩
def wTemp : State := wit [(F.HK_CH_STATUS_BROKEN 0, 1)]
def wTempF : State := { wTemp with clk := { wTemp.clk with frozen := true } }
def wComp : State :=
  let s := wit [(F.CLK_ADPLL_CTL_TCOMP_EN, 1), (F.HK_CH_TEMP_VALUE 0, 961), (F.CLK_XTAB_PPM 16, 65535), (F.CLK_CTAB_PPM 16, 7)]
  { s with clk := { s.clk with calAcc := 3125000 } }
def wSlow : State := { wComp with clk := { wComp.clk with calAcc := -3125000 } }
def wSnare : State :=
  let s := wit [(F.SN_CTL_ARM 31, 1), (F.SN_STATUS_ARMED 31, 1), (F.SN_CTL_MODE 31, 2), (F.SN_CTL_ARM 0, 1), (F.SN_STATUS_ARMED 0, 1),
    (F.SN_CTL_MODE 0, 1), (F.SN_CTL_MODE 1, 1), (F.SN_STATUS_MISS 1, 255)]
  { s with time := 100, snare := [(0, 36), (31, 37), (65, 1)] }
def wNoVin : State := { wComp with keeper := { wComp.keeper with supplied := false } }
def wUnl : State := ((wit [(F.SN_CTL_EDGE 31, 2), (F.SN_CTL_MODE 31, 2), (F.SN_CTL_ARM 31, 1), (F.SN_STATUS_ARMED 31, 1), (F.SN_CTL_EDGE 0, 2), (F.SN_CTL_MODE 0, 1), (F.SN_STATUS_ARMED 0, 1), (F.SN_CTL_MODE 1, 1), (F.SN_CTL_EDGE 1, 2)]).setMdll 1 ⟨none, none, none, true, 0, false⟩).setMdll 0 ⟨none, none, none, true, 0, false⟩
def wUnl2 : State := { wUnl with snare := [(65, 1), (97, 1), (129, 2 ^ 33 + 5), (161, 2 ^ 63), (127,1), (128, 5)] }

/-- The web runs at one web unit a tick from position zero, published at tick 0. -/
def witRun (s : State) : State :=
  { s with web := { s.web with pub := ⟨0, 2 ^ 24, 0, 0⟩, published := true, segs := [⟨0, 0, false, false, ⟨0, 2 ^ 24, 0, 0⟩⟩] } }
def wWeb : State := witRun (wit [(F.WEB_STATUS_COASTING, 1), (F.WEB_COAST_COAST_MS, 0), (F.WEB_SRC_CTL_EN 3, 1), (F.WEB_CTL_OBS_EN, 1), (F.WEB_SRC_CTL_EN 0, 1), (F.WEB_SRC_SSI_BITS 2, 48), (F.WEB_SRC_SSI_CLKDIV 2, 255)])
def wCoast : State := { wWeb with web := { wWeb.web with coastSince := some 7 } }
def wRev : State :=
  let s := witArm 0 (witRun State.reset)
  { s with time := 40, web := { s.web with inUse := some 0, high := some 1000000, revOver := true } }
def wRevLim : State := (wRev.setFs [(F.WEB_STATUS_REVERSE, 1)]).setSource 0 (wRev.source 0)
def wRevLim2 : State := { wRevLim with web := { wRevLim.web with revOver := false } }
def wObs : State := wClk .locked (wit [(F.WEB_CTL_OBS_EN, 1)])
def wGear : State :=
  witArm 7 (witRun (wit [(F.WEB_ST_RAT_HI 7, 1), (F.WEB_ST_RAT_LO 7, 0), (F.WEB_ST_RNEXT_HI 7, 1), (F.WEB_ST_RNEXT_LO 7, 42949673),
    (F.AXS_A_CTL_EN 23, 1), (F.AXS_A_RAT_HI 23, 1), (F.AXS_A_RNEXT_HI 23, 1), (F.AXS_A_RNEXT_LO 23, 42949672),
    (F.WEB_ST_RAT_AT_LO 3, 1), (F.AXS_A_RAT_AT_LO 23, 1), (F.WEB_ST_GCTL_RPEND 3, 1), (F.AXS_A_GCTL_RPEND 23, 1), (F.WEB_ST_GCTL_RPEND 7, 1),
    (F.WEB_ST_RNEXT_HI 3, 3), (F.AXS_A_GOFS_LO 23, 5), (F.AXS_A_GOFS_LO 0, 5)]))
def wGear2 : State := (wGear.setGear 3 { wGear.gearOf 3 with next := 3 * 2 ^ 32, at_ := 1 }).setGear 55 { wGear.gearOf 55 with next := 2 ^ 32 + 42949672, at_ := 1 }
def wStale : State := (wGear2.setFs [(F.WEB_STATUS_STALE, 1), (F.WEB_STATUS_COASTING, 1)]).setSource 0 { wGear2.source 0 with retry := true }

/-- A frame of five lines that begins at line 1, not yet begun. -/
def witFrame : Frame := { frameOfBytes [] 0 0 with start := some 1, lines := 5, width := 4, stride := 64, plane := 0x1000 }
/-- Sixty-four bytes of a descriptor: frame 1 of job 5, one raster line of one sample at 0x1000. -/
def witDesc : List Byte :=
  toLE 1 4 ++ toLE 5 4 ++ toLE 0x1000 8 ++ toLE 64 4 ++ toLE 1 4 ++ toLE 0 4 ++ toLE 1 4 ++ toLE 64 4 ++ toLE 0 28
def witMem : State := wit [(F.FEED_MEM_CFG_SIZE, 2), (F.MBX_STATUS_READY, 1), (F.MBX_STATUS_MODE, 1), (F.FEED_PEEK_EN, 0)]
def wFeed : State :=
  witArm 7 (((witMem.setFs [(F.FEED_Q_CTL_EN 7, 1), (F.SCR_CFG_WIDTH 7, 2), (F.CHG_S_JOB 7, 5), (F.FEED_Q_TAIL 7, 1),
    (F.FEED_Q_CTL_LOG2SIZE 7, 8)]).setStation 7 { Station.reset with ranEmpty := false }).memPut 0 witDesc)
def wJobwait : State := wFeed.setF (F.CHG_S_JOB 7) 4
def wReq : State := witArm 7 (wFeed.setStation 7 { Station.reset with frames := [witFrame], reqs := [⟨7, false, false, none⟩] })
def wSlot : State := witArm 7 (wFeed.setStation 7 { Station.reset with frames := [witFrame], reqs := [⟨5, true, false, none⟩] })
def wVoid : State := witArm 7 (wFeed.setStation 7 { Station.reset with frames := [witFrame], reqs := [⟨5, true, true, some 3⟩] })
def wEnd : State :=
  witArm 7 (witRun ((wFeed.setFs [(F.WEB_ST_RAT_HI 7, 1), (F.SCR_CFG_KIND 7, 1)]).setStation 7
    { Station.reset with ranEmpty := false, endLine := some 3, frames := [{ witFrame with reached := true, entered := true }] }))
def wQueue : State := { witMem with mem := ⟨[(5, 7)], [], [4], [(5, none), (6, some 3)]⟩ }
def wPeek : State := witMem.setF F.MBX_STATUS_READY 0
def wDma : State := witMem.setFs [(F.DMA_CTL_EN, 1), (F.DMA_CH_STATUS_BUSY 0, 1), (F.DMA_CH_HEAD_LO 1, 1), (F.DMA_CH_HEAD_LO 15, 64)]
def wMove : State :=
  (wDma.setFs [(F.DMA_CH_STATUS_BUSY 15, 1), (F.DMA_CH_CUR_LO 15, 0)]).setChan 15 { Dma.reset with phase := .moving, flags := 8, len := 4, src := 100, dst := 0x34 }
def wDrain : State := wDma.setChan 15 { Dma.reset with phase := .drain }
def wHostRead : State := wMove.setChan 15 { Dma.reset with phase := .moving, len := 4, src := 2 ^ 63, flags := 1 }
def wReissue : State := wMove.setChan 15 { Dma.reset with phase := .moving, len := 4, src := 2 ^ 63, flags := 1, reissued := true }
def wHostHead : State := wDma.setFs [(F.DMA_CH_HEAD_HI 15, 2 ^ 31), (F.DMA_CH_HEAD_LO 15, 64)]
def wFetching : State := (wDma.setFs [(F.DMA_CH_CUR_HI 15, 2 ^ 31), (F.DMA_CH_CUR_LO 15, 64)]).setChan 15 { Dma.reset with phase := .fetch }
def wD3 : State := { witMem with d3hot := true }

/-- A curve image of one record at an address: magic, kind 0, version 1, one record of 24 bytes and its CRC. -/
def witCurve : List Byte :=
  toLE 0x42545359 4 ++ toLE 0 2 ++ toLE 1 2 ++ toLE 1 4 ++ toLE 24 4 ++ toLE 0x29bc8795 4 ++ toLE 0 44 ++ (upFrom 0 24).map (BitVec.ofNat 8)
def wBank : State :=
  wit [(F.SCR_TSTAT_HID 7, 2 * Bank.EDIT), (F.SCR_TSTAT_CRV 0, 2 * Bank.READY), (F.SCR_TSTAT_HID 1, 2 * Bank.BUSY), (F.SCR_CFG_KIND 7, 1)]
def wTab : State :=
  let s := (witMem.setFs [(F.SCR_TSTAT_CRV 7, 2 * Bank.BUSY), (F.SCR_CFG_WIDTH 7, 1), (F.SCR_TSTAT_HID 0, 2 * Bank.BUSY)]).memPut 0x2000 witCurve
  { s with loadAt := [(2, 0x3001), (28, 0x2001)] }
def wLine (l : Int) : State :=
  let s := ((wFeed.setStation 7 { Station.reset with frames := [{ witFrame with gap := 1 }] }).memPut 0x1000 (toLE 0x40C0FF80 4)).setF (F.SCR_CFG_WIDTH 7) 8
  s.setSlot 7 l.toNat (some ⟨l, .filled, none, 0, 0, false⟩)
def wGap : State := wLine 6
def wImage : State := wLine 5
def wG4 : State := wImage.setF F.EVT_GONG_G4 1

def witOut (k : Nat) (b : Bool) : OutMsg := ⟨5, 0, .commit 5 1 k, 40, b⟩
def wLanes : State :=
  let s := witArm 7 (wit [(F.INK_SP_CTL_EN 0, 1), (F.INK_SP_CTL_MAP 0, 0xC000), (F.INK_SP_CTL_EN 1, 1), (F.INK_SP_CTL_MAP 1, 0xC000),
    (F.INK_L_STATUS_UP 14, 1), (F.INK_L_STATUS_UP 15, 1), (F.INK_S_HD_MAP_EN 7 0, 1), (F.INK_S_HD_MAP_EN 7 1, 1), (F.INK_S_HD_MAP_HUB 7 1, 1), (F.INK_SP_STATUS_IN_USE 1, 1), (F.INK_SP_STATUS_FOR_LANE 1, 15)])
  (((s.setLane 14 { Lane.reset with out := [witOut 1 false] }).setLane 15 { Lane.reset with out := [witOut 2 true], echoN := 63 }).setLane 17
    { Lane.reset with measuring := some 14, echoN := 63, echoSum := 184384 }).setLane 16 { Lane.reset with echoN := 62 }
def wMeasure : State := (wLanes.setLane 16 { Lane.reset with measuring := some 15, echoN := 63 }).setLane 15 { Lane.reset with out := [witOut 2 true], held := some 0, measured := 1 }
def wSpared : State := wLanes.setLane 15 { Lane.reset with out := [witOut 2 true], measured := 1 }

/-- A committed line at a place. -/
def witLine (l : Int) (p : LinePhase) (miss : Bool) : Line := ⟨l, 50, 10, 1, 0, 3, 4, p, miss, 0, []⟩
def wHub : State :=
  let s := wLanes.setLane 15 { Lane.reset with out := [witOut 2 false], due := true, badStatus := 0, faults := 2 }
  let s := s.setFs [(F.INK_L_STATUS_SPARED 0, 1), (F.INK_L_STATUS_FAILED 1, 1), (F.INK_S_HD_MAP_PORT 7 1, 31), (F.INK_S_HD_CFG_COUNT 7 1, 1)]
  (s.setStation 7 { Station.reset with phase := .armed, lines := [witLine 5 .committed false, witLine 100 .committed false] }).setHead 7 1
    { Head.reset with twarn := 401, tlimit := 401, rank := 4096 }
def wSilent : State :=
  wHub.setStation 7 { Station.reset with phase := .armed, lines := [witLine 5 .committed false], frames := [{ witFrame with begun := true, lastFire := 50 }] }
def wSb : State := wHub.setFs [(F.INK_SB_CMD_STATION, 7), (F.INK_SB_CMD_HUB, 1), (F.INK_SB_CMD_LEN, 32)]
def wSbBusy : State := { wSb.setFs [(F.INK_SB_STATUS_BUSY, 1), (F.INK_SB_CMD_GO, 1)] with sb := ⟨false, 15, 9, some (.sbReq false 0 0 0 1 []), none⟩ }
def wSbRetry : State := { wSbBusy with sb := ⟨true, 15, 9, some (.sbReq false 0 0 0 1 []), some 2⟩ }
/-- A waveform image: magic, kind 3, version 1, four waveforms, 1,024 bytes of zeros and their CRC. -/
def witWave : List Byte := toLE 0x56575359 4 ++ toLE 3 2 ++ toLE 1 2 ++ toLE 4 4 ++ toLE 1024 4 ++ toLE 4004437628 4
def wWave : State := ((witMem.setFs [(F.INK_S_WADDR_LO 0, 4), (F.INK_S_WSTAT_STATE 1, Bank.BUSY), (F.INK_S_WSTAT_ENGAGED 2, 1)]).memPut 256 witWave)
def wWaveArmed : State := witArm 0 wWave
def wWaveOut : State :=
  let s := wHub.setLane 15 { Lane.reset with out := [⟨5, 0, .wave 0 3 [], 40, false⟩] }
  (s.setF (F.INK_S_WSTAT_STATE 7) Bank.BUSY).setInk 7 { s.inkSt 7 with waveAt := some 3 }
def wDd : State := witArm 7 (wHub.setFs [(F.INK_DD_CTL_EN, 1), (F.INK_DD_CTL_STATION, 7), (F.INK_DD_RANGE_LAST, 9), (F.INK_DD_WEAK, 3), (F.INK_DD_CTL_BURST, 2), (F.INK_DD_PERIOD, 100), (F.INK_DD_TIME_WIN, 10), (F.INK_DD_TIME_FLIGHT, 500)] |>.setStation 7 Station.reset)
def wDdTest : State := { wDd with dd := { wDd.dd with test := some 9, fire0 := 6000 } }
def wDdQueue : State := { wDd with ddResults := [5, 6] }

def wBeam : State :=
  let s := (witRun (wClk .locked (wit [(F.EPS_S_CFG_FOLLOW 3, 0), (F.CLK_MDLL_STATUS_PIXF_USED 3, 1000000), (F.EPS_S_APC_CTL_DRIVE_MAX 3, 0),
    (F.EPS_S_APC_TARGET 3 7, 5), (F.EVT_KA_STATUS_LASER, 15), (F.SCR_CFG_KIND 3, 1)]))).setStation 3 { Station.reset with phase := .armed }
  s.setEp 3 { s.epSt 3 with beam := 7, polledAt := 11, enabled := 1 }
def wLit : State := wBeam.setEp 3 { wBeam.epSt 3 with lit := true, litAt := 12, lastBd := some 4, apc := [⟨2, 7, 0, false⟩] }
def wMiss : State := { wBeam.setEp 3 { wBeam.epSt 3 with missing := 1, lastBd := some 4, apc := [⟨2, 7, 0, true⟩], lit := true } with time := 100 }
def wHv : State :=
  let s := wit [(F.EPS_HV_CFG_EN 15, 1), (F.EPS_HV_CFG_ARCEN 15, 0), (F.EPS_HV_CFG_MON 15, 15), (F.EPS_HV_SET 15, 65), (F.EPS_HV_STATUS_OUT 15, 65535),
    (F.EPS_HV_STATUS_AT_SET 7, 1)]
  (s.setHv 15 { s.hvCh 15 with fltRun := 1, arcAt := some 20, rampBy := some 30, reached := true }).setHv 7 { s.hvCh 7 with holdAt := some 20, rampBy := some 5 }
def wFuse : State :=
  let s := wit [(F.EPS_FZ_CTL_EN 0, 1), (F.EPS_FZ_DUTY_N 0, 255), (F.EPS_FZ_DUTY_M 0, 254), (F.EPS_FZ_CUT 1, 5), (F.EPS_FZ_STATUS_CUT 1, 1), (F.EPS_FZ_STATUS_HEAT 1, 1),
    (F.EVT_KA_STATUS_FUSER, 1)]
  s.setZone 0 { s.zone 0 with acc := 1 }

def witEff (e : Eff) (conf : Bool) : Effect := ⟨e, 0xFF, 50, conf, { Checkpoint.zero with z := true }⟩
def witStage (effs : List Effect) (coast : Nat) : State :=
  let s := (witRun (wit [(F.WEB_ST_RAT_HI 7, 1), (F.WEB_STATUS_COASTING, coast), (F.CHG_S_CONF_CWIN 7, 1)])).setStation 7
    { Station.reset with phase := .armed, lines := [{ witLine 5 .staged false with mallet := 35, fire := 5000 }, witLine 9 .lost false] }
  s.setMallet 35 { s.mallet 35 with run := .running, sqh := 77, region := ⟨true, false, effs, Checkpoint.zero⟩ }
def wStage : State := witStage [witEff (.line 7 5) false] 1
def wFar : State := witStage [witEff (.line 7 5) false] 0
def wHeld : State := witStage [witEff (.event 3 0) false, witEff (.line 7 5) true] 0
def wHeldNot : State := witStage [witEff (.event 3 0) false, witEff (.line 7 5) false] 0
/-- A change-set record: station 7, job 9, splice at station position 64. -/
def witSet : List Byte :=
  toLE 0x53435359 4 ++ toLE 1 2 ++ toLE 0 2 ++ toLE 64 8 ++ toLE 9 4 ++ toLE 128 1 ++ toLE 0 167 ++ toLE 2315946122 4
def wSet : State :=
  ((witArm 7 (witMem.setFs [(F.WEB_ST_RAT_HI 7, 1), (F.CHG_CS_ADDR_LO, 1), (F.CHG_S_JOB 7, 8)])).memPut 64 witSet)
def witCs (done : Nat) : State :=
  wSet.setFs [(F.CHG_CS_STATE_STATE 3, 1), (F.CHG_CS_STATE_EPOCH 3, 5), (F.CHG_CS_STATE_MASK 3, 128), (F.CHG_CS_CMD_EPOCH, 5), (F.CHG_CS_DONE_APPLIED 3, done)]
def wCs : State := witCs 0
def wCsDone : State := witCs 1

/-- An image of a kind with one instruction, 0x12345678. -/
def witImage (kind : Nat) : List Byte := toLE 0 6 ++ toLE kind 1 ++ toLE 0 17 ++ toLE 1 4 ++ toLE 0 36 ++ toLE 0x12345678 4
def wAssign : State :=
  ((((wit [(F.PWR_DOMSTAT_ON, 4)]).setRole 0 { Role.reset with image := some (witImage 0), epoch := 65535, entry := 7 }).setRole 5
    { Role.reset with image := some (witImage 1), staged := some (3, []), station := some 7, take := 9 }).setRole 61
    { Role.reset with image := some (witImage 0), station := some 7, holder := some 35 }).mapMallet 0 fun x => { x with role := some 9 }
def wAssignArmed : State := witArm 7 wAssign
def wRelease : State :=
  ((wAssign.setRole 63 { Role.reset with holder := some 35 }).setRole 5 { Role.reset with holder := some 0, take := 9 }).mapMallet 35 fun x =>
    { x with run := .running, role := some 61, pc := 17, evec := 99, inq := [⟨1, 2, 3, 4⟩] }
def wWdog : State := (wRelease.setFs [(F.MLT_M_WDOG 35, 65535)])
def wLoading : State := wRelease.mapMallet 35 fun x => { x with run := .loading }
def wFly : State := { wRelease with flights := [⟨62, 0, none, ⟨0x003D0000, 2, 3, 4⟩⟩] }
def wBounced : State := { wAssign with flights := [⟨62, 0, none, ⟨0x00070000, 2, 3, 4⟩⟩] }
def wPins : State := { State.reset with timed := [(40, 63, 3, 5)], gpio := [(63, 1)] }
def wToggle : State := { State.reset with timed := [(40, 63, 2, 5)], gpio := [(63, 1)] }
def wTimer : State :=
  (wRelease.setFs [(F.AXS_LT_CTL_EN 15, 1), (F.AXS_LT_CTL_ROLE 15, 61), (F.AXS_LT_PERIOD 15, 4000), (F.AXS_LT_PHASE 15, 3999),
    (F.AXS_A_CTL_EN 23, 1), (F.AXS_A_CFG_TIMER 23, 1), (F.AXS_LT_STATUS_LATE 15, 3)]).mapMallet 35 fun x =>
    { x with wait := some (.event 0 0 none false true) }
def wTimerLate : State := wTimer.setF (F.AXS_LT_CTL_ROLE 15) 7

/-- The axes in their states: 1 IDLE to 7 EDEC, 8 at a limit, 9 with UNIDIR, 10 to 12 in group 1 led by 10, 13 leads group 0 with a disabled
axis, 23 IDLE. -/
def wAxes : State :=
  let s := wit ((upFrom 1 13).flatMap fun a => [(F.AXS_A_CTL_EN a, 1), (F.AXS_A_STATUS_STATE a, if a < 8 then a else 1), (F.AXS_A_VMAX a, 1000),
    (F.AXS_A_AMAX a, 100), (F.AXS_A_DMAX a, 90), (F.AXS_A_JMAX a, 80), (F.AXS_A_EDEC a, 2), (F.AXS_A_TGT_LO a, 40), (F.AXS_A_STATUS_SYNC a, 1)])
  let s := s.setFs [(F.AXS_A_STATUS_LIMP_ACT 8, 1), (F.AXS_A_CFG_UNIDIR 9, 1), (F.AXS_G_CTL_LEADER 1, 10), (F.AXS_G_CTL_MASK 1, 7168),
    (F.AXS_G_CTL_LEADER 0, 13), (F.AXS_G_CTL_MASK 0, 8193), (F.AXS_A_RAT_HI 1, 2), (F.AXS_A_CTL_EN 23, 1), (F.AXS_A_STATUS_STATE 23, 1)]
  let mv (a : Nat) (x v : Int) (s : State) : State := s.setAxis a { s.axis a with x := x, v := v }
  witRun (mv 9 (50 * oneCount) 0 (mv 7 0 (-70000000) (mv 3 5 (10 ^ 15) (mv 2 (3 * oneCount) (10 ^ 15) (mv 1 (7 * oneCount) 0 s)))))
def wHoming : State :=
  (wAxes.setFs [(F.AXS_A_HOMECFG_HOLDOFF 5, 3), (F.AXS_A_HOMEPOS_LO 5, 9), (F.AXS_A_HCAP_LO 5, 4), (F.AXS_A_CHATTER_CHAT_MAX 5, 2)]).setAxis 5
    { Axis.reset with searching := true, accepted := some 100 }
def wChatter : State := wHoming.setF (F.AXS_A_CHATTER_COUNT 5) 3
def wAxOff : State := wit [(F.AXS_A_SWCFG_HOME 23, 127), (F.AXS_A_CFG_FB 23, 5), (F.AXS_A_CFG_FB 1, 5), (F.AXS_A_CFG_ALT 23, 17), (F.AXS_A_CFG_ALT_EN 23, 1),
  (F.AXS_A_SWCFG_HOME 22, 32), (F.AXS_A_CFG_FB 22, 31), (F.AXS_LT_PERIOD 0, 65535), (F.AXS_A_SWCFG_HOME 21, 33), (F.AXS_A_CTL_EN 20, 1),
  (F.AXS_A_TSTAT_PEND 20, 1), (F.AXS_A_TSTAT_STATE 20, 3), (F.PWR_DOMSTAT_ON, 1024), (F.AXS_A_TSTAT_ACTIVE 20, 1), (F.STP_TSTAT_STATE 11, 1), (F.AXS_A_TSTAT_STATE 23, 1)]
def wAxOff2 : State := { wAxOff with pgenAt := 1200, time := 1700, loadAt := [(128 + 23, 65), (128 + 32 + 11, 65)] }
/-- A microstep bank image of 256 zeros at 64. -/
def witMicro (sum : Nat) : List Byte := toLE 0x42545359 4 ++ toLE 5 2 ++ toLE 1 2 ++ toLE 256 4 ++ toLE 512 4 ++ toLE sum 4
def wMicro : State := (wAxOff2.setFs [(F.FEED_MEM_CFG_SIZE, 2)]).memPut 64 (witMicro 0x30FCEDC0)
def wMicroBad : State := (wAxOff2.setFs [(F.FEED_MEM_CFG_SIZE, 2)]).memPut 64 (witMicro 1)
def wAxCoast : State := (wAxOff2.setFs [(F.AXS_A_STATUS_COASTING 23, 1), (F.AXS_A_COAST_COAST_MS 23, 1000)]).setAxis 23 { Axis.reset with coastAt := some 7 }

/-- Stepper 11 follows axis 1, and stepper 10 axis 3, which moves. -/
def wStep : State :=
  let s := wAxes.setFs [(F.STP_CTL_EN 11, 1), (F.STP_CTL_AXIS 11, 1), (F.STP_CTL_EN 10, 1), (F.STP_CTL_AXIS 10, 3), (F.STP_CUR_IRUN 11, 4000),
    (F.STP_CHOP_KP 11, 9), (F.STP_CHOP_KI 11, 3), (F.STP_CUR_HOLD_MS 11, 7), (F.STP_IMAX 10, 10)]
  ((((s.setAxis 1 { s.axis 1 with x := 300 * oneCount }).setStepper 10 { Stepper.reset with excess := 1, sa := { Sinc.reset with out := 30000 } }).setStepper 9
    { Stepper.reset with retry := true, sb := { Sinc.reset with stuck := true } }).setStepper 8 { Stepper.reset with sa := { Sinc.reset with stuck := true } }).setFs [(F.STP_CTL_EN 9, 1), (F.STP_CTL_EN 8, 1)]
def wStepAt : State := wStep.setStepper 11 { Stepper.reset with last := 257 }
def wTrace : State :=
  let s := (wit [(F.TR_STATUS_STATE 1, 1), (F.TR_STATUS_STATE 2, 2), (F.TR_STATUS_STATE 3, 2), (F.TR_CTL_CLKSRC 2, 1), (F.TR_CTL_PRE 1, 1),
    (F.TR_RDADDR_INDEX 0, 1), (F.TR_STATUS_STATE 0, 3), (F.TR_RDADDR_CHAN 0, 2)]).setTrace 1 ⟨[[1], [2]], 0, none, 50, 50⟩
  { (((s.setTrace 2 ⟨[[1]], 2, none, 0, 70⟩).setTrace 3 ⟨[[1]], 1, none, 0, 70⟩).setTrace 0 ⟨[[1, 2, 3], [4, 5, 6]], 0, none, 0, 0⟩) with time := 60 }
/-- Channel 0 catches, 1 brakes, 2 starts without a sensor, 3 runs, 11 stands ready. -/
def wMot : State :=
  let s := wit ([(F.MOT_C_CTL_EN 11, 0), (F.MOT_C_CTL_BUS 11, 3), (F.MOT_BK_CTL_EN 3, 1), (F.MOT_C_CTL_SENSE 11, 2)] ++
    (upFrom 0 4).flatMap fun c => [(F.MOT_C_CTL_EN c, 1), (F.MOT_C_STATUS_STATE c, c + 1), (F.MOT_C_CTL_SENSE c, 2), (F.MOT_C_VCMD_VD c, 100),
      (F.MOT_C_VCMD_VQ c, 200), (F.MOT_C_LIM_IMAX c, 1000), (F.MOT_C_CATCH_CATCH_MAX c, 500), (F.MOT_C_CATCH_REV_LIM c, 10), (F.MOT_C_SPDMAX c, 1600)])
  (s.setBus 3 { s.busOf 3 with written := 7 }).setFs [(F.MOT_C_SPDMAX 11, 1600), (F.MOT_C_PWM_PER 11, 750)]
def wMotOver : State := (wMot.setMotor 3 { Motor.reset with excess := 1, last := 5, lockFrom := some 4, su := { Sinc.reset with out := 100 } }).setF (F.MOT_C_LIM_IMAX 3) 99
def wCatchAt (pos : Int) (mode : Nat) : State :=
  (wMot.setMotor 0 { Motor.reset with comms := 5, windowPos := pos }).setFs [(F.MOT_C_CTL_SENSE 0, 0), (F.MOT_C_CTL_MODE 0, mode), (F.MOT_C_CTL_MODE 11, mode), (F.MOT_C_CTL_CATCH_EN 11, 0)]
def wCatchFwd : State := wCatchAt (-14) 1
def wCatchFast : State := wCatchAt (-5000) 1
def wCatchRev : State := wCatchAt 5000 2
def wCatchNone : State := wCatchAt 0 2
def wCatch : State := wMot.setFs [(F.MOT_C_CTL_CATCH_EN 11, 1), (F.MOT_C_CTL_SENSE 11, 1), (F.MOT_C_CPR 11, 4)]
/-- Bus 3 with a chopper, bus 2 without, bus 1 with an overvoltage sample and bus 0 with a stuck one. -/
def wBus : State :=
  let s := wit [(F.MOT_BK_CTL_EN 3, 1), (F.MOT_BK_CTL_FS 3, 100), (F.MOT_BK_VON_VON 3, 10), (F.MOT_BK_VHARD_VHARD 3, 999), (F.MOT_BK_VHARD_IMIN 3, 200),
    (F.MOT_BK_CTL_FS 2, 100), (F.MOT_BK_VHARD_VHARD 2, 999), (F.MOT_BK_CTL_FS 1, 1000), (F.MOT_BK_VHARD_VHARD 1, 999), (F.MOT_C_CTL_BUS 7, 1),
    (F.MOT_C_CTL_EN 7, 1), (F.MOT_C_STATUS_REGLIM 7, 1), (F.MOT_BK_CTL_CHK 3, 20), (F.MOT_BK_VON_VOFF 2, 9), (F.MOT_BK_VBUS 2, 8), (F.MOT_BK_VBUS 3, 8)]
  let s := ((s.setBus 1 { s.busOf 1 with high := 1 }).setBus 0 { s.busOf 0 with retry := true, sv := { Sinc.reset with stuck := true } })
  (s.setBus 2 { s.busOf 2 with checkAt := some 40, second := true }).setF F.MOT_SD_CTL_OSR 32
def wBusOff : State := ((wBus.setBus 2 Bus.reset).setBus 0 { wBus.busOf 0 with retry := false }).setBus 1 { wBus.busOf 1 with sv := { Sinc.reset with n := 31 } }
def wCheck : State := wBus.setBus 3 { wBus.busOf 3 with checkAt := some 40 }
def wBusZero : State := (wBus.setBus 0 { wBus.busOf 0 with high := 1, retry := false, checkAt := some 9, second := true, sv := Sinc.reset }).setFs [(F.MOT_BK_CTL_FS 0, 1000), (F.MOT_BK_VHARD_VHARD 0, 999)]

/-- In SERVICE: channel 0 was out of range once, 5 is broken, 43 was invalid once, 27 is about to enter CRIT. -/
def wHk : State :=
  let s := wit ([(F.HK_STATUS_MODE, 1), (F.HK_CH_STATUS_BROKEN 5, 1), (F.HK_CH_STATUS_TRANS 59, 3), (F.MBX_STATUS_READY, 1)] ++
    [0, 5, 27, 28, 43, 44, 59].flatMap fun x => [(F.HK_CH_CFG_EN x, 1), (F.HK_CH_THR_WARN x, 70), (F.HK_CH_THR_THROT x, 80), (F.HK_CH_THR_CRIT x, 90),
      (F.HK_CH_CFG_DWELL x, 3), (F.HK_CH_CFG_PARAM x, 16384)])
  ((s.setHk 43 { HkCh.reset with retry := true }).setHk 27 { HkCh.reset with enter := [5, 5, 2], last := 9 })
def wHkOff : State := (wHk.setFs [(F.HK_CH_CFG_EN 7, 0), (F.HK_CH_CFG_EN 11, 0)]).setHk 11 { HkCh.reset with hot := 1 }
def wThrot : State :=
  let s := wit [(F.HK_CTL_TZONES, 2), (F.HK_THLIM_D, 3), (F.HK_THLIM_A, 1), (F.HK_THROT_MAXSTEP, 5), (F.HK_CH_CFG_EN 7, 1), (F.HK_CH_CFG_ZONE 7, 1),
    (F.HK_CH_STATUS_LEVEL 7, 2), (F.WEB_SLOWDOWN_THERM, 1), (F.HK_STATUS_DEFER, 1), (F.SCR_DEMAND_RATIO 3, 1000), (F.HK_THLIM_LIMIT, 200)]
  { s with stepAt := 10, checkAt := 20 }
def wThrotHot : State := witArm 3 wThrot
def wThrotMet : State := wThrot.setFs [(F.HK_THLIM_A, 3), (F.HK_CTL_TZONES, 0)]
def witGong (s : State) : State :=
  { s.setFs [(F.EVT_GONG_G3, 1), (F.EVT_GONG_LAST_EVT, 0x21), (F.EVT_KA_STATUS_DRIVE, 1), (F.EVT_KA_STATUS_HV, 1), (F.MOT_C_CTL_EN 3, 1)] with
    gong := { s.gong with g3At := 100, v0 := 2 ^ 40 / 100 } }
def wG3 : State := let s := witGong (witRun State.reset); { s with gong := { s.gong with g3Want := true, zeroSince := some 7000 } }
def wG3Done : State := { wG3 with gong := { wG3.gong with g3Want := false } }
def wG3Fast : State := let s := wG3Done.setFs [(F.EVT_STOP_DECEL, 4095), (F.EVT_STOP_AXES, 5)]; { s with web := { s.web with pub := ⟨0, 2 ^ 34, 0, 0⟩ } }
def wG3FastNone : State := wG3Fast.setF F.EVT_STOP_AXES 0
def wGong4 : State := { wG3Fast with gong := { wG3.gong with g4Want := true }, clk := { wG3.clk with running := true } }
def wGong4Slow : State := { wGong4 with clk := { wG3.clk with running := false } }
def wEvent : State := wit [(F.EVT_PEND 7, 0xF0000001), (F.EVT_E_CFG_BCAST 255, 1), (F.EVT_E_CFG_BCAST 252, 1), (F.MBX_STATUS_READY, 1), (F.HK_FLAM_COUNT, 3), (F.EVT_FLAM_COUNT, 4)]
def wEventRole : State := (wEvent.setMallet 35 { wEvent.mallet 35 with role := some 3 }).setF F.EVT_LOCK_LOCK 1

def witCount (n v : Nat) (s : State) : State := { s with count := tput Counter.reset s.count n { Counter.reset with value := v } }
/-- Counter 0 counts ticks, 47 is past its top, 55 too with OVF set, 33 with SAMPLE; BAR4 shows the counters. -/
def wCount : State :=
  let s := wit [(F.CNT_CFG_EN 0, 1), (F.CNT_CFG_EN 47, 1), (F.CNT_CFG_EN 48, 1), (F.CNT_OVF_HI, 2 ^ 23 + 2), (F.CNT_CFG_SAMPLE 33, 1), (F.CNT_RELOAD_LO 33, 6),
    (F.CNT_STIME_LO 33, 3), (F.GCTL_USERPAGE_CNT_EN, 1), (F.MBX_STATUS_READY, 1)]
  { witCount 31 (2 ^ 48) (witCount 33 (2 ^ 48 + 7) (witCount 55 (2 ^ 48 + 5) (witCount 47 (2 ^ 48 + 5) s))) with time := 9 }
def wCountZero : State := { wCount.setF F.GCTL_USERPAGE_CNT_EN 0 with cntStage := [(0, 5)] }
/-- Counters 2 and 40 have been written in this tick, at a wrap; OVF of 40 is set. -/
def wWritten : State :=
  let s := { wit [(F.CNT_OVF_HI, 256)] with time := 9 }
  { s with count := tput Counter.reset (tput Counter.reset s.count 2 ⟨5, 10, 2 ^ 48 + 3, false, 0⟩) 40 ⟨5, 10, 2 ^ 48 + 3, false, 0⟩ }
def wTick : State :=
  let s := wit [(F.CNT_CFG_EN 0, 1), (F.CNT_CFG_SRC 0, 1), (F.CNT_CFG_EN 1, 1), (F.CNT_CFG_SRC 1, 0), (F.CNT_OVF_LO, 1)]
  wClk .locked (witCount 1 (2 ^ 48 - 50) (witCount 0 (2 ^ 48 - 50) s))
/-- FREEZE was written one tick ago. -/
def wFrozen : State := { wCount.setF F.CNT_CTL_FREEZE 1 with freeze := some (9, false), time := 10 }

/-- A public key, a signature whose halves are both the hash of the message it signs, and the key's own hash as OTP words. -/
def witKey0 : List Byte :=
  toBE 0x43F189CE7C93B08AA6660C0E2F304903BC905A361788518ECE9B22BB62028E38A702949A5337D67F9BA4FAD40B4E8426A 49 ++
    toBE 0xB4B14600DB15B6E02EC40496A1BDDB46C9F76C08E550B6119B727095FF4E5CBE46892153D5E5E696E9902EF68AC2A9E8 48
def witE0 : List Byte :=
  toBE 0xA8D42ACA907ECA2B9F66F963ACE93D3F915DEC4FAF45EE55D17718A632437515E4BCF46D102AC3473DFD29FC13341133 48
def witSig0 : List Byte := witE0 ++ witE0
def witHash0 : List Nat :=
  [0x7d673918, 0xe7f3c663, 0x802d7eb5, 0x11ec5375, 0xb86b5dfe, 0xab1d0d8,
   0xfd6ac86b, 0x4ef69038, 0xd98baf44, 0xaea06a8c, 0x90a260cd, 0x8eba466f]
/-- A public key, a signature whose halves are both the hash of the message it signs, and the key's own hash as OTP words. -/
def witKey1 : List Byte :=
  toBE 0x4492AD55F90870BA0B7AA7AAFAB953A1B19F14D230FA9611F010E98762D486BDD63F866C317F31B909F87E950DB278AA5 49 ++
    toBE 0x6F053002FEEBE14003CF43F4645E090BDB12EA978C077ADE7EAD75A573C14472045AA3768722FB97D9DEF6695B369BE2 48
def witE1 : List Byte :=
  toBE 0xD0A2200F3957B2BAF2D95DD707E72EDBBD072E4813C47EBF3670939B50EC313021730893966255CCB9771D517F1A1882 48
def witSig1 : List Byte := witE1 ++ witE1
def witHash1 : List Nat :=
  [0x6ef297e1, 0xc07c5efd, 0xc77be0d3, 0x73da2b14, 0x854bfcbc, 0x199576fd,
   0x643de076, 0xec473b7e, 0x6f143725, 0x9c35d218, 0xf1dc6317, 0xc8b1d5ab]
/-- A public key, a signature whose halves are both the hash of the message it signs, and the key's own hash as OTP words. -/
def witKey2 : List Byte :=
  toBE 0x4752BD637965ECF82BFDF8AE6AB74FADBA6010FA89A6864158F9C31875D61ED13B8DD7CDF4AFCB9CDC2815C06BCE84FB1 49 ++
    toBE 0xBB7C9F82093E79B570C1B36478A1D678C73E643CFFBA9D675E1142C727070D12A7B614EE45306A94144DF9C31A7D7E5B 48
def witE2 : List Byte :=
  toBE 0x7271EADF1EF00B53D46112F80E8D3BDCAED00D4AF453F3CC0B2E2884773C0343E1876916FA7C77FDC90D805A70CC2E27 48
def witSig2 : List Byte := witE2 ++ witE2
def witHash2 : List Nat :=
  [0x96efce05, 0x423f83e5, 0xd4cc9b07, 0xd4d8748b, 0x4002c1d, 0xa820b25d,
   0xe850c894, 0x9c713d55, 0x3589ce95, 0xeb95a313, 0x5c30ed75, 0x6b25c8ce]
/-- An image of role 5, with one instruction, signed by key 0. -/
def witSigned : List Byte :=
  toLE 0x4D4C5359 4 ++ toLE 1 2 ++ toLE 0 2 ++ toLE 5 1 ++ toLE 255 1 ++ toLE 0 6 ++ toLE 7 4 ++ toLE 9 4 ++ toLE 1 4 ++ toLE 0 40 ++ witSig0
/-- A package with an empty table, signed by key 1, and one with no signature. -/
def witPkg : List Byte := toLE 0 4 ++ toLE 1 4 ++ toLE 0 56 ++ witSig1 ++ toLE 1 4
def witPkgBad : List Byte := toLE 0 4 ++ toLE 2 4 ++ toLE 0 152 ++ toLE 1 4
/-- An authorisation to revoke key 0, signed by key 2. -/
def witAuth : List Byte := toLE 0x56525359 4 ++ [0, 2] ++ toLE 0 2 ++ toLE 0x1234500000001 8 ++ toLE 0 16 ++ witSig2
/-- A key group: two hashes, the check word and the lock. -/
def witGroup (g : Nat) (h1 h2 : List Nat) : List (Nat × Nat) :=
  let ws := h1 ++ h2 ++ List.replicate 6 0
  let crc := crc16 ((ws.map fun w => toLE w 4).flatten)
  ((upFrom 0 30).zip ws).map (fun p => (g * 32 + p.1, p.2)) ++ [(g * 32 + 30, crc), (g * 32 + 31, 0xFFFFFFFF)]
/-- The mailbox open in normal mode, with three keys. -/
def wMbx : State :=
  let s := wit [(F.MBX_STATUS_READY, 1), (F.MBX_STATUS_MODE, 1), (F.PWR_DOMSTAT_ON, 4), (F.MBX_ARG 1, 0x80000000), (F.MBX_ARG 2, 164)]
  let ws := witGroup 4 witHash0 witHash1 ++ witGroup 5 witHash2 (List.replicate 12 0) ++ [(0, 1), (1, 0x12345)]
  { s with
    otp := ws.foldl (fun t p => tput 0 t p.1 p.2) s.otp
    keeper := { s.keeper with keys := [(0, witKey0), (1, witKey1), (2, witKey2)] } }
def wMbxClosed : State := wMbx.setFs [(F.MBX_STATUS_READY, 0), (F.MBX_STATUS_MODE, 3)]
def wMbxReset : State := wMbx.setFs [(F.MBX_ARG 0, 0x52535421), (F.MBX_ARG 2, 32768)]
def wMbxKey : State := wMbx.setFs [(F.MBX_ARG 0, 1), (F.MBX_ARG 2, 0x80000000), (F.MBX_ARG 3, 0x70001)]
def wMbxKeyNo : State := wMbx.setFs [(F.MBX_ARG 0, 4), (F.MBX_ARG 2, 0x80000000), (F.MBX_ARG 3, 4097)]
def wMbxRecord : State := { wMbx.setFs [(F.MBX_ARG 2, 8), (F.MBX_ARG 3, 0x70001)] with log := [⟨9, 1, 2, 3, 4, 5, 1, 2, 3, 4, 5⟩] }
def wMbxArmedRole : State :=
  witArm 7 ((wMbx.setF (F.MBX_ARG 0) 61).setRole 61 { Role.reset with holder := some 35, station := some 7, image := some [1] })
def wOtp : State :=
  let s := wMbx.setFs [(F.OTP_GSUP_ABSENT, 2 ^ 15), (F.OTP_WDATA, 3), (F.HK_CH_TEMP_VALUE 0, 200)]
  { s with keeper := { s.keeper with key := true } }
def wOtpBusy : State := { wOtp.setFs [(F.OTP_STATUS_BUSY, 1), (F.OTP_STATUS_ATTEMPTS, 3)] with keeper := { wOtp.keeper with prog := some (500, 5) } }
def wOtpFirst : State := wOtpBusy.setF F.OTP_STATUS_ATTEMPTS 0
def witFw (mode : Nat) (back trial : Bool) (at_ : Option Nat) : State :=
  let s := wMbx.setF F.MBX_STATUS_MODE mode
  { s with keeper := { s.keeper with back := back, trial := trial, modeWas := 2, wdogAt := at_ } }
def wFwBack : State := witFw 3 true false none
def wFwTrial : State := witFw 3 false true none
def wFwDog : State := { witFw 2 false true none with otp := [(193, 7)] }
def wFwAgain : State := { witFw 1 false false (some 5) with calSec := 4, otp := [(193, 7)] }
def wFwLate : State := { witFw 1 false false (some 5) with calSec := 20 }
def wFwWaits : State := (witFw 3 false true none).setFs [(F.MBX_CMD_GO, 1), (F.MBX_CMD_OP, 3)]
def wSupply : State :=
  let s := wMbx.setF F.PWR_VCORE 800
  { s with keeper := { s.keeper with vplan := 803, guardPlan := [7], guards := [9] } }
def wSupplyFall : State := { wSupply with keeper := { wSupply.keeper with vplan := 700 } }
def wSupplyArmed : State := witArm 7 wSupplyFall

/-- Every domain of READY is on, the fabric runs, and a station of the first four is armed in `wDomUse`. -/
def wDom : State :=
  let s := wit [(F.PWR_DOMSTAT_ON, 0x993), (F.PWR_DOMREQ, 0x993), (F.PWR_VINMON, 1000)]
  { s with keeper := { s.keeper with supplied := true, released := true, vlow := 1 } }
def wDomUse : State := witArm 2 wDom
def wDomBusy : State := wDom.setFs [(F.PWR_STATUS_BUSY, 1), (F.PWR_DOMREQ, 0x997)] |> fun s => { s with keeper := { s.keeper with ups := 4 } }
def wDomLast : State := { wDomBusy.setFs [(F.PWR_DOMREQ, 0xB93)] with keeper := { wDomBusy.keeper with ups := 0x200 } }
def wDomDown : State := { wDom.setF F.PWR_DOMREQ 0x997 with keeper := { wDom.keeper with vlow := 2 } }
def wVin : State := { wDom with keeper := { wDom.keeper with vlow := 0 } }
def witKeep (g : Keeper → Keeper) : State := { wDom with keeper := g wDom.keeper, boots := 4, life := [(0x70, 5)], calSec := 77 }
def wUnsupplied : State := witKeep fun k => { k with supplied := false, released := false, vfail := true }
def wUnreleased : State := witKeep fun k => { k with released := false, cause := 5 }
def wUnreleasedSlot : State := { wUnreleased with keeper := { wUnreleased.keeper with trial := true } }
def wUnreleasedNone : State := { wUnreleased with otp := tput 0 wUnreleased.otp 193 1 }
def wUnreleasedBad : State := { wUnreleased with otp := [] }
def wAccepted : State := witKeep fun k => { k with accepted := true }
def wResetDue : State := witKeep fun k => { k with resetAt := some 50 }
def wIsolate : State := witKeep fun k => { k with resetT0 := some 90 }

def wOfs : State := witArm 7 (wit [(F.MBX_STATUS_READY, 1), (F.MBX_STATUS_MODE, 1)])

def wOfsCold : State := { wOfs with d3hot := true }

/-- Powered, observed, in SERVICE, with an event mallet for each station. -/
def wReady : State :=
  let s := wit [(F.PWR_DOMSTAT_ON, 0xFFF), (F.HK_STATUS_MODE, 1), (F.MBX_STATUS_MODE, 1)]
  let s := witRun s
  (upFrom 0 8).foldl (fun s i => (s.setRole i { Role.reset with holder := some i, station := some i }).mapMallet i fun x => { x with role := some i }) s
def wReadyNot : State := wReady.setFs [(F.HK_STATUS_MODE, 0), (F.PWR_DOMSTAT_ON, 0xFDF)]
def wReadyGong : State := wReady.setF F.EVT_GONG_G3 1
def wReadyArmed : State := (upFrom 0 8).foldl (fun s n => witArm n s) wReady
/-- The memory of a head with one nozzle. -/
def witHead : List Byte :=
  let b := toLE 0x4D48 2 ++ toLE 1 2 ++ toLE 7 4 ++ toLE 9 8 ++ toLE 1 2 ++ toLE 1000 4 ++ toLE 0x4000 2 ++ toLE 0 4 ++ toLE 70 2 ++ toLE 80 2 ++ toLE 0 30
  b ++ toLE (crc16 b) 2
/-- Stations 0 to 5 in the steps 1 to 6 of an inkjet arm, 6 armed, 7 disarming. -/
def wInkArm : State :=
  let s := wReady.setFs ((upFrom 0 8).flatMap fun n => [(F.INK_S_HD_MAP_EN n 0, 1), (F.INK_S_HD_CFG_COUNT n 0, 1), (F.SCR_CFG_WIDTH n, 64),
    (F.INK_L_STATUS_UP (2 * n), 1), (F.INK_L_STATUS_TBLOCK (2 * n), 1)])
  let s := (upFrom 0 6).foldl (fun s n => (s.setStation n { Station.reset with phase := .arming (n + 1) }).setLane (2 * n)
    { Lane.reset with measured := 4 }) s
  let s := s.setHead 5 0 { Head.reset with fmax := 5000 }
  (witArm 6 (s.setStation 7 { Station.reset with phase := .disarming 1 })).setInk 7 { InkSt.reset with capDue := some 90 }
def wInkLate : State := wInkArm.setF (F.INK_L_STATUS_TBLOCK 4) 0
def witEp (ps : List Phase) : State :=
  let s := wReady.setFs ((upFrom 0 4).map fun n => (F.SCR_CFG_KIND n, 1))
  ((upFrom 0 4).zip ps).foldl (fun s p => s.setStation p.1 { Station.reset with phase := p.2 }) s
def wEpArm : State := (witEp [.arming 2, .arming 2, .arming 9, .armed]).setFs [(F.CLK_MDLL_STATUS_LOCKED 0, 1), (F.EPS_HV_STATUS_AT_SET 10, 1)]
def wEpDis : State := (witEp [.disarming 1, .arming 4, .arming 3, .arming 1]).setHv 3 { Hv.reset with down := true }
/-- A power-down of the first screen domain was accepted in this tick. -/
def wReadyDown : State := { wReady.setF F.PWR_DOMSTAT_ON 0xFEF with keeper := { wReady.keeper with downs := (wReady.time, [4]) } }
def wInkG4 : State := wInkArm.setF F.EVT_GONG_G4 1
/-- Polygon channel 0 is that of an armed station. -/
def wReadyTaken : State := witArm 1 (wReady.setFs [(F.SCR_CFG_KIND 1, 1)])

/-- Mallets 0 and 35 run, with registers, data memory, messages, and every port type on mallet 35. -/
def witRegs : Vector Word 16 :=
  #v[0, 5, 0xFFFFFFFE, 64, 0x7FFFFFFF, 0, 0x80000000, 33, 0x00070003, 9, 20, 30, 100, 0x40000010, 8, 0x123]
def wMal : State :=
  let s := wit ([(F.CNT_CFG_EN 0, 1)] ++ (upFrom 1 11).map fun p => (F.MLT_M_PORT_TYPE 35 p, p))
  let s := s.setFs [(F.MLT_M_PORT_TARGET 35 1, 3), (F.MLT_M_PORT_ARG 35 1, 6), (F.MLT_M_PORT_TARGET 35 5, 1), (F.MLT_M_PORT_ARG 35 5, 2), (F.MLT_M_PORT_TARGET 35 7, 252),
    (F.MLT_M_PORT_TARGET 35 9, 0), (F.MLT_M_PORT_TYPE 0 1, 1), (F.MLT_M_PORT_TYPE 0 7, 7)]
  let run (x : Mallet) : Mallet := { x with run := .running, k := witRegs, ready := 90, evec := 500, pc := 16383, role := some 3 }
  let s := (s.mapMallet 0 run).mapMallet 35 run
  wClk .locked { s with dmem := tputs 0 (tputs 0 [] 64 [1, 2, 3, 4, 5, 6, 7, 8]) (16384 * 35 + 64) [9, 2, 3, 4, 5, 6, 7, 0x88, 9] }
def witPriv (s : State) : State := (s.setRole 3 { Role.reset with holder := some 35, station := some 7, priv := 0xFFFFFFFF, epoch := 4 }).setFs
  [(F.MLT_ROLE_PRIV_PRIV 3, 1023)]
def wMalPriv : State := witPriv wMal
def wMalC : State := wMalPriv.mapMallet 35 fun x => { x with c := true, z := true, n := true, acc := 2 ^ 63 - 3, afterMac := true, pend := 512, sb := [⟨8, 7, 0, 3⟩] }
def wMalOpen : State := wMalPriv.mapMallet 35 fun x => { x with region := ⟨true, false, [], Checkpoint.zero⟩, sqh := 66 }
def wMalOpenEff : State := wMalPriv.mapMallet 35 fun x => { x with region := ⟨true, false, [witEff (.event 3 0) false], Checkpoint.zero⟩, sqh := 66 }
def wMalFull : State := wMalPriv.mapMallet 35 fun x => { x with sb := [⟨64, 7, 0, 3⟩, ⟨64, 7, 0, 3⟩, ⟨12, 7, 1, 3⟩, ⟨16, 7, 1, 3⟩], inq := [⟨1, 2, 3, 4⟩], bounce := [⟨0x00030009, 2, 3, 4⟩] }
def wMalIn : State := wMalPriv.mapMallet 35 fun x => { x with sb := [⟨16, 7, 0, 3⟩, ⟨64, 8, 1, 4⟩], inq := [⟨1, 2, 3, 4⟩] }
def wMalPoison : State := { wMalPriv with mltPoison := [4096 * 35 + 16, 16] }
def wMalWait : State := wMalPriv.mapMallet 35 fun x => { x with wait := some (.time 700), lastWait := 50 }
def wMalWaitPos : State := (witRun wMalPriv).mapMallet 35 fun x => { x with wait := some (.pos (-5) none), lastWait := 50 }
def wMalWaitFar : State := (witRun wMalPriv).mapMallet 35 fun x => { x with wait := some (.pos (10 ^ 9) none), lastWait := 50 }
def wMalWaitEv : State := wMalPriv.mapMallet 35 fun x => { x with wait := some (.event 3 4 (some 800) false false), lastWait := 50 }

theorem wit_RootClockStartsAndStops :
  (∃ (s : State), ∃ (k : Nat), rootBand s s.rootTarget = some k ∧ s.clk.pll = .off) ∧
  (∃ (s : State), s.clk.pll = .off ∧ rootBand s s.rootTarget = none) ∧
  (∃ (s : State), s.clk.pll ≠ .off) ∧
  (∃ (s : State), (s.clk.pll = .acquiring ∨ s.clk.refOk = true ∧ (s.clk.pll = .holdover ∨ s.clk.pll = .pulling))) :=
  ⟨⟨wRoot, (rootBand (wRoot : State) (wRoot : State).rootTarget).get (by decide +kernel), (Option.some_get _).symm, by decide +kernel⟩,
   ⟨State.reset, by decide +kernel⟩,
   ⟨wAcq, by decide +kernel⟩,
   ⟨wAcq, by decide +kernel⟩⟩

theorem wit_RootClockHoldover :
  (∃ (s : State), s.clk.pll = .locked) ∧
  (∃ (s : State), (s.clk.pll = .locked ∨ s.clk.pll = .pulling ∨ s.clk.pll = .acquiring)) ∧
  (∃ (s : State), (s.clk.pll = .off ∨ s.clk.pll = .holdover)) ∧
  (∃ (s : State), (s.clk.pll = .holdover ∨ s.clk.pll = .pulling) ∧ s.clk.lostRaised = false) :=
  ⟨⟨wLock, by decide +kernel⟩,
   ⟨wAcq, by decide +kernel⟩,
   ⟨State.reset, by decide +kernel⟩,
   ⟨wHold, by decide +kernel⟩⟩

theorem wit_PixelClockCommands :
  (∃ (n : Fin 4), ∃ (s : State), s.on (F.EPS_S_CFG_FOLLOW n.val) = true) ∧
  (∃ (n : Fin 4), ∃ (s : State), s.on (F.EPS_S_CFG_FOLLOW n.val) = false ∧ s.on (F.CLK_MDLL_CTL_EN n.val) = false) ∧
  (∃ (n : Fin 4), ∃ (s : State), s.on (F.EPS_S_CFG_FOLLOW n.val) = false ∧ s.on (F.CLK_MDLL_CTL_EN n.val) = true ∧ s.on
      (F.CLK_MDLL_CTL_APPLY n.val) = true) ∧
  (∃ (n : Fin 4), ∃ (v : BitVec 24), ∃ (s : State), s.on (F.EPS_S_CFG_FOLLOW n.val) = false ∧ s.on (F.CLK_MDLL_CTL_EN n.val) = true ∧ s.on
      (F.CLK_MDLL_CTL_APPLY n.val) = false ∧ pixInRange v.toNat = true ∧ s.pixStepOk n.val v.toNat = true) ∧
  (∃ (n : Fin 4), ∃ (v : BitVec 24), ∃ (s : State), s.on (F.EPS_S_CFG_FOLLOW n.val) = false ∧ s.on (F.CLK_MDLL_CTL_EN n.val) = true ∧ s.on
      (F.CLK_MDLL_CTL_APPLY n.val) = false ∧ pixInRange v.toNat = false ∧ s.pixStepOk n.val v.toNat = true) ∧
  (∃ (n : Fin 4), ∃ (v : BitVec 24), ∃ (s : State), s.on (F.EPS_S_CFG_FOLLOW n.val) = false ∧ s.on (F.CLK_MDLL_CTL_EN n.val) = true ∧ s.on
      (F.CLK_MDLL_CTL_APPLY n.val) = false ∧ s.pixStepOk n.val v.toNat = false) ∧
  (∃ (n : Fin 4), ∃ (k : Nat), ∃ (s : State), mdllBand s n.val (pixFreq (s.f (F.CLK_MDLL_FREQ_PIXF n.val))) = some k ∧ s.on
      (F.CLK_MDLL_CTL_EN n.val) = false ∧ pixInRange (s.f (F.CLK_MDLL_FREQ_PIXF n.val)) = true) ∧
  (∃ (n : Fin 4), ∃ (s : State), s.armed n.val = false) ∧
  (∃ (n : Fin 4), ∃ (s : State), s.armed n.val = true) ∧
  (∃ (n : Fin 4), ∃ (s : State), (s.mdll n.val).lost = true ∧ (s.mdll n.val).ahead = 0 ∧ (s.mdll n.val).again = false ∧ s.on
      (F.CLK_MDLL_STATUS_LOCKED n.val) = false) :=
  ⟨⟨1, State.reset, by decide +kernel⟩,
   ⟨3, wPix, by decide +kernel⟩,
   ⟨1, wPix, by decide +kernel⟩,
   ⟨2, 0x0aaaab#24, wPix, by decide +kernel⟩,
   ⟨2, 0x0aaaaa#24, wPix, by decide +kernel⟩,
   ⟨2, 0x222222#24, wPix, by decide +kernel⟩,
   ⟨3, (mdllBand (wPix : State) (3 : Fin 4).val (pixFreq ((wPix : State).f (F.CLK_MDLL_FREQ_PIXF (3 : Fin 4).val)))).get
      (by decide +kernel), wPix, (Option.some_get _).symm, by decide +kernel⟩,
   ⟨1, State.reset, by decide +kernel⟩,
   ⟨1, wPix, by decide +kernel⟩,
   ⟨1, wUnl, by decide +kernel⟩⟩

theorem wit_ClockCompensation :
  (∃ (s : State), s.keeper.supplied = false) ∧
  (∃ (s : State), s.keeper.supplied = true ∧ s.on (F.HK_CH_STATUS_BROKEN 0) = true) ∧
  (∃ (s : State), s.keeper.supplied = true ∧ s.on (F.HK_CH_STATUS_BROKEN 0) = false) ∧
  (∃ (s : State), s.keeper.supplied = true ∧ calUnit ≤ s.clk.calAcc) ∧
  (∃ (s : State), s.keeper.supplied = true ∧ s.clk.calAcc ≤ -calUnit) :=
  ⟨⟨wNoVin, by decide +kernel⟩,
   ⟨wTemp, by decide +kernel⟩,
   ⟨State.reset, by decide +kernel⟩,
   ⟨wComp, by decide +kernel⟩,
   ⟨wSlow, by decide +kernel⟩⟩

theorem wit_SnareArming :
  ∃ (n : Fin 32), ∃ (s : State), s.on (F.SN_STATUS_ARMED n.val) = true :=
  ⟨0, wSnare, by decide +kernel⟩

theorem wit_SnareCaptureAndRead :
  (∃ (n : Fin 32), ∃ (samples : List Bool), ∃ (b : Bool), ∃ (s : State), edgeLevel (s.f (F.SN_CTL_FILT n.val)) samples = some b ∧
      s.searcher n.val = none ∧ s.snareEdge n.val b = true ∧ s.f (F.SN_CTL_MODE n.val) = 2 ∧ s.snareTakes n.val (s.time - s.f (F.SN_CTL_FILT
      n.val)) = true) ∧
  (∃ (n : Fin 32), ∃ (samples : List Bool), ∃ (b : Bool), ∃ (s : State), edgeLevel (s.f (F.SN_CTL_FILT n.val)) samples = some b ∧
      s.searcher n.val = none ∧ s.snareEdge n.val b = true ∧ s.f (F.SN_CTL_MODE n.val) = 1 ∧ s.snareTakes n.val (s.time - s.f (F.SN_CTL_FILT
      n.val)) = true) ∧
  (∃ (n : Fin 32), ∃ (samples : List Bool), ∃ (b : Bool), ∃ (s : State), edgeLevel (s.f (F.SN_CTL_FILT n.val)) samples = some b ∧
      s.searcher n.val = none ∧ s.snareEdge n.val b = true ∧ s.f (F.SN_CTL_MODE n.val) = 1 ∧ s.snareTakes n.val (s.time - s.f (F.SN_CTL_FILT
      n.val)) = false ∧ tget 0 s.snare (64 + n.val) = 1) ∧
  (∃ (n : Fin 32), ∃ (samples : List Bool), ∃ (s : State), (∀ b : Bool, edgeLevel (s.f (F.SN_CTL_FILT n.val)) samples = some b →
      s.snareWants n.val b = false)) ∧
  (∃ (n : Fin 32), ∃ (s : State), tget 0 s.snare (96 + n.val) ≠ s.time + 1) ∧
  (∃ (n : Fin 32), ∃ (s : State), tget 0 s.snare (96 + n.val) = s.time + 1) :=
  ⟨⟨31, [false, true], (edgeLevel ((wUnl : State).f (F.SN_CTL_FILT (31 : Fin 32).val)) ([false, true] : List Bool)).get
      (by decide +kernel), wUnl, (Option.some_get _).symm, by decide +kernel⟩,
   ⟨0, [false, true], (edgeLevel ((wUnl : State).f (F.SN_CTL_FILT (0 : Fin 32).val)) ([false, true] : List Bool)).get (by decide +kernel),
      wUnl, (Option.some_get _).symm, by decide +kernel⟩,
   ⟨1, [false, true], (edgeLevel ((wUnl2 : State).f (F.SN_CTL_FILT (1 : Fin 32).val)) ([false, true] : List Bool)).get (by decide +kernel),
      wUnl2, (Option.some_get _).symm, by decide +kernel⟩,
   ⟨16, [], State.reset, by decide +kernel⟩,
   ⟨0, State.reset, by decide +kernel⟩,
   ⟨1, wUnl2, by decide +kernel⟩⟩

theorem wit_WebSourceCommands :
  (∃ (n : Fin 4), ∃ (v : BitVec 32), ∃ (s : State), bitOf v.toNat 9 = true ∧ typeTaken n.val (v.toNat / 16 % 4) = true ∧ (v.toNat / 16 % 4
      ≠ 2 ∨ ssiFits (s.f (F.WEB_SRC_SSI_BITS n.val)) (s.f (F.WEB_SRC_SSI_CLKDIV n.val)) (s.f (F.WEB_SRC_SSI_MONO n.val)) (s.on
      (F.WEB_SRC_SSI_CRC_EN n.val)) 900 = true)) ∧
  (∃ (n : Fin 4), ∃ (v : BitVec 32), ∃ (s : State), bitOf v.toNat 9 = true ∧ (typeTaken n.val (v.toNat / 16 % 4) = false ∨ v.toNat / 16 % 4
      = 2 ∧ ssiFits (s.f (F.WEB_SRC_SSI_BITS n.val)) (s.f (F.WEB_SRC_SSI_CLKDIV n.val)) (s.f (F.WEB_SRC_SSI_MONO n.val)) (s.on
      (F.WEB_SRC_SSI_CRC_EN n.val)) 900 = false)) ∧
  (∃ (v : BitVec 32), bitOf v.toNat 9 = false) ∧
  (∃ (s : State), s.on F.WEB_CTL_OBS_EN = true ∧ s.on F.WEB_STATUS_STALE = false) ∧
  (∃ (s : State), ∃ (t0 : Nat), s.web.coastSince = some t0 ∧ s.on F.WEB_STATUS_COASTING = true ∧ s.web.expired = false) ∧
  (∃ (count : BitVec 64), ∃ (i : Nat), ∃ (p : Int), ∃ (h : Int), ∃ (s : State), s.web.inUse = some i ∧ p = s.srcPos i count.toInt +
      s.corrUnits ∧ s.web.high = some h ∧ s.anyArmed = true ∧ s.web.published = true ∧ p < h ∧ s.on F.WEB_STATUS_REVERSE = false ∧
      (s.web.revOver = true ∨ h - p ≤ s.f F.WEB_REV_LIMIT_LIMIT)) ∧
  (∃ (count : BitVec 64), ∃ (i : Nat), ∃ (p : Int), ∃ (h : Int), ∃ (s : State), s.web.inUse = some i ∧ p = s.srcPos i count.toInt +
      s.corrUnits ∧ s.web.high = some h ∧ s.anyArmed = true ∧ p < h ∧ s.on F.WEB_STATUS_REVERSE = true ∧ s.web.revOver = false ∧ s.f
      F.WEB_REV_LIMIT_LIMIT < h - p) :=
  ⟨⟨1, 0x00000200#32, State.reset, by decide +kernel⟩,
   ⟨1, 0x00000220#32, State.reset, by decide +kernel⟩,
   ⟨0x00000000#32, by decide +kernel⟩,
   ⟨wWeb, by decide +kernel⟩,
   ⟨wCoast, ((wCoast : State).web.coastSince).get (by decide +kernel), (Option.some_get _).symm, by decide +kernel⟩,
   ⟨0x000000000000000f#64, ((wRev : State).web.inUse).get (by decide +kernel), _, ((wRev : State).web.high).get (by decide +kernel), wRev,
      (Option.some_get _).symm, rfl, (Option.some_get _).symm, by decide +kernel⟩,
   ⟨0x8000000000000000#64, ((wRevLim2 : State).web.inUse).get (by decide +kernel), _, ((wRevLim2 : State).web.high).get
      (by decide +kernel), wRevLim2, (Option.some_get _).symm, rfl, (Option.some_get _).symm, by decide +kernel⟩⟩

theorem wit_ObserverPublishTakesFour :
  (∃ (s : State), (∀ g : Geared, (s.gearOf (gearKey g)).late = false) ∧ s.on F.WEB_STATUS_STALE = false) ∧
  (∃ (s : State), s.on F.WEB_STATUS_STALE = true) ∧
  (∃ (s : State), s.on F.WEB_CTL_OBS_EN = false) ∧
  (∃ (s : State), s.on F.WEB_CTL_OBS_EN = true ∧ s.clk.running = true ∧ (∀ i : Fin 4, s.on (F.WEB_SRC_CTL_EN i.val) = false) ∧ s.web.inUse
      = none ∧ s.web.switchReq = false ∧ s.web.corr = 0 ∧ s.armedMask = 0 ∧ s.on F.WEB_STATUS_COASTING = false ∧ s.time ≤ s.web.period + 4000) :=
  ⟨⟨State.reset, by intro g; cases g <;> rename_i x <;> (try cases x) <;> rfl, by decide +kernel⟩,
   ⟨wStale, by decide +kernel⟩,
   ⟨State.reset, by decide +kernel⟩,
   ⟨wObs, by decide +kernel⟩⟩

theorem wit_ScheduledRatios :
  (∃ (g : Geared), ∃ (s : State), s.gearLimited g = true ∧ ratioNear (s.pair (gearRegs g).ratHi (gearRegs g).ratLo) (s.pair (gearRegs
      g).nextHi (gearRegs g).nextLo) = false) ∧
  (∃ (g : Geared), ∃ (s : State), (s.gearLimited g = false ∨ ratioNear (s.pair (gearRegs g).ratHi (gearRegs g).ratLo) (s.pair (gearRegs
      g).nextHi (gearRegs g).nextLo) = true) ∧ s.webPos < s.pairS (gearRegs g).atHi (gearRegs g).atLo) ∧
  (∃ (g : Geared), ∃ (s : State), (s.gearLimited g = false ∨ ratioNear (s.pair (gearRegs g).ratHi (gearRegs g).ratLo) (s.pair (gearRegs
      g).nextHi (gearRegs g).nextLo) = true) ∧ s.pairS (gearRegs g).atHi (gearRegs g).atLo ≤ s.webPos) :=
  ⟨⟨Sys2Proof.Geared.station 7, wGear, by decide +kernel⟩,
   ⟨Sys2Proof.Geared.station 3, wGear, by decide +kernel⟩,
   ⟨Sys2Proof.Geared.station 3, State.reset, by decide +kernel⟩⟩

theorem wit_NewRatioKeepsLine :
  (∃ (n : Fin 8), ∃ (s : State), ∃ (at_ : Nat), ∃ (g : Gear), g = s.gearOf n.val ∧ s.tickAtPos g.at_ = some at_ ∧ s.on (F.WEB_ST_GCTL_RPEND
      n.val) = true ∧ g.late = false ∧ g.next < 2 ^ ((F.WEB_ST_RAT_HI n.val).width + (F.WEB_ST_RAT_LO n.val).width)) ∧
  (∃ (a : Fin 24), ∃ (s : State), ∃ (at_ : Nat), ∃ (g : Gear), g = s.gearOf (32 + a.val) ∧ s.tickAtPos g.at_ = some at_ ∧ s.on
      (F.AXS_A_GCTL_RPEND a.val) = true ∧ g.late = false ∧ g.next < 2 ^ ((F.AXS_A_RAT_HI a.val).width + (F.AXS_A_RAT_LO a.val).width)) :=
  ⟨⟨7, wGear, ((wGear : State).tickAtPos ((wGear : State).gearOf (7 : Fin 8).val : Gear).at_).get (by decide +kernel), _, rfl,
      (Option.some_get _).symm, by decide +kernel⟩,
   ⟨23, wGear, ((wGear : State).tickAtPos ((wGear : State).gearOf (32 + (23 : Fin 24).val) : Gear).at_).get (by decide +kernel), _, rfl,
      (Option.some_get _).symm, by decide +kernel⟩⟩

theorem wit_FrameQueueCommands :
  (∃ (n : Fin 8), ∃ (tail : BitVec 16), ∃ (s : State), (2 ^ s.f (F.FEED_Q_CTL_LOG2SIZE n.val) - 1 < (tail.toNat + 65536 - s.f
      (F.FEED_Q_HEAD n.val)) % 65536 ∨ (tail.toNat + 65536 - s.f (F.FEED_Q_HEAD n.val)) % 65536 < s.occupancy n.val)) ∧
  (∃ (n : Fin 8), ∃ (tail : BitVec 16), ∃ (s : State), (tail.toNat + 65536 - s.f (F.FEED_Q_HEAD n.val)) % 65536 ≤ 2 ^ s.f
      (F.FEED_Q_CTL_LOG2SIZE n.val) - 1 ∧ s.occupancy n.val ≤ (tail.toNat + 65536 - s.f (F.FEED_Q_HEAD n.val)) % 65536 ∧ (tail.toNat + 65536 -
      s.f (F.FEED_Q_HEAD n.val)) % 65536 ≠ 0) ∧
  (∃ (n : Fin 8), ∃ (s : State), s.on (F.FEED_Q_CTL_EN n.val) = true ∧ s.armed n.val = true ∧ (s.station n.val).nextFetch ≠ s.f
      (F.FEED_Q_TAIL n.val) ∧ (s.memNat (s.ringEntry n.val (s.station n.val).nextFetch + 4) 4) ≠ s.f (F.CHG_S_JOB n.val) ∧ s.csForJob n.val
      (s.memNat (s.ringEntry n.val (s.station n.val).nextFetch + 4) 4) = none ∧ (s.station n.val).unscreened ≠ some (s.memNat (s.ringEntry
      n.val (s.station n.val).nextFetch + 4) 4) ∧ s.on (F.FEED_Q_STATUS_JOBWAIT n.val) = false) ∧
  (∃ (n : Fin 8), ∃ (s : State), ∃ (x : Frame), x = frameOfBytes (s.memRead (s.ringEntry n.val (s.station n.val).nextFetch) 64) (s.station
      n.val).nextFetch (s.resOf n.val) ∧ s.on (F.FEED_Q_CTL_EN n.val) = true ∧ s.armed n.val = true ∧ (s.station n.val).nextFetch ≠ s.f
      (F.FEED_Q_TAIL n.val) ∧ x.job = s.f (F.CHG_S_JOB n.val) ∧ (s.station n.val).unscreened = none ∧ s.mem.poison = [] ∧ s.descOk n.val x =
      true ∧ (s.station n.val).nextLine = none) :=
  ⟨⟨1, 0x0101#16, State.reset, by decide +kernel⟩,
   ⟨1, 0x0001#16, State.reset, by decide +kernel⟩,
   ⟨7, wJobwait, by decide +kernel⟩,
   ⟨7, wFeed, _, rfl, by decide +kernel⟩⟩

theorem wit_FeedEngineCommands :
  (∃ (n : Fin 8), ∃ (s : State), ∃ (l : Int), (s.noteLead n.val).nextRequest n.val = some l ∧ ((s.noteLead n.val).station n.val).isArmed =
      true ∧ (s.noteLead n.val).on (F.FEED_Q_CTL_EN n.val) = true ∧ (s.noteLead n.val).lead n.val < (s.noteLead n.val).f (F.SCR_LEAD_TARGET
      n.val) ∧ l ≤ (s.noteLead n.val).lineNow n.val + 256 ∧ (s.noteLead n.val).slotFree n.val l = true) ∧
  (∃ (n : Fin 8), ∃ (s : State), ∃ (r : FeedReq), ∃ (x : Frame), ∃ (a : Int), findFirst (fun (q : FeedReq) => q.read) (s.station
      n.val).reqs = some r ∧ s.frameOf n.val r.lpos = some x ∧ x.start = some a ∧ r.withdrawn = false ∧ r.prov = none ∧ r.lpos < a + x.lines ∧
      s.mem.poison = []) ∧
  (∃ (n : Fin 8), ∃ (s : State), ∃ (r : FeedReq), findFirst (fun (q : FeedReq) => q.read) (s.station n.val).reqs = some r ∧ r.withdrawn =
      true) ∧
  (∃ (n : Fin 8), ∃ (s : State), s.armed n.val = false) ∧
  (∃ (n : Fin 8), ∃ (s : State), ∃ (e : Int), ∃ (at_ : Nat), (s.station n.val).endLine = some e ∧ s.tickAtLpos n.val (e * 65536) = some at_
      ∧ s.armed n.val = true ∧ findFirst (fun (x : Frame) => !x.reached) (s.station n.val).frames = none ∧ (s.station n.val).ranEmpty = false) :=
  ⟨⟨7, wReq, (((wReq : State).noteLead (7 : Fin 8).val).nextRequest (7 : Fin 8).val).get (by decide +kernel), (Option.some_get _).symm,
      by decide +kernel⟩,
   ⟨7, wSlot, (findFirst (fun (q : FeedReq) => q.read) ((wSlot : State).station (7 : Fin 8).val).reqs).get (by decide +kernel), ((wSlot :
      State).frameOf (7 : Fin 8).val ((findFirst (fun (q : FeedReq) => q.read) ((wSlot : State).station (7 : Fin 8).val).reqs).get
      (by decide +kernel) : FeedReq).lpos).get (by decide +kernel), ((((wSlot : State).frameOf (7 : Fin 8).val ((findFirst (fun (q : FeedReq)
      => q.read) ((wSlot : State).station (7 : Fin 8).val).reqs).get (by decide +kernel) : FeedReq).lpos).get (by decide +kernel) :
      Frame).start).get (by decide +kernel), (Option.some_get _).symm, (Option.some_get _).symm, (Option.some_get _).symm, by decide +kernel⟩,
   ⟨7, wVoid, (findFirst (fun (q : FeedReq) => q.read) ((wVoid : State).station (7 : Fin 8).val).reqs).get (by decide +kernel),
      (Option.some_get _).symm, by decide +kernel⟩,
   ⟨7, State.reset, by decide +kernel⟩,
   ⟨7, { wEnd with time := 12345 }, ((({ wEnd with time := 12345 } : State).station (7 : Fin 8).val).endLine).get (by decide +kernel),
      (({ wEnd with time := 12345 } : State).tickAtLpos (7 : Fin 8).val ((((({ wEnd with time := 12345 } : State).station (7 : Fin
      8).val).endLine).get (by decide +kernel) : Int) * 65536)).get (by decide +kernel), (Option.some_get _).symm, (Option.some_get _).symm,
      by decide +kernel⟩⟩

theorem wit_DeviceMemoryWindow :
  (∃ (a : BitVec 36), ∃ (bs : List (BitVec 8)), ∃ (s : State), s.d3hot = false ∧ s.inService = true ∧ s.on F.FEED_PEEK_EN = false ∧
      s.mem.poison = [] ∧ a.toNat + bs.length ≤ s.usable) ∧
  (∃ (a : BitVec 36), ∃ (bs : List (BitVec 8)), ∃ (s : State), s.d3hot = false ∧ s.inService = true ∧ s.on F.FEED_PEEK_EN = false ∧
      s.usable ≤ a.toNat ∧ bs ≠ []) ∧
  (∃ (s : State), (s.d3hot = true ∨ s.inService = false)) ∧
  (∃ (a : BitVec 36), ∃ (n : BitVec 12), ∃ (s : State), s.d3hot = false ∧ s.inService = true ∧ s.on F.FEED_PEEK_EN = false ∧ s.mem.poison =
      [] ∧ a.toNat + n.toNat ≤ s.usable) ∧
  (∃ (s : State), s.d3hot = false ∧ s.inService = false) ∧
  (∃ (s : State), s.d3hot = true) ∧
  (∃ (s : State), s.mem.queue = []) ∧
  (∃ (p : Nat × Option Nat), ∃ (r : List (Nat × Option Nat)), ∃ (s : State), s.mem.queue = p :: r) :=
  ⟨⟨0x000000001#36, [0x00#8], witMem, by decide +kernel⟩,
   ⟨0x0e0000000#36, [0x00#8, 0x01#8, 0x02#8, 0x03#8, 0x05#8, 0x08#8, 0x0f#8, 0x80#8, 0x34#8, 0x34#8, 0xff#8, 0x80#8, 0x7f#8], witMem,
      by decide +kernel⟩,
   ⟨State.reset, by decide +kernel⟩,
   ⟨0x00000003f#36, 0x040#12, witMem, by decide +kernel⟩,
   ⟨State.reset, by decide +kernel⟩,
   ⟨wD3, by decide +kernel⟩,
   ⟨State.reset, by decide +kernel⟩,
   ⟨((wQueue : State).mem.queue).head (by decide +kernel), ((wQueue : State).mem.queue).tail, wQueue, by decide +kernel⟩⟩

theorem wit_DmaChannelCommands :
  (∃ (s : State), s.on F.DMA_CTL_EN = false) ∧
  (∃ (c : Fin 16), ∃ (s : State), s.on F.DMA_CTL_EN = true ∧ s.on (F.DMA_CH_STATUS_BUSY c.val) = true) ∧
  (∃ (c : Fin 16), ∃ (s : State), s.on F.DMA_CTL_EN = true ∧ s.on (F.DMA_CH_STATUS_BUSY c.val) = false ∧ s.pair (F.DMA_CH_HEAD_HI c.val)
      (F.DMA_CH_HEAD_LO c.val) % 64 ≠ 0) ∧
  (∃ (c : Fin 16), ∃ (a : Nat), ∃ (s : State), a = s.pair (F.DMA_CH_HEAD_HI c.val) (F.DMA_CH_HEAD_LO c.val) ∧ s.on F.DMA_CTL_EN = true ∧
      s.on (F.DMA_CH_STATUS_BUSY c.val) = false ∧ a % 64 = 0 ∧ a + 64 ≤ s.usable ∧ s.mem.poison = []) ∧
  (∃ (c : Fin 16), ∃ (a : Nat), ∃ (s : State), a = s.pair (F.DMA_CH_HEAD_HI c.val) (F.DMA_CH_HEAD_LO c.val) ∧ s.on F.DMA_CTL_EN = true ∧
      s.on (F.DMA_CH_STATUS_BUSY c.val) = false ∧ a % 64 = 0 ∧ 2 ^ 63 ≤ a) ∧
  (∃ (c : Fin 16), ∃ (s : State), (s.chan c.val).phase = .drain ∧ s.storesLeft (s.chan c.val).drainMask (s.chan c.val).drainSeq = false ∧
      isHost (s.chan c.val).src = false) ∧
  (∃ (c : Fin 16), ∃ (s : State), s.on (F.DMA_CH_STATUS_BUSY c.val) = true ∧ s.dmaBackOk c.val = true) ∧
  (∃ (c : Fin 16), ∃ (s : State), s.on (F.DMA_CH_STATUS_BUSY c.val) = false) ∧
  (∃ (c : Fin 16), ∃ (r : Completion), ∃ (s : State), s.hostReading c.val = true ∧ (s.chan c.val).reissued = false ∧ r ≠ .ok) ∧
  (∃ (c : Fin 16), ∃ (s : State), s.hostReading c.val = true ∧ (s.chan c.val).reissued = true) ∧
  (∃ (c : Fin 16), ∃ (s : State), s.hostReading c.val = true ∧ (s.chan c.val).reissued = false) ∧
  (∃ (c : Fin 16), ∃ (r : Completion), ∃ (s : State), s.hostFetching c.val = true ∧ (s.chan c.val).reissued = false ∧ r ≠ .ok) :=
  ⟨⟨State.reset, by decide +kernel⟩,
   ⟨0, wDma, by decide +kernel⟩,
   ⟨1, wDma, by decide +kernel⟩,
   ⟨2, _, wDma, rfl, by decide +kernel⟩,
   ⟨15, _, wHostHead, rfl, by decide +kernel⟩,
   ⟨15, wDrain, by decide +kernel⟩,
   ⟨15, wMove, by decide +kernel⟩,
   ⟨15, State.reset, by decide +kernel⟩,
   ⟨15, Sys2Proof.Completion.poisoned, wHostRead, by decide +kernel⟩,
   ⟨15, wReissue, by decide +kernel⟩,
   ⟨15, wHostRead, by decide +kernel⟩,
   ⟨15, .poisoned, wFetching, by decide +kernel⟩⟩

theorem wit_DmaCopiesBytes :
  ∃ (c : Fin 16), ∃ (s : State), (s.chan c.val).phase = .moving ∧ (s.chan c.val).flags = 8 ∧ (s.chan c.val).len ≠ 0 ∧ (s.chan c.val).src +
      (s.chan c.val).len ≤ s.usable ∧ (s.chan c.val).dst + (s.chan c.val).len ≤ s.usable ∧ s.mem.poison = [] ∧ s.dmaCur c.val + 64 ≤ s.usable
      ∧ ((s.chan c.val).dst + (s.chan c.val).len ≤ s.dmaCur c.val + 0x28 ∨ s.dmaCur c.val + 0x34 ≤ (s.chan c.val).dst) ∧ s.on
      (F.DMA_CH_CTL_IRQ_CHAIN c.val) = false :=
  ⟨15, wMove, by decide +kernel⟩

theorem wit_TableCommands :
  (∃ (n : Fin 8), ∃ (kind : BitVec 2), ∃ (s : State), s.tableMay n.val kind.toNat [Bank.IDLE, Bank.READY] = true) ∧
  (∃ (n : Fin 8), ∃ (kind : BitVec 2), ∃ (s : State), s.tableMay n.val kind.toNat [Bank.IDLE, Bank.READY] = false) ∧
  (∃ (n : Fin 8), ∃ (s : State), s.tableMay n.val 2 [Bank.IDLE, Bank.READY] = true) ∧
  (∃ (n : Fin 8), ∃ (kind : BitVec 2), ∃ (s : State), (kind ≠ 2 ∨ s.tableMay n.val 2 [Bank.IDLE, Bank.READY] = false)) ∧
  (∃ (n : Fin 8), ∃ (kind : BitVec 2), ∃ (s : State), s.tableMay n.val kind.toNat [Bank.EDIT] = true) ∧
  (∃ (n : Fin 8), ∃ (kind : BitVec 2), ∃ (s : State), s.tableMay n.val kind.toNat [Bank.IDLE, Bank.EDIT, Bank.READY] = true) ∧
  (∃ (n : Fin 8), ∃ (kind : BitVec 2), ∃ (s : State), s.tableMay n.val kind.toNat [Bank.IDLE, Bank.BUSY, Bank.EDIT, Bank.READY] = true) :=
  ⟨⟨0, 0x0#2, State.reset, by decide +kernel⟩,
   ⟨1, 0x2#2, wBank, by decide +kernel⟩,
   ⟨7, State.reset, by decide +kernel⟩,
   ⟨4, 0x3#2, State.reset, by decide +kernel⟩,
   ⟨7, 0x2#2, wBank, by decide +kernel⟩,
   ⟨0, 0x0#2, State.reset, by decide +kernel⟩,
   ⟨0, 0x0#2, State.reset, by decide +kernel⟩⟩

theorem wit_TableTransfers :
  (∃ (n : Fin 8), ∃ (kind : BitVec 2), ∃ (a : Nat), ∃ (s : State), kind ≠ 3 ∧ s.bankState n.val kind.toNat = Bank.BUSY ∧ tget 0 s.loadAt
      (n.val * 4 + kind.toNat) = a + 1 ∧ s.dd.marks = [] ∧ s.imageErr n.val kind.toNat a = 0) ∧
  (∃ (n : Fin 8), ∃ (kind : BitVec 2), ∃ (a : Nat), ∃ (s : State), kind ≠ 3 ∧ s.bankState n.val kind.toNat = Bank.BUSY ∧ tget 0 s.loadAt
      (n.val * 4 + kind.toNat) = a + 1 ∧ s.dd.marks = [] ∧ s.imageErr n.val kind.toNat a ≠ 0) ∧
  (∃ (n : Fin 8), ∃ (s : State), s.bankState n.val 2 = Bank.BUSY ∧ tget 0 s.loadAt (n.val * 4 + 2) = 0 ∧ s.dd.marks = []) ∧
  (∃ (n : Fin 8), ∃ (x : BitVec 16), ∃ (s : State), s.bankState n.val 2 = Bank.EDIT ∧ x.toNat < s.bankWidth n.val) ∧
  (∃ (n : Fin 8), ∃ (s : State), s.bankState n.val 2 ≠ Bank.EDIT) :=
  ⟨⟨7, 0x0#2, (tget 0 (wTab : State).loadAt ((7 : Fin 8).val * 4 + (0x0#2 : BitVec 2).toNat)) - 1, wTab, by decide +kernel⟩,
   ⟨0, 0x2#2, (tget 0 (wTab : State).loadAt ((0 : Fin 8).val * 4 + (0x2#2 : BitVec 2).toNat)) - 1, wTab, by decide +kernel⟩,
   ⟨1, wBank, by decide +kernel⟩,
   ⟨7, 0x0000#16, wBank, by decide +kernel⟩,
   ⟨0, State.reset, by decide +kernel⟩⟩

theorem wit_ScreeningLines :
  (∃ (floor : BitVec 9), ∃ (target : BitVec 9), 16 ≤ floor.toNat ∧ floor.toNat ≤ target.toNat ∧ target.toNat ≤ 256) ∧
  (∃ (floor : BitVec 9), ∃ (target : BitVec 9), (floor.toNat < 16 ∨ target.toNat < floor.toNat ∨ 256 < target.toNat)) ∧
  (∃ (n : Fin 8), ∃ (s : State), (s.on F.EVT_GONG_G4 = true ∨ s.oldestFilled n.val = none)) ∧
  (∃ (n : Fin 8), ∃ (i : Nat), ∃ (x : Slot), ∃ (fr : Frame), ∃ (a : Int), ∃ (s : State), ∃ (u : State), u = s.noteLead n.val ∧ u.frameOf
      n.val x.lpos = some fr ∧ fr.start = some a ∧ s.on F.EVT_GONG_G4 = false ∧ s.oldestFilled n.val = some (i, x) ∧ x.prov = none ∧ a ≠
      x.lpos ∧ a + fr.lines ≤ x.lpos) ∧
  (∃ (n : Fin 8), ∃ (i : Nat), ∃ (x : Slot), ∃ (fr : Frame), ∃ (a : Int), ∃ (row : List Nat), ∃ (s : State), ∃ (u : State), u = s.noteLead
      n.val ∧ u.frameOf n.val x.lpos = some fr ∧ fr.start = some a ∧ u.rasterRow fr (fr.rasterLine (u.resOf n.val) x.lpos) = some row ∧ s.on
      F.EVT_GONG_G4 = false ∧ s.oldestFilled n.val = some (i, x) ∧ x.prov = none ∧ a ≠ x.lpos ∧ x.lpos < a + fr.lines ∧ fr.form ≠ 2 ∧
      u.tmemBad = []) :=
  ⟨⟨0x100#9, 0x100#9, by decide +kernel⟩,
   ⟨0x00f#9, 0x100#9, by decide +kernel⟩,
   ⟨4, State.reset, by decide +kernel⟩,
   ⟨7, (((wGap : State).oldestFilled (7 : Fin 8).val).get (by decide +kernel)).1, (((wGap : State).oldestFilled (7 : Fin 8).val).get
      (by decide +kernel)).2, (((wGap : State).noteLead (7 : Fin 8).val : State).frameOf (7 : Fin 8).val ((((wGap : State).oldestFilled (7 :
      Fin 8).val).get (by decide +kernel)).2 : Slot).lpos).get (by decide +kernel), (((((wGap : State).noteLead (7 : Fin 8).val :
      State).frameOf (7 : Fin 8).val ((((wGap : State).oldestFilled (7 : Fin 8).val).get (by decide +kernel)).2 : Slot).lpos).get
      (by decide +kernel) : Frame).start).get (by decide +kernel), wGap, _, rfl, (Option.some_get _).symm, (Option.some_get _).symm,
      by decide +kernel⟩,
   ⟨7, (((wImage : State).oldestFilled (7 : Fin 8).val).get (by decide +kernel)).1, (((wImage : State).oldestFilled (7 : Fin 8).val).get
      (by decide +kernel)).2, (((wImage : State).noteLead (7 : Fin 8).val : State).frameOf (7 : Fin 8).val ((((wImage : State).oldestFilled (7
      : Fin 8).val).get (by decide +kernel)).2 : Slot).lpos).get (by decide +kernel), (((((wImage : State).noteLead (7 : Fin 8).val :
      State).frameOf (7 : Fin 8).val ((((wImage : State).oldestFilled (7 : Fin 8).val).get (by decide +kernel)).2 : Slot).lpos).get
      (by decide +kernel) : Frame).start).get (by decide +kernel), (((wImage : State).noteLead (7 : Fin 8).val : State).rasterRow ((((wImage :
      State).noteLead (7 : Fin 8).val : State).frameOf (7 : Fin 8).val ((((wImage : State).oldestFilled (7 : Fin 8).val).get
      (by decide +kernel)).2 : Slot).lpos).get (by decide +kernel) : Frame) (((((wImage : State).noteLead (7 : Fin 8).val : State).frameOf (7
      : Fin 8).val ((((wImage : State).oldestFilled (7 : Fin 8).val).get (by decide +kernel)).2 : Slot).lpos).get (by decide +kernel) :
      Frame).rasterLine (((wImage : State).noteLead (7 : Fin 8).val : State).resOf (7 : Fin 8).val) ((((wImage : State).oldestFilled (7 : Fin
      8).val).get (by decide +kernel)).2 : Slot).lpos)).get (by decide +kernel), wImage, _, rfl, (Option.some_get _).symm, (Option.some_get
      _).symm, (Option.some_get _).symm, by decide +kernel⟩⟩

theorem wit_TimebaseAndDelays :
  (∃ (s : State), (∀ l, l < 18 → (s.lane l).due = false)) ∧
  (∃ (sp : Fin 2), ∃ (l : Nat), ∃ (s : State), s.toMeasure sp.val = some l ∧ (s.lane (16 + sp.val)).measuring = none ∧ s.spareFree sp.val =
      true) ∧
  (∃ (sp : Fin 2), ∃ (l : Nat), ∃ (s : State), (s.lane (16 + sp.val)).measuring = some l) ∧
  (∃ (l : Fin 18), ∃ (s : State), (s.lane l.val).echoN < 63 ∧ l.val < 16 ∧ s.reachable l.val = true) ∧
  (∃ (l : Fin 18), ∃ (s : State), l.val < 16 ∧ 63 ≤ (s.lane l.val).echoN) ∧
  (∃ (l : Fin 18), ∃ (x : Nat), ∃ (trip : BitVec 16), ∃ (turn : BitVec 16), ∃ (s : State), (s.lane l.val).measuring = some x ∧ 16 ≤ l.val ∧
      63 ≤ (s.lane l.val).echoN ∧ 90 * 16 < meanDelay ((s.lane l.val).echoSum + trip.toNat - turn.toNat)) ∧
  (∃ (sp : Fin 2), ∃ (s : State), s.on (F.INK_SP_STATUS_IN_USE sp.val) = true) ∧
  (∃ (sp : Fin 2), ∃ (s : State), s.on (F.INK_SP_STATUS_IN_USE sp.val) = false) :=
  ⟨⟨State.reset, by decide +kernel⟩,
   ⟨0, ((wLanes : State).toMeasure (0 : Fin 2).val).get (by decide +kernel), wLanes, (Option.some_get _).symm, by decide +kernel⟩,
   ⟨1, (((wLanes : State).lane (16 + (1 : Fin 2).val)).measuring).get (by decide +kernel), wLanes, (Option.some_get _).symm⟩,
   ⟨14, wLanes, by decide +kernel⟩,
   ⟨15, wLanes, by decide +kernel⟩,
   ⟨17, (((wLanes : State).lane (17 : Fin 18).val).measuring).get (by decide +kernel), 0x00ff#16, 0x0000#16, wLanes, (Option.some_get
      _).symm, by decide +kernel⟩,
   ⟨1, wLanes, by decide +kernel⟩,
   ⟨1, State.reset, by decide +kernel⟩⟩

theorem wit_MessagesAcknowledged :
  (∃ (l : Fin 16), ∃ (seq : BitVec 16), ∃ (seg : BitVec 8), ∃ (s : State), (∀ o ∈ (s.lane l.val).out, o.seq = seq.toNat → o.seg = seg.toNat
      → o.resent = false)) ∧
  (∃ (l : Fin 16), ∃ (seq : BitVec 16), ∃ (seg : BitVec 8), ∃ (o : OutMsg), ∃ (s : State), (s.lane l.val).out = [o] ∧ o.seq = seq.toNat ∧
      o.seg = seg.toNat ∧ o.resent = true) ∧
  (∃ (l : Fin 16), ∃ (seq : BitVec 16), ∃ (seg : BitVec 8), ∃ (s : State), findFirst (fun o => decide (o.seq = seq.toNat ∧ o.seg =
      seg.toNat)) (s.lane l.val).out = none) ∧
  (∃ (l : Fin 16), ∃ (seq : BitVec 16), ∃ (seg : BitVec 8), ∃ (o : OutMsg), ∃ (s : State), (∀ a b c d e f g h, o.msg ≠ .line a b c d e f g
      h) ∧ s.reachable l.val = true ∧ findFirst (fun o => decide (o.seq = seq.toNat ∧ o.seg = seg.toNat)) (s.lane l.val).out = some o ∧
      o.resent = false) ∧
  (∃ (l : Fin 16), ∃ (s : State), ((s.lane l.val).out = [] ∨ s.reachable l.val = false)) ∧
  (∃ (l : Fin 16), ∃ (o : OutMsg), ∃ (s : State), (∀ a b c d e f g h, o.msg ≠ .line a b c d e f g h) ∧ oldestOut (s.lane l.val).out = some
      o ∧ (s.lane l.val).held = none ∧ o.resent = false ∧ s.reachable l.val = true) :=
  ⟨⟨15, 0x0005#16, 0x00#8, State.reset, by decide +kernel⟩,
   ⟨15, 0x0005#16, 0x00#8, (((wLanes : State).lane (15 : Fin 16).val).out).head (by decide +kernel), wLanes, by decide +kernel⟩,
   ⟨0, 0x0000#16, 0x00#8, State.reset, by decide +kernel⟩,
   ⟨14, 0x0005#16, 0x00#8, ⟨5, 0, .commit 5 1 1, 40, false⟩, wLanes, nofun, by decide +kernel⟩,
   ⟨0, State.reset, by decide +kernel⟩,
   ⟨14, ⟨5, 0, .commit 5 1 1, 40, false⟩, wLanes, nofun, by decide +kernel⟩⟩

theorem wit_LaneFailure :
  (∃ (l : Fin 16), ∃ (seq : BitVec 16), ∃ (seg : BitVec 8), ∃ (o : OutMsg), ∃ (s : State), findFirst (fun o => decide (o.seq = seq.toNat ∧
      o.seg = seg.toNat)) (s.lane l.val).out = some o ∧ s.reachable l.val = true ∧ o.resent = true ∧ s.on (F.INK_L_STATUS_SPARED l.val) =
      false ∧ s.spareFor l.val 0 = false ∧ s.spareFor l.val 1 = false ∧ s.f (F.EVT_E_CFG_LEVEL EV.LANE_NO_SPARE) ≠ 2) ∧
  (∃ (l : Fin 16), ∃ (seq : BitVec 16), ∃ (seg : BitVec 8), ∃ (o : OutMsg), ∃ (s : State), findFirst (fun o => decide (o.seq = seq.toNat ∧
      o.seg = seg.toNat)) (s.lane l.val).out = some o ∧ s.reachable l.val = true ∧ o.resent = true ∧ s.on (F.INK_L_STATUS_SPARED l.val) =
      false ∧ s.spareFor l.val 0 = true) :=
  ⟨⟨15, 0x0005#16, 0x00#8, (findFirst (fun o => decide (o.seq = (0x0005#16 : BitVec 16).toNat ∧ o.seg = (0x00#8 : BitVec 8).toNat))
      ((wLanes : State).lane (15 : Fin 16).val).out).get (by decide +kernel), wLanes, (Option.some_get _).symm, by decide +kernel⟩,
   ⟨15, 0x0005#16, 0x00#8, (findFirst (fun o => decide (o.seq = (0x0005#16 : BitVec 16).toNat ∧ o.seg = (0x00#8 : BitVec 8).toNat))
      ((wMeasure : State).lane (15 : Fin 16).val).out).get (by decide +kernel), wMeasure, (Option.some_get _).symm, by decide +kernel⟩⟩

theorem wit_HubReports :
  (∃ (l : Fin 18), ∃ (fault : BitVec 16), ∃ (s : State), l.val < 16 ∧ s.on (F.INK_L_STATUS_SPARED l.val) = false ∧ s.laneOpen l.val = true
      ∧ (s.lane l.val).fresh = false ∧ (∀ o ∈ (s.lane l.val).out, o.resent = false) ∧ fault.toNat = (s.lane l.val).faults ∧ fault.getLsbD 0 =
      false ∧ (s.station (l.val / 2)).frames = []) ∧
  (∃ (l : Fin 18), ∃ (s : State), l.val < 16 ∧ s.on (F.INK_L_STATUS_SPARED l.val) = false ∧ s.laneOpen l.val = true ∧ (s.lane
      l.val).badStatus = 0) ∧
  (∃ (l : Fin 18), ∃ (s : State), l.val < 16 ∧ (s.on (F.INK_L_STATUS_SPARED l.val) = true ∨ s.laneOpen l.val = false)) ∧
  (∃ (l : Fin 16), ∃ (s : State), (s.lane l.val).badTelem = 0) ∧
  (∃ (l : Fin 16), ∃ (n : Nat), ∃ (h : Nat), ∃ (e : HeadReport), ∃ (s : State), n = l.val / 2 ∧ s.headAt n (l.val % 2) e.port.toNat = some
      h ∧ (s.head n h).bad = 0 ∧ e.t.toNat ≠ 0x7FFF ∧ e.t.toInt < (s.head n h).twarn ∧ e.t.toInt < (s.head n h).tlimit) ∧
  (∃ (l : Fin 16), ∃ (seq : BitVec 16), ∃ (lpos : BitVec 32), ∃ (n : Nat), ∃ (x : Line), ∃ (s : State), n = l.val / 2 ∧ s.lineAt n
      lpos.toInt = some x ∧ ((s.lane l.val).hubSeq = none ∨ (s.lane l.val).hubSeq = some seq.toNat) ∧ (∀ y ∈ s.dd.sled, y.1 = n → y.2.lpos ≠
      lpos.toInt) ∧ x.phase = .committed ∧ x.miss = false) ∧
  (∃ (n : Fin 8), ∃ (s : State), (∀ x ∈ (s.station n.val).frames, s.frameOver n.val x = false)) ∧
  (∃ (n : Fin 8), ∃ (x : Frame), ∃ (s : State), findFirst (fun x => s.frameOver n.val x) (s.station n.val).frames = some x ∧ s.reportedAll
      n.val x = false) :=
  ⟨⟨15, 0x0002#16, wHub, by decide +kernel⟩,
   ⟨15, State.reset, by decide +kernel⟩,
   ⟨1, wHub, by decide +kernel⟩,
   ⟨14, State.reset, by decide +kernel⟩,
   ⟨15, _, 1, { port := 0x1f#5, t := 0x0190#16, s := 0x8000#16, acts := 0x00000005#32 }, wHub, rfl, by decide +kernel⟩,
   ⟨15, 0xffff#16, 0x00000005#32, _, ((wHub : State).lineAt ((15 : Fin 16).val / 2 : Nat) (0x00000005#32 : BitVec 32).toInt).get
      (by decide +kernel), wHub, rfl, (Option.some_get _).symm, by decide +kernel⟩,
   ⟨0, State.reset, by decide +kernel⟩,
   ⟨7, (findFirst (fun x => (wSilent : State).frameOver (7 : Fin 8).val x) ((wSilent : State).station (7 : Fin 8).val).frames).get
      (by decide +kernel), wSilent, (Option.some_get _).symm, by decide +kernel⟩⟩

theorem wit_SidebandTransactions :
  (∃ (l : Nat), ∃ (s : State), l = 2 * s.f F.INK_SB_CMD_STATION + s.f F.INK_SB_CMD_HUB ∧ s.on F.INK_SB_STATUS_BUSY = false ∧ s.reachable l
      = true) ∧
  (∃ (l : Nat), ∃ (s : State), l = 2 * s.f F.INK_SB_CMD_STATION + s.f F.INK_SB_CMD_HUB ∧ s.on F.INK_SB_STATUS_BUSY = false ∧ s.reachable l
      = false) ∧
  (∃ (l : Fin 16), ∃ (seq : BitVec 16), ∃ (port : Nat), ∃ (addr : Nat), ∃ (reg : Nat), ∃ (len : Nat), ∃ (old : List (BitVec 8)), ∃ (s :
      State), s.on F.INK_SB_STATUS_BUSY = true ∧ s.sb.lane = l.val ∧ s.sb.retry = false ∧ s.sb.req = some (.sbReq false port addr reg len old)
      ∧ ((s.lane l.val).hubSeq = none ∨ (s.lane l.val).hubSeq = some seq.toNat)) ∧
  (∃ (l : Fin 16), ∃ (seq : BitVec 16), ∃ (r : BitVec 3), ∃ (s : State), ∃ m, s.sb.req = some m ∧ s.on F.INK_SB_STATUS_BUSY = true ∧
      s.sb.lane = l.val ∧ s.sb.retry = false ∧ r ≠ 0 ∧ ((s.lane l.val).hubSeq = none ∨ (s.lane l.val).hubSeq = some seq.toNat) ∧ m.acked =
      false ∧ s.reachable l.val = true) ∧
  (∃ (l : Fin 16), ∃ (seq : BitVec 16), ∃ (r : BitVec 3), ∃ (s : State), s.on F.INK_SB_STATUS_BUSY = true ∧ s.sb.lane = l.val ∧ s.sb.retry
      = true ∧ r ≠ 0 ∧ ((s.lane l.val).hubSeq = none ∨ (s.lane l.val).hubSeq = some seq.toNat)) ∧
  (∃ (s : State), s.on F.INK_SB_STATUS_BUSY = false) ∧
  (∃ (s : State), s.on F.INK_SB_STATUS_BUSY = true ∧ s.sb.retry = false) :=
  ⟨⟨_, wSb, rfl, by decide +kernel⟩,
   ⟨_, State.reset, rfl, by decide +kernel⟩,
   ⟨15, 0x0002#16, 0, 0, 0, 1, [], wSbBusy, by decide +kernel⟩,
   ⟨15, 0x0002#16, 0x4#3, wSbBusy, ((wSbBusy : State).sb.req).get (by decide +kernel), (Option.some_get _).symm, by decide +kernel⟩,
   ⟨15, 0x0005#16, 0x2#3, wSbRetry, by decide +kernel⟩,
   ⟨State.reset, by decide +kernel⟩,
   ⟨wSbBusy, by decide +kernel⟩⟩

set_option maxRecDepth 100000 in
theorem wit_WaveformBanks :
  (∃ (n : Fin 8), ∃ (a : Nat), ∃ (s : State), a = s.addr (F.INK_S_WADDR_HI n.val) (F.INK_S_WADDR_LO n.val) ∧ s.waveMay n.val [Bank.IDLE,
      Bank.READY] = true ∧ s.waveImageErr n.val a = 0 ∧ s.armed n.val = false) ∧
  (∃ (n : Fin 8), ∃ (a : Nat), ∃ (s : State), a = s.addr (F.INK_S_WADDR_HI n.val) (F.INK_S_WADDR_LO n.val) ∧ s.waveMay n.val [Bank.IDLE,
      Bank.READY] = true ∧ s.waveImageErr n.val a = 0 ∧ s.armed n.val = true) ∧
  (∃ (n : Fin 8), ∃ (a : Nat), ∃ (s : State), a = s.addr (F.INK_S_WADDR_HI n.val) (F.INK_S_WADDR_LO n.val) ∧ s.waveMay n.val [Bank.IDLE,
      Bank.READY] = true ∧ s.waveImageErr n.val a ≠ 0) ∧
  (∃ (n : Fin 8), ∃ (s : State), s.waveMay n.val [Bank.IDLE, Bank.READY] = false) ∧
  (∃ (n : Fin 8), ∃ (s : State), s.f (F.INK_S_WSTAT_STATE n.val) = Bank.BUSY ∧ s.wavesOut n.val = false) ∧
  (∃ (n : Fin 8), ∃ (a : Nat), ∃ (s : State), (s.inkSt n.val).waveAt = some a ∧ s.f (F.INK_S_WSTAT_STATE n.val) = Bank.BUSY ∧ s.wavesOut
      n.val = true) ∧
  (∃ (n : Fin 8), ∃ (s : State), s.waveMay n.val [Bank.IDLE, Bank.EDIT, Bank.READY] = true) ∧
  (∃ (n : Fin 8), ∃ (s : State), s.waveMay n.val [Bank.IDLE, Bank.BUSY, Bank.EDIT, Bank.READY] = true) ∧
  (∃ (n : Fin 8), ∃ (s : State), s.on (F.INK_S_WSTAT_ENGAGED n.val) = true) :=
  ⟨⟨0, _, wWave, rfl, by decide +kernel⟩,
   ⟨0, _, wWaveArmed, rfl, by decide +kernel⟩,
   ⟨7, _, State.reset, rfl, by decide +kernel⟩,
   ⟨7, wWaveOut, by decide +kernel⟩,
   ⟨1, wWave, by decide +kernel⟩,
   ⟨7, (((wWaveOut : State).inkSt (7 : Fin 8).val).waveAt).get (by decide +kernel), wWaveOut, (Option.some_get _).symm, by decide +kernel⟩,
   ⟨1, State.reset, by decide +kernel⟩,
   ⟨4, State.reset, by decide +kernel⟩,
   ⟨2, wWave, by decide +kernel⟩⟩

theorem wit_DropDetection :
  (∃ (s : State), (s.on F.INK_DD_CTL_EN = false ∨ s.dd.test ≠ none)) ∧
  (∃ (n : Nat), ∃ (s : State), n = s.f F.INK_DD_CTL_STATION ∧ s.on F.INK_DD_CTL_EN = true ∧ s.dd.test = none ∧ s.armed n = true ∧
      s.dd.closes ≤ s.time ∧ s.on F.INK_DD_CTL_MODE = false ∧ s.on (F.FEED_Q_STATUS_EMPTY n) = true ∧ (∀ y ∈ (s.station n).lines, y.phase ≠
      .staged)) ∧
  (∃ (s : State), s.dd.test = none) ∧
  (∃ (pulses : List DropPulse), ∃ (x : Nat), ∃ (c : Nat), ∃ (s : State), s.dd.test = some x ∧ c = s.ddClass (s.f F.INK_DD_CTL_STATION)
      pulses ∧ s.dd.again = false ∧ s.ddResults.length < 64 ∧ c ≠ 1) ∧
  (∃ (s : State), s.on F.INK_DD_CTL_MODE = false) ∧
  (∃ (w : Word), ∃ (r : List Word), ∃ (s : State), s.ddResults = w :: r) ∧
  (∃ (s : State), s.ddResults = []) :=
  ⟨⟨State.reset, by decide +kernel⟩,
   ⟨_, wDd, rfl, by decide +kernel⟩,
   ⟨State.reset, by decide +kernel⟩,
   ⟨[], ((wDdTest : State).dd.test).get (by decide +kernel), _, wDdTest, (Option.some_get _).symm, rfl, by decide +kernel⟩,
   ⟨State.reset, by decide +kernel⟩,
   ⟨((wDdQueue : State).ddResults).head (by decide +kernel), ((wDdQueue : State).ddResults).tail, wDdQueue, by decide +kernel⟩,
   ⟨State.reset, by decide +kernel⟩⟩

theorem wit_BeamDetect :
  (∃ (n : Fin 4), ∃ (s : State), s.bdLights n.val = true ∧ (s.epSt n.val).lit = false) ∧
  (∃ (n : Fin 4), ∃ (s : State), (s.bdLights n.val = false ∨ (s.epSt n.val).lit = true)) ∧
  (∃ (n : Fin 4), ∃ (s : State), (s.epSt n.val).lit = true) ∧
  (∃ (n : Fin 4), ∃ (s : State), (s.epSt n.val).lit = false) ∧
  (∃ (n : Fin 4), ∃ (relock : Bool), ∃ (s : State), (s.epSt n.val).scans = [] ∧ (s.station n.val).frames = [] ∧ (s.epSt n.val).missing = 0
      ∧ s.on (F.EPS_S_STATUS_PHLOCK n.val) = false ∧ s.on (F.EPS_S_CFG_FOLLOW n.val) = false ∧ (s.mdll n.val).pend = none ∧ relock = true ∧
      s.on (F.CLK_MDLL_STATUS_LOCKED n.val) = false) ∧
  (∃ (n : Fin 4), ∃ (s : State), (s.epSt n.val).lastBd = none) ∧
  (∃ (n : Fin 4), ∃ (a : Nat), ∃ (s : State), (s.epSt n.val).lastBd = some a ∧ (s.epSt n.val).scans = [] ∧ (s.station n.val).frames = [] ∧
      (s.epSt n.val).missing = 0) ∧
  (∃ (n : Fin 4), ∃ (a : Nat), ∃ (s : State), (s.epSt n.val).lastBd = some a ∧ (s.epSt n.val).scans = [] ∧ 1 ≤ (s.epSt n.val).missing ∧
      (s.epSt n.val).dead = false) :=
  ⟨⟨3, wBeam, by decide +kernel⟩,
   ⟨1, State.reset, by decide +kernel⟩,
   ⟨3, wLit, by decide +kernel⟩,
   ⟨1, State.reset, by decide +kernel⟩,
   ⟨3, true, wBeam, by decide +kernel⟩,
   ⟨1, State.reset, by decide +kernel⟩,
   ⟨3, (((wLit : State).epSt (3 : Fin 4).val).lastBd).get (by decide +kernel), wLit, (Option.some_get _).symm, by decide +kernel⟩,
   ⟨3, (((wMiss : State).epSt (3 : Fin 4).val).lastBd).get (by decide +kernel), wMiss, (Option.some_get _).symm, by decide +kernel⟩⟩

theorem wit_BeamPowerExchanges :
  (∃ (n : Fin 4), ∃ (s : State), (s.epSt n.val).enabled ≠ 0) ∧
  (∃ (n : Fin 4), ∃ (s : State), (s.epSt n.val).apc = []) ∧
  (∃ (n : Fin 4), ∃ (frame : BitVec 32), ∃ (a : Apc), ∃ (r : List Apc), ∃ (s : State), (s.epSt n.val).apc = a :: r ∧ a.retried = false ∧
      frameCrc frame.toNat ≠ frame.toNat % 256) ∧
  (∃ (n : Fin 4), ∃ (frame : BitVec 32), ∃ (a : Apc), ∃ (r : List Apc), ∃ (s : State), (s.epSt n.val).apc = a :: r ∧ a.retried = true ∧
      frameCrc frame.toNat ≠ frame.toNat % 256) ∧
  (∃ (n : Fin 4), ∃ (frame : BitVec 32), ∃ (a : Apc), ∃ (r : List Apc), ∃ (s : State), (s.epSt n.val).apc = a :: r ∧ a.retried = false ∧
      a.cmd = 2 ∧ frameCrc frame.toNat = frame.toNat % 256 ∧ frame.toNat / 2 ^ 28 = 0 ∧ s.f (F.EPS_S_APC_CTL_DRIVE_MAX n.val) = 0) :=
  ⟨⟨3, wBeam, by decide +kernel⟩,
   ⟨3, State.reset, by decide +kernel⟩,
   ⟨3, 0x01000000#32, (((wLit : State).epSt (3 : Fin 4).val).apc).head (by decide +kernel), (((wLit : State).epSt (3 : Fin
      4).val).apc).tail, wLit, by decide +kernel⟩,
   ⟨3, 0xfffffffe#32, (((wMiss : State).epSt (3 : Fin 4).val).apc).head (by decide +kernel), (((wMiss : State).epSt (3 : Fin
      4).val).apc).tail, wMiss, by decide +kernel⟩,
   ⟨3, 0x00000000#32, (((wLit : State).epSt (3 : Fin 4).val).apc).head (by decide +kernel), (((wLit : State).epSt (3 : Fin
      4).val).apc).tail, wLit, by decide +kernel⟩⟩

theorem wit_HighVoltageChannels :
  (∃ (c : Fin 16), ∃ (s : State), (∀ k, (s.station (c.val / 4)).phase ≠ .disarming k) ∧ (s.hvCh c.val).holdAt = none) ∧
  (∃ (c : Fin 16), ∃ (a : Nat), ∃ (s : State), (s.hvCh c.val).holdAt = some a ∧ (∀ k, (s.station (c.val / 4)).phase ≠ .disarming k)) ∧
  (∃ (c : Fin 16), ∃ (s : State), s.f (F.EPS_HV_CFG_MON c.val) < 16 ∧ s.on (F.EPS_HV_CFG_ARCEN c.val) = false ∧ (s.hvCh c.val).holdAt =
      none) ∧
  (∃ (c : Fin 16), ∃ (a : Nat), ∃ (s : State), (s.hvCh c.val).arcAt = some a ∧ 1 ≤ (s.hvCh c.val).fltRun ∧ (s.hvCh c.val).holdAt = none ∧
      s.on (F.EPS_HV_CFG_EN c.val) = true ∧ s.on (F.EPS_HV_STATUS_ARC_LATCH c.val) = false) ∧
  (∃ (c : Fin 16), ∃ (a : Nat), ∃ (s : State), (s.hvCh c.val).holdAt = some a) ∧
  (∃ (c : Fin 16), ∃ (a : Nat), ∃ (s : State), (s.hvCh c.val).arcAt = some a) ∧
  (∃ (c : Fin 16), ∃ (a : Nat), ∃ (s : State), (s.hvCh c.val).rampBy = some a ∧ s.on (F.EPS_HV_STATUS_AT_SET c.val) = false) ∧
  (∃ (c : Fin 16), ∃ (s : State), s.on (F.EPS_HV_STATUS_AT_SET c.val) = true) :=
  ⟨⟨15, State.reset, fun k h => absurd ((by decide +kernel : (State.reset.station 3).phase = .unarmed).symm.trans h) nofun,
      by decide +kernel⟩,
   ⟨7, (((wHv : State).hvCh (7 : Fin 16).val).holdAt).get (by decide +kernel), wHv, (Option.some_get _).symm, fun k h => absurd
      ((by decide +kernel : (wHv.station 1).phase = .unarmed).symm.trans h) nofun⟩,
   ⟨15, wHv, by decide +kernel⟩,
   ⟨15, (((wHv : State).hvCh (15 : Fin 16).val).arcAt).get (by decide +kernel), wHv, (Option.some_get _).symm, by decide +kernel⟩,
   ⟨7, (((wHv : State).hvCh (7 : Fin 16).val).holdAt).get (by decide +kernel), wHv, (Option.some_get _).symm⟩,
   ⟨15, (((wHv : State).hvCh (15 : Fin 16).val).arcAt).get (by decide +kernel), wHv, (Option.some_get _).symm⟩,
   ⟨15, (((wHv : State).hvCh (15 : Fin 16).val).rampBy).get (by decide +kernel), wHv, (Option.some_get _).symm, by decide +kernel⟩,
   ⟨7, wHv, by decide +kernel⟩⟩

theorem wit_FuserZones :
  (∃ (s : State), ∃ (d : Nat → Nat), ∃ (m : Nat → Nat), (∀ z, d z = max 1 (s.f (F.EPS_FZ_DUTY_N z))) ∧ (∀ z, m z = min (d z) (s.f
      (F.EPS_FZ_DUTY_M z)))) ∧
  (∃ (s : State), (s.on (F.EPS_FZ_CTL_EN 0) = true ∨ s.on (F.EPS_FZ_CTL_EN 1) = true)) ∧
  (∃ (s : State), s.on (F.EPS_FZ_CTL_EN 0) = false ∧ s.on (F.EPS_FZ_CTL_EN 1) = false) ∧
  (∃ (z : Fin 2), ∃ (s : State), s.f (F.EPS_FZ_CUT z.val) ≠ 0) ∧
  (∃ (z : Fin 2), ∃ (s : State), s.f (F.EPS_FZ_CUT z.val) = 0) ∧
  (∃ (z : Fin 2), ∃ (s : State), s.on (F.EPS_FZ_CTL_EN z.val) = false) ∧
  (∃ (z : Fin 2), ∃ (above : Bool), ∃ (s : State), (above = false ∨ s.on (F.EPS_FZ_CTL_EN z.val) = true)) :=
  ⟨⟨State.reset, fun z => max 1 (State.reset.f (F.EPS_FZ_DUTY_N z)), fun z => min (max 1 (State.reset.f (F.EPS_FZ_DUTY_N z)))
      (State.reset.f (F.EPS_FZ_DUTY_M z)), fun _ => rfl, fun _ => rfl⟩,
   ⟨wFuse, by decide +kernel⟩,
   ⟨State.reset, by decide +kernel⟩,
   ⟨1, wFuse, by decide +kernel⟩,
   ⟨1, State.reset, by decide +kernel⟩,
   ⟨1, State.reset, by decide +kernel⟩,
   ⟨0, true, wFuse, by decide +kernel⟩⟩

set_option maxRecDepth 100000 in
theorem wit_ConfirmOfLines :
  (∃ (n : Fin 8), ∃ (lpos : BitVec 32), ∃ (count : BitVec 64), ∃ (x : Line), ∃ (e : Effect), ∃ (u : State), ∃ (v : State), ∃ (s : State), ∃
      (pm : Int), s.lineAt n.val lpos.toInt = some x ∧ u = s.advanceTo (max (x.fire - s.clead n.val) x.staged) ∧ (pm, v) = u.measured
      count.toInt ∧ x.phase = .staged ∧ (s.mallet x.mallet).region.effs = [e] ∧ e.eff = .line n.val lpos.toInt ∧ (s.on F.WEB_STATUS_COASTING =
      true ∨ (v.confirmError n.val pm x).natAbs ≤ s.cwin n.val * 256) ∧ (s.csOrder fun q => s.csOpen q n.val) = [] ∧ s.g4 = false ∧ u.time +
      1800 ≤ x.fire) ∧
  (∃ (n : Fin 8), ∃ (lpos : BitVec 32), ∃ (count : BitVec 64), ∃ (x : Line), ∃ (e : Effect), ∃ (u : State), ∃ (v : State), ∃ (s : State), ∃
      (pm : Int), s.lineAt n.val lpos.toInt = some x ∧ u = s.advanceTo (max (x.fire - s.clead n.val) x.staged) ∧ (pm, v) = u.measured
      count.toInt ∧ x.phase = .staged ∧ (s.mallet x.mallet).region.effs = [e] ∧ e.eff = .line n.val lpos.toInt ∧ (s.mallet x.mallet).run =
      .running ∧ s.on F.WEB_STATUS_COASTING = false ∧ s.cwin n.val * 256 < (v.confirmError n.val pm x).natAbs) ∧
  (∃ (n : Fin 8), ∃ (lpos : BitVec 32), ∃ (x : Line), ∃ (s : State), s.lineAt n.val lpos.toInt = some x ∧ x.phase ≠ .staged) ∧
  (∃ (n : Fin 8), ∃ (lpos : BitVec 32), ∃ (s : State), s.lineAt n.val lpos.toInt = none) ∧
  (∃ (n : Fin 8), ∃ (lpos : BitVec 32), ∃ (x : Line), ∃ (d : Effect), ∃ (e : Effect), ∃ (s : State), s.lineAt n.val lpos.toInt = some x ∧
      x.phase = .staged ∧ (s.mallet x.mallet).region.effs = [d, e] ∧ d.eff ≠ .line n.val lpos.toInt ∧ e.eff = .line n.val lpos.toInt ∧ e.conf
      = false) ∧
  (∃ (n : Fin 8), ∃ (lpos : BitVec 32), ∃ (x : Line), ∃ (d : Effect), ∃ (e : Effect), ∃ (s : State), s.lineAt n.val lpos.toInt = some x ∧
      x.phase = .staged ∧ (s.mallet x.mallet).region.effs = [d, e] ∧ d.eff ≠ .line n.val lpos.toInt ∧ e.eff = .line n.val lpos.toInt ∧ e.conf
      = true ∧ (s.mallet x.mallet).run = .running) :=
  ⟨⟨7, 0x00000005#32, 0x0000000000001234#64, ((wStage : State).lineAt (7 : Fin 8).val (0x00000005#32 : BitVec 32).toInt).get
      (by decide +kernel), (((wStage : State).mallet (((wStage : State).lineAt (7 : Fin 8).val (0x00000005#32 : BitVec 32).toInt).get
      (by decide +kernel) : Line).mallet).region.effs).head (by decide +kernel), _, (((wStage : State).advanceTo (max ((((wStage :
      State).lineAt (7 : Fin 8).val (0x00000005#32 : BitVec 32).toInt).get (by decide +kernel) : Line).fire - (wStage : State).clead (7 : Fin
      8).val) (((wStage : State).lineAt (7 : Fin 8).val (0x00000005#32 : BitVec 32).toInt).get (by decide +kernel) : Line).staged) :
      State).measured (0x0000000000001234#64 : BitVec 64).toInt).2, wStage, (((wStage : State).advanceTo (max ((((wStage : State).lineAt (7 :
      Fin 8).val (0x00000005#32 : BitVec 32).toInt).get (by decide +kernel) : Line).fire - (wStage : State).clead (7 : Fin 8).val) (((wStage :
      State).lineAt (7 : Fin 8).val (0x00000005#32 : BitVec 32).toInt).get (by decide +kernel) : Line).staged) : State).measured
      (0x0000000000001234#64 : BitVec 64).toInt).1, (Option.some_get _).symm, rfl, rfl, by decide +kernel⟩,
   ⟨7, 0x00000005#32, 0x00000000abcd1234#64, ((wFar : State).lineAt (7 : Fin 8).val (0x00000005#32 : BitVec 32).toInt).get
      (by decide +kernel), (((wFar : State).mallet (((wFar : State).lineAt (7 : Fin 8).val (0x00000005#32 : BitVec 32).toInt).get
      (by decide +kernel) : Line).mallet).region.effs).head (by decide +kernel), _, (((wFar : State).advanceTo (max ((((wFar : State).lineAt
      (7 : Fin 8).val (0x00000005#32 : BitVec 32).toInt).get (by decide +kernel) : Line).fire - (wFar : State).clead (7 : Fin 8).val) (((wFar
      : State).lineAt (7 : Fin 8).val (0x00000005#32 : BitVec 32).toInt).get (by decide +kernel) : Line).staged) : State).measured
      (0x00000000abcd1234#64 : BitVec 64).toInt).2, wFar, (((wFar : State).advanceTo (max ((((wFar : State).lineAt (7 : Fin 8).val
      (0x00000005#32 : BitVec 32).toInt).get (by decide +kernel) : Line).fire - (wFar : State).clead (7 : Fin 8).val) (((wFar : State).lineAt
      (7 : Fin 8).val (0x00000005#32 : BitVec 32).toInt).get (by decide +kernel) : Line).staged) : State).measured (0x00000000abcd1234#64 :
      BitVec 64).toInt).1, (Option.some_get _).symm, rfl, rfl, by decide +kernel⟩,
   ⟨7, 0x00000009#32, ((wStage : State).lineAt (7 : Fin 8).val (0x00000009#32 : BitVec 32).toInt).get (by decide +kernel), wStage,
      (Option.some_get _).symm, by decide +kernel⟩,
   ⟨4, 0x00000000#32, State.reset, by decide +kernel⟩,
   ⟨7, 0x00000005#32, ((wHeldNot : State).lineAt (7 : Fin 8).val (0x00000005#32 : BitVec 32).toInt).get (by decide +kernel), (((wHeldNot :
      State).mallet (((wHeldNot : State).lineAt (7 : Fin 8).val (0x00000005#32 : BitVec 32).toInt).get (by decide +kernel) :
      Line).mallet).region.effs).head (by decide +kernel), ((((wHeldNot : State).mallet (((wHeldNot : State).lineAt (7 : Fin 8).val
      (0x00000005#32 : BitVec 32).toInt).get (by decide +kernel) : Line).mallet).region.effs).tail).head (by decide +kernel), wHeldNot,
      (Option.some_get _).symm, by decide +kernel⟩,
   ⟨7, 0x00000005#32, ((wHeld : State).lineAt (7 : Fin 8).val (0x00000005#32 : BitVec 32).toInt).get (by decide +kernel), (((wHeld :
      State).mallet (((wHeld : State).lineAt (7 : Fin 8).val (0x00000005#32 : BitVec 32).toInt).get (by decide +kernel) :
      Line).mallet).region.effs).head (by decide +kernel), ((((wHeld : State).mallet (((wHeld : State).lineAt (7 : Fin 8).val (0x00000005#32 :
      BitVec 32).toInt).get (by decide +kernel) : Line).mallet).region.effs).tail).head (by decide +kernel), wHeld, (Option.some_get _).symm,
      by decide +kernel⟩⟩

theorem wit_ChangeSets :
  (∃ (a : Nat), ∃ (q : Nat), ∃ (s : State), a = s.addr F.CHG_CS_ADDR_HI F.CHG_CS_ADDR_LO ∧ s.csFree = some q ∧ s.csRefusal a = 0) ∧
  (∃ (a : Nat), ∃ (s : State), a = s.addr F.CHG_CS_ADDR_HI F.CHG_CS_ADDR_LO ∧ s.csRefusal a ≠ 0) ∧
  (∃ (e : Nat), ∃ (s : State), e = s.f F.CHG_CS_CMD_EPOCH ∧ (∀ q, q < 4 → s.f (F.CHG_CS_STATE_STATE q) ≠ 0 → s.f (F.CHG_CS_STATE_EPOCH q) ≠
      e)) ∧
  (∃ (e : Nat), ∃ (q : Nat), ∃ (s : State), e = s.f F.CHG_CS_CMD_EPOCH ∧ (s.csOrder fun q => decide (s.f (F.CHG_CS_STATE_STATE q) ≠ 0)) =
      [q] ∧ s.f (F.CHG_CS_STATE_EPOCH q) = e ∧ s.f (F.CHG_CS_DONE_APPLIED q) ≠ 0) ∧
  (∃ (e : Nat), ∃ (q : Nat), ∃ (s : State), e = s.f F.CHG_CS_CMD_EPOCH ∧ (s.csOrder fun q => decide (s.f (F.CHG_CS_STATE_STATE q) ≠ 0)) =
      [q] ∧ s.f (F.CHG_CS_STATE_EPOCH q) = e ∧ s.f (F.CHG_CS_DONE_APPLIED q) = 0) :=
  ⟨⟨_, ((wSet : State).csFree).get (by decide +kernel), wSet, rfl, (Option.some_get _).symm, by decide +kernel⟩,
   ⟨_, State.reset, rfl, by decide +kernel⟩,
   ⟨_, State.reset, rfl, by decide +kernel⟩,
   ⟨_, (((wCsDone : State).csOrder fun q => decide ((wCsDone : State).f (F.CHG_CS_STATE_STATE q) ≠ 0))).head (by decide +kernel), wCsDone,
      rfl, by decide +kernel⟩,
   ⟨_, (((wCs : State).csOrder fun q => decide ((wCs : State).f (F.CHG_CS_STATE_STATE q) ≠ 0))).head (by decide +kernel), wCs, rfl,
      by decide +kernel⟩⟩

theorem wit_RoleCommands :
  (∃ (mallet : BitVec 6), 35 < mallet.toNat) ∧
  (∃ (mallet : BitVec 6), ∃ (s : State), mallet.toNat ≤ 35 ∧ ((s.mallet mallet.toNat).role ≠ none ∨ s.reserved mallet.toNat = true)) ∧
  (∃ (role : BitVec 6), ∃ (mallet : BitVec 6), ∃ (s : State), mallet.toNat ≤ 35 ∧ (s.mallet mallet.toNat).role = none ∧ s.reserved
      mallet.toNat = false ∧ (s.role role.toNat).image = none) ∧
  (∃ (role : BitVec 6), ∃ (mallet : BitVec 6), ∃ (r : Nat), ∃ (m : Nat), ∃ (bs : List Byte), ∃ (code : Nat), ∃ (s : State), r = role.toNat
      ∧ m = mallet.toNat ∧ (s.role r).image = some bs ∧ code = (if imgKind bs ≠ malletKind m then 2 else if s.roleArmed r = true then 4 else
      if malletSpare m = 1 then 5 else if s.powered (malletDomain m) = false then 8 else 0) ∧ m ≤ 35 ∧ (s.mallet m).role = none ∧ s.reserved m
      = false ∧ code ≠ 0) ∧
  (∃ (role : BitVec 6), ∃ (mallet : BitVec 6), ∃ (r : Nat), ∃ (m : Nat), ∃ (bs : List Byte), ∃ (code : Nat), ∃ (s : State), r = role.toNat
      ∧ m = mallet.toNat ∧ (s.role r).image = some bs ∧ code = (if imgKind bs ≠ malletKind m then 2 else if s.roleArmed r = true then 4 else
      if malletSpare m = 1 then 5 else if s.powered (malletDomain m) = false then 8 else 0) ∧ m ≤ 35 ∧ (s.mallet m).role = none ∧ s.reserved m
      = false ∧ code = 0 ∧ (s.role r).holder = none) ∧
  (∃ (role : BitVec 6), ∃ (s : State), s.roleArmed role.toNat = true) ∧
  (∃ (role : BitVec 6), ∃ (m : Nat), ∃ (s : State), (s.role role.toNat).holder = some m ∧ s.roleArmed role.toNat = false ∧ (s.mallet
      m).region.effs = []) ∧
  (∃ (m : Fin 36), ∃ (r : Nat), ∃ (s : State), (s.mallet m.val).role = some r ∧ (s.mallet m.val).run = .running ∧ (s.mallet
      m.val).region.effs = []) ∧
  (∃ (m : Fin 36), ∃ (s : State), ((s.mallet m.val).run = .idle ∨ (s.mallet m.val).run = .halted)) ∧
  (∃ (m : Fin 36), ∃ (s : State), (s.mallet m.val).run = .running ∧ (s.mallet m.val).wait = none ∧ s.f (F.MLT_M_WDOG m.val) ≠ 0 ∧ (s.mallet
      m.val).exl = false ∧ (s.mallet m.val).region.isOpen = false) ∧
  (∃ (m : Fin 36), ∃ (s : State), ((s.mallet m.val).wait ≠ none ∨ s.f (F.MLT_M_WDOG m.val) = 0)) ∧
  (∃ (m : Fin 36), ∃ (r : Nat), ∃ (s : State), (s.mallet m.val).role = some r ∧ (s.mallet m.val).run = .loading) ∧
  (∃ (m : Fin 36), ∃ (s : State), (s.mallet m.val).run ≠ .loading) :=
  ⟨⟨0x3e#6, by decide +kernel⟩,
   ⟨0x00#6, wAssign, by decide +kernel⟩,
   ⟨0x07#6, 0x00#6, State.reset, by decide +kernel⟩,
   ⟨0x3d#6, 0x07#6, _, _, (((wAssignArmed : State).role ((0x3d#6 : BitVec 6).toNat : Nat)).image).get (by decide +kernel), _, wAssignArmed,
      rfl, rfl, (Option.some_get _).symm, rfl, by decide +kernel⟩,
   ⟨0x00#6, 0x05#6, _, _, (((wAssign : State).role ((0x00#6 : BitVec 6).toNat : Nat)).image).get (by decide +kernel), _, wAssign, rfl, rfl,
      (Option.some_get _).symm, rfl, by decide +kernel⟩,
   ⟨0x3d#6, wAssignArmed, by decide +kernel⟩,
   ⟨0x3d#6, (((wAssign : State).role (0x3d#6 : BitVec 6).toNat).holder).get (by decide +kernel), wAssign, (Option.some_get _).symm,
      by decide +kernel⟩,
   ⟨35, (((wRelease : State).mallet (35 : Fin 36).val).role).get (by decide +kernel), wRelease, (Option.some_get _).symm,
      by decide +kernel⟩,
   ⟨18, State.reset, by decide +kernel⟩,
   ⟨35, wWdog, by decide +kernel⟩,
   ⟨2, State.reset, by decide +kernel⟩,
   ⟨35, (((wLoading : State).mallet (35 : Fin 36).val).role).get (by decide +kernel), wLoading, (Option.some_get _).symm,
      by decide +kernel⟩,
   ⟨0, State.reset, by decide +kernel⟩⟩

theorem wit_CarillonAndTimers :
  (∃ (x : BitVec 6), ∃ (s : State), (∀ f ∈ s.flights, f.from_ ≠ x.toNat)) ∧
  (∃ (x : BitVec 6), ∃ (f : Flight), ∃ (rest : List Flight), ∃ (m : Nat), ∃ (s : State), (s.role f.msg.drole).holder = some m ∧ takeFlight
      x.toNat s.flights = some (f, rest) ∧ f.msg.drole < 62 ∧ f.msg.epoch = (s.role f.msg.drole).epoch ∧ (s.mallet m).inq.length < 64) ∧
  (∃ (x : BitVec 6), ∃ (f : Flight), ∃ (rest : List Flight), ∃ (s : State), takeFlight x.toNat s.flights = some (f, rest) ∧ f.msg.drole <
      62 ∧ (s.role f.msg.drole).holder = none ∧ f.mallet = none ∧ f.from_ = 62 ∧ s.hostRx.length < 64) ∧
  (∃ (s : State), s.timed = []) ∧
  (∃ (a : Nat), ∃ (g : Nat), ∃ (act : Nat), ∃ (w : Nat), ∃ (s : State), s.timed = [(a, g, act, w)]) ∧
  (∃ (t : Fin 16), ∃ (role : BitVec 6), ∃ (s : State), s.on (F.AXS_LT_CTL_EN t.val) = false ∧ role.toNat ≠ 62 ∧ (∀ i, i < 16 → i ≠ t.val →
      s.on (F.AXS_LT_CTL_EN i) = true → s.f (F.AXS_LT_CTL_ROLE i) ≠ role.toNat)) ∧
  (∃ (t : Fin 16), ∃ (i : Nat), ∃ (role : BitVec 6), ∃ (s : State), s.on (F.AXS_LT_CTL_EN t.val) = false ∧ (role.toNat = 62 ∨ role.toNat <
      62 ∧ i < 16 ∧ i ≠ t.val ∧ s.on (F.AXS_LT_CTL_EN i) = true ∧ s.f (F.AXS_LT_CTL_ROLE i) = role.toNat)) ∧
  (∃ (t : Fin 16), ∃ (s : State), s.on (F.AXS_LT_CTL_EN t.val) = false) ∧
  (∃ (t : Fin 16), ∃ (m : Nat), ∃ (s : State), (s.role (s.f (F.AXS_LT_CTL_ROLE t.val))).holder = some m ∧ s.on (F.AXS_LT_CTL_EN t.val) =
      true ∧ (∀ a, a < 24 → s.on (F.AXS_A_CTL_EN a) = true → s.f (F.AXS_A_CFG_TIMER a) ≠ t.val) ∧ s.f (F.AXS_LT_CTL_ROLE t.val) < 62 ∧
      (s.mallet m).run = .running ∧ (s.mallet m).waitsTimer = true) ∧
  (∃ (t : Fin 16), ∃ (s : State), s.on (F.AXS_LT_CTL_EN t.val) = true ∧ (∀ a, a < 24 → s.on (F.AXS_A_CTL_EN a) = true → s.f
      (F.AXS_A_CFG_TIMER a) ≠ t.val) ∧ s.f (F.AXS_LT_CTL_ROLE t.val) < 62 ∧ (s.role (s.f (F.AXS_LT_CTL_ROLE t.val))).holder = none) ∧
  (∃ (t : Fin 16), ∃ (s : State), 4000 ≤ s.f (F.AXS_LT_PERIOD t.val)) :=
  ⟨⟨0x07#6, State.reset, by decide +kernel⟩,
   ⟨0x3e#6, ((takeFlight (0x3e#6 : BitVec 6).toNat (wFly : State).flights).get (by decide +kernel)).1, ((takeFlight (0x3e#6 : BitVec
      6).toNat (wFly : State).flights).get (by decide +kernel)).2, (((wFly : State).role (((takeFlight (0x3e#6 : BitVec 6).toNat (wFly :
      State).flights).get (by decide +kernel)).1 : Flight).msg.drole).holder).get (by decide +kernel), wFly, (Option.some_get _).symm,
      by decide +kernel⟩,
   ⟨0x3e#6, ((takeFlight (0x3e#6 : BitVec 6).toNat (wBounced : State).flights).get (by decide +kernel)).1, ((takeFlight (0x3e#6 : BitVec
      6).toNat (wBounced : State).flights).get (by decide +kernel)).2, wBounced, by decide +kernel⟩,
   ⟨State.reset, by decide +kernel⟩,
   ⟨(((wPins : State).timed).head (by decide +kernel)).1, (((wPins : State).timed).head (by decide +kernel)).2.1, (((wPins :
      State).timed).head (by decide +kernel)).2.2.1, (((wPins : State).timed).head (by decide +kernel)).2.2.2, wPins, by decide +kernel⟩,
   ⟨15, 0x05#6, State.reset, by decide +kernel⟩,
   ⟨0, 64, 0x3e#6, State.reset, by decide +kernel⟩,
   ⟨8, State.reset, by decide +kernel⟩,
   ⟨15, (((wTimer : State).role ((wTimer : State).f (F.AXS_LT_CTL_ROLE (15 : Fin 16).val))).holder).get (by decide +kernel), wTimer,
      (Option.some_get _).symm, by decide +kernel⟩,
   ⟨15, wTimerLate, by decide +kernel⟩,
   ⟨0, State.reset, by decide +kernel⟩⟩

set_option maxRecDepth 100000 in
theorem wit_AxisEnables :
  (∃ (a : Fin 24), ∃ (s : State), s.on (F.AXS_A_CTL_EN a.val) = false ∧ s.homeFits a.val = true ∧ (∀ i ∈ s.axInputsUsed a.val, s.axSsiFits
      a.val i = true ∧ s.webClaims i = false ∧ ∀ b : Fin 24, b ≠ a → s.on (F.AXS_A_CTL_EN b.val) = true → i ∉ s.axInputsUsed b.val)) ∧
  (∃ (a : Fin 24), ∃ (b : Fin 24), ∃ (i : Nat), ∃ (s : State), s.on (F.AXS_A_CTL_EN a.val) = false ∧ (s.homeFits a.val = false ∨ i ∈
      s.axInputsUsed a.val ∧ (s.axSsiFits a.val i = false ∨ s.webClaims i = true ∨ b ≠ a ∧ s.on (F.AXS_A_CTL_EN b.val) = true ∧ i ∈
      s.axInputsUsed b.val))) ∧
  (∃ (a : Fin 24), ∃ (c : Nat), ∃ (s : State), (s.axis a.val).coastAt = some c ∧ s.on (F.AXS_A_STATUS_COASTING a.val) = true ∧ (s.axis
      a.val).expired = false) ∧
  (∃ (a : Fin 24), ∃ (s : State), (s.axis a.val).coastAt = none) ∧
  (∃ (unit : BitVec 5), ∃ (kind : BitVec 4), ∃ (s : State), axUnit kind.toNat unit.toNat = true ∧ [Bank.IDLE, Bank.READY].contains (s.f
      (axBankState kind.toNat unit.toNat)) = true) ∧
  (∃ (kind : BitVec 4), kind ≠ 4 ∧ kind ≠ 5) ∧
  (∃ (unit : BitVec 5), ∃ (kind : BitVec 4), ∃ (s : State), axUnit kind.toNat unit.toNat = true ∧ s.f (axBankState kind.toNat unit.toNat) =
      Bank.BUSY) ∧
  (∃ (unit : BitVec 5), ∃ (kind : BitVec 4), ∃ (a : Nat), ∃ (s : State), axUnit kind.toNat unit.toNat = true ∧ s.f (axBankState kind.toNat
      unit.toNat) = Bank.BUSY ∧ tget 0 s.loadAt (axLoadKey kind.toNat unit.toNat) = a + 1 ∧ s.axImageErr kind.toNat a = 0) ∧
  (∃ (unit : BitVec 5), ∃ (kind : BitVec 4), ∃ (a : Nat), ∃ (s : State), axUnit kind.toNat unit.toNat = true ∧ s.f (axBankState kind.toNat
      unit.toNat) = Bank.BUSY ∧ tget 0 s.loadAt (axLoadKey kind.toNat unit.toNat) = a + 1 ∧ s.axImageErr kind.toNat a ≠ 0) ∧
  (∃ (unit : BitVec 5), ∃ (kind : BitVec 4), ∃ (s : State), axUnit kind.toNat unit.toNat = true ∧ [Bank.IDLE, Bank.EDIT,
      Bank.READY].contains (s.f (axBankState kind.toNat unit.toNat)) = true) ∧
  (∃ (unit : BitVec 5), ∃ (kind : BitVec 4), ∃ (s : State), axUnit kind.toNat unit.toNat = true ∧ [Bank.IDLE, Bank.BUSY, Bank.EDIT,
      Bank.READY].contains (s.f (axBankState kind.toNat unit.toNat)) = true) ∧
  (∃ (a : Fin 24), ∃ (s : State), s.on (F.AXS_A_CTL_EN a.val) = true ∧ s.on (F.AXS_A_TSTAT_PEND a.val) = true ∧ s.f (F.AXS_A_TSTAT_STATE
      a.val) = Bank.READY) ∧
  (∃ (a : Fin 24), ∃ (s : State), (s.on (F.AXS_A_CTL_EN a.val) = false ∨ s.on (F.AXS_A_TSTAT_PEND a.val) = false)) :=
  ⟨⟨22, State.reset, by decide +kernel⟩,
   ⟨21, 7, 15, wAxOff, by decide +kernel⟩,
   ⟨23, (((wAxCoast : State).axis (23 : Fin 24).val).coastAt).get (by decide +kernel), wAxCoast, (Option.some_get _).symm,
      by decide +kernel⟩,
   ⟨4, State.reset, by decide +kernel⟩,
   ⟨0x0b#5, 0x4#4, State.reset, by decide +kernel⟩,
   ⟨0x3#4, by decide +kernel⟩,
   ⟨0x17#5, 0x4#4, wAxOff, by decide +kernel⟩,
   ⟨0x0b#5, 0x5#4, (tget 0 (wMicro : State).loadAt (axLoadKey (0x5#4 : BitVec 4).toNat (0x0b#5 : BitVec 5).toNat)) - 1, wMicro,
      by decide +kernel⟩,
   ⟨0x17#5, 0x4#4, (tget 0 (wAxOff2 : State).loadAt (axLoadKey (0x4#4 : BitVec 4).toNat (0x17#5 : BitVec 5).toNat)) - 1, wAxOff2,
      by decide +kernel⟩,
   ⟨0x0b#5, 0x4#4, State.reset, by decide +kernel⟩,
   ⟨0x0b#5, 0x4#4, State.reset, by decide +kernel⟩,
   ⟨20, wAxOff, by decide +kernel⟩,
   ⟨13, State.reset, by decide +kernel⟩⟩

theorem wit_AxisCommands :
  (∃ (a : Fin 24), ∃ (s : State), s.axState a.val = Ax.DISABLED) ∧
  (∃ (a : Fin 24), ∃ (s : State), s.axState a.val = Ax.GEARED ∧ s.groupOf a.val = none) ∧
  (∃ (a : Fin 24), ∃ (s : State), s.axState a.val ≠ Ax.DISABLED ∧ s.axState a.val ≠ Ax.EDEC ∧ s.axState a.val ≠ Ax.IDLE ∧ s.groupOf a.val =
      none) ∧
  (∃ (a : Fin 24), ∃ (s : State), s.axState a.val ≠ Ax.DISABLED ∧ s.axState a.val ≠ Ax.EDEC ∧ s.groupOf a.val = none) ∧
  (∃ (a : Fin 24), ∃ (g : Int), ∃ (s : State), g = s.pairS (F.AXS_A_TGT_HI a.val) (F.AXS_A_TGT_LO a.val) ∧ s.axState a.val = Ax.IDLE ∧
      s.groupOf a.val = none ∧ s.on (F.AXS_A_CFG_UNIDIR a.val) = false ∧ s.limited a.val (g * oneCount - (s.axis a.val).x) = false) ∧
  (∃ (a : Fin 24), ∃ (g : Int), ∃ (arg : BitVec 32), ∃ (s : State), g = (s.axis a.val).pos + arg.toInt ∧ s.axState a.val = Ax.IDLE ∧
      s.groupOf a.val = none ∧ s.on (F.AXS_A_CFG_UNIDIR a.val) = false ∧ s.limited a.val (g * oneCount - (s.axis a.val).x) = false) ∧
  (∃ (a : Fin 24), ∃ (s : State), s.axState a.val = Ax.IDLE ∧ s.groupOf a.val = none ∧ s.on (F.AXS_A_CFG_UNIDIR a.val) = false ∧ s.on
      (F.AXS_A_STATUS_LIMP_ACT a.val) = false ∧ s.on (F.AXS_A_STATUS_LIMN_ACT a.val) = false) ∧
  (∃ (a : Fin 24), ∃ (s : State), s.axState a.val ≠ Ax.DISABLED ∧ s.groupOf a.val = none) ∧
  (∃ (a : Fin 24), ∃ (s : State), s.axState a.val = Ax.IDLE ∧ s.groupOf a.val = none ∧ s.leads a.val = none) ∧
  (∃ (a : Fin 24), ∃ (g : Nat), ∃ (s : State), s.leads a.val = some g ∧ s.axState a.val = Ax.IDLE ∧ s.groupOf a.val = none ∧ (∀ i ∈
      s.groupAxes g, s.axState i = Ax.IDLE ∧ s.on (F.AXS_A_CFG_UNIDIR i) = false ∧ s.on (F.AXS_A_STATUS_LIMP_ACT i) = false ∧ s.on
      (F.AXS_A_STATUS_LIMN_ACT i) = false)) ∧
  (∃ (a : Fin 24), ∃ (s : State), s.axState a.val = Ax.IDLE ∧ s.groupOf a.val = none ∧ s.on (F.AXS_A_CFG_UNIDIR a.val) = true ∧ s.pairS
      (F.AXS_A_TGT_HI a.val) (F.AXS_A_TGT_LO a.val) * oneCount < (s.axis a.val).x) ∧
  (∃ (a : Fin 24), ∃ (s : State), s.axState a.val = Ax.IDLE ∧ s.groupOf a.val = none ∧ s.on (F.AXS_A_STATUS_LIMP_ACT a.val) = true) :=
  ⟨⟨7, State.reset, by decide +kernel⟩,
   ⟨4, wAxes, by decide +kernel⟩,
   ⟨3, wAxes, by decide +kernel⟩,
   ⟨1, wAxes, by decide +kernel⟩,
   ⟨1, _, wAxes, rfl, by decide +kernel⟩,
   ⟨1, _, 0x000007d0#32, wAxes, rfl, by decide +kernel⟩,
   ⟨1, wAxes, by decide +kernel⟩,
   ⟨7, wAxes, by decide +kernel⟩,
   ⟨23, wAxes, by decide +kernel⟩,
   ⟨10, ((wAxes : State).leads (10 : Fin 24).val).get (by decide +kernel), wAxes, (Option.some_get _).symm, by decide +kernel⟩,
   ⟨9, wAxes, by decide +kernel⟩,
   ⟨8, wAxes, by decide +kernel⟩⟩

theorem wit_AxisMotion :
  (∃ (s : State), s.powered 10 = false) ∧
  (∃ (s : State), s.powered 10 = true ∧ (∀ a, a < 24 → s.axState a = Ax.DISABLED) ∧ (∀ g, g < 4 → s.f (F.AXS_G_STATUS_STATE g) = 0)) ∧
  (∃ (l : Limits), ∃ (a : Int), 0 ≤ l.j ∧ a.natAbs ≤ l.up ∧ a.natAbs ≤ l.down ∧ l.up = l.down) ∧
  (∃ (a : Nat), ∃ (s : State), s.groupOf a = none ∧ s.axState a = Ax.EDEC) ∧
  (∃ (a : Nat), ∃ (s : State), s.groupOf a = none ∧ s.axState a = Ax.VEL) ∧
  (∃ (a : Fin 24), ∃ (neg : Bool), ∃ (s : State), s.on (if neg then F.AXS_A_STATUS_LIMN_ACT a.val else F.AXS_A_STATUS_LIMP_ACT a.val) =
      true) ∧
  (∃ (a : Fin 24), ∃ (neg : Bool), ∃ (s : State), s.on (if neg then F.AXS_A_STATUS_LIMN_ACT a.val else F.AXS_A_STATUS_LIMP_ACT a.val) =
      false ∧ s.axState a.val = Ax.MOVING ∧ s.groupOf a.val = none) ∧
  (∃ (a : Fin 24), ∃ (s : State), (s.axis a.val).accepted = none) ∧
  (∃ (a : Fin 24), ∃ (c : Nat), ∃ (s : State), (s.axis a.val).accepted = some c ∧ s.axState a.val = Ax.HOMING ∧ (s.axis a.val).v = 0 ∧
      (s.axis a.val).a = 0 ∧ s.f (F.AXS_A_CHATTER_COUNT a.val) ≤ s.f (F.AXS_A_CHATTER_CHAT_MAX a.val)) ∧
  (∃ (a : Fin 24), ∃ (c : Nat), ∃ (s : State), (s.axis a.val).accepted = some c ∧ s.axState a.val = Ax.HOMING ∧ (s.axis a.val).v = 0 ∧
      (s.axis a.val).a = 0 ∧ s.f (F.AXS_A_CHATTER_CHAT_MAX a.val) < s.f (F.AXS_A_CHATTER_COUNT a.val)) :=
  ⟨⟨State.reset, by decide +kernel⟩,
   ⟨wAxOff, by decide +kernel⟩,
   ⟨⟨10, 8, 8, 1⟩, 2, by decide +kernel⟩,
   ⟨7, wAxes, by decide +kernel⟩,
   ⟨3, wAxes, by decide +kernel⟩,
   ⟨8, true, (State.reset.setF (F.AXS_A_STATUS_LIMN_ACT 8) 1), by decide +kernel⟩,
   ⟨2, true, wAxes, by decide +kernel⟩,
   ⟨10, State.reset, by decide +kernel⟩,
   ⟨5, (((wHoming : State).axis (5 : Fin 24).val).accepted).get (by decide +kernel), wHoming, (Option.some_get _).symm, by decide +kernel⟩,
   ⟨5, (((wChatter : State).axis (5 : Fin 24).val).accepted).get (by decide +kernel), wChatter, (Option.some_get _).symm,
      by decide +kernel⟩⟩

theorem wit_SteppersAndTraces :
  (∃ (k : Fin 12), ∃ (s : State), s.on (F.STP_CTL_EN k.val) = false) ∧
  (∃ (k : Fin 12), ∃ (ia : List Bool), ∃ (ib : List Bool), ∃ (x : Stepper), ∃ (a : Sinc), ∃ (b : Sinc), ∃ (s : State), x = s.stepper k.val
      ∧ a = x.sa.run s.osr ia ∧ b = x.sb.run s.osr ib ∧ s.on (F.STP_CTL_EN k.val) = true ∧ x.retry = false ∧ (a.stuck = true ∨ b.stuck = true)) ∧
  (∃ (k : Fin 12), ∃ (ia : List Bool), ∃ (ib : List Bool), ∃ (x : Stepper), ∃ (a : Sinc), ∃ (b : Sinc), ∃ (s : State), x = s.stepper k.val
      ∧ a = x.sa.run s.osr ia ∧ b = x.sb.run s.osr ib ∧ s.on (F.STP_CTL_EN k.val) = true ∧ x.retry = true ∧ (a.stuck = true ∨ b.stuck = true)) ∧
  (∃ (k : Fin 12), ∃ (ia : List Bool), ∃ (ib : List Bool), ∃ (x : Stepper), ∃ (a : Sinc), ∃ (b : Sinc), ∃ (s : State), x = s.stepper k.val
      ∧ a = x.sa.run s.osr ia ∧ b = x.sb.run s.osr ib ∧ s.on (F.STP_CTL_EN k.val) = true ∧ x.retry = false ∧ a.stuck = false ∧ b.stuck = false
      ∧ 1 ≤ x.excess ∧ s.f (F.STP_IMAX k.val) * 8 < a.out.natAbs) ∧
  (∃ (k : Fin 12), ∃ (ia : List Bool), ∃ (ib : List Bool), ∃ (x : Stepper), ∃ (a : Sinc), ∃ (b : Sinc), ∃ (s : State), x = s.stepper k.val
      ∧ a = x.sa.run s.osr ia ∧ b = x.sb.run s.osr ib ∧ s.on (F.STP_CTL_EN k.val) = true ∧ x.retry = false ∧ a.stuck = false ∧ b.stuck = false
      ∧ a.out.natAbs ≤ s.f (F.STP_IMAX k.val) * 8 ∧ b.out.natAbs ≤ s.f (F.STP_IMAX k.val) * 8 ∧ s.on (F.STP_STALL_EN k.val) = false ∧
      (s.stepPos k.val / 256 - x.last / 256).natAbs = 1) ∧
  (∃ (k : Fin 12), ∃ (ia : List Bool), ∃ (ib : List Bool), ∃ (x : Stepper), ∃ (a : Sinc), ∃ (b : Sinc), ∃ (s : State), x = s.stepper k.val
      ∧ a = x.sa.run s.osr ia ∧ b = x.sb.run s.osr ib ∧ s.on (F.STP_CTL_EN k.val) = true ∧ x.retry = false ∧ a.stuck = false ∧ b.stuck = false
      ∧ a.out.natAbs ≤ s.f (F.STP_IMAX k.val) * 8 ∧ b.out.natAbs ≤ s.f (F.STP_IMAX k.val) * 8 ∧ s.on (F.STP_STALL_EN k.val) = false ∧
      s.stepPos k.val / 256 = x.last / 256) ∧
  (∃ (k : Fin 12), ∃ (s : State), s.on (F.STP_CTL_EN k.val) = true ∧ (s.axis (s.f (F.STP_CTL_AXIS k.val))).v = 0) ∧
  (∃ (u : Fin 4), ∃ (s : State), (s.f (F.TR_STATUS_STATE u.val) = 1 ∨ s.f (F.TR_STATUS_STATE u.val) = 2)) ∧
  (∃ (u : Fin 4), ∃ (s : State), s.f (F.TR_STATUS_STATE u.val) ≠ 1 ∧ s.f (F.TR_STATUS_STATE u.val) ≠ 2) ∧
  (∃ (u : Fin 4), ∃ (s : State), s.f (F.TR_STATUS_STATE u.val) = 1 ∧ (s.trace u.val).armAt < s.time) ∧
  (∃ (u : Fin 4), ∃ (s : State), (s.f (F.TR_STATUS_STATE u.val) ≠ 1 ∨ s.time ≤ (s.trace u.val).armAt)) ∧
  (∃ (u : Fin 4), ∃ (s : State), s.f (F.TR_STATUS_STATE u.val) = 2 ∧ (∀ c, c < 8 → s.on (F.TR_SRC_EN u.val c) = false) ∧ 1 < (s.trace
      u.val).left) ∧
  (∃ (u : Fin 4), ∃ (s : State), s.f (F.TR_STATUS_STATE u.val) = 2 ∧ (∀ c, c < 8 → s.on (F.TR_SRC_EN u.val c) = false) ∧ (s.trace
      u.val).left ≤ 1) :=
  ⟨⟨5, State.reset, by decide +kernel⟩,
   ⟨8, [true, false, false, false, false, true, false, false, false, false, true, false, false, false, false, true, false,  false, false,
      false, true, false, false, false, false, true, false, false, false, false, true, false, false, false,  false, true, false, false, false,
      false, true, false, false, false, false, true, false, false, false, false, true,  false, false, false, false, true, false, false, false,
      false, true, false, false, false, false, true, false, false,  false, false, true, false, false, false, false, true, false, false, false,
      false, true, false, false, false, false,  true, false, false, false, false, true, false, false, false, false, true, false, false, false,
      false, true, false,  false, false, false, true, false, false, false, false, true, false, false, false, false, true, false, false, false,
      false, true, false, false, false, false, true, false, false], [false, false], _, _, _, wStep, rfl, rfl, rfl, by decide +kernel⟩,
   ⟨9, [false, true], [true, false, true, false, true, false, true, false, true, false, true, false, true, false, true, false, true, false,
      true, false, true, false, true, false, true, false, true, false, true, false, true, false, true, false, true, false,  true, false, true,
      false, true, false, true, false, true, false, true, false, true, false, true, false, true, false,  true, false, true, false, true,
      false, true, false, true, false, true, false, true, false, true, false, true, false,  true, false, true, false, true, false, true,
      false, true, false, true, false, true, false, true, false, true, false,  true, false, true, false, true, false, true, false, true,
      false, true, false, true, false, true, false, true, false,  true, false, true, false, true, false, true, false, true, false, true,
      false, true, false, true, false, true, false,  true, false], _, _, _, wStep, rfl, rfl, rfl, by decide +kernel⟩,
   ⟨10, [], [false, true], _, _, _, wStep, rfl, rfl, rfl, by decide +kernel⟩,
   ⟨11, [], [false, false], _, _, _, wStep, rfl, rfl, rfl, by decide +kernel⟩,
   ⟨11, [], [false, false], _, _, _, wStepAt, rfl, rfl, rfl, by decide +kernel⟩,
   ⟨8, wStep, by decide +kernel⟩,
   ⟨3, wTrace, by decide +kernel⟩,
   ⟨1, State.reset, by decide +kernel⟩,
   ⟨1, wTrace, by decide +kernel⟩,
   ⟨2, State.reset, by decide +kernel⟩,
   ⟨2, wTrace, by decide +kernel⟩,
   ⟨3, wTrace, by decide +kernel⟩⟩

theorem wit_MotorChannels_1 :
  (∃ (c : Fin 12), ∃ (s : State), (s.on (F.MOT_C_CTL_EN c.val) = true ∨ s.on F.EVT_GONG_G4 = true)) ∧
  (∃ (c : Fin 12), ∃ (s : State), s.on (F.MOT_C_CTL_EN c.val) = false ∧ s.on F.EVT_GONG_G4 = false ∧ ((s.busOf (s.f (F.MOT_C_CTL_BUS
      c.val))).written ≠ 7 ∨ s.f (F.MOT_C_CTL_SENSE c.val) = 1 ∧ s.f (F.MOT_C_CPR c.val) = 0 ∨ 75000000 * 960 < s.poles c.val * s.f
      (F.MOT_C_SPDMAX c.val) * 8 * s.pwmPer c.val)) ∧
  (∃ (c : Fin 12), ∃ (b : Nat), ∃ (s : State), b = s.f (F.MOT_C_CTL_BUS c.val) ∧ s.on (F.MOT_C_CTL_EN c.val) = false ∧ s.on F.EVT_GONG_G4 =
      false ∧ (s.busOf b).written = 7 ∧ (s.f (F.MOT_C_CTL_SENSE c.val) = 1 → s.f (F.MOT_C_CPR c.val) ≠ 0) ∧ s.poles c.val * s.f
      (F.MOT_C_SPDMAX c.val) * 8 * s.pwmPer c.val ≤ 75000000 * 960 ∧ s.on (F.MOT_C_CTL_CATCH_EN c.val) = true) ∧
  (∃ (c : Fin 12), ∃ (b : Nat), ∃ (s : State), b = s.f (F.MOT_C_CTL_BUS c.val) ∧ s.on (F.MOT_C_CTL_EN c.val) = false ∧ s.on F.EVT_GONG_G4 =
      false ∧ (s.busOf b).written = 7 ∧ (s.f (F.MOT_C_CTL_SENSE c.val) = 1 → s.f (F.MOT_C_CPR c.val) ≠ 0) ∧ s.poles c.val * s.f
      (F.MOT_C_SPDMAX c.val) * 8 * s.pwmPer c.val ≤ 75000000 * 960 ∧ s.on (F.MOT_C_CTL_CATCH_EN c.val) = false ∧ s.f (F.MOT_C_CTL_MODE c.val)
      ≠ 0) ∧
  (∃ (c : Fin 12), ∃ (s : State), s.on (F.MOT_C_CTL_EN c.val) = false) ∧
  (∃ (c : Fin 12), ∃ (m : PwmSample), ∃ (x : Motor), ∃ (q : Nat), ∃ (u : State), ∃ (s : State), u = s.advanceTo ((s.motor c.val).last + 8 *
      s.pwmPer c.val) ∧ (x, q) = u.pwmInputs c.val m ∧ s.on (F.MOT_C_CTL_EN c.val) = true ∧ s.f (F.MOT_C_STATUS_STATE c.val) = Mot.RUNNING ∧
      s.f (F.MOT_C_CTL_SENSE c.val) = 2 ∧ (s.motor c.val).badA = false ∧ (s.motor c.val).badI = false ∧ x.su.stuck = false ∧ x.sv.stuck =
      false ∧ s.f (F.MOT_C_CTL_MODE c.val) = 0 ∧ s.overcurrent c.val x.su.out x.sv.out = false ∧ (clampV (s.f (F.MOT_C_CTL_OVM c.val)) (s.fs
      (F.MOT_C_VCMD_VD c.val)) (s.fs (F.MOT_C_VCMD_VQ c.val))).2.2 = false) ∧
  (∃ (c : Fin 12), ∃ (m : PwmSample), ∃ (x : Motor), ∃ (q : Nat), ∃ (u : State), ∃ (s : State), u = s.advanceTo ((s.motor c.val).last + 8 *
      s.pwmPer c.val) ∧ (x, q) = u.pwmInputs c.val m ∧ s.on (F.MOT_C_CTL_EN c.val) = true ∧ s.f (F.MOT_C_STATUS_STATE c.val) = Mot.RUNNING ∧
      s.f (F.MOT_C_CTL_SENSE c.val) = 2 ∧ (s.motor c.val).badA = false ∧ (s.motor c.val).badI = false ∧ x.su.stuck = false ∧ x.sv.stuck =
      false ∧ 1 ≤ (s.motor c.val).excess ∧ s.overcurrent c.val x.su.out x.sv.out = true) ∧
  (∃ (c : Fin 12), ∃ (l : List Bool), ∃ (s : State), lowRun 2 l = true ∧ (s.motor c.val).badI = false ∧ (s.motor c.val).badA = false) ∧
  (∃ (l : List Bool), lowRun 2 l = false) ∧
  (∃ (c : Fin 12), ∃ (s : State), (s.on (F.MOT_C_CTL_EN c.val) = false ∨ s.f (F.MOT_C_STATUS_STATE c.val) ≠ Mot.CATCHING)) ∧
  (∃ (c : Fin 12), ∃ (z : List (BitVec 3)), ∃ (n : Nat), ∃ (v : Int), ∃ (s : State), (n, v) = s.windowSpeed c.val z ∧ s.on (F.MOT_C_CTL_EN
      c.val) = true ∧ s.f (F.MOT_C_STATUS_STATE c.val) = Mot.CATCHING ∧ (n < 2 ∨ v = 0) ∧ s.f (F.MOT_C_CTL_MODE c.val) ≠ 0) ∧
  (∃ (c : Fin 12), ∃ (z : List (BitVec 3)), ∃ (n : Nat), ∃ (v : Int), ∃ (s : State), (n, v) = s.windowSpeed c.val z ∧ s.on (F.MOT_C_CTL_EN
      c.val) = true ∧ s.f (F.MOT_C_STATUS_STATE c.val) = Mot.CATCHING ∧ 2 ≤ n ∧ 0 < v ∧ v ≤ s.f (F.MOT_C_CATCH_CATCH_MAX c.val) * 16 ∧ s.f
      (F.MOT_C_CTL_MODE c.val) ≠ 0) ∧
  (∃ (c : Fin 12), ∃ (z : List (BitVec 3)), ∃ (n : Nat), ∃ (v : Int), ∃ (s : State), (n, v) = s.windowSpeed c.val z ∧ s.on (F.MOT_C_CTL_EN
      c.val) = true ∧ s.f (F.MOT_C_STATUS_STATE c.val) = Mot.CATCHING ∧ 2 ≤ n ∧ s.f (F.MOT_C_CATCH_CATCH_MAX c.val) * 16 < v) ∧
  (∃ (c : Fin 12), ∃ (z : List (BitVec 3)), ∃ (n : Nat), ∃ (v : Int), ∃ (s : State), (n, v) = s.windowSpeed c.val z ∧ s.on (F.MOT_C_CTL_EN
      c.val) = true ∧ s.f (F.MOT_C_STATUS_STATE c.val) = Mot.CATCHING ∧ 2 ≤ n ∧ v < -(s.f (F.MOT_C_CATCH_REV_LIM c.val) * 16 : Int)) :=
  ⟨⟨0, wMot, by decide +kernel⟩,
   ⟨1, State.reset, by decide +kernel⟩,
   ⟨11, _, wMot, rfl, by decide +kernel⟩,
   ⟨11, _, wCatchFwd, rfl, by decide +kernel⟩,
   ⟨0, State.reset, by decide +kernel⟩,
   ⟨3, { iu := [], iv := [], hall := [], enc := [], angle := 0x0000#16, speed := 0x00000000#32 }, (((wMot : State).advanceTo (((wMot :
      State).motor (3 : Fin 12).val).last + 8 * (wMot : State).pwmPer (3 : Fin 12).val) : State).pwmInputs (3 : Fin 12).val
      ({ iu := [], iv := [], hall := [], enc := [], angle := 0x0000#16, speed := 0x00000000#32 } : PwmSample)).1, (((wMot : State).advanceTo
      (((wMot : State).motor (3 : Fin 12).val).last + 8 * (wMot : State).pwmPer (3 : Fin 12).val) : State).pwmInputs (3 : Fin 12).val
      ({ iu := [], iv := [], hall := [], enc := [], angle := 0x0000#16, speed := 0x00000000#32 } : PwmSample)).2, _, wMot, rfl, rfl,
      by decide +kernel⟩,
   ⟨3, { iu := [], iv := [], hall := [], enc := [], angle := 0x0000#16, speed := 0x00000000#32 }, (((wMotOver : State).advanceTo
      (((wMotOver : State).motor (3 : Fin 12).val).last + 8 * (wMotOver : State).pwmPer (3 : Fin 12).val) : State).pwmInputs (3 : Fin 12).val
      ({ iu := [], iv := [], hall := [], enc := [], angle := 0x0000#16, speed := 0x00000000#32 } : PwmSample)).1, (((wMotOver :
      State).advanceTo (((wMotOver : State).motor (3 : Fin 12).val).last + 8 * (wMotOver : State).pwmPer (3 : Fin 12).val) : State).pwmInputs
      (3 : Fin 12).val ({ iu := [], iv := [], hall := [], enc := [], angle := 0x0000#16, speed := 0x00000000#32 } : PwmSample)).2, _,
      wMotOver, rfl, rfl, by decide +kernel⟩,
   ⟨2, [true, false, false, false, false, true, false, false, false, false, true, false, false, false, false, true, false,  false, false,
      false, true, false, false, false, false, true, false, false, false, false, true, false, false, false,  false, true, false, false, false,
      false, true, false, false, false, false, true, false, false, false, false, true,  false, false, false, false, true, false, false, false,
      false, true, false, false, false, false, true, false, false,  false, false, true, false, false, false, false, true, false, false, false,
      false, true, false, false, false, false,  true, false, false, false, false, true, false, false, false, false, true, false, false, false,
      false, true, false,  false, false, false, true, false, false, false, false, true, false, false, false, false, true, false, false, false,
      false, true, false, false, false, false, true, false, false], State.reset, by decide +kernel⟩,
   ⟨[true, false, true, false, true, false, true, false, true, false, true, false, true, false, true, false, true, false,  true, false,
      true, false, true, false, true, false, true, false, true, false, true, false, true, false, true, false,  true, false, true, false, true,
      false, true, false, true, false, true, false, true, false, true, false, true, false,  true, false, true, false, true, false, true,
      false, true, false, true, false, true, false, true, false, true, false,  true, false, true, false, true, false, true, false, true,
      false, true, false, true, false, true, false, true, false,  true, false, true, false, true, false, true, false, true, false, true,
      false, true, false, true, false, true, false,  true, false, true, false, true, false, true, false, true, false, true, false, true,
      false, true, false, true, false,  true, false], by decide +kernel⟩,
   ⟨11, State.reset, by decide +kernel⟩,
   ⟨0, [0x0#3, 0x1#3], ((wCatchNone : State).windowSpeed (0 : Fin 12).val ([0x0#3, 0x1#3] : List (BitVec 3))).1, ((wCatchNone :
      State).windowSpeed (0 : Fin 12).val ([0x0#3, 0x1#3] : List (BitVec 3))).2, wCatchNone, rfl, by decide +kernel⟩,
   ⟨0, [0x0#3, 0x1#3], ((wCatchFwd : State).windowSpeed (0 : Fin 12).val ([0x0#3, 0x1#3] : List (BitVec 3))).1, ((wCatchFwd :
      State).windowSpeed (0 : Fin 12).val ([0x0#3, 0x1#3] : List (BitVec 3))).2, wCatchFwd, rfl, by decide +kernel⟩,
   ⟨0, [0x0#3, 0x1#3], ((wCatchFast : State).windowSpeed (0 : Fin 12).val ([0x0#3, 0x1#3] : List (BitVec 3))).1, ((wCatchFast :
      State).windowSpeed (0 : Fin 12).val ([0x0#3, 0x1#3] : List (BitVec 3))).2, wCatchFast, rfl, by decide +kernel⟩,
   ⟨0, [0x0#3, 0x1#3], ((wCatchRev : State).windowSpeed (0 : Fin 12).val ([0x0#3, 0x1#3] : List (BitVec 3))).1, ((wCatchRev :
      State).windowSpeed (0 : Fin 12).val ([0x0#3, 0x1#3] : List (BitVec 3))).2, wCatchRev, rfl, by decide +kernel⟩⟩

theorem wit_MotorChannels_2 :
  (∃ (c : Fin 12), ∃ (s : State), s.f (F.MOT_C_STATUS_STATE c.val) = Mot.BRAKING) ∧
  (∃ (c : Fin 12), ∃ (s : State), s.f (F.MOT_C_STATUS_STATE c.val) = Mot.STARTING) ∧
  (∃ (c : Fin 12), ∃ (a : Nat), ∃ (s : State), (s.motor c.val).lockFrom = some a ∧ s.on (F.MOT_C_CTL_EN c.val) = true ∧ s.f
      (F.MOT_C_STATUS_STATE c.val) = Mot.RUNNING) ∧
  (∃ (c : Fin 12), ∃ (s : State), s.f (F.MOT_C_STATUS_STATE c.val) ≠ Mot.BRAKING) ∧
  (∃ (c : Fin 12), ∃ (s : State), s.f (F.MOT_C_STATUS_STATE c.val) ≠ Mot.STARTING) ∧
  (∃ (c : Fin 12), ∃ (s : State), (s.motor c.val).lockFrom = none) :=
  ⟨⟨1, wMot, by decide +kernel⟩,
   ⟨2, wMot, by decide +kernel⟩,
   ⟨3, (((wMotOver : State).motor (3 : Fin 12).val).lockFrom).get (by decide +kernel), wMotOver, (Option.some_get _).symm,
      by decide +kernel⟩,
   ⟨3, State.reset, by decide +kernel⟩,
   ⟨3, State.reset, by decide +kernel⟩,
   ⟨3, State.reset, by decide +kernel⟩⟩

theorem wit_BrakeChoppers :
  (∃ (b : Fin 4), ∃ (bits : List (Bool × Bool)), ∃ (s : State), (s.busOf b.val).sv.n + bits.length < s.osr ∧ bits ≠ []) ∧
  (∃ (b : Fin 4), ∃ (bits : List (Bool × Bool)), ∃ (x : Bus), ∃ (y : Sinc), ∃ (v : Nat), ∃ (s : State), x = s.busOf b.val ∧ y = x.sv.run
      s.osr (bits.map (·.1)) ∧ v = (maxI 0 (y.out * (s.f (F.MOT_BK_CTL_FS b.val) : Int) * 10 / 32768)).toNat ∧ bits ≠ [] ∧ x.sv.n +
      bits.length = s.osr ∧ y.stuck = false ∧ x.retry = false ∧ x.checkAt = none ∧ s.on (F.MOT_BK_CTL_EN b.val) = false ∧ v < s.f
      (F.MOT_BK_VHARD_VHARD b.val)) ∧
  (∃ (b : Fin 4), ∃ (bits : List (Bool × Bool)), ∃ (x : Bus), ∃ (y : Sinc), ∃ (v : Nat), ∃ (s : State), x = s.busOf b.val ∧ y = x.sv.run
      s.osr (bits.map (·.1)) ∧ v = (maxI 0 (y.out * (s.f (F.MOT_BK_CTL_FS b.val) : Int) * 10 / 32768)).toNat ∧ bits ≠ [] ∧ x.sv.n +
      bits.length = s.osr ∧ y.stuck = false ∧ x.retry = false ∧ x.checkAt = none ∧ s.on (F.MOT_BK_CTL_EN b.val) = true ∧ s.on F.EVT_GONG_G4 =
      false ∧ s.on (F.MOT_BK_STATUS_BRK_ON b.val) = false ∧ s.f (F.MOT_BK_VON_VON b.val) ≤ v ∧ v < s.f (F.MOT_BK_VHARD_VHARD b.val)) ∧
  (∃ (b : Fin 4), ∃ (bits : List (Bool × Bool)), ∃ (x : Bus), ∃ (y : Sinc), ∃ (v : Nat), ∃ (s : State), x = s.busOf b.val ∧ y = x.sv.run
      s.osr (bits.map (·.1)) ∧ v = (maxI 0 (y.out * (s.f (F.MOT_BK_CTL_FS b.val) : Int) * 10 / 32768)).toNat ∧ bits ≠ [] ∧ x.sv.n +
      bits.length = s.osr ∧ y.stuck = false ∧ x.retry = false ∧ x.checkAt = none ∧ s.on (F.MOT_BK_CTL_EN b.val) = false ∧ x.high = 1 ∧ s.f
      (F.MOT_BK_VHARD_VHARD b.val) ≤ v) ∧
  (∃ (b : Fin 4), ∃ (bits : List (Bool × Bool)), ∃ (x : Bus), ∃ (y : Sinc), ∃ (s : State), x = s.busOf b.val ∧ y = x.sv.run s.osr (bits.map
      (·.1)) ∧ bits ≠ [] ∧ x.sv.n + bits.length = s.osr ∧ y.stuck = true ∧ x.retry = false ∧ s.on (F.MOT_BK_STATUS_BRK_ON b.val) = false) ∧
  (∃ (b : Fin 4), ∃ (bits : List (Bool × Bool)), ∃ (x : Bus), ∃ (y : Sinc), ∃ (s : State), x = s.busOf b.val ∧ y = x.sv.run s.osr (bits.map
      (·.1)) ∧ bits ≠ [] ∧ x.sv.n + bits.length = s.osr ∧ y.stuck = true ∧ x.retry = true) ∧
  (∃ (b : Fin 4), ∃ (a : Nat), ∃ (s : State), (s.busOf b.val).checkAt = some a ∧ (s.busOf b.val).second = false) ∧
  (∃ (b : Fin 4), ∃ (a : Nat), ∃ (s : State), (s.busOf b.val).checkAt = some a ∧ (s.busOf b.val).second = true) ∧
  (∃ (b : Fin 4), ∃ (s : State), (s.busOf b.val).checkAt = none) ∧
  (∃ (b : Fin 4), ∃ (s : State), s.on (F.MOT_BK_CTL_EN b.val) = true) ∧
  (∃ (b : Fin 4), ∃ (s : State), s.on (F.MOT_BK_CTL_EN b.val) = false) ∧
  (∃ (b : Fin 4), ∃ (s : State), s.f (F.MOT_BK_VON_VOFF b.val) ≤ s.f (F.MOT_BK_VBUS b.val)) ∧
  (∃ (b : Fin 4), ∃ (s : State), s.f (F.MOT_BK_VBUS b.val) < s.f (F.MOT_BK_VON_VOFF b.val)) :=
  ⟨⟨1, [(true, false)], State.reset, by decide +kernel⟩,
   ⟨1, [(true, true),  (false, true),  (true, true),  (false, true),  (true, true),  (false, true),  (true, true),  (false, true),  (true,
      true),  (false, true),  (true, true),  (false, true),  (true, true),  (false, true),  (true, true),  (false, true),  (true, true),
      (false, true),  (true, true),  (false, true),  (true, true),  (false, true),  (true, true),  (false, true),  (true, true),  (false,
      true),  (true, true),  (false, true),  (true, true),  (false, true),  (true, true),  (false, true)], _, _, _, wBus, rfl, rfl, rfl,
      by decide +kernel⟩,
   ⟨3, [(true, false),  (true, false),  (true, false),  (true, false),  (true, false),  (true, false),  (true, false),  (true, false),
      (true, false),  (true, false),  (true, false),  (true, false),  (true, false),  (true, false),  (true, false),  (true, false),  (true,
      false),  (true, false),  (true, false),  (true, false),  (true, false),  (true, false),  (true, false),  (true, false),  (true, false),
      (true, false),  (true, false),  (true, false),  (true, false),  (true, false),  (true, false),  (true, false)], _, _, _, wBus, rfl, rfl,
      rfl, by decide +kernel⟩,
   ⟨1, [(true, false),  (true, false),  (true, false),  (true, false),  (true, false),  (true, false),  (true, false),  (true, false),
      (true, false),  (true, false),  (true, false),  (true, false),  (true, false),  (true, false),  (true, false),  (true, false),  (true,
      false),  (true, false),  (true, false),  (true, false),  (true, false),  (true, false),  (true, false),  (true, false),  (true, false),
      (true, false),  (true, false),  (true, false),  (true, false),  (true, false),  (true, false),  (true, false)], _, _, _, wBus, rfl, rfl,
      rfl, by decide +kernel⟩,
   ⟨0, [(true, true),  (false, true),  (true, true),  (false, true),  (true, true),  (false, true),  (true, true),  (false, true),  (true,
      true),  (false, true),  (true, true),  (false, true),  (true, true),  (false, true),  (true, true),  (false, true),  (true, true),
      (false, true),  (true, true),  (false, true),  (true, true),  (false, true),  (true, true),  (false, true),  (true, true),  (false,
      true),  (true, true),  (false, true),  (true, true),  (false, true),  (true, true),  (false, true)], _, _, wBusOff, rfl, rfl,
      by decide +kernel⟩,
   ⟨0, [(true, true),  (false, true),  (true, true),  (false, true),  (true, true),  (false, true),  (true, true),  (false, true),  (true,
      true),  (false, true),  (true, true),  (false, true),  (true, true),  (false, true),  (true, true),  (false, true),  (true, true),
      (false, true),  (true, true),  (false, true),  (true, true),  (false, true),  (true, true),  (false, true),  (true, true),  (false,
      true),  (true, true),  (false, true),  (true, true),  (false, true),  (true, true),  (false, true)], _, _, wBus, rfl, rfl,
      by decide +kernel⟩,
   ⟨3, (((wCheck : State).busOf (3 : Fin 4).val).checkAt).get (by decide +kernel), wCheck, (Option.some_get _).symm, by decide +kernel⟩,
   ⟨0, (((wBusZero : State).busOf (0 : Fin 4).val).checkAt).get (by decide +kernel), wBusZero, (Option.some_get _).symm, by decide +kernel⟩,
   ⟨2, State.reset, by decide +kernel⟩,
   ⟨3, wMot, by decide +kernel⟩,
   ⟨3, State.reset, by decide +kernel⟩,
   ⟨1, State.reset, by decide +kernel⟩,
   ⟨2, wBus, by decide +kernel⟩⟩

theorem wit_HousekeepingAndThrottling_1 :
  (∃ (x : Fin 60), ∃ (s : State), s.on (F.HK_CH_CFG_EN x.val) = false ∧ 12 ≤ x.val) ∧
  (∃ (x : Fin 60), ∃ (v : BitVec 16), ∃ (ok : Bool), ∃ (s : State), s.on (F.HK_CH_CFG_EN x.val) = false ∧ x.val < 12 ∧ (ok = false ∨
      v.toInt ≤ 1120)) ∧
  (∃ (x : Fin 12), ∃ (v : BitVec 16), ∃ (s : State), s.on (F.HK_CH_CFG_EN x.val) = false ∧ (s.hkCh x.val).hot = 1 ∧ 1120 < v.toInt) ∧
  (∃ (x : Fin 60), ∃ (s : State), s.on (F.HK_CH_CFG_EN x.val) = true ∧ s.on F.HK_STATUS_MODE = true ∧ 44 ≤ x.val) ∧
  (∃ (x : Fin 60), ∃ (v : BitVec 16), ∃ (ok : Bool), ∃ (s : State), ∃ (y : Int), (if x.val < 12 then some v.toInt else diodeReading v.toInt
      (s.f (F.HK_CH_CFG_PARAM x.val))) = some y ∧ s.on (F.HK_CH_CFG_EN x.val) = true ∧ s.on F.HK_STATUS_MODE = true ∧ x.val < 28 ∧ ok = true ∧
      s.on (F.HK_CH_STATUS_BROKEN x.val) = false ∧ (s.hkCh x.val).retry = false ∧ (∀ i, i < 3 → y ≤ s.hkThr x.val i) ∧ y ≤ 1120) ∧
  (∃ (x : Fin 60), ∃ (v : BitVec 16), ∃ (ok : Bool), ∃ (s : State), ∃ (y : Int), (if x.val < 12 then some v.toInt else diodeReading v.toInt
      (s.f (F.HK_CH_CFG_PARAM x.val))) = some y ∧ s.on (F.HK_CH_CFG_EN x.val) = true ∧ s.on F.HK_STATUS_MODE = true ∧ x.val < 28 ∧ ok = true ∧
      s.on (F.HK_CH_STATUS_BROKEN x.val) = false ∧ (s.hkCh x.val).retry = false ∧ s.hkThr x.val 2 < y ∧ max 1 (s.f (F.HK_CH_CFG_DWELL x.val))
      ≤ nthD 0 (s.hkCh x.val).enter 2 + 1 ∧ bitOf (s.hkCh x.val).inside 2 = false) ∧
  (∃ (x : Fin 60), ∃ (raw : BitVec 12), ∃ (ok : Bool), ∃ (s : State), s.on (F.HK_CH_CFG_EN x.val) = true ∧ s.on F.HK_STATUS_MODE = true ∧
      x.val < 44 ∧ hkValid x.val raw.toNat ok = false ∧ s.on (F.HK_CH_STATUS_BROKEN x.val) = false ∧ (s.hkCh x.val).retry = false ∧ (x.val <
      12 → ok = false)) ∧
  (∃ (x : Fin 60), ∃ (raw : BitVec 12), ∃ (ok : Bool), ∃ (s : State), s.on (F.HK_CH_CFG_EN x.val) = true ∧ s.on F.HK_STATUS_MODE = true ∧
      x.val < 44 ∧ hkValid x.val raw.toNat ok = false ∧ s.on (F.HK_CH_STATUS_BROKEN x.val) = false ∧ (s.hkCh x.val).retry = true) ∧
  (∃ (x : Fin 60), ∃ (s : State), s.on (F.HK_CH_STATUS_BROKEN x.val) = false) ∧
  (∃ (x : Fin 60), ∃ (s : State), s.on (F.HK_CH_STATUS_BROKEN x.val) = true) ∧
  (∃ (s : State), s.anyArmed = true) ∧
  (∃ (s : State), s.anyArmed = false) ∧
  (∃ (s : State), ∃ (d : Nat), d = (if s.throttlers fun x => s.on (F.HK_CH_STATUS_BROKEN x) then s.f F.HK_THROT_MAXSTEP else if
      s.throttlers fun x => decide (2 ≤ s.f (F.HK_CH_STATUS_LEVEL x)) then (if s.f F.HK_THLIM_D < s.f F.HK_THROT_MAXSTEP then s.f F.HK_THLIM_D
      + 1 else s.f F.HK_THLIM_D) else s.f F.HK_THLIM_D - 1) ∧ d ≤ s.f F.HK_THLIM_A) ∧
  (∃ (s : State), ∃ (a : Nat), a = s.f F.HK_THLIM_A ∧ a < s.f F.HK_THLIM_D ∧ (∃ n, n < 8 ∧ s.armed n = true ∧ s.thLimit * sclkShare (a + 1)
      < s.f (F.SCR_DEMAND_RATIO n) * sclkShare a)) :=
  ⟨⟨59, State.reset, by decide +kernel⟩,
   ⟨7, 0x7fff#16, false, wHkOff, by decide +kernel⟩,
   ⟨11, 0x1234#16, wHkOff, by decide +kernel⟩,
   ⟨44, wHk, by decide +kernel⟩,
   ⟨7, 0x000f#16, true, wHk, ((if (7 : Fin 60).val < 12 then some (0x000f#16 : BitVec 16).toInt else diodeReading (0x000f#16 : BitVec
      16).toInt ((wHk : State).f (F.HK_CH_CFG_PARAM (7 : Fin 60).val)))).get (by decide +kernel), (Option.some_get _).symm, by decide +kernel⟩,
   ⟨27, 0x7fff#16, true, wHk, ((if (27 : Fin 60).val < 12 then some (0x7fff#16 : BitVec 16).toInt else diodeReading (0x7fff#16 : BitVec
      16).toInt ((wHk : State).f (F.HK_CH_CFG_PARAM (27 : Fin 60).val)))).get (by decide +kernel), (Option.some_get _).symm,
      by decide +kernel⟩,
   ⟨28, 0x005#12, true, wHk, by decide +kernel⟩,
   ⟨43, 0x000#12, false, wHk, by decide +kernel⟩,
   ⟨59, State.reset, by decide +kernel⟩,
   ⟨5, wHk, by decide +kernel⟩,
   ⟨wThrotHot, by decide +kernel⟩,
   ⟨State.reset, by decide +kernel⟩,
   ⟨State.reset, _, rfl, by decide +kernel⟩,
   ⟨wThrotHot, _, rfl, by decide +kernel⟩⟩

theorem wit_HousekeepingAndThrottling_2 :
  (∃ (s : State), ∃ (a : Nat), a = s.f F.HK_THLIM_A ∧ a < s.f F.HK_THLIM_D ∧ (∀ n, n < 8 → s.armed n = true → s.f (F.SCR_DEMAND_RATIO n) *
      sclkShare a ≤ s.thLimit * sclkShare (a + 1))) ∧
  (∃ (s : State), ∃ (a : Nat), a = s.f F.HK_THLIM_A ∧ s.f F.HK_THLIM_D ≤ a) :=
  ⟨⟨wThrot, _, rfl, by decide +kernel⟩,
   ⟨State.reset, _, rfl, by decide +kernel⟩⟩

set_option maxRecDepth 100000 in
theorem wit_GongStops :
  (∃ (s : State), s.gong.g3Want = false) ∧
  (∃ (s : State), s.gong.g3Want = true ∧ s.g4 = true) ∧
  (∃ (s : State), s.gong.g3Want = true ∧ s.g4 = false ∧ (∀ q, q < 4 → s.f (F.CHG_CS_STATE_STATE q) = 0) ∧ (∀ a, a < 24 → s.on
      (F.AXS_A_CTL_EN a) = false ∨ s.axisGeared a = true)) ∧
  (∃ (s : State), (s.on F.EVT_GONG_G3 = false ∨ s.f F.EVT_STOP_DECEL = 0 ∨ s.gong.failed = true)) ∧
  (∃ (u : State), ∃ (s : State), ∃ (bound : Int), u = s.advanceTo (s.gong.g3At + s.f F.EVT_STOP_GRACE * 600000) ∧ bound = maxI 0 (s.gong.v0
      * (600000000 * 600000000) - s.f F.EVT_STOP_DECEL * 10 * ((u.time : Int) - s.gong.g3At) * 2 ^ 40) ∧ s.on F.EVT_GONG_G3 = true ∧ s.f
      F.EVT_STOP_DECEL ≠ 0 ∧ s.gong.failed = false ∧ u.webVel * (600000000 * 600000000) ≤ bound) ∧
  (∃ (u : State), ∃ (s : State), ∃ (bound : Int), u = s.advanceTo (s.gong.g3At + s.f F.EVT_STOP_GRACE * 600000) ∧ bound = maxI 0 (s.gong.v0
      * (600000000 * 600000000) - s.f F.EVT_STOP_DECEL * 10 * ((u.time : Int) - s.gong.g3At) * 2 ^ 40) ∧ s.on F.EVT_GONG_G3 = true ∧ s.f
      F.EVT_STOP_DECEL ≠ 0 ∧ s.gong.failed = false ∧ bound < u.webVel * (600000000 * 600000000) ∧ s.f F.EVT_STOP_AXES = 0) ∧
  (∃ (s : State), (s.on F.EVT_GONG_G3 = false ∨ s.gong.stopTimed = true)) ∧
  (∃ (s : State), s.on F.EVT_GONG_G3 = true ∧ s.gong.stopTimed = false) ∧
  (∃ (s : State), (s.on F.EVT_GONG_G3 = false ∨ s.gong.zeroSince = none ∨ s.stopped = false)) ∧
  (∃ (z : Nat), ∃ (s : State), s.on F.EVT_GONG_G3 = true ∧ s.gong.zeroSince = some z ∧ s.stopped = true ∧ s.gong.g3Want = false) ∧
  (∃ (s : State), s.gong.g4Want = false) ∧
  (∃ (s : State), s.gong.g4Want = true) ∧
  (∃ (s : State), s.on F.EVT_GONG_G3 = false) :=
  ⟨⟨State.reset, by decide +kernel⟩,
   ⟨wGong4, by decide +kernel⟩,
   ⟨wG3, by decide +kernel⟩,
   ⟨State.reset, by decide +kernel⟩,
   ⟨_, wG3, _, rfl, rfl, by decide +kernel⟩,
   ⟨_, wG3FastNone, _, rfl, rfl, by decide +kernel⟩,
   ⟨State.reset, by decide +kernel⟩,
   ⟨wG3, by decide +kernel⟩,
   ⟨State.reset, by decide +kernel⟩,
   ⟨7000, wG3Done, by decide +kernel⟩,
   ⟨State.reset, by decide +kernel⟩,
   ⟨wGong4, by decide +kernel⟩,
   ⟨State.reset, by decide +kernel⟩⟩

theorem wit_HostRaisesPendingBitsAndCounts :
  (∃ (e : BitVec 8), e.toNat < 252) ∧
  (∃ (e : BitVec 8), ∃ (s : State), ∃ m, 252 ≤ e.toNat ∧ s.f (F.EVT_E_CFG_LEVEL e.toNat) = 0 ∧ s.f (F.EVT_E_CFG_REPN e.toNat) < 2 ∧ m < 36
      ∧ s.on (F.EVT_E_CFG_BCAST e.toNat) = true ∧ (s.mallet m).role.isSome = true) ∧
  (∃ (e : BitVec 8), evNamed e.toNat = false) ∧
  (∃ (e : BitVec 8), ∃ (v : BitVec 32), ∃ (k : Nat), ∃ (lvl : Nat), ∃ (s : State), k = e.toNat ∧ lvl = bitsOf v.toNat 31 29 ∧ evNamed k =
      true ∧ (lvl = s.f (F.EVT_E_CFG_LEVEL k) ∨ bitOf (s.f (F.EVT_E_CFG_ALLOW k)) lvl = true ∧ s.on F.EVT_LOCK_LOCK = false)) ∧
  (∃ (e : BitVec 8), ∃ (v : BitVec 32), ∃ (k : Nat), ∃ (lvl : Nat), ∃ (s : State), k = e.toNat ∧ lvl = bitsOf v.toNat 31 29 ∧ evNamed k =
      true ∧ lvl ≠ s.f (F.EVT_E_CFG_LEVEL k) ∧ (bitOf (s.f (F.EVT_E_CFG_ALLOW k)) lvl = false ∨ s.on F.EVT_LOCK_LOCK = true)) ∧
  (∃ (off : BitVec 26), isFlam (off.toNat / 4 * 4) = false) ∧
  (∃ (who : Reader), ∃ (off : BitVec 26), ∃ (p : RegDef × Nat × Nat), ∃ (x : Field), ∃ (s : State), regAt off.toNat = some p ∧ isFlam
      off.toNat = true ∧ p.1.fields p.2.1 p.2.2 = [(x, .rc)] ∧ s.reaches who off.toNat = true ∧ s.d3hot = false) ∧
  (∃ (off : BitVec 26), ∃ (len : BitVec 13), ∃ (s : State), isFlam (off.toNat / 4 * 4) = true ∧ s.d3hot = false ∧ (off.toNat % 4 ≠ 0 ∨ len
      ≠ 4)) ∧
  (∃ (bar : Bar), ∃ (off : BitVec 26), ∃ (s : State), (bar ≠ .bar0 ∨ isFlam (off.toNat / 4 * 4) = false) ∧ s.d3hot = true) ∧
  (∃ (bar : Bar), ∃ (off : BitVec 26), ∃ (len : BitVec 13), ∃ (s : State), (bar ≠ .bar0 ∨ isFlam (off.toNat / 4 * 4) = false) ∧ s.d3hot =
      false ∧ (off.toNat % 4 ≠ 0 ∨ len ≠ 4)) ∧
  (∃ (who : Reader), ∃ (x : Fin 60), ∃ (off : BitVec 26), ∃ (s : State), off.toNat = (F.HK_CH_STATUS_TRANS x.val).off ∧ s.reaches who
      off.toNat = true ∧ s.d3hot = false) :=
  ⟨⟨0x01#8, by decide +kernel⟩,
   ⟨0xfc#8, wEventRole, 35, by decide +kernel⟩,
   ⟨0x3D#8, by decide +kernel⟩,
   ⟨0xff#8, 0x00000008#32, _, _, State.reset, rfl, rfl, by decide +kernel⟩,
   ⟨0x21#8, 0x80000000#32, _, _, State.reset, rfl, rfl, by decide +kernel⟩,
   ⟨0x0000000#26, by decide +kernel⟩,
   ⟨Sys2Proof.Reader.mallet 0, 0x010001c#26, (regAt (0x010001c#26 : BitVec 26).toNat).get (by decide +kernel), ⟨1048604, 0, 8, 0⟩,
      State.reset, (Option.some_get _).symm, by decide +kernel⟩,
   ⟨0x010001c#26, 0x0003#13, State.reset, by decide +kernel⟩,
   ⟨.bar4, 0, wD3, by decide +kernel⟩,
   ⟨Sys2Proof.Bar.bar4, 0x01004bc#26, 0x000f#13, State.reset, by decide +kernel⟩,
   ⟨Sys2Proof.Reader.mallet 0, 0, 0x010010c#26, State.reset, by decide +kernel⟩⟩

theorem wit_CounterWindows :
  ∃ (bar : Bar), ∃ (s : State), (bar = .bar0 ∨ s.on F.GCTL_USERPAGE_CNT_EN = true) :=
  ⟨Sys2Proof.Bar.bar4, wCount, by decide +kernel⟩

theorem wit_CountersWrapFreezeAndSnapshot :
  (∃ (i : Fin 56), ∃ (v : BitVec 32), ∃ (s : State), s.on (F.CNT_CFG_EN i.val) = false ∧ bitOf v.toNat 24 = false ∧ bitOf v.toNat 31 =
      false) ∧
  (∃ (i : Fin 56), ∃ (v : BitVec 32), ∃ (s : State), s.on (F.CNT_CFG_EN i.val) = false ∧ bitOf v.toNat 24 = false ∧ bitOf v.toNat 31 = true
      ∧ modeFits (bitsOf v.toNat 30 29) (bitsOf v.toNat 9 0) = true) ∧
  (∃ (i : Fin 56), ∃ (v : BitVec 32), ∃ (s : State), s.on (F.CNT_CFG_EN i.val) = false ∧ bitOf v.toNat 24 = false ∧ bitOf v.toNat 31 = true
      ∧ modeFits (bitsOf v.toNat 30 29) (bitsOf v.toNat 9 0) = false) ∧
  (∃ (i : Fin 56), ∃ (v : BitVec 32), ∃ (s : State), s.on (F.CNT_CFG_EN i.val) = true ∧ bitOf v.toNat 24 = false ∧ i.val < 48 ∧ bitOf
      v.toNat 31 = false) ∧
  (∃ (i : Fin 56), ∃ (v : BitVec 32), ∃ (s : State), s.on (F.CNT_CFG_EN i.val) = true ∧ bitOf v.toNat 24 = false ∧ (48 ≤ i.val ∨ bitOf
      v.toNat 31 = true)) ∧
  (∃ (s : State), s.on F.GCTL_USERPAGE_CNT_EN = false) ∧
  (∃ (i : Fin 56), ∃ (s : State), 2 ^ 48 ≤ (s.ctr i.val).value ∧ bitOf (s.f (if i.val < 32 then F.CNT_OVF_LO else F.CNT_OVF_HI)) (i.val %
      32) = false) ∧
  (∃ (i : Fin 56), ∃ (s : State), 2 ^ 48 ≤ (s.ctr i.val).was ∧ bitOf (s.f (if i.val < 32 then F.CNT_OVF_LO else F.CNT_OVF_HI)) (i.val % 32)
      = false) ∧
  (∃ (i : Fin 56), ∃ (s : State), 2 ^ 48 ≤ (s.ctr i.val).was ∧ bitOf (s.f (if i.val < 32 then F.CNT_OVF_LO else F.CNT_OVF_HI)) (i.val % 32)
      = true) ∧
  (∃ (i : Fin 56), ∃ (s : State), (s.ctr i.val).was < 2 ^ 48 ∧ (s.ctr i.val).value < 2 ^ 48 ∧ s.tickGain 1 i.val = 0) ∧
  (∃ (i : Fin 56), ∃ (u : State), ∃ (s : State), ∃ (g : Nat), g = s.tickGain 1 i.val ∧ u = s.advanceTo (s.time + (2 ^ 48 - (s.ctr
      i.val).value + g - 1) / g) ∧ (s.ctr i.val).was < 2 ^ 48 ∧ (s.ctr i.val).value < 2 ^ 48 ∧ g ≠ 0 ∧ (u.ctr i.val).was < 2 ^ 48 ∧ 2 ^ 48 ≤
      (u.ctr i.val).value) ∧
  (∃ (i : Fin 56), ∃ (s : State), (s.ctr i.val).was < 2 ^ 48 ∧ 2 ^ 48 ≤ (s.ctr i.val).value ∧ bitOf (s.f (if i.val < 32 then F.CNT_OVF_LO
      else F.CNT_OVF_HI)) (i.val % 32) = true ∧ s.on (F.CNT_CFG_SAMPLE i.val) = false) ∧
  (∃ (i : Fin 56), ∃ (s : State), (s.ctr i.val).was < 2 ^ 48 ∧ 2 ^ 48 ≤ (s.ctr i.val).value ∧ bitOf (s.f (if i.val < 32 then F.CNT_OVF_LO
      else F.CNT_OVF_HI)) (i.val % 32) = true ∧ s.on (F.CNT_CFG_SAMPLE i.val) = true) ∧
  (∃ (i : Fin 56), ∃ (s : State), (s.ctr i.val).was < 2 ^ 48 ∧ 2 ^ 48 ≤ (s.ctr i.val).value ∧ s.on (F.CNT_CFG_SAMPLE i.val) = false ∧ bitOf
      (s.f (if i.val < 32 then F.CNT_OVF_LO else F.CNT_OVF_HI)) (i.val % 32) = false) :=
  ⟨⟨33, 0x00000000#32, State.reset, by decide +kernel⟩,
   ⟨33, 0x80000000, State.reset, by decide +kernel⟩,
   ⟨33, 0xE00003FF, State.reset, by decide +kernel⟩,
   ⟨1, 0x000003ff#32, wTick, by decide +kernel⟩,
   ⟨1, 0x80000000#32, wTick, by decide +kernel⟩,
   ⟨State.reset, by decide +kernel⟩,
   ⟨31, wCount, by decide +kernel⟩,
   ⟨2, wWritten, by decide +kernel⟩,
   ⟨40, wWritten, by decide +kernel⟩,
   ⟨47, State.reset, by decide +kernel⟩,
   ⟨0, _, wTick, _, rfl, rfl, by decide +kernel⟩,
   ⟨55, wCount, by decide +kernel⟩,
   ⟨33, wCount, by decide +kernel⟩,
   ⟨47, wCount, by decide +kernel⟩⟩

theorem wit_OtpKeysAndFirmware_1 :
  (∃ (s : State), s.on F.OTP_STATUS_BUSY = true) ∧
  (∃ (g : BitVec 4), ∃ (s : State), s.on F.OTP_STATUS_BUSY = false ∧ bitOf (s.f F.OTP_GSUP_ABSENT) g.toNat = true) ∧
  (∃ (g : BitVec 4), ∃ (r : OtpRead), ∃ (s : State), s.on F.OTP_STATUS_BUSY = false ∧ bitOf (s.f F.OTP_GSUP_ABSENT) g.toNat = false ∧
      r.normal = r.tight) ∧
  (∃ (g : BitVec 4), ∃ (r : OtpRead), ∃ (s : State), s.on F.OTP_STATUS_BUSY = false ∧ bitOf (s.f F.OTP_GSUP_ABSENT) g.toNat = false ∧
      r.normal ≠ r.tight ∧ r.normal2 = r.tight2) ∧
  (∃ (g : BitVec 4), ∃ (r : OtpRead), ∃ (s : State), s.on F.OTP_STATUS_BUSY = false ∧ bitOf (s.f F.OTP_GSUP_ABSENT) g.toNat = false ∧
      r.normal ≠ r.tight ∧ r.normal2 ≠ r.tight2) ∧
  (∃ (g : BitVec 4), ∃ (w : BitVec 5), ∃ (e : Nat), ∃ (d : Nat), ∃ (old : Nat), ∃ (s : State), d = s.f F.OTP_WDATA ∧ old = s.otpWord
      g.toNat w.toNat ∧ e = (if g.toNat < 4 then 2 else if s.keeper.key = false then 3 else if s.anyArmed = true then 6 else if s.otpTemp =
      true then 8 else if s.otpLocked g.toNat = true ∧ (w.toNat ≠ 30 ∨ d % 65536 &&& (0xFFFF - s.otpWord g.toNat 30 % 65536) ≠ 0) then 1 else
      if old &&& d ≠ old then 4 else 0) ∧ s.on F.OTP_STATUS_BUSY = false ∧ e ≠ 0) ∧
  (∃ (g : BitVec 4), ∃ (w : BitVec 5), ∃ (e : Nat), ∃ (d : Nat), ∃ (old : Nat), ∃ (s : State), d = s.f F.OTP_WDATA ∧ old = s.otpWord
      g.toNat w.toNat ∧ e = (if g.toNat < 4 then 2 else if s.keeper.key = false then 3 else if s.anyArmed = true then 6 else if s.otpTemp =
      true then 8 else if s.otpLocked g.toNat = true ∧ (w.toNat ≠ 30 ∨ d % 65536 &&& (0xFFFF - s.otpWord g.toNat 30 % 65536) ≠ 0) then 1 else
      if old &&& d ≠ old then 4 else 0) ∧ s.on F.OTP_STATUS_BUSY = false ∧ e = 0) ∧
  (∃ (s : State), s.keeper.prog = none) ∧
  (∃ (v : BitVec 32), ∃ (i : Nat), ∃ (target : Nat), ∃ (s : State), s.keeper.prog = some (i, target) ∧ v.toNat = target) ∧
  (∃ (v : BitVec 32), ∃ (i : Nat), ∃ (target : Nat), ∃ (n : Nat), ∃ (s : State), n = s.f F.OTP_STATUS_ATTEMPTS + 1 ∧ s.keeper.prog = some
      (i, target) ∧ v.toNat ≠ target ∧ 4 ≤ n) ∧
  (∃ (v : BitVec 32), ∃ (i : Nat), ∃ (target : Nat), ∃ (n : Nat), ∃ (s : State), n = s.f F.OTP_STATUS_ATTEMPTS + 1 ∧ s.keeper.prog = some
      (i, target) ∧ v.toNat ≠ target ∧ n < 4) ∧
  (∃ (host : List (BitVec 8)), ∃ (k : Nat), ∃ (s : State), k = s.f (F.MBX_ARG 0) ∧ s.on F.MBX_STATUS_READY = true ∧ s.f F.MBX_STATUS_MODE =
      1 ∧ isHost (s.argAddr 1) = true ∧ host.length = 97 ∧ 3 < k) ∧
  (∃ (host : List (BitVec 8)), ∃ (k : Nat), ∃ (s : State), k = s.f (F.MBX_ARG 0) ∧ s.on F.MBX_STATUS_READY = true ∧ s.f F.MBX_STATUS_MODE =
      1 ∧ isHost (s.argAddr 1) = true ∧ host.length = 97 ∧ k ≤ 3 ∧ sha384 host ≠ s.keyHash k) ∧
  (∃ (host : List (BitVec 8)), ∃ (k : Nat), ∃ (s : State), k = s.f (F.MBX_ARG 0) ∧ s.on F.MBX_STATUS_READY = true ∧ s.f F.MBX_STATUS_MODE =
      1 ∧ isHost (s.argAddr 1) = true ∧ host.length = 97 ∧ k ≤ 3 ∧ sha384 host = s.keyHash k) :=
  ⟨⟨wOtpBusy, by decide +kernel⟩,
   ⟨0xf#4, wOtp, by decide +kernel⟩,
   ⟨0x4#4, { normal := 0x00000000#32, tight := 0x00000000#32, normal2 := 0x00000000#32, tight2 := 0x00000000#32 }, State.reset,
      by decide +kernel⟩,
   ⟨0x3#4, { normal := 0x00000000#32, tight := 0x00000001#32, normal2 := 0x00000001#32, tight2 := 0x00000001#32 }, State.reset,
      by decide +kernel⟩,
   ⟨0x5#4, { normal := 0x00000000#32, tight := 0x00000001#32, normal2 := 0x00000000#32, tight2 := 0x00000001#32 }, State.reset,
      by decide +kernel⟩,
   ⟨0x5#4, 0x1e#5, _, _, _, State.reset, rfl, rfl, rfl, by decide +kernel⟩,
   ⟨6, 0, _, _, _, wOtp, rfl, rfl, rfl, by decide +kernel⟩,
   ⟨State.reset, by decide +kernel⟩,
   ⟨0x00000005#32, (((wOtpBusy : State).keeper.prog).get (by decide +kernel)).1, (((wOtpBusy : State).keeper.prog).get
      (by decide +kernel)).2, wOtpBusy, by decide +kernel⟩,
   ⟨0x00000001#32, (((wOtpBusy : State).keeper.prog).get (by decide +kernel)).1, (((wOtpBusy : State).keeper.prog).get
      (by decide +kernel)).2, _, wOtpBusy, rfl, by decide +kernel⟩,
   ⟨0x00000001#32, (((wOtpFirst : State).keeper.prog).get (by decide +kernel)).1, (((wOtpFirst : State).keeper.prog).get
      (by decide +kernel)).2, _, wOtpFirst, rfl, by decide +kernel⟩,
   ⟨witKey0, _, wMbxKeyNo, rfl, by decide +kernel⟩,
   ⟨witKey0, _, wMbxKey, rfl, by decide +kernel⟩,
   ⟨witKey1, _, wMbxKey, rfl, by decide +kernel⟩⟩

theorem wit_OtpKeysAndFirmware_2 :
  (∃ (host : List (BitVec 8)), ∃ (s : State), s.on F.MBX_STATUS_READY = true ∧ s.f F.MBX_STATUS_MODE = 1 ∧ isHost (s.argAddr 0) = true ∧
      host.length = 128 ∧ s.revokeRefusal host ≠ 0) ∧
  (∃ (host : List (BitVec 8)), ∃ (blown : Bool), ∃ (s : State), s.on F.MBX_STATUS_READY = true ∧ s.f F.MBX_STATUS_MODE = 1 ∧ isHost
      (s.argAddr 0) = true ∧ host.length = 128 ∧ s.revokeRefusal host = 0 ∧ blown = true) ∧
  (∃ (host : List (BitVec 8)), ∃ (blown : Bool), ∃ (s : State), s.on F.MBX_STATUS_READY = true ∧ s.f F.MBX_STATUS_MODE = 1 ∧ isHost
      (s.argAddr 0) = true ∧ host.length = 128 ∧ s.revokeRefusal host = 0 ∧ blown = false) ∧
  (∃ (fw : Fw), ∃ (s : State), s.on F.MBX_STATUS_READY = true ∧ s.f F.MBX_STATUS_MODE = 1 ∧ isHost (s.argAddr 0) = true ∧ fw.ok = false) ∧
  (∃ (fw : Fw), ∃ (s : State), s.on F.MBX_STATUS_READY = true ∧ s.f F.MBX_STATUS_MODE = 1 ∧ isHost (s.argAddr 0) = true ∧ fw.ok = true ∧
      fw.sec.toNat < s.secFloor) ∧
  (∃ (fw : Fw), ∃ (flashOk : Bool), ∃ (s : State), s.on F.MBX_STATUS_READY = true ∧ s.f F.MBX_STATUS_MODE = 1 ∧ isHost (s.argAddr 0) = true
      ∧ fw.ok = true ∧ s.secFloor ≤ fw.sec.toNat ∧ flashOk = false) ∧
  (∃ (fw : Fw), ∃ (flashOk : Bool), ∃ (s : State), s.on F.MBX_STATUS_READY = true ∧ s.f F.MBX_STATUS_MODE = 1 ∧ isHost (s.argAddr 0) = true
      ∧ fw.ok = true ∧ s.secFloor ≤ fw.sec.toNat ∧ flashOk = true) ∧
  (∃ (s : State), s.on F.MBX_STATUS_READY = true ∧ s.f F.MBX_STATUS_MODE = 1) ∧
  (∃ (s : State), s.on F.MBX_STATUS_READY = true ∧ s.f F.MBX_STATUS_MODE = 1) ∧
  (∃ (s : State), s.f F.MBX_STATUS_MODE = 3 ∧ s.keeper.back = true) ∧
  (∃ (s : State), s.f F.MBX_STATUS_MODE = 3 ∧ s.keeper.back = false) ∧
  (∃ (s : State), s.f F.MBX_STATUS_MODE ≠ 3 ∧ s.keeper.trial = false ∧ (∀ w, s.keeper.wdogAt = some w → w + 327680 ≤ s.calNow)) ∧
  (∃ (s : State), s.f F.MBX_STATUS_MODE ≠ 3 ∧ (s.keeper.trial = true ∨ ∃ w, s.keeper.wdogAt = some w ∧ s.calNow < w + 327680)) :=
  ⟨⟨witAuth, wMbxArmedRole, by decide +kernel⟩,
   ⟨witAuth, true, wMbx, by decide +kernel⟩,
   ⟨witAuth, false, wMbx, by decide +kernel⟩,
   ⟨{ version := 0x00000001#32, sec := 0x00000000#32, ok := false }, wMbx, by decide +kernel⟩,
   ⟨{ version := 0x00000001#32, sec := 0x00000000#32, ok := true }, wFwAgain, by decide +kernel⟩,
   ⟨{ version := 0x00000002#32, sec := 0x00000003#32, ok := true }, false, wMbx, by decide +kernel⟩,
   ⟨{ version := 0x00000002#32, sec := 0x00000003#32, ok := true }, true, wMbx, by decide +kernel⟩,
   ⟨wMbx, by decide +kernel⟩,
   ⟨wMbx, by decide +kernel⟩,
   ⟨wFwBack, by decide +kernel⟩,
   ⟨wMbxClosed, by decide +kernel⟩,
   ⟨State.reset, by decide +kernel⟩,
   ⟨wFwDog, by decide +kernel⟩⟩

theorem wit_MailboxCommands_1 :
  (∃ (host : List (BitVec 8)), ∃ (layout : List (BitVec 8)), ∃ (ecc : Ecc), ∃ (fw : Fw), ∃ (flash : Bool), ∃ (blown : Bool), ∃ (spoilt :
      List (BitVec 32 × List (BitVec 8))), ∃ (copies : Copies), ∃ (c : Instr), ∃ (op : Nat), ∃ (s : State), (c, op) ∈ [(Instr.getInfo false,
      0x01), (.reset, 0x02), (.closeConfig, 0x03), (.setTcomp, 0x04), (.calSet false, 0x05), (.imgLoad host ecc, 0x10), (.imgStage host ecc,
      0x11), (.imgRemove, 0x12), (.pkgLoad host ecc, 0x13), (.fwUpdate fw flash, 0x20), (.fwSwitch, 0x21), (.fwConfirm, 0x22), (.logRead
      spoilt, 0x30), (.lifeRead layout copies, 0x31), (.marginRun false, 0x32), (.keyRevoke host ecc blown, 0x33), (.keySet host ecc, 0x34)] ∧
      s.on F.MBX_STATUS_READY = false) ∧
  (∃ (s : State), s.on F.MBX_STATUS_READY = true ∧ s.f F.MBX_STATUS_MODE = 1 ∧ s.f (F.MBX_ARG 0) = 0x52535421) ∧
  (∃ (s : State), s.on F.MBX_STATUS_READY = true ∧ s.f F.MBX_STATUS_MODE = 1 ∧ s.f (F.MBX_ARG 0) ≠ 0x52535421) ∧
  (∃ (s : State), s.on F.MBX_STATUS_READY = true ∧ s.f F.MBX_STATUS_MODE = 1 ∧ 2 ≤ s.f (F.MBX_ARG 0)) ∧
  (∃ (s : State), s.on F.MBX_STATUS_READY = true ∧ s.f F.MBX_STATUS_MODE = 1 ∧ s.f (F.MBX_ARG 0) = 0) ∧
  (∃ (s : State), s.on F.MBX_STATUS_READY = true ∧ s.f F.MBX_STATUS_MODE = 1 ∧ s.f (F.MBX_ARG 0) = 1) ∧
  (∃ (s : State), s.on F.MBX_STATUS_READY = true ∧ s.f F.MBX_STATUS_MODE = 1 ∧ 32767 < s.f (F.MBX_ARG 2)) ∧
  (∃ (s : State), s.on F.MBX_STATUS_READY = true ∧ s.f F.MBX_STATUS_MODE = 1 ∧ s.f (F.MBX_ARG 2) ≤ 32767) ∧
  (∃ (s : State), s.on F.MBX_STATUS_READY = true ∧ s.f F.MBX_STATUS_MODE = 1 ∧ 61 < s.f (F.MBX_ARG 0)) ∧
  (∃ (s : State), s.on F.MBX_STATUS_READY = true ∧ s.f F.MBX_STATUS_MODE = 1 ∧ s.f (F.MBX_ARG 0) ≤ 61 ∧ s.roleArmed (s.f (F.MBX_ARG 0)) =
      true) ∧
  (∃ (s : State), s.on F.MBX_STATUS_READY = true ∧ s.f F.MBX_STATUS_MODE = 1 ∧ s.f (F.MBX_ARG 0) ≤ 61 ∧ s.roleArmed (s.f (F.MBX_ARG 0)) =
      false) ∧
  (∃ (host : List (BitVec 8)), ∃ (m : Nat), ∃ (len : Nat), ∃ (s : State), len = s.f (F.MBX_ARG 2) ∧ s.on F.MBX_STATUS_READY = true ∧ s.f
      F.MBX_STATUS_MODE = 1 ∧ isHost (s.argAddr 0) = true ∧ host.length = len ∧ 160 ≤ len ∧ len ≤ 84128 ∧ imgHeaderOk host len = true ∧
      s.signed (imgKey host) (host.take (len - 96)) (host.drop (len - 96)) = true ∧ s.bindingsOk host = true ∧ (s.f (F.MBX_ARG 3) ≤ 35 ∨ s.f
      (F.MBX_ARG 3) = 63) ∧ s.roleArmed (imgRole host) = false ∧ s.mallet? host (s.f (F.MBX_ARG 3)) 62 = some m) ∧
  (∃ (host : List (BitVec 8)), ∃ (m : Nat), ∃ (len : Nat), ∃ (s : State), len = s.f (F.MBX_ARG 2) ∧ s.on F.MBX_STATUS_READY = true ∧ s.f
      F.MBX_STATUS_MODE = 1 ∧ isHost (s.argAddr 0) = true ∧ host.length = len ∧ 160 ≤ len ∧ len ≤ 84128 ∧ imgHeaderOk host len = true ∧
      s.signed (imgKey host) (host.take (len - 96)) (host.drop (len - 96)) = true ∧ s.bindingsOk host = true ∧ s.mallet? host 63 (imgRole
      host) = some m) ∧
  (∃ (host : List (BitVec 8)), ∃ (len : Nat), ∃ (s : State), len = s.f (F.MBX_ARG 2) ∧ s.on F.MBX_STATUS_READY = true ∧ s.f
      F.MBX_STATUS_MODE = 1 ∧ isHost (s.argAddr 0) = true ∧ host.length = len ∧ 164 ≤ len ∧ s.f (F.MBX_ARG 3) < 8 ∧ numAt host 12 4 + 164 =
      len ∧ s.signed (numAt host (len - 4) 4) (host.take (len - 100)) ((host.drop (len - 100)).take 96) = false) :=
  ⟨⟨[], [], .clean, ⟨1, 0, true⟩, true, true, [], .good, _, _, wMbxClosed, List.mem_cons_self, by decide +kernel⟩,
   ⟨wMbxReset, by decide +kernel⟩,
   ⟨wMbx, by decide +kernel⟩,
   ⟨wMbxReset, by decide +kernel⟩,
   ⟨wMbx, by decide +kernel⟩,
   ⟨wMbxKey, by decide +kernel⟩,
   ⟨wMbxReset, by decide +kernel⟩,
   ⟨wMbx, by decide +kernel⟩,
   ⟨wMbxReset, by decide +kernel⟩,
   ⟨wMbxArmedRole, by decide +kernel⟩,
   ⟨wMbx, by decide +kernel⟩,
   ⟨witSigned, 0, _, wMbx, rfl, by decide +kernel⟩,
   ⟨witSigned, 0, _, wMbx, rfl, by decide +kernel⟩,
   ⟨witSigned, _, wMbx, rfl, by decide +kernel⟩⟩

theorem wit_MailboxCommands_2 :
  (∃ (host : List (BitVec 8)), ∃ (len : Nat), ∃ (s : State), len = s.f (F.MBX_ARG 2) ∧ s.on F.MBX_STATUS_READY = true ∧ s.f
      F.MBX_STATUS_MODE = 1 ∧ isHost (s.argAddr 0) = true ∧ host.length = len ∧ 164 ≤ len ∧ s.f (F.MBX_ARG 3) < 8 ∧ numAt host 12 4 + 164 =
      len ∧ s.signed (numAt host (len - 4) 4) (host.take (len - 100)) ((host.drop (len - 100)).take 96) = true) ∧
  (∃ (id : Nat), ∃ (s : State), id = s.f (F.MBX_ARG 2) ∧ s.on F.MBX_STATUS_READY = true ∧ s.f F.MBX_STATUS_MODE = 1 ∧ isHost (s.argAddr 0)
      = true ∧ (id = 0 ∨ 11 < id)) ∧
  (∃ (id : Nat), ∃ (s : State), id = s.f (F.MBX_ARG 2) ∧ s.on F.MBX_STATUS_READY = true ∧ s.f F.MBX_STATUS_MODE = 1 ∧ isHost (s.argAddr 0)
      = true ∧ 1 ≤ id ∧ id ≤ 8) ∧
  (∃ (s : State), s.on F.MBX_STATUS_READY = true ∧ s.f F.MBX_STATUS_MODE = 1 ∧ isHost (s.argAddr 0) = true ∧ s.f (F.MBX_ARG 3) = 0x70001 ∧
      s.log = []) ∧
  (∃ (s : State), s.on F.MBX_STATUS_READY = true ∧ s.f F.MBX_STATUS_MODE = 1 ∧ isHost (s.argAddr 0) = true ∧ 4096 < s.f (F.MBX_ARG 3) %
      65536) ∧
  (∃ (id : Nat), ∃ (s : State), ∃ (r : LogRec), id = s.f (F.MBX_ARG 2) ∧ s.on F.MBX_STATUS_READY = true ∧ s.f F.MBX_STATUS_MODE = 1 ∧
      isHost (s.argAddr 0) = true ∧ s.f (F.MBX_ARG 3) = 0x70001 ∧ s.log = [r] ∧ id ≤ r.seq ∧ crc16 (r.bytes.take 30) = numAt r.bytes 30 2) ∧
  (∃ (s : State), s.f F.MBX_STATUS_MODE = 3) ∧
  (∃ (s : State), s.f F.MBX_STATUS_MODE ≠ 3 ∧ s.anyArmed = true) ∧
  (∃ (s : State), s.f F.PWR_VCORE < s.keeper.vplan ∧ s.keeper.vplan < 65536) ∧
  (∃ (s : State), s.keeper.vplan ≤ s.f F.PWR_VCORE ∧ s.anyArmed = true) ∧
  (∃ (s : State), s.keeper.vplan ≤ s.f F.PWR_VCORE ∧ s.anyArmed = false) :=
  ⟨⟨witPkg, _, wMbx, rfl, by decide +kernel⟩,
   ⟨_, wMbx, rfl, by decide +kernel⟩,
   ⟨_, wMbxRecord, rfl, by decide +kernel⟩,
   ⟨wMbxKey, by decide +kernel⟩,
   ⟨wMbxKeyNo, by decide +kernel⟩,
   ⟨_, wMbxRecord, ((wMbxRecord : State).log).head (by decide +kernel), rfl, by decide +kernel⟩,
   ⟨wMbxClosed, by decide +kernel⟩,
   ⟨(witArm 7 wMbx), by decide +kernel⟩,
   ⟨wSupply, by decide +kernel⟩,
   ⟨wMbxArmedRole, by decide +kernel⟩,
   ⟨State.reset, by decide +kernel⟩⟩

theorem wit_PowerDomainsResetAndSupplies_1 :
  (∃ (s : State), s.on F.PWR_STATUS_BUSY = true) ∧
  (∃ (req : BitVec 12), ∃ (s : State), s.on F.PWR_STATUS_BUSY = false ∧ (bitOf req.toNat 0 = false ∨ bitOf req.toNat 8 = false)) ∧
  (∃ (req : BitVec 12), ∃ (up : Nat), ∃ (down : Nat), ∃ (left : Nat), ∃ (d : Nat), ∃ (s : State), up = req.toNat &&& (0xFFF - s.f
      F.PWR_DOMREQ) ∧ down = s.f F.PWR_DOMREQ &&& (0xFFF - req.toNat) ∧ left = ((s.f F.PWR_DOMSTAT_ON &&& (0xFFF - down)) ||| up) ∧ s.on
      F.PWR_STATUS_BUSY = false ∧ bitOf req.toNat 0 = true ∧ bitOf req.toNat 8 = true ∧ d < 12 ∧ (bitOf up d = true ∨ bitOf left d = true ∧
      Dom.requires d &&& down ≠ 0) ∧ Dom.requires d &&& left ≠ Dom.requires d) ∧
  (∃ (req : BitVec 12), ∃ (up : Nat), ∃ (down : Nat), ∃ (left : Nat), ∃ (s : State), ∃ (d : Nat), up = req.toNat &&& (0xFFF - s.f
      F.PWR_DOMREQ) ∧ down = s.f F.PWR_DOMREQ &&& (0xFFF - req.toNat) ∧ left = ((s.f F.PWR_DOMSTAT_ON &&& (0xFFF - down)) ||| up) ∧ s.on
      F.PWR_STATUS_BUSY = false ∧ bitOf req.toNat 0 = true ∧ bitOf req.toNat 8 = true ∧ (∀ d, d < 12 → (bitOf up d = true ∨ bitOf left d =
      true ∧ Dom.requires d &&& down ≠ 0) → Dom.requires d &&& left = Dom.requires d) ∧ d < 12 ∧ bitOf down d = true ∧ s.powered d = true ∧
      s.inUse d = true) ∧
  (∃ (req : BitVec 12), ∃ (up : Nat), ∃ (down : Nat), ∃ (left : Nat), ∃ (s : State), up = req.toNat &&& (0xFFF - s.f F.PWR_DOMREQ) ∧ down =
      s.f F.PWR_DOMREQ &&& (0xFFF - req.toNat) ∧ left = ((s.f F.PWR_DOMSTAT_ON &&& (0xFFF - down)) ||| up) ∧ s.on F.PWR_STATUS_BUSY = false ∧
      bitOf req.toNat 0 = true ∧ bitOf req.toNat 8 = true ∧ (∀ d, d < 12 → (bitOf up d = true ∨ bitOf left d = true ∧ Dom.requires d &&& down
      ≠ 0) → Dom.requires d &&& left = Dom.requires d) ∧ (∀ d, d < 12 → bitOf down d = true → s.powered d = true → s.inUse d = false)) ∧
  (∃ (d : Fin 12), ∃ (s : State), (s.on F.PWR_STATUS_BUSY = false ∨ s.nextUp ≠ some d.val)) ∧
  (∃ (d : Fin 12), ∃ (s : State), s.on F.PWR_STATUS_BUSY = true ∧ s.nextUp = some d.val) ∧
  (∃ (d : Fin 12), ∃ (s : State), s.powered d.val = false) ∧
  (∃ (d : Fin 12), ∃ (s : State), s.powered d.val = true ∧ d.val ≠ 11) ∧
  (∃ (d : Fin 12), ∃ (s : State), s.powered d.val = true ∧ d.val = 11) ∧
  (∃ (s : State), s.anyArmed = true) ∧
  (∃ (s : State), s.anyArmed = false ∧ s.on F.PWR_STATUS_BUSY = true) ∧
  (∃ (s : State), s.anyArmed = false ∧ s.on F.PWR_STATUS_BUSY = false) ∧
  (∃ (s : State), s.keeper.supplied = true) :=
  ⟨⟨wDomBusy, by decide +kernel⟩,
   ⟨0x001#12, State.reset, by decide +kernel⟩,
   ⟨0x103#12, _, _, _, 1, State.reset, rfl, rfl, rfl, by decide +kernel⟩,
   ⟨0x901#12, _, _, _, wDomUse, 7, rfl, rfl, rfl, by decide +kernel⟩,
   ⟨0x903#12, _, _, _, State.reset, rfl, rfl, rfl, by decide +kernel⟩,
   ⟨6, State.reset, by decide +kernel⟩,
   ⟨2, wDomBusy, by decide +kernel⟩,
   ⟨6, State.reset, by decide +kernel⟩,
   ⟨1, wDom, by decide +kernel⟩,
   ⟨11, wDom, by decide +kernel⟩,
   ⟨wDomUse, by decide +kernel⟩,
   ⟨wDomBusy, by decide +kernel⟩,
   ⟨State.reset, by decide +kernel⟩,
   ⟨State.reset, by decide +kernel⟩⟩

theorem wit_PowerDomainsResetAndSupplies_2 :
  (∃ (kept : Bool), ∃ (s : State), s.keeper.supplied = false ∧ kept = true) ∧
  (∃ (kept : Bool), ∃ (s : State), s.keeper.supplied = false ∧ kept = false) ∧
  (∃ (samples : List Bool), ∃ (s : State), (lowRun 8 samples = false ∨ s.keeper.supplied = false ∨ s.keeper.released = false ∨
      s.keeper.resetT0.isSome = true)) ∧
  (∃ (s : State), s.keeper.supplied = true ∧ s.keeper.released = true ∧ s.keeper.resetT0 = none) ∧
  (∃ (s : State), (s.keeper.resetT0.isSome = true ∨ s.keeper.accepted = false ∧ s.keeper.resetAt = none)) ∧
  (∃ (u : State), ∃ (s : State), ∃ (cause : Nat), s.keeper.resetT0 = none ∧ (s.keeper.accepted = true ∧ u = s ∧ cause = 2 ∨
      s.keeper.accepted = false ∧ (∃ w, s.keeper.resetAt = some w ∧ u = s.advanceTo w) ∧ cause = 4)) ∧
  (∃ (s : State), s.keeper.resetT0 = none) ∧
  (∃ (w : Nat), ∃ (s : State), s.keeper.resetT0 = some w) ∧
  (∃ (s : State), (s.keeper.supplied = false ∨ s.keeper.released = true)) ∧
  (∃ (s : State), s.keeper.supplied = true ∧ s.keeper.released = false ∧ s.on F.MBX_CMD_GO = false ∧ s.bootMode = 2) ∧
  (∃ (s : State), ∃ n, s.keeper.supplied = true ∧ s.keeper.released = false ∧ s.on F.MBX_CMD_GO = false ∧ n < 2 ∧ s.bootMode ≠ 2 ∧
      s.bootSlot = some n) ∧
  (∃ (s : State), s.keeper.supplied = true ∧ s.keeper.released = false ∧ s.on F.MBX_CMD_GO = false ∧ s.bootMode ≠ 2 ∧ s.bootSlot = none) ∧
  (∃ (mv : BitVec 16), mv.toNat < 1900) ∧
  (∃ (mv : BitVec 16), 1900 ≤ mv.toNat) :=
  ⟨⟨true, wUnsupplied, by decide +kernel⟩,
   ⟨false, wUnsupplied, by decide +kernel⟩,
   ⟨[], State.reset, by decide +kernel⟩,
   ⟨wDom, by decide +kernel⟩,
   ⟨State.reset, by decide +kernel⟩,
   ⟨wAccepted, wAccepted, 2, by decide +kernel⟩,
   ⟨State.reset, by decide +kernel⟩,
   ⟨((wIsolate : State).keeper.resetT0).get (by decide +kernel), wIsolate, (Option.some_get _).symm⟩,
   ⟨wDom, by decide +kernel⟩,
   ⟨wUnreleasedBad, by decide +kernel⟩,
   ⟨wUnreleasedSlot, 1, by decide +kernel⟩,
   ⟨wUnreleasedNone, by decide +kernel⟩,
   ⟨0x03e8#16, by decide +kernel⟩,
   ⟨0xffff#16, by decide +kernel⟩⟩

theorem wit_OffsetWrittenWhileUnarmed :
  (∃ (who : Reader), ∃ (n : Fin 8), ∃ (x : Field), ∃ (off : BitVec 26), ∃ (s : State), (x = F.WEB_ST_OFS_LO n.val ∨ x = F.WEB_ST_OFS_HI
      n.val) ∧ off.toNat = x.off ∧ s.reaches who x.off = true ∧ s.armed n.val = false) ∧
  (∃ (who : Reader), ∃ (n : Fin 8), ∃ (x : Field), ∃ (off : BitVec 26), ∃ (s : State), (x = F.WEB_ST_OFS_LO n.val ∨ x = F.WEB_ST_OFS_HI
      n.val) ∧ off.toNat = x.off ∧ s.reaches who x.off = true ∧ s.armed n.val = true) ∧
  (∃ (who : Reader), ∃ (n : Fin 8), ∃ (x : Field), ∃ (off : BitVec 26), ∃ (s : State), ∃ (a : BitVec 26), ∃ (len : BitVec 13), (x =
      F.WEB_ST_OFS_LO n.val ∨ x = F.WEB_ST_OFS_HI n.val) ∧ off.toNat = x.off ∧ s.reaches who x.off = true ∧ (a.toNat % 4 ≠ 0 ∨ len ≠ 4)) ∧
  (∃ (s : State), s.d3hot = true) :=
  ⟨⟨.host, 7, F.WEB_ST_OFS_HI 7, BitVec.ofNat 26 (F.WEB_ST_OFS_HI 7).off, wit [(F.MBX_STATUS_READY, 1), (F.MBX_STATUS_MODE, 1)],
      by decide +kernel⟩,
   ⟨.host, 7, F.WEB_ST_OFS_HI 7, BitVec.ofNat 26 (F.WEB_ST_OFS_HI 7).off, wOfs, by decide +kernel⟩,
   ⟨.host, 7, F.WEB_ST_OFS_HI 7, BitVec.ofNat 26 (F.WEB_ST_OFS_HI 7).off, wOfs, 6, 4, by decide +kernel⟩,
   ⟨wOfsCold, by decide +kernel⟩⟩

theorem wit_ArmAndDisarm_1 :
  (∃ (mask : BitVec 8), ∃ (s : State), (∀ n, n < 8 → mask.getLsbD n = true → (s.station n).phase ≠ .unarmed)) ∧
  (∃ (n : Fin 8), ∃ (mask : BitVec 8), ∃ (kinds : BitVec 8), ∃ (s : State), (∀ k, k < 8 → mask.getLsbD k = decide (k = n.val)) ∧ (s.station
      n.val).phase = .unarmed ∧ kinds.getLsbD n.val = true ∧ 4 ≤ n.val) ∧
  (∃ (n : Fin 8), ∃ (mask : BitVec 8), ∃ (kinds : BitVec 8), ∃ (s : State), ∃ (ep : Bool), ∃ d, findFirst (fun d => !s.powered d &&
      !s.downNow d) (armDomains n.val ep) = some d ∧ (∀ k, k < 8 → mask.getLsbD k = decide (k = n.val)) ∧ (s.station n.val).phase = .unarmed ∧
      kinds.getLsbD n.val = ep ∧ (ep = false ∨ n.val < 4)) ∧
  (∃ (n : Fin 8), ∃ (mask : BitVec 8), ∃ (kinds : BitVec 8), ∃ (s : State), ∃ (ep : Bool), ∃ x, ep = true ∧ s.resourceTaken n.val = some x
      ∧ (∀ k, k < 8 → mask.getLsbD k = decide (k = n.val)) ∧ (s.station n.val).phase = .unarmed ∧ kinds.getLsbD n.val = ep ∧ (ep = false ∨
      n.val < 4) ∧ findFirst (fun d => !s.powered d && !s.downNow d) (armDomains n.val ep) = none) ∧
  (∃ (n : Fin 8), ∃ (mask : BitVec 8), ∃ (kinds : BitVec 8), ∃ (s : State), ∃ (ep : Bool), ∃ (c : Nat), c = (if s.observing = false then 4
      else if s.hasRole n.val = false then 5 else if s.on F.HK_STATUS_MODE = false then 9 else if s.on F.EVT_GONG_G3 = true ∨ s.g4 = true then
      7 else if s.f F.MBX_STATUS_MODE = 2 then 8 else 0) ∧ (∀ k, k < 8 → mask.getLsbD k = decide (k = n.val)) ∧ (s.station n.val).phase =
      .unarmed ∧ kinds.getLsbD n.val = ep ∧ (ep = false ∨ n.val < 4) ∧ findFirst (fun d => !s.powered d && !s.downNow d) (armDomains n.val ep)
      = none ∧ (ep = false ∨ s.resourceTaken n.val = none) ∧ c ≠ 0) ∧
  (∃ (n : Fin 8), ∃ (mask : BitVec 8), ∃ (kinds : BitVec 8), ∃ (s : State), ∃ (ep : Bool), ∃ (c : Nat), ∃ d, c = (if s.observing = false
      then 4 else if s.hasRole n.val = false then 5 else if s.on F.HK_STATUS_MODE = false then 9 else if s.on F.EVT_GONG_G3 = true ∨ s.g4 =
      true then 7 else if s.f F.MBX_STATUS_MODE = 2 then 8 else 0) ∧ findFirst (fun d => s.downNow d) (armDomains n.val ep) = some d ∧ (∀ k, k
      < 8 → mask.getLsbD k = decide (k = n.val)) ∧ (s.station n.val).phase = .unarmed ∧ kinds.getLsbD n.val = ep ∧ (ep = false ∨ n.val < 4) ∧
      findFirst (fun d => !s.powered d && !s.downNow d) (armDomains n.val ep) = none ∧ (ep = false ∨ s.resourceTaken n.val = none) ∧ c = 0) ∧
  (∃ (n : Fin 8), ∃ (mask : BitVec 8), ∃ (kinds : BitVec 8), ∃ (s : State), ∃ (ep : Bool), ∃ (c : Nat), c = (if s.observing = false then 4
      else if s.hasRole n.val = false then 5 else if s.on F.HK_STATUS_MODE = false then 9 else if s.on F.EVT_GONG_G3 = true ∨ s.g4 = true then
      7 else if s.f F.MBX_STATUS_MODE = 2 then 8 else 0) ∧ ep = false ∧ (∀ k, k < 8 → mask.getLsbD k = decide (k = n.val)) ∧ (s.station
      n.val).phase = .unarmed ∧ kinds.getLsbD n.val = ep ∧ (ep = false ∨ n.val < 4) ∧ findFirst (fun d => !s.powered d && !s.downNow d)
      (armDomains n.val ep) = none ∧ (ep = false ∨ s.resourceTaken n.val = none) ∧ c = 0 ∧ findFirst (fun d => s.downNow d) (armDomains n.val
      ep) = none) ∧
  (∃ (n : Fin 8), ∃ (mask : BitVec 8), ∃ (kinds : BitVec 8), ∃ (s : State), ∃ (ep : Bool), ∃ (c : Nat), c = (if s.observing = false then 4
      else if s.hasRole n.val = false then 5 else if s.on F.HK_STATUS_MODE = false then 9 else if s.on F.EVT_GONG_G3 = true ∨ s.g4 = true then
      7 else if s.f F.MBX_STATUS_MODE = 2 then 8 else 0) ∧ ep = true ∧ (∀ k, k < 8 → mask.getLsbD k = decide (k = n.val)) ∧ (s.station
      n.val).phase = .unarmed ∧ kinds.getLsbD n.val = ep ∧ (ep = false ∨ n.val < 4) ∧ findFirst (fun d => !s.powered d && !s.downNow d)
      (armDomains n.val ep) = none ∧ (ep = false ∨ s.resourceTaken n.val = none) ∧ c = 0 ∧ findFirst (fun d => s.downNow d) (armDomains n.val
      ep) = none) ∧
  (∃ (n : Fin 8), ∃ (s : State), (s.g4 = true ∨ s.on (F.SCR_CFG_KIND n.val) = true ∨ (s.station n.val).phase = .unarmed ∨ (s.station
      n.val).phase = .armed)) ∧
  (∃ (n : Fin 8), ∃ (s : State), s.g4 = false ∧ s.on (F.SCR_CFG_KIND n.val) = false ∧ (s.station n.val).phase = .arming 1 ∧ (∀ l ∈
      s.lanesOf n.val, s.on (F.INK_L_STATUS_UP l) = true)) ∧
  (∃ (n : Fin 8), ∃ (s : State), s.g4 = false ∧ s.on (F.SCR_CFG_KIND n.val) = false ∧ (s.station n.val).phase = .arming 2 ∧ (∀ l ∈
      s.lanesOf n.val, s.assigned l = true ∧ s.delayOk l = true)) ∧
  (∃ (n : Fin 8), ∃ (s : State), s.g4 = false ∧ s.on (F.SCR_CFG_KIND n.val) = false ∧ (s.station n.val).phase = .arming 3 ∧ (∀ l ∈
      s.lanesOf n.val, s.on (F.INK_L_STATUS_TBLOCK l) = true)) ∧
  (∃ (n : Fin 8), ∃ (s : State), ∃ l, findFirst (fun l => !s.on (F.INK_L_STATUS_TBLOCK l)) (s.lanesOf n.val) = some l ∧ s.g4 = false ∧ s.on
      (F.SCR_CFG_KIND n.val) = false ∧ (s.station n.val).phase = .arming 3) ∧
  (∃ (n : Fin 8), ∃ (s : State), s.g4 = false ∧ s.on (F.SCR_CFG_KIND n.val) = false ∧ (s.station n.val).phase = .arming 4) :=
  ⟨⟨0x80#8, wReadyArmed, by decide +kernel⟩,
   ⟨4, 0x10#8, 0x10#8, State.reset, by decide +kernel⟩,
   ⟨0, 0x01#8, 0x00#8, State.reset, false, (findFirst (fun d => !(State.reset : State).powered d && !(State.reset : State).downNow d)
      (armDomains (0 : Fin 8).val (false : Bool))).get (by decide +kernel), (Option.some_get _).symm, by decide +kernel⟩,
   ⟨3, 0x08#8, 0xff#8, wReadyTaken, _, ((wReadyTaken : State).resourceTaken (3 : Fin 8).val).get (by decide +kernel), rfl, (Option.some_get
      _).symm, by decide +kernel⟩,
   ⟨0, 0x01#8, 0x04#8, wReadyNot, false, _, rfl, by decide +kernel⟩,
   ⟨0, 0x01#8, 0x04#8, wReadyDown, false, _, (findFirst (fun d => (wReadyDown : State).downNow d) (armDomains (0 : Fin 8).val (false :
      Bool))).get (by decide +kernel), rfl, (Option.some_get _).symm, by decide +kernel⟩,
   ⟨0, 0x01#8, 0x04#8, wReady, _, _, rfl, rfl, by decide +kernel⟩,
   ⟨0, 0x01#8, 0x01#8, wReady, _, _, rfl, rfl, by decide +kernel⟩,
   ⟨4, State.reset, by decide +kernel⟩,
   ⟨0, wInkArm, by decide +kernel⟩,
   ⟨1, wInkArm, by decide +kernel⟩,
   ⟨2, wInkArm, by decide +kernel⟩,
   ⟨2, wInkLate, (findFirst (fun l => !(wInkLate : State).on (F.INK_L_STATUS_TBLOCK l)) ((wInkLate : State).lanesOf (2 : Fin 8).val)).get
      (by decide +kernel), (Option.some_get _).symm, by decide +kernel⟩,
   ⟨3, wInkArm, by decide +kernel⟩⟩

theorem wit_ArmAndDisarm_2 :
  (∃ (n : Fin 8), ∃ (s : State), s.g4 = false ∧ s.on (F.SCR_CFG_KIND n.val) = false ∧ (s.station n.val).phase = .arming 5) ∧
  (∃ (n : Fin 8), ∃ (s : State), ∃ (mem : List (List (BitVec 8))), s.g4 = false ∧ s.on (F.SCR_CFG_KIND n.val) = false ∧ (s.station
      n.val).phase = .arming 5 ∧ (s.takeHeads n.val (s.headsOn n.val) mem).2 = none) ∧
  (∃ (n : Fin 8), ∃ (s : State), s.g4 = false ∧ s.on (F.SCR_CFG_KIND n.val) = false ∧ (s.station n.val).phase = .arming 6 ∧ s.wavesOut
      n.val = false ∧ (s.setF (F.WEB_ST_FLIM_LIMIT n.val) (s.inkLimit n.val)).badHead n.val = none) ∧
  (∃ (n : Fin 4), ∃ (s : State), (s.g4 = true ∨ s.on (F.SCR_CFG_KIND n.val) = false ∨ (s.station n.val).phase = .unarmed ∨ (s.station
      n.val).phase = .armed)) ∧
  (∃ (n : Fin 4), ∃ (s : State), s.g4 = false ∧ s.on (F.SCR_CFG_KIND n.val) = true ∧ (s.station n.val).phase = .arming 2 ∧ s.on
      (F.CLK_MDLL_STATUS_LOCKED n.val) = true) ∧
  (∃ (n : Fin 4), ∃ (s : State), s.g4 = false ∧ s.on (F.SCR_CFG_KIND n.val) = true ∧ (s.station n.val).phase = .arming 2 ∧ s.on
      (F.CLK_MDLL_STATUS_LOCKED n.val) = false) ∧
  (∃ (n : Fin 4), ∃ (s : State), s.g4 = false ∧ s.on (F.SCR_CFG_KIND n.val) = true ∧ (s.station n.val).phase = .arming 9 ∧ s.hvAtSet (4 *
      n.val + 2) = true) ∧
  (∃ (n : Fin 8), ∃ (s : State), (s.on (F.SCR_CFG_KIND n.val) = true ∨ (s.station n.val).phase = .unarmed)) ∧
  (∃ (n : Fin 8), ∃ (s : State), s.on (F.SCR_CFG_KIND n.val) = false ∧ (s.station n.val).phase = .armed) ∧
  (∃ (n : Fin 8), ∃ (k : Nat), ∃ (s : State), s.on (F.SCR_CFG_KIND n.val) = false ∧ (s.station n.val).phase = .arming k) ∧
  (∃ (n : Fin 8), ∃ (s : State), ((s.inkSt n.val).capDue = none ∨ (s.station n.val).phase = .armed)) ∧
  (∃ (n : Fin 8), ∃ (k : Nat), ∃ (s : State), (s.inkSt n.val).capDue.isSome = true ∧ (s.station n.val).phase = .disarming k) ∧
  (∃ (n : Fin 4), ∃ (s : State), (s.on (F.SCR_CFG_KIND n.val) = false ∨ (s.station n.val).phase = .unarmed)) ∧
  (∃ (n : Fin 4), ∃ (s : State), s.on (F.SCR_CFG_KIND n.val) = true ∧ (s.station n.val).phase = .armed) :=
  ⟨⟨4, wInkArm, by decide +kernel⟩,
   ⟨4, wInkArm, [witHead], by decide +kernel⟩,
   ⟨5, wInkArm, by decide +kernel⟩,
   ⟨1, State.reset, by decide +kernel⟩,
   ⟨0, wEpArm, by decide +kernel⟩,
   ⟨1, wEpArm, by decide +kernel⟩,
   ⟨2, wEpArm, by decide +kernel⟩,
   ⟨0, State.reset, by decide +kernel⟩,
   ⟨1, wReadyArmed, by decide +kernel⟩,
   ⟨0, 1, wInkArm, by decide +kernel⟩,
   ⟨1, State.reset, by decide +kernel⟩,
   ⟨7, 1, wInkArm, by decide +kernel⟩,
   ⟨1, State.reset, by decide +kernel⟩,
   ⟨3, wEpArm, by decide +kernel⟩⟩

theorem wit_ArmAndDisarm_3 :
  (∃ (n : Fin 4), ∃ (k : Nat), ∃ (s : State), s.on (F.SCR_CFG_KIND n.val) = true ∧ 4 ≤ k ∧ (s.station n.val).phase = .arming k) ∧
  (∃ (n : Fin 4), ∃ (k : Nat), ∃ (s : State), s.on (F.SCR_CFG_KIND n.val) = true ∧ k < 4 ∧ (s.station n.val).phase = .arming k ∧ k = 3) ∧
  (∃ (n : Fin 4), ∃ (s : State), (s.on (F.SCR_CFG_KIND n.val) = false ∨ (s.station n.val).phase = .armed ∨ (s.hvCh (4 * n.val + 3)).down =
      false)) ∧
  (∃ (n : Fin 4), ∃ (k : Nat), ∃ (s : State), s.on (F.SCR_CFG_KIND n.val) = true ∧ (s.station n.val).phase = .disarming k ∧ (s.hvCh (4 *
      n.val + 3)).down = true ∧ (∀ i, i < 4 → s.f (F.EPS_HV_STATUS_OUT (4 * n.val + i)) = 0 ∧ (s.fs (F.EPS_HV_MON (4 * n.val + i))).natAbs ≤
      s.f (F.EPS_HV_CFG_TOL (4 * n.val + i)) * 16)) :=
  ⟨⟨1, 4, wEpDis, by decide +kernel⟩,
   ⟨2, 3, wEpDis, by decide +kernel⟩,
   ⟨2, State.reset, by decide +kernel⟩,
   ⟨0, 1, wEpDis, by decide +kernel⟩⟩

theorem wit_MalletArithmetic_1 :
  (∃ (x : Fetch), ∃ (m : Nat), ∃ (s : State), m = x.m.val ∧ s.canRun m = true ∧ x.ecc = .clean) ∧
  (∃ (x : Fetch), ∃ (m : Nat), ∃ (s : State), m = x.m.val ∧ s.canRun m = true ∧ x.ecc = .clean) ∧
  (∃ (x : Fetch), ∃ (kd : BitVec 4), ∃ (ka : BitVec 4), ∃ (kb : BitVec 4), ∃ (m : Nat), ∃ (a : Word), ∃ (b : Word), ∃ (s : State), ∃ (p :
      Mallet), ∃ (c : Instr), ∃ (r : Word), m = x.m.val ∧ p = s.mallet m ∧ a = p.kr ka.toNat ∧ b = p.kr kb.toNat ∧ (c, r) ∈ [(Instr.and x kd
      ka kb, a &&& b), (.or x kd ka kb, a ||| b), (.xor x kd ka kb, a ^^^ b)] ∧ s.canRun m = true ∧ x.ecc = .clean) ∧
  (∃ (x : Fetch), ∃ (kd : BitVec 4), ∃ (ka : BitVec 4), ∃ (kb : BitVec 4), ∃ (m : Nat), ∃ (a : Word), ∃ (b : Word), ∃ (s : State), ∃ (p :
      Mallet), ∃ (c : Instr), ∃ (n : Nat), ∃ (r : Word), ∃ (i : Nat), m = x.m.val ∧ p = s.mallet m ∧ a = p.kr ka.toNat ∧ b = p.kr kb.toNat ∧ n
      = b.toNat % 32 ∧ (c, r, i) ∈ [(Instr.shl x kd ka kb, a <<< n, 32 - n), (.shr x kd ka kb, a >>> n, n - 1), (.sar x kd ka kb,
      a.sshiftRight n, n - 1)] ∧ s.canRun m = true ∧ x.ecc = .clean) ∧
  (∃ (x : Fetch), ∃ (ka : BitVec 4), ∃ (m : Nat), ∃ (a : Word), ∃ (s : State), ∃ (p : Mallet), ∃ (n : Nat), ∃ (op : Nat), ∃ (r : Word), ∃
      (i : Nat), m = x.m.val ∧ p = s.mallet m ∧ a = p.kr ka.toNat ∧ (op, r, i) ∈ [(0, a <<< n, 32 - n), (1, a >>> n, n - 1), (2, a.sshiftRight
      n, n - 1)] ∧ s.canRun m = true ∧ x.ecc = .clean ∧ n < 32) ∧
  (∃ (x : Fetch), ∃ (kd : BitVec 4), ∃ (ka : BitVec 4), ∃ (kb : BitVec 4), ∃ (m : Nat), ∃ (a : Word), ∃ (b : Word), ∃ (s : State), ∃ (p :
      Mallet), ∃ (c : Instr), ∃ (r : BitVec 64), m = x.m.val ∧ p = s.mallet m ∧ a = p.kr ka.toNat ∧ b = p.kr kb.toNat ∧ (c, r) ∈ [(Instr.mulW
      x kd ka kb, a.signExtend 64 * b.signExtend 64), (.mulWu x kd ka kb, a.zeroExtend 64 * b.zeroExtend 64)] ∧ s.canRun m = true ∧ x.ecc =
      .clean ∧ kd.toNat % 2 = 0) ∧
  (∃ (x : Fetch), ∃ (m : Nat), ∃ (s : State), m = x.m.val ∧ s.canRun m = true ∧ x.ecc = .clean) ∧
  (∃ (x : Fetch), ∃ (kd : BitVec 4), ∃ (ka : BitVec 4), ∃ (m : Nat), ∃ (a : Word), ∃ (s : State), ∃ (p : Mallet), ∃ (i : BitVec 18), ∃ (c :
      Instr), ∃ (r : Word), m = x.m.val ∧ p = s.mallet m ∧ a = p.kr ka.toNat ∧ (c, r) ∈ [(Instr.andImm x kd ka i, a &&& i.zeroExtend 32),
      (.orImm x kd ka i, a ||| i.zeroExtend 32), (.xorImm x kd ka i, a ^^^ i.zeroExtend 32)] ∧ s.canRun m = true ∧ x.ecc = .clean) ∧
  (∃ (x : Fetch), ∃ (ka : BitVec 4), ∃ (kb : BitVec 4), ∃ (m : Nat), ∃ (a : Word), ∃ (b : Word), ∃ (s : State), ∃ (p : Mallet), ∃ (c :
      Instr), ∃ (z : Int), m = x.m.val ∧ p = s.mallet m ∧ a = p.kr ka.toNat ∧ b = p.kr kb.toNat ∧ (c, z) ∈ [(Instr.mac x ka kb, p.acc +
      a.toInt * b.toInt), (.macZ x ka kb, a.toInt * b.toInt), (.msu x ka kb, p.acc - a.toInt * b.toInt)] ∧ s.canRun m = true ∧ x.ecc = .clean
      ∧ malletKind m = 1) ∧
  (∃ (x : Fetch), ∃ (m : Nat), ∃ (s : State), m = x.m.val ∧ s.canRun m = true ∧ x.ecc = .clean ∧ malletKind m = 1) ∧
  (∃ (x : Fetch), ∃ (kb : BitVec 4), ∃ (m : Nat), ∃ (s : State), m = x.m.val ∧ s.canRun m = true ∧ x.ecc = .clean ∧ malletKind m = 1 ∧
      kb.toNat % 2 = 0) ∧
  (∃ (x : Fetch), ∃ (kd : BitVec 4), ∃ (kb : BitVec 4), ∃ (m : Nat), ∃ (s : State), m = x.m.val ∧ s.canRun m = true ∧ x.ecc = .clean ∧
      malletKind m = 1 ∧ kd ≠ kb) ∧
  (∃ (x : Fetch), ∃ (kb : BitVec 4), ∃ (m : Nat), ∃ (b : Word), ∃ (s : State), ∃ (p : Mallet), ∃ (n : BitVec 4), m = x.m.val ∧ p = s.mallet
      m ∧ b = p.kr kb.toNat ∧ s.canRun m = true ∧ x.ecc = .clean ∧ malletKind m = 1 ∧ 1 ≤ n.toNat ∧ n.toNat ≤ 11 ∧ b.toNat % 4 = 0 ∧ b.toNat +
      4 * (2 ^ n.toNat + 1) ≤ 0x4000 ∧ s.mltPoison = []) ∧
  (∃ (x : Fetch), ∃ (kd : BitVec 4), ∃ (m : Nat), ∃ (s : State), ∃ (p : Mallet), m = x.m.val ∧ p = s.mallet m ∧ s.canRun m = true ∧ x.ecc =
      .clean ∧ p.exl = false ∧ p.region.isOpen = false ∧ kd.toNat % 2 = 1) :=
  ⟨⟨{ m := 35, ecc := Sys2Proof.MemEcc.clean }, _, wMal, rfl, by decide +kernel⟩,
   ⟨{ m := 35, ecc := Sys2Proof.MemEcc.clean }, _, wMal, rfl, by decide +kernel⟩,
   ⟨{ m := 35, ecc := Sys2Proof.MemEcc.clean }, 0xf#4, 0xc#4, 0x7#4, _, _, _, wMal, _, _, _, rfl, rfl, rfl, rfl, List.mem_cons_self,
      by decide +kernel⟩,
   ⟨{ m := 35, ecc := Sys2Proof.MemEcc.clean }, 0xf#4, 0xc#4, 0x7#4, _, _, _, wMal, _, _, _, _, _, rfl, rfl, rfl, rfl, rfl,
      List.mem_cons_self, by decide +kernel⟩,
   ⟨{ m := 35, ecc := Sys2Proof.MemEcc.clean }, 0xc#4, _, _, wMal, _, 0, _, _, _, rfl, rfl, rfl, List.mem_cons_self, by decide +kernel⟩,
   ⟨{ m := 35, ecc := Sys2Proof.MemEcc.clean }, 0x4#4, 0x1#4, 0xf#4, _, _, _, wMal, _, _, _, rfl, rfl, rfl, rfl, List.mem_cons_self,
      by decide +kernel⟩,
   ⟨{ m := 35, ecc := Sys2Proof.MemEcc.clean }, _, wMal, rfl, by decide +kernel⟩,
   ⟨{ m := 35, ecc := Sys2Proof.MemEcc.clean }, 0xf#4, 0xc#4, _, _, wMal, _, 0x00040#18, _, _, rfl, rfl, rfl, List.mem_cons_self,
      by decide +kernel⟩,
   ⟨{ m := 35, ecc := Sys2Proof.MemEcc.clean }, 0xc#4, 0x7#4, _, _, _, wMal, _, _, _, rfl, rfl, rfl, rfl, List.mem_cons_self,
      by decide +kernel⟩,
   ⟨{ m := 35, ecc := Sys2Proof.MemEcc.clean }, _, wMal, rfl, by decide +kernel⟩,
   ⟨{ m := 35, ecc := Sys2Proof.MemEcc.clean }, 0x6#4, _, wMal, rfl, by decide +kernel⟩,
   ⟨{ m := 35, ecc := Sys2Proof.MemEcc.clean }, 0xf#4, 0x7#4, _, wMal, rfl, by decide +kernel⟩,
   ⟨{ m := 35, ecc := Sys2Proof.MemEcc.clean }, 0xc#4, _, _, wMal, _, 0x2#4, rfl, rfl, rfl, by decide +kernel⟩,
   ⟨{ m := 35, ecc := Sys2Proof.MemEcc.clean }, 0xf#4, _, wMal, _, rfl, rfl, by decide +kernel⟩⟩

theorem wit_MalletArithmetic_2 :
  (∃ (x : Fetch), ∃ (kb : BitVec 4), ∃ (m : Nat), ∃ (s : State), ∃ (p : Mallet), m = x.m.val ∧ p = s.mallet m ∧ s.canRun m = true ∧ x.ecc =
      .clean ∧ p.exl = false ∧ p.region.isOpen = false ∧ malletKind m = 1 ∧ kb.toNat % 2 = 1) ∧
  (∃ (x : Fetch), ∃ (m : Nat), ∃ (s : State), ∃ (p : Mallet), m = x.m.val ∧ p = s.mallet m ∧ s.canRun m = true ∧ x.ecc = .clean ∧ p.exl =
      false ∧ p.region.isOpen = false ∧ malletKind m = 1) ∧
  (∃ (x : Fetch), ∃ (m : Nat), ∃ (s : State), ∃ (p : Mallet), ∃ (n : BitVec 4), m = x.m.val ∧ p = s.mallet m ∧ s.canRun m = true ∧ x.ecc =
      .clean ∧ p.exl = false ∧ p.region.isOpen = false ∧ malletKind m = 1 ∧ (n.toNat = 0 ∨ 11 < n.toNat)) ∧
  (∃ (x : Fetch), ∃ (kd : BitVec 4), ∃ (ka : BitVec 4), ∃ (kb : BitVec 4), ∃ (m : Nat), ∃ (s : State), ∃ (p : Mallet), ∃ (c : Instr), m =
      x.m.val ∧ p = s.mallet m ∧ c ∈ [Instr.mac x ka kb, .macZ x ka kb, .msu x ka kb, .satq x kd 0 false false, .lim x kd ka kb, .intg x kd ka
      kb, .diff x kd ka kb, .tlu x kd ka kb 1 .clean] ∧ s.canRun m = true ∧ x.ecc = .clean ∧ p.exl = false ∧ p.region.isOpen = false ∧
      malletKind m = 0) :=
  ⟨⟨{ m := 35, ecc := Sys2Proof.MemEcc.clean }, 0x7#4, _, wMal, _, rfl, rfl, by decide +kernel⟩,
   ⟨⟨35, .clean⟩, _, wMal, _, rfl, rfl, by decide +kernel⟩,
   ⟨{ m := 35, ecc := Sys2Proof.MemEcc.clean }, _, wMal, _, 0xc#4, rfl, rfl, by decide +kernel⟩,
   ⟨{ m := 0, ecc := Sys2Proof.MemEcc.clean }, 0x3#4, 0x1#4, 0xf#4, _, wMal, _, _, rfl, rfl, List.mem_cons_self, by decide +kernel⟩⟩

theorem wit_MalletMemoryAndFlow_1 :
  (∃ (x : Fetch), ∃ (kd : BitVec 4), ∃ (ka : BitVec 4), ∃ (m : Nat), ∃ (a : Nat), ∃ (i : BitVec 18), ∃ (s : State), ∃ (p : Mallet), ∃ (n :
      Nat), ∃ (c : Instr), m = x.m.val ∧ p = s.mallet m ∧ a = (p.kr ka.toNat + i.signExtend 32).toNat ∧ (n, c) ∈ [(1, Instr.ldB x kd ka i
      .clean), (2, .ldH x kd ka i .clean), (4, .ld x kd ka i .clean)] ∧ s.canRun m = true ∧ x.ecc = .clean ∧ a + n ≤ 0x4000 ∧ a % n = 0 ∧ (∀ w
      ∈ s.mltPoison, w ≠ 4096 * m + a / 4)) ∧
  (∃ (x : Fetch), ∃ (kd : BitVec 4), ∃ (ka : BitVec 4), ∃ (m : Nat), ∃ (a : Nat), ∃ (i : BitVec 18), ∃ (s : State), ∃ (p : Mallet), ∃ (n :
      Nat), ∃ (c : Instr), m = x.m.val ∧ p = s.mallet m ∧ a = (p.kr ka.toNat + i.signExtend 32).toNat ∧ (n, c) ∈ [(1, Instr.ldB x kd ka i
      .clean), (2, .ldH x kd ka i .clean), (4, .ld x kd ka i .clean)] ∧ s.canRun m = true ∧ x.ecc = .clean ∧ p.exl = false ∧ p.region.isOpen =
      false ∧ 0x4000 < a + n) ∧
  (∃ (x : Fetch), ∃ (kd : BitVec 4), ∃ (ka : BitVec 4), ∃ (m : Nat), ∃ (a : Nat), ∃ (i : BitVec 18), ∃ (s : State), ∃ (p : Mallet), ∃ (n :
      Nat), ∃ (c : Instr), m = x.m.val ∧ p = s.mallet m ∧ a = (p.kr ka.toNat + i.signExtend 32).toNat ∧ (n, c) ∈ [(1, Instr.ldB x kd ka i
      .clean), (2, .ldH x kd ka i .clean), (4, .ld x kd ka i .clean)] ∧ s.canRun m = true ∧ x.ecc = .clean ∧ p.exl = false ∧ p.region.isOpen =
      false ∧ a + n ≤ 0x4000 ∧ a % n ≠ 0) ∧
  (∃ (x : Fetch), ∃ (kd : BitVec 4), ∃ (ka : BitVec 4), ∃ (m : Nat), ∃ (a : Nat), ∃ (i : BitVec 18), ∃ (s : State), ∃ (p : Mallet), ∃ (n :
      Nat), ∃ (c : Instr), m = x.m.val ∧ p = s.mallet m ∧ a = (p.kr ka.toNat + i.signExtend 32).toNat ∧ (n, c) ∈ [(1, Instr.ldB x kd ka i
      .clean), (2, .ldH x kd ka i .clean), (4, .ld x kd ka i .clean)] ∧ s.canRun m = true ∧ x.ecc = .clean ∧ p.exl = false ∧ p.region.isOpen =
      false ∧ a + n ≤ 0x4000 ∧ a % n = 0 ∧ 4096 * m + a / 4 ∈ s.mltPoison) ∧
  (∃ (x : Fetch), ∃ (kd : BitVec 4), ∃ (ka : BitVec 4), ∃ (m : Nat), ∃ (a : Nat), ∃ (i : BitVec 18), ∃ (s : State), ∃ (p : Mallet), ∃ (n :
      Nat), ∃ (c : Instr), m = x.m.val ∧ p = s.mallet m ∧ a = (p.kr ka.toNat + i.signExtend 32).toNat ∧ (n, c) ∈ [(1, Instr.stB x kd ka i),
      (2, .stH x kd ka i), (4, .st x kd ka i)] ∧ s.canRun m = true ∧ x.ecc = .clean ∧ a + n ≤ 0x4000 ∧ a % n = 0) ∧
  (∃ (x : Fetch), ∃ (kd : BitVec 4), ∃ (ka : BitVec 4), ∃ (m : Nat), ∃ (a : Nat), ∃ (i : BitVec 18), ∃ (s : State), ∃ (p : Mallet), ∃ (n :
      Nat), ∃ (c : Instr), m = x.m.val ∧ p = s.mallet m ∧ a = (p.kr ka.toNat + i.signExtend 32).toNat ∧ (n, c) ∈ [(1, Instr.stB x kd ka i),
      (2, .stH x kd ka i), (4, .st x kd ka i)] ∧ s.canRun m = true ∧ x.ecc = .clean ∧ p.exl = false ∧ p.region.isOpen = false ∧ 0x4000 < a + n) ∧
  (∃ (x : Fetch), ∃ (kd : BitVec 4), ∃ (ka : BitVec 4), ∃ (m : Nat), ∃ (a : Nat), ∃ (i : BitVec 18), ∃ (s : State), ∃ (p : Mallet), ∃ (n :
      Nat), ∃ (c : Instr), m = x.m.val ∧ p = s.mallet m ∧ a = (p.kr ka.toNat + i.signExtend 32).toNat ∧ (n, c) ∈ [(1, Instr.stB x kd ka i),
      (2, .stH x kd ka i), (4, .st x kd ka i)] ∧ s.canRun m = true ∧ x.ecc = .clean ∧ p.exl = false ∧ p.region.isOpen = false ∧ a + n ≤ 0x4000
      ∧ a % n ≠ 0) ∧
  (∃ (x : Fetch), ∃ (ka : BitVec 4), ∃ (m : Nat), ∃ (a : Nat), ∃ (i : BitVec 18), ∃ (s : State), ∃ (p : Mallet), m = x.m.val ∧ p = s.mallet
      m ∧ a = (p.kr ka.toNat + i.signExtend 32).toNat ∧ s.canRun m = true ∧ x.ecc = .clean ∧ a < 0x200000 ∧ a % 4 = 0 ∧ (∀ y ∈ p.sb, y.addr ≠
      a) ∧ (∀ w ∈ s.mltPoison, w ≠ 2 ^ 20 + a / 4)) ∧
  (∃ (x : Fetch), ∃ (ka : BitVec 4), ∃ (m : Nat), ∃ (a : Nat), ∃ (i : BitVec 18), ∃ (s : State), ∃ (p : Mallet), m = x.m.val ∧ p = s.mallet
      m ∧ a = (p.kr ka.toNat + i.signExtend 32).toNat ∧ s.canRun m = true ∧ x.ecc = .clean ∧ a < 0x200000 ∧ a % 4 = 0 ∧ p.region.isOpen =
      false) ∧
  (∃ (x : Fetch), ∃ (ka : BitVec 4), ∃ (m : Nat), ∃ (a : Nat), ∃ (i : BitVec 18), ∃ (s : State), ∃ (p : Mallet), m = x.m.val ∧ p = s.mallet
      m ∧ a = (p.kr ka.toNat + i.signExtend 32).toNat ∧ s.canRun m = true ∧ x.ecc = .clean ∧ p.exl = false ∧ p.region.isOpen = false ∧ (¬(a <
      0x200000 ∨ 0x40000000 ≤ a ∧ a < 0x41000000))) ∧
  (∃ (x : Fetch), ∃ (ka : BitVec 4), ∃ (m : Nat), ∃ (a : Nat), ∃ (i : BitVec 18), ∃ (s : State), ∃ (p : Mallet), m = x.m.val ∧ p = s.mallet
      m ∧ a = (p.kr ka.toNat + i.signExtend 32).toNat ∧ s.canRun m = true ∧ x.ecc = .clean ∧ p.exl = false ∧ p.region.isOpen = false ∧ a <
      0x200000 ∧ a % 4 ≠ 0) ∧
  (∃ (x : Fetch), ∃ (ka : BitVec 4), ∃ (m : Nat), ∃ (a : Nat), ∃ (i : BitVec 18), ∃ (s : State), ∃ (p : Mallet), m = x.m.val ∧ p = s.mallet
      m ∧ a = (p.kr ka.toNat + i.signExtend 32).toNat ∧ s.canRun m = true ∧ x.ecc = .clean ∧ p.exl = false ∧ p.region.isOpen = false ∧
      0x40000000 ≤ a ∧ a < 0x41000000 ∧ a % 4 = 0 ∧ s.may m 2 = false) ∧
  (∃ (x : Fetch), ∃ (ka : BitVec 4), ∃ (m : Nat), ∃ (a : Nat), ∃ (i : BitVec 18), ∃ (s : State), ∃ (p : Mallet), m = x.m.val ∧ p = s.mallet
      m ∧ a = (p.kr ka.toNat + i.signExtend 32).toNat ∧ s.canRun m = true ∧ x.ecc = .clean ∧ p.exl = false ∧ p.region.isOpen = false ∧
      0x40000000 ≤ a ∧ a < 0x41000000 ∧ a % 4 = 0 ∧ s.mayWrite m a = false) ∧
  (∃ (x : Fetch), ∃ (m : Nat), ∃ (s : State), ∃ (p : Mallet), ∃ (cond : BitVec 4), ∃ (b : Bool), m = x.m.val ∧ p = s.mallet m ∧ (cond, b) ∈
      [(0#4, true), (1, p.z), (2, !p.z), (3, p.c), (4, !p.c), (5, p.n), (6, !p.n), (7, p.v), (8, !p.v), (9, p.c && !p.z), (10, !p.c || p.z),
      (11, p.n == p.v), (12, p.n != p.v), (13, !p.z && p.n == p.v), (14, p.z || p.n != p.v)] ∧ s.canRun m = true ∧ x.ecc = .clean) :=
  ⟨⟨{ m := 0, ecc := Sys2Proof.MemEcc.clean }, 0x4#4, 0x1#4, _, _, 0x00002#18, wMal, _, _, _, rfl, rfl, rfl, List.mem_cons_self,
      by decide +kernel⟩,
   ⟨{ m := 35, ecc := Sys2Proof.MemEcc.clean }, 0x0#4, 0x8#4, _, _, 0x00002#18, wMal, _, _, _, rfl, rfl, rfl, List.mem_cons_self,
      by decide +kernel⟩,
   ⟨{ m := 0, ecc := Sys2Proof.MemEcc.clean }, 0x4#4, 0x1#4, _, _, 0x00002#18, wMal, _, _, _, rfl, rfl, rfl, List.mem_cons_of_mem _
      (List.mem_cons_of_mem _ (List.mem_cons_self)), by decide +kernel⟩,
   ⟨{ m := 35, ecc := Sys2Proof.MemEcc.clean }, 0x6#4, 0x3#4, _, _, 0x00000#18, wMalPoison, _, _, _, rfl, rfl, rfl, List.mem_cons_self,
      by decide +kernel⟩,
   ⟨{ m := 0, ecc := Sys2Proof.MemEcc.clean }, 0x4#4, 0x1#4, _, _, 0x00002#18, wMal, _, _, _, rfl, rfl, rfl, List.mem_cons_self,
      by decide +kernel⟩,
   ⟨{ m := 35, ecc := Sys2Proof.MemEcc.clean }, 0x0#4, 0x8#4, _, _, 0x00002#18, wMal, _, _, _, rfl, rfl, rfl, List.mem_cons_self,
      by decide +kernel⟩,
   ⟨{ m := 0, ecc := Sys2Proof.MemEcc.clean }, 0x4#4, 0x1#4, _, _, 0x00002#18, wMal, _, _, _, rfl, rfl, rfl, List.mem_cons_of_mem _
      (List.mem_cons_of_mem _ (List.mem_cons_self)), by decide +kernel⟩,
   ⟨{ m := 35, ecc := Sys2Proof.MemEcc.clean }, 0x0#4, _, _, 0x00004#18, wMal, _, rfl, rfl, rfl, by decide +kernel⟩,
   ⟨{ m := 35, ecc := Sys2Proof.MemEcc.clean }, 0x0#4, _, _, 0x00004#18, wMal, _, rfl, rfl, rfl, by decide +kernel⟩,
   ⟨{ m := 0, ecc := Sys2Proof.MemEcc.clean }, 0x4#4, _, _, 0x3ffff#18, wMal, _, rfl, rfl, rfl, by decide +kernel⟩,
   ⟨{ m := 0, ecc := Sys2Proof.MemEcc.clean }, 0x1#4, _, _, 0x00002#18, wMal, _, rfl, rfl, rfl, by decide +kernel⟩,
   ⟨{ m := 35, ecc := Sys2Proof.MemEcc.clean }, 0xd#4, _, _, 0x00040#18, wMal, _, rfl, rfl, rfl, by decide +kernel⟩,
   ⟨{ m := 35, ecc := Sys2Proof.MemEcc.clean }, 0xd#4, _, _, 0x00040#18, wMal, _, rfl, rfl, rfl, by decide +kernel⟩,
   ⟨{ m := 0, ecc := Sys2Proof.MemEcc.clean }, _, wMal, _, _, _, rfl, rfl, List.mem_cons_self, by decide +kernel⟩⟩

theorem wit_MalletMemoryAndFlow_2 :
  (∃ (x : Fetch), ∃ (m : Nat), ∃ (s : State), ∃ (p : Mallet), m = x.m.val ∧ p = s.mallet m ∧ s.canRun m = true ∧ x.ecc = .clean ∧ p.exl =
      false ∧ p.region.isOpen = false) ∧
  (∃ (x : Fetch), ∃ (ka : BitVec 4), ∃ (m : Nat), ∃ (s : State), m = x.m.val ∧ s.canRun m = true ∧ x.ecc = .clean ∧ ka.toNat % 2 = 0) ∧
  (∃ (x : Fetch), ∃ (ka : BitVec 4), ∃ (m : Nat), ∃ (s : State), ∃ (n : Nat), m = x.m.val ∧ s.boundStation m = some n ∧ s.canRun m = true ∧
      x.ecc = .clean ∧ ka.toNat % 2 = 0) ∧
  (∃ (x : Fetch), ∃ (ka : BitVec 4), ∃ (m : Nat), ∃ (s : State), ∃ (p : Mallet), m = x.m.val ∧ p = s.mallet m ∧ s.canRun m = true ∧ x.ecc =
      .clean ∧ p.exl = false ∧ p.region.isOpen = false ∧ ka.toNat % 2 = 1) ∧
  (∃ (x : Fetch), ∃ (m : Nat), ∃ (s : State), ∃ (p : Mallet), m = x.m.val ∧ p = s.mallet m ∧ s.canRun m = true ∧ x.ecc = .clean ∧ p.exl =
      false ∧ p.region.isOpen = false ∧ s.boundStation m = none) ∧
  (∃ (x : Fetch), ∃ (ka : BitVec 4), ∃ (m : Nat), ∃ (s : State), ∃ (p : Mallet), ∃ (b : Nat), ∃ (mask : BitVec 256), m = x.m.val ∧ p =
      s.mallet m ∧ b = (p.kr ka.toNat).toNat ∧ mask = BitVec.ofNat 256 (ofLE (tgets 0 s.dmem (16384 * m + b) 32)) ∧ s.canRun m = true ∧ x.ecc
      = .clean ∧ b % 4 = 0 ∧ b + 32 ≤ 0x4000 ∧ s.mltPoison = [] ∧ p.pendingIn mask = none) ∧
  (∃ (x : Fetch), ∃ (ka : BitVec 4), ∃ (m : Nat), ∃ (s : State), ∃ (p : Mallet), ∃ (b : Nat), ∃ (mask : BitVec 256), ∃ e, m = x.m.val ∧ p =
      s.mallet m ∧ b = (p.kr ka.toNat).toNat ∧ mask = BitVec.ofNat 256 (ofLE (tgets 0 s.dmem (16384 * m + b) 32)) ∧ p.pendingIn mask = some e
      ∧ s.canRun m = true ∧ x.ecc = .clean ∧ b % 4 = 0 ∧ b + 32 ≤ 0x4000 ∧ s.mltPoison = []) ∧
  (∃ (x : Fetch), ∃ (m : Nat), ∃ (s : State), ∃ (p : Mallet), ∃ (sr : Nat), ∃ (v : Nat), m = x.m.val ∧ p = s.mallet m ∧ (sr, v) ∈ [(4,
      p.role.getD 0x3F), (7, p.cause.toNat), (8, p.flagWord), (9, p.epc), (10, p.evec), (11, p.sqh), (12, m), (14, p.bounce.length), (15,
      p.inq.length)] ∧ s.canRun m = true ∧ x.ecc = .clean) ∧
  (∃ (x : Fetch), ∃ (m : Nat), ∃ (s : State), m = x.m.val ∧ s.canRun m = true ∧ x.ecc = .clean) ∧
  (∃ (x : Fetch), ∃ (m : Nat), ∃ (s : State), ∃ (p : Mallet), ∃ (sr : BitVec 5), m = x.m.val ∧ p = s.mallet m ∧ s.canRun m = true ∧ x.ecc =
      .clean ∧ p.exl = false ∧ p.region.isOpen = false ∧ 16 ≤ sr.toNat) ∧
  (∃ (x : Fetch), ∃ (m : Nat), ∃ (s : State), ∃ (p : Mallet), ∃ (sr : BitVec 5), m = x.m.val ∧ p = s.mallet m ∧ s.canRun m = true ∧ x.ecc =
      .clean ∧ p.exl = false ∧ p.region.isOpen = false ∧ (sr.toNat < 7 ∨ 10 < sr.toNat)) ∧
  (∃ (x : Fetch), ∃ (kd : BitVec 4), ∃ (m : Nat), ∃ (s : State), ∃ (j : BitVec 6), m = x.m.val ∧ s.canRun m = true ∧ x.ecc = .clean ∧
      j.toNat < 56 ∧ kd.toNat % 2 = 0 ∧ s.may m 0 = true) ∧
  (∃ (x : Fetch), ∃ (kd : BitVec 4), ∃ (m : Nat), ∃ (s : State), ∃ (p : Mallet), ∃ (j : BitVec 6), m = x.m.val ∧ p = s.mallet m ∧ s.canRun
      m = true ∧ x.ecc = .clean ∧ j.toNat < 56 ∧ kd.toNat % 2 = 0 ∧ s.may m 0 = false ∧ p.exl = false ∧ p.region.isOpen = false) ∧
  (∃ (x : Fetch), ∃ (m : Nat), ∃ (s : State), ∃ (p : Mallet), m = x.m.val ∧ p = s.mallet m ∧ s.canRun m = true ∧ x.ecc = .clean ∧ p.sb ≠ []) :=
  ⟨⟨{ m := 0, ecc := Sys2Proof.MemEcc.clean }, _, wMal, _, rfl, rfl, by decide +kernel⟩,
   ⟨{ m := 35, ecc := Sys2Proof.MemEcc.clean }, 0x8#4, _, wMal, rfl, by decide +kernel⟩,
   ⟨{ m := 35, ecc := Sys2Proof.MemEcc.clean }, 0x8#4, _, wMalPriv, ((wMalPriv : State).boundStation
      (({ m := 35, ecc := Sys2Proof.MemEcc.clean } : Fetch).m.val : Nat)).get (by decide +kernel), rfl, (Option.some_get _).symm,
      by decide +kernel⟩,
   ⟨{ m := 0, ecc := Sys2Proof.MemEcc.clean }, 0x1#4, _, wMal, _, rfl, rfl, by decide +kernel⟩,
   ⟨{ m := 0, ecc := Sys2Proof.MemEcc.clean }, _, wMal, _, rfl, rfl, by decide +kernel⟩,
   ⟨{ m := 35, ecc := Sys2Proof.MemEcc.clean }, 0x0#4, _, wMal, _, _, _, rfl, rfl, rfl, rfl, by decide +kernel⟩,
   ⟨{ m := 35, ecc := Sys2Proof.MemEcc.clean }, 0x3#4, _, wMalC, _, _, _, (((wMalC : State).mallet
      (({ m := 35, ecc := Sys2Proof.MemEcc.clean } : Fetch).m.val : Nat) : Mallet).pendingIn (BitVec.ofNat 256 (ofLE (tgets 0 (wMalC :
      State).dmem (16384 * (({ m := 35, ecc := Sys2Proof.MemEcc.clean } : Fetch).m.val : Nat) + ((((wMalC : State).mallet
      (({ m := 35, ecc := Sys2Proof.MemEcc.clean } : Fetch).m.val : Nat) : Mallet).kr (0x3#4 : BitVec 4).toNat).toNat : Nat)) 32)) : BitVec
      256)).get (by decide +kernel), rfl, rfl, rfl, rfl, (Option.some_get _).symm, by decide +kernel⟩,
   ⟨{ m := 0, ecc := Sys2Proof.MemEcc.clean }, _, wMal, _, _, _, rfl, rfl, List.mem_cons_self, by decide +kernel⟩,
   ⟨{ m := 0, ecc := Sys2Proof.MemEcc.clean }, _, wMal, rfl, by decide +kernel⟩,
   ⟨{ m := 35, ecc := Sys2Proof.MemEcc.clean }, _, wMal, _, 0x1f#5, rfl, rfl, by decide +kernel⟩,
   ⟨{ m := 0, ecc := Sys2Proof.MemEcc.clean }, _, wMal, _, 0x00#5, rfl, rfl, by decide +kernel⟩,
   ⟨{ m := 0, ecc := Sys2Proof.MemEcc.clean }, 0x4#4, _, wMalPriv, 0x00#6, rfl, by decide +kernel⟩,
   ⟨{ m := 0, ecc := Sys2Proof.MemEcc.clean }, 0x4#4, _, wMal, _, 0x00#6, rfl, rfl, by decide +kernel⟩,
   ⟨{ m := 35, ecc := Sys2Proof.MemEcc.clean }, _, wMalC, _, rfl, rfl, by decide +kernel⟩⟩

theorem wit_MalletMemoryAndFlow_3 :
  (∃ (x : Fetch), ∃ (m : Nat), ∃ (s : State), ∃ (p : Mallet), m = x.m.val ∧ p = s.mallet m ∧ s.canRun m = true ∧ x.ecc = .clean ∧ p.sb = []
      ∧ p.region.effs = []) ∧
  (∃ (h : Fin 36), ∃ (w : State), ∃ (q : Mallet), q = w.mallet h.val ∧ q.wait = none) ∧
  (∃ (h : Fin 36), ∃ (w : State), ∃ (q : Mallet), ∃ T, q = w.mallet h.val ∧ q.wait = some (.time T)) ∧
  (∃ (h : Fin 36), ∃ (w : State), ∃ (q : Mallet), ∃ (n : Nat), ∃ (z : Int), q = w.mallet h.val ∧ w.boundStation h.val = some n ∧ q.wait =
      some (.pos z none) ∧ w.tickAtLpos n z = none) ∧
  (∃ (h : Fin 36), ∃ (w : State), ∃ (q : Mallet), ∃ (n : Nat), ∃ (z : Int), ∃ T, q = w.mallet h.val ∧ w.boundStation h.val = some n ∧
      w.tickAtLpos n z = some T ∧ q.wait = some (.pos z none)) ∧
  (∃ (h : Fin 36), ∃ (w : State), ∃ (q : Mallet), ∃ (d : Nat), ∃ (l : Nat), ∃ (mask : BitVec 256), q = w.mallet h.val ∧ q.wait = some
      (.event d mask (some l) false false) ∧ q.pendingIn mask = none) ∧
  (∃ (h : Fin 36), ∃ (j : BitVec 2), ∃ (w : State), ∃ (q : Mallet), q = w.mallet h.val ∧ q.sb.length ≤ j.toNat) ∧
  (∃ (h : Fin 36), ∃ (w : State), ∃ (q : Mallet), ∃ (y : Store), ∃ (r : List Store), q = w.mallet h.val ∧ q.sb = y :: r ∧ y.addr < 0x200000
      ∧ q.stall = .none) ∧
  (∃ (h : Fin 36), ∃ (w : State), ∃ (q : Mallet), ∃ (y : Store), ∃ (z : Store), ∃ (r : List Store), q = w.mallet h.val ∧ q.sb = y :: z :: r
      ∧ (y.addr = z.addr ∨ y.fence ≠ z.fence)) :=
  ⟨⟨{ m := 0, ecc := Sys2Proof.MemEcc.clean }, _, wMal, _, rfl, rfl, by decide +kernel⟩,
   ⟨35, State.reset, _, rfl, by decide +kernel⟩,
   ⟨35, wMalWait, _, 700, rfl, by decide +kernel⟩,
   ⟨35, wMalWaitFar, _, ((wMalWaitFar : State).boundStation (35 : Fin 36).val).get (by decide +kernel), 10 ^ 9, rfl, (Option.some_get
      _).symm, by decide +kernel⟩,
   ⟨35, wMalWaitPos, _, ((wMalWaitPos : State).boundStation (35 : Fin 36).val).get (by decide +kernel), -5, ((wMalWaitPos :
      State).tickAtLpos (((wMalWaitPos : State).boundStation (35 : Fin 36).val).get (by decide +kernel) : Nat) (-5 : Int)).get
      (by decide +kernel), rfl, (Option.some_get _).symm, (Option.some_get _).symm, by decide +kernel⟩,
   ⟨35, wMalWaitEv, _, 3, 800, 4, rfl, by decide +kernel⟩,
   ⟨34, 0x1#2, State.reset, _, rfl, by decide +kernel⟩,
   ⟨35, wMalC, _, (((wMalC : State).mallet (35 : Fin 36).val : Mallet).sb).head (by decide +kernel), (((wMalC : State).mallet (35 : Fin
      36).val : Mallet).sb).tail, rfl, by decide +kernel⟩,
   ⟨35, wMalFull, _, ⟨64, 7, 0, 3⟩, ⟨64, 7, 0, 3⟩, [⟨12, 7, 1, 3⟩, ⟨16, 7, 1, 3⟩], rfl, by decide +kernel⟩⟩

theorem wit_MalletPortsRegionsAndMessages_1 :
  (∃ (c : Instr), ∃ (x : Fetch), ∃ (s : State), malletOf c = some x ∧ s.canRun x.m.val = false) ∧
  (∃ (c : Instr), ∃ (x : Fetch), ∃ (s : State), (∀ y w, c ≠ .undefinedInstruction y w) ∧ malletOf c = some x ∧ s.canRun x.m.val = true ∧
      (x.ecc = .uncorrectable ∨ x.ecc = .corrected true)) ∧
  (∃ (x : Fetch), ∃ (m : Nat), ∃ (port : Nat), ∃ (s : State), ∃ (w : BitVec 32), m = x.m.val ∧ s.canRun m = true ∧ x.ecc = .clean ∧ port <
      256 ∧ legalWord (decide (malletKind m = 1)) w = true) ∧
  (∃ (x : Fetch), ∃ (m : Nat), ∃ (port : Nat), ∃ (s : State), ∃ (p : Mallet), ∃ (w : BitVec 32), m = x.m.val ∧ p = s.mallet m ∧ s.canRun m
      = true ∧ x.ecc = .clean ∧ port < 256 ∧ legalWord (decide (malletKind m = 1)) w = false ∧ p.exl = false ∧ p.region.isOpen = false) ∧
  (∃ (x : Fetch), ∃ (m : Nat), ∃ (port : Nat), ∃ (s : State), ∃ (p : Mallet), m = x.m.val ∧ p = s.mallet m ∧ s.canRun m = true ∧ x.ecc =
      .clean ∧ port < 256 ∧ p.region.isOpen = false ∧ s.may m 3 = true) ∧
  (∃ (x : Fetch), ∃ (m : Nat), ∃ (port : Nat), ∃ (s : State), ∃ (p : Mallet), m = x.m.val ∧ p = s.mallet m ∧ s.canRun m = true ∧ x.ecc =
      .clean ∧ port < 256 ∧ p.region.isOpen = false ∧ s.may m 3 = false ∧ p.exl = false) ∧
  (∃ (x : Fetch), ∃ (ka : BitVec 4), ∃ (kw : BitVec 4), ∃ (m : Nat), ∃ (port : Nat), ∃ (ty : Nat), ∃ (n : Nat), ∃ (arg : Nat), ∃ (s :
      State), ∃ (p : Mallet), ∃ (timed : Bool), ∃ (e : Eff), m = x.m.val ∧ p = s.mallet m ∧ ty = s.f (F.MLT_M_PORT_TYPE m port) ∧ n = s.f
      (F.MLT_M_PORT_TARGET m port) ∧ arg = s.f (F.MLT_M_PORT_ARG m port) ∧ s.canRun m = true ∧ x.ecc = .clean ∧ port < 256 ∧ s.may m 3 = true
      ∧ p.region.isOpen = true ∧ p.region.closing = false ∧ p.region.effs.length < 16 ∧ kw.toNat % 2 = 0 ∧ (ty = 7 ∧ timed = false ∧ e =
      .event n (p.kr ka.toNat) ∨ ty = 1 ∧ e = .pin n (arg % 4) (arg / 4) (if timed then some (2 ^ 32 * (p.kr (kw.toNat + 1)).toNat + (p.kr
      kw.toNat).toNat) else none))) ∧
  (∃ (x : Fetch), ∃ (kw : BitVec 4), ∃ (m : Nat), ∃ (port : Nat), ∃ (ty : Nat), ∃ (s : State), ∃ (p : Mallet), m = x.m.val ∧ p = s.mallet m
      ∧ ty = s.f (F.MLT_M_PORT_TYPE m port) ∧ s.canRun m = true ∧ x.ecc = .clean ∧ port < 256 ∧ p.region.isOpen = false ∧ p.exl = false ∧
      kw.toNat % 2 = 0 ∧ (ty = 0 ∨ 10 < ty)) ∧
  (∃ (x : Fetch), ∃ (kw : BitVec 4), ∃ (m : Nat), ∃ (port : Nat), ∃ (ty : Nat), ∃ (s : State), ∃ (p : Mallet), m = x.m.val ∧ p = s.mallet m
      ∧ ty = s.f (F.MLT_M_PORT_TYPE m port) ∧ s.canRun m = true ∧ x.ecc = .clean ∧ port < 256 ∧ p.region.isOpen = false ∧ p.exl = false ∧
      kw.toNat % 2 = 0 ∧ (ty = 2 ∨ ty = 3)) ∧
  (∃ (x : Fetch), ∃ (kw : BitVec 4), ∃ (m : Nat), ∃ (port : Nat), ∃ (ty : Nat), ∃ (s : State), ∃ (p : Mallet), m = x.m.val ∧ p = s.mallet m
      ∧ ty = s.f (F.MLT_M_PORT_TYPE m port) ∧ s.canRun m = true ∧ x.ecc = .clean ∧ port < 256 ∧ p.region.isOpen = false ∧ p.exl = false ∧
      kw.toNat % 2 = 0 ∧ 1 ≤ ty ∧ ty ≤ 10 ∧ ty ≠ 1) ∧
  (∃ (x : Fetch), ∃ (kw : BitVec 4), ∃ (m : Nat), ∃ (port : Nat), ∃ (ty : Nat), ∃ (s : State), ∃ (p : Mallet), m = x.m.val ∧ p = s.mallet m
      ∧ ty = s.f (F.MLT_M_PORT_TYPE m port) ∧ s.canRun m = true ∧ x.ecc = .clean ∧ port < 256 ∧ p.region.isOpen = false ∧ kw.toNat % 2 = 0 ∧
      ty = 1) ∧
  (∃ (x : Fetch), ∃ (kw : BitVec 4), ∃ (m : Nat), ∃ (port : Nat), ∃ (ty : Nat), ∃ (s : State), ∃ (p : Mallet), m = x.m.val ∧ p = s.mallet m
      ∧ ty = s.f (F.MLT_M_PORT_TYPE m port) ∧ s.canRun m = true ∧ x.ecc = .clean ∧ port < 256 ∧ p.region.isOpen = false ∧ kw.toNat % 2 = 0 ∧
      ty = 5) ∧
  (∃ (x : Fetch), ∃ (kw : BitVec 4), ∃ (m : Nat), ∃ (port : Nat), ∃ (ty : Nat), ∃ (s : State), ∃ (p : Mallet), m = x.m.val ∧ p = s.mallet m
      ∧ ty = s.f (F.MLT_M_PORT_TYPE m port) ∧ s.canRun m = true ∧ x.ecc = .clean ∧ port < 256 ∧ p.region.isOpen = false ∧ kw.toNat % 2 = 0 ∧
      ty = 7) ∧
  (∃ (x : Fetch), ∃ (kw : BitVec 4), ∃ (m : Nat), ∃ (port : Nat), ∃ (ty : Nat), ∃ (n : Nat), ∃ (s : State), ∃ (p : Mallet), m = x.m.val ∧ p
      = s.mallet m ∧ ty = s.f (F.MLT_M_PORT_TYPE m port) ∧ n = s.f (F.MLT_M_PORT_TARGET m port) ∧ s.canRun m = true ∧ x.ecc = .clean ∧ port <
      256 ∧ p.region.isOpen = false ∧ kw.toNat % 2 = 0 ∧ ty = 9 ∧ s.f F.INK_DD_CTL_STATION = n) :=
  ⟨⟨.fence ⟨34, .clean⟩, ⟨34, .clean⟩, wMal, by decide +kernel⟩,
   ⟨.fence ⟨35, .uncorrectable⟩, ⟨35, .uncorrectable⟩, wMal, nofun, by decide +kernel⟩,
   ⟨⟨35, .clean⟩, _, 255, wMal, 0x04000000, rfl, by decide +kernel⟩,
   ⟨⟨35, .clean⟩, _, 255, wMal, _, 0xFFFFFFFF, rfl, rfl, by decide +kernel⟩,
   ⟨⟨35, .clean⟩, _, 255, wMalPriv, _, rfl, rfl, by decide +kernel⟩,
   ⟨⟨35, .clean⟩, _, 255, wMal, _, rfl, rfl, by decide +kernel⟩,
   ⟨⟨35, .clean⟩, 4, 4, _, 7, _, _, _, wMalOpen, _, false, .event 252 0x7FFFFFFF, rfl, rfl, rfl, rfl, rfl, by decide +kernel⟩,
   ⟨⟨35, .clean⟩, 4, _, 255, _, wMal, _, rfl, rfl, rfl, by decide +kernel⟩,
   ⟨⟨35, .clean⟩, 4, _, 3, _, wMal, _, rfl, rfl, rfl, by decide +kernel⟩,
   ⟨⟨35, .clean⟩, 4, _, 10, _, wMal, _, rfl, rfl, rfl, by decide +kernel⟩,
   ⟨⟨35, .clean⟩, 4, _, 1, _, wMal, _, rfl, rfl, rfl, by decide +kernel⟩,
   ⟨⟨35, .clean⟩, 4, _, 5, _, wMal, _, rfl, rfl, rfl, by decide +kernel⟩,
   ⟨⟨35, .clean⟩, 4, _, 7, _, wMal, _, rfl, rfl, rfl, by decide +kernel⟩,
   ⟨⟨35, .clean⟩, 4, _, 9, _, _, wMal, _, rfl, rfl, rfl, rfl, by decide +kernel⟩⟩

theorem wit_MalletPortsRegionsAndMessages_2 :
  (∃ (x : Fetch), ∃ (kw : BitVec 4), ∃ (m : Nat), ∃ (port : Nat), ∃ (ty : Nat), ∃ (s : State), ∃ (p : Mallet), m = x.m.val ∧ p = s.mallet m
      ∧ ty = s.f (F.MLT_M_PORT_TYPE m port) ∧ s.canRun m = true ∧ x.ecc = .clean ∧ port < 256 ∧ p.region.isOpen = false ∧ kw.toNat % 2 = 0 ∧
      ty = 10) ∧
  (∃ (x : Fetch), ∃ (m : Nat), ∃ (port : Nat), ∃ (s : State), ∃ (p : Mallet), ∃ (e : BitVec 8), m = x.m.val ∧ p = s.mallet m ∧ s.canRun m =
      true ∧ x.ecc = .clean ∧ port < 256 ∧ p.region.isOpen = false ∧ p.exl = false ∧ e.toNat < 252) ∧
  (∃ (x : Fetch), ∃ (m : Nat), ∃ (port : Nat), ∃ (s : State), ∃ (p : Mallet), m = x.m.val ∧ p = s.mallet m ∧ s.canRun m = true ∧ x.ecc =
      .clean ∧ port < 256 ∧ p.region.isOpen = false ∧ p.exl = false) ∧
  (∃ (x : Fetch), ∃ (m : Nat), ∃ (port : Nat), ∃ (s : State), ∃ (p : Mallet), m = x.m.val ∧ p = s.mallet m ∧ s.canRun m = true ∧ x.ecc =
      .clean ∧ port < 256 ∧ p.region.isOpen = true ∧ p.region.effs = []) ∧
  (∃ (x : Fetch), ∃ (m : Nat), ∃ (port : Nat), ∃ (s : State), ∃ (p : Mallet), m = x.m.val ∧ p = s.mallet m ∧ s.canRun m = true ∧ x.ecc =
      .clean ∧ port < 256 ∧ p.region.isOpen = true ∧ p.region.effs ≠ []) ∧
  (∃ (x : Fetch), ∃ (m : Nat), ∃ (port : Nat), ∃ (s : State), ∃ (p : Mallet), m = x.m.val ∧ p = s.mallet m ∧ s.canRun m = true ∧ x.ecc =
      .clean ∧ port < 256 ∧ p.region.isOpen = true ∧ p.region.effs = []) ∧
  (∃ (x : Fetch), ∃ (ka : BitVec 4), ∃ (m : Nat), ∃ (port : Nat), ∃ (u : State), ∃ (s : State), ∃ (p : Mallet), ∃ (h : Word), ∃ (r : Nat),
      m = x.m.val ∧ p = s.mallet m ∧ u = s.advanceTo p.ready ∧ h = p.kr ka.toNat ∧ r = h.toNat / 2 ^ 16 % 64 ∧ s.canRun m = true ∧ x.ecc =
      .clean ∧ port < 256 ∧ ka.toNat % 4 = 0 ∧ r < 62 ∧ p.region.isOpen = false ∧ (∀ l, p.lastSend = some l → l + 2 ≤ u.time)) ∧
  (∃ (x : Fetch), ∃ (ka : BitVec 4), ∃ (m : Nat), ∃ (port : Nat), ∃ (s : State), ∃ (p : Mallet), m = x.m.val ∧ p = s.mallet m ∧ s.canRun m
      = true ∧ x.ecc = .clean ∧ port < 256 ∧ p.exl = false ∧ p.region.isOpen = false ∧ ka.toNat % 4 ≠ 0) ∧
  (∃ (x : Fetch), ∃ (ka : BitVec 4), ∃ (m : Nat), ∃ (port : Nat), ∃ (s : State), ∃ (p : Mallet), m = x.m.val ∧ p = s.mallet m ∧ s.canRun m
      = true ∧ x.ecc = .clean ∧ port < 256 ∧ ka.toNat % 4 = 0 ∧ p.bounce = [] ∧ p.inq = []) ∧
  (∃ (x : Fetch), ∃ (ka : BitVec 4), ∃ (m : Nat), ∃ (port : Nat), ∃ (s : State), ∃ (p : Mallet), ∃ (q : Msg), ∃ (r : List Msg), m = x.m.val
      ∧ p = s.mallet m ∧ s.canRun m = true ∧ x.ecc = .clean ∧ port < 256 ∧ ka.toNat % 4 = 0 ∧ p.bounce = [] ∧ p.inq = q :: r) ∧
  (∃ (x : Fetch), ∃ (ka : BitVec 4), ∃ (m : Nat), ∃ (port : Nat), ∃ (s : State), ∃ (p : Mallet), ∃ (q : Msg), ∃ (r : List Msg), m = x.m.val
      ∧ p = s.mallet m ∧ s.canRun m = true ∧ x.ecc = .clean ∧ port < 256 ∧ ka.toNat % 4 = 0 ∧ p.bounce = q :: r) :=
  ⟨⟨⟨35, .clean⟩, 4, _, 10, _, wMal, _, rfl, rfl, rfl, by decide +kernel⟩,
   ⟨⟨35, .clean⟩, _, 255, wMal, _, 251, rfl, rfl, by decide +kernel⟩,
   ⟨⟨35, .clean⟩, _, 0, wMal, _, rfl, rfl, by decide +kernel⟩,
   ⟨⟨35, .clean⟩, _, 0, wMalOpen, _, rfl, rfl, by decide +kernel⟩,
   ⟨⟨35, .clean⟩, _, 0, wMalOpenEff, _, rfl, rfl, by decide +kernel⟩,
   ⟨⟨35, .clean⟩, _, 0, wMalOpen, _, rfl, rfl, by decide +kernel⟩,
   ⟨⟨35, .clean⟩, 8, _, 0, _, wMalPriv, _, _, _, rfl, rfl, rfl, rfl, rfl, by decide +kernel⟩,
   ⟨⟨35, .clean⟩, 15, _, 0, wMal, _, rfl, rfl, by decide +kernel⟩,
   ⟨⟨35, .clean⟩, 4, _, 0, wMal, _, rfl, rfl, by decide +kernel⟩,
   ⟨⟨35, .clean⟩, 4, _, 0, wMalIn, _, (((wMalIn : State).mallet ((⟨35, .clean⟩ : Fetch).m.val : Nat) : Mallet).inq).head
      (by decide +kernel), (((wMalIn : State).mallet ((⟨35, .clean⟩ : Fetch).m.val : Nat) : Mallet).inq).tail, rfl, rfl, by decide +kernel⟩,
   ⟨⟨35, .clean⟩, 4, _, 0, wMalFull, _, (((wMalFull : State).mallet ((⟨35, .clean⟩ : Fetch).m.val : Nat) : Mallet).bounce).head
      (by decide +kernel), (((wMalFull : State).mallet ((⟨35, .clean⟩ : Fetch).m.val : Nat) : Mallet).bounce).tail, rfl, rfl,
      by decide +kernel⟩⟩

end Sys2Proof.Tests
end

/-! # The arming of a snare (R58) -/

section
/-!
The two register fields and the three ticks that SNARE_ARM and SNARE_DISARM write, and what they make of the edges a snare takes.
-/
namespace Sys2Proof.Machine

variable (s : State) (n : Nat)

/-- A field that is written reads as set exactly where the value, cut to its width, is not 0. -/
theorem Writes.on_of_mem {L : List (Field × Nat)} {s t : State} (h : Writes L s t) {x : Field} {v : Nat} (hx : (x, v) ∈ L) :
    t.on x = decide (v % 2 ^ x.width ≠ 0) := by
  obtain ⟨-, hval, -⟩ := h
  unfold State.on
  rw [hval _ hx]

/-- The register file and the snare table are written apart from each other. -/
theorem Writes.setFs_snare (L : List (Field × Nat)) (hn : (L.map fun p => p.1.key).Nodup) (u : Tbl Nat) :
    Writes L { s with snare := u } { s.setFs L with snare := u } :=
  Writes.put hn (by rw [State.setFs_put])

theorem snareArmFields_nodup (v w : Nat) :
    ([(F.SN_CTL_ARM n, v), (F.SN_STATUS_ARMED n, w)].map fun p => p.1.key).Nodup := by
  have hkey : (F.SN_CTL_ARM n).key ≠ (F.SN_STATUS_ARMED n).key := by
    simp only [Field.key, F.SN_CTL_ARM, F.SN_STATUS_ARMED]
    omega
  simp [hkey]

/-! ## SNARE_ARM -/

theorem State.armSnare_snare : (s.armSnare n).snare = tput 0 (tput 0 s.snare n (s.time + 1)) (64 + n) 0 := by
  simp [State.armSnare]

theorem State.armSnare_writes :
    Writes [(F.SN_CTL_ARM n, 1), (F.SN_STATUS_ARMED n, 1)] { s with snare := (s.armSnare n).snare } (s.armSnare n) :=
  Writes.setFs_snare s _ (snareArmFields_nodup n 1 1) _

theorem State.armSnare_armed : (s.armSnare n).on (F.SN_STATUS_ARMED n) = true :=
  (s.armSnare_writes n).on_of_mem (.tail _ (.head _))

/-- SNARE_ARM writes the snare's first armed tick and forgets that it has captured. -/
theorem State.armSnare_snare_ne {k : Nat} (h1 : k ≠ n) (h2 : k ≠ 64 + n) :
    tget 0 (s.armSnare n).snare k = tget 0 s.snare k := by
  rw [State.armSnare_snare, tget_tput_ne _ _ _ _ h2.symm, tget_tput_ne _ _ _ _ h1.symm]

theorem State.armSnare_armedFrom : tget 0 (s.armSnare n).snare n = s.time + 1 := by
  rw [State.armSnare_snare, tget_tput_ne _ _ _ _ (by omega), tget_tput_same]

/-- R58: arming takes effect from the next tick on. -/
theorem State.armSnare_takes (t : Nat) : (s.armSnare n).snareTakes n t = decide (s.time < t) := by
  rw [State.snareTakes, s.armSnare_armed, s.armSnare_armedFrom, Bool.true_or, Bool.and_true]
  exact decide_eq_decide.mpr Nat.succ_le_iff

theorem exec_snareArm (n : Fin 32) : exec (.snareArm n) s = .next (s.armSnare n.val) := rfl

/-! ## SNARE_DISARM of an armed snare -/

section
variable {s n} (harmed : s.on (F.SN_STATUS_ARMED n) = true)
include harmed

theorem State.disarmSnare_of_armed : s.disarmSnare n =
    { s.setFs [(F.SN_CTL_ARM n, 0), (F.SN_STATUS_ARMED n, 0)] with snare := tput 0 s.snare (32 + n) (s.time + 1) } := by
  simp [State.disarmSnare, harmed]

theorem State.disarmSnare_snare : (s.disarmSnare n).snare = tput 0 s.snare (32 + n) (s.time + 1) := by
  rw [State.disarmSnare_of_armed harmed]

theorem State.disarmSnare_writes :
    Writes [(F.SN_CTL_ARM n, 0), (F.SN_STATUS_ARMED n, 0)] { s with snare := (s.disarmSnare n).snare } (s.disarmSnare n) := by
  rw [State.disarmSnare_of_armed harmed]
  exact Writes.setFs_snare s _ (snareArmFields_nodup n 0 0) _

theorem State.disarmSnare_not_armed : (s.disarmSnare n).on (F.SN_STATUS_ARMED n) = false :=
  (State.disarmSnare_writes harmed).on_of_mem (.tail _ (.head _))

/-- SNARE_DISARM writes the first tick whose edges the snare leaves. -/
theorem State.disarmSnare_snare_ne {k : Nat} (hk : k ≠ 32 + n) : tget 0 (s.disarmSnare n).snare k = tget 0 s.snare k := by
  rw [State.disarmSnare_snare harmed, tget_tput_ne _ _ _ _ hk.symm]

/-- R58 and log entry 19: a disarmed snare takes the edges from its arming on up to the tick of the disarm, and no later one. -/
theorem State.disarmSnare_takes (t : Nat) :
    (s.disarmSnare n).snareTakes n t = (decide (tget 0 s.snare n ≤ t) && decide (t ≤ s.time)) := by
  rw [State.snareTakes, State.disarmSnare_not_armed harmed, State.disarmSnare_snare_ne harmed (by omega),
    State.disarmSnare_snare harmed, tget_tput_same, Bool.false_or, decide_eq_decide.mpr Nat.lt_succ_iff]

end

theorem exec_snareDisarm (n : Fin 32) : exec (.snareDisarm n) s = .next (s.disarmSnare n.val) := rfl

/-- Settles O13, from what SNARE_ARM and SNARE_DISARM write and the edges that a snare then takes. -/
theorem snareArming : Obligations.SnareArming := by
  refine ⟨fun n s => ?arm, fun n s harmed => ?disarm⟩
  case arm =>
    exact ⟨s.armSnare n, s.armSnare_writes n, fun k => s.armSnare_snare_ne n, s.armSnare_takes n, exec_snareArm s n⟩
  case disarm =>
    refine ⟨s.disarmSnare n, State.disarmSnare_writes harmed, fun k => State.disarmSnare_snare_ne harmed,
      fun t hfrom hto => ?_, fun t hafter => ?_, exec_snareDisarm s n⟩
    · simp [State.disarmSnare_takes harmed, hfrom, hto]
    · simp [State.disarmSnare_takes harmed, hafter]

end Sys2Proof.Machine
end

/-! # The offset registers of the stations (R76) -/

section
/-!
Where the two halves of WEB_STn_OFS stand in the register map, what a window does with a write to one of them, and the writes that a window
drops.
-/
namespace Sys2Proof.Machine

variable (s : State)

/-! ## One field written, one count -/

theorem Writes.setF (x : Field) (v : Nat) : Writes [(x, v)] s (s.setF x v) := Writes.setFs s [(x, v)] (List.pairwise_singleton _ _)

/-- R390: a count in a FLAM counter writes the counter, saturating at its width. -/
theorem Writes.addF (x : Field) (n : Nat) : Writes [(x, min (s.f x + n) (2 ^ x.width - 1))] s (s.addF x n) := Writes.setF s x _

/-- A register field keeps of a value what its width holds, so the cut that the bus makes before does not show. -/
theorem State.setF_fieldOf {x : Field} (hlo : x.lo = 0) (v : Nat) : s.setF x (fieldOf x v) = s.setF x v := by
  simp [State.setF, fieldOf, hlo]

/-! ## The plain write of a register with one field -/

section
variable {s} {r : Reg} {x : Field} (hfields : r.1.fields r.2.1 r.2.2 = [(x, .rw)])
include hfields

theorem State.put_of_one_rw (hlo : x.lo = 0) (v : Nat) : s.put r v [] = s.setF x v := by
  rw [State.put, hfields]
  exact State.setF_fieldOf s hlo v

/-- R8: only a W1C bit can lose its clear, so a register without one is written by its block's rules alone. -/
theorem State.writeReg_of_one_rw {off : Nat} (hreg : regAt off = some r) (who : Reader) (v met : Nat) :
    s.writeReg who off v met = s.writeBlock who r off v met := by
  have hflags : s.flagsSet (r.1.fields r.2.1 r.2.2) = 0 := by rw [hfields]; rfl
  simp [State.writeReg, hreg, hflags]

end

/-! ## Which writes a window takes (R30, R31) -/

section
variable {s} {who : Reader}

theorem State.awake_of_reaches {off : Nat} (hreach : s.reaches who off = true) : ¬(who = .host ∧ s.d3hot = true) := by
  rintro ⟨rfl, hcold⟩
  simp [State.reaches, State.hostReaches, hcold] at hreach

theorem State.busWrite_d3hot (hcold : s.d3hot = true) (bar : Bar) (off len : Nat) (v met : Word) :
    s.busWrite .host bar off len v met = s := by
  simp [State.busWrite, hcold]

theorem State.busWrite_misaligned (hawake : ¬(who = .host ∧ s.d3hot = true)) {off len : Nat} (hbad : off % 4 ≠ 0 ∨ len ≠ 4)
    (bar : Bar) (v met : Word) : s.busWrite who bar off len v met = s.flam F.GCTL_FLAM_COUNT 1 :=
  (if_neg hawake).trans (if_pos hbad)

/-- R31: an aligned word below the mallet memories, written by a reader that reaches it, is a write of the register there. -/
theorem State.busWrite_register {off : Nat} (hreach : s.reaches who off = true) (halign : off % 4 = 0) (hlow : off < 0x1000000)
    (v met : Word) : s.busWrite who .bar0 off 4 v met = s.writeReg who off v.toNat met.toNat := by
  simp [State.busWrite, State.awake_of_reaches hreach, halign, hreach, Nat.not_le.mpr hlow]

end

/-! ## The offset registers -/

/-- A register that is a half of an offset is taken while its station is not armed and counted in WEB_FLAM while it is. -/
theorem State.writeWeb_offset {r : Reg} (hbase : r.1.base = 0x30108 ∨ r.1.base = 0x3010C) (v : Nat) :
    s.writeWeb r v = s.putIf r v (!s.armed r.2.1) F.WEB_FLAM_COUNT := by
  rcases hbase with h | h <;> simp [State.writeWeb, h]

/-- The field is one half of WEB_STn_OFS. -/
def IsOffsetHalf (n : Fin 8) (x : Field) : Prop := x = F.WEB_ST_OFS_LO n.val ∨ x = F.WEB_ST_OFS_HI n.val

/-- The register map, looked up at the offset of each of the eight stations. -/
theorem regAt_offset : ∀ n : Fin 8, regAt (F.WEB_ST_OFS_LO n.val).off = some (D.WEB_ST_OFS_LO, n.val, 0) ∧
    regAt (F.WEB_ST_OFS_HI n.val).off = some (D.WEB_ST_OFS_HI, n.val, 0)
  | 0 | 1 | 2 | 3 | 4 | 5 | 6 | 7 => ⟨rfl, rfl⟩

section
variable {s} {n : Fin 8} {x : Field} (hx : IsOffsetHalf n x)
include hx

theorem IsOffsetHalf.lo_eq : x.lo = 0 := by
  rcases hx with rfl | rfl <;> rfl

/-- Both halves are aligned words of the WEB block. -/
theorem IsOffsetHalf.off_place : x.off % 4 = 0 ∧ x.off / 0x10000 = 3 := by
  rcases hx with rfl | rfl
  · simp only [F.WEB_ST_OFS_LO]; omega
  · simp only [F.WEB_ST_OFS_HI]; omega

theorem IsOffsetHalf.reg : ∃ d : RegDef, regAt x.off = some (d, n.val, 0) ∧ d.fields n.val 0 = [(x, .rw)] ∧
    (d.base = 0x30108 ∨ d.base = 0x3010C) := by
  rcases hx with rfl | rfl
  · exact ⟨D.WEB_ST_OFS_LO, (regAt_offset n).1, rfl, .inl rfl⟩
  · exact ⟨D.WEB_ST_OFS_HI, (regAt_offset n).2, rfl, .inr rfl⟩

theorem State.writeReg_offset (who : Reader) (v met : Nat) :
    s.writeReg who x.off v met = if s.armed n.val then s.flam F.WEB_FLAM_COUNT 1 else s.setF x v := by
  obtain ⟨d, hreg, hfields, hbase⟩ := hx.reg
  obtain ⟨-, hblock⟩ := hx.off_place
  calc s.writeReg who x.off v met
    _ = s.writeBlock who (d, n.val, 0) x.off v met := State.writeReg_of_one_rw hfields hreg who v met
    _ = s.writeWeb (d, n.val, 0) v := by simp only [State.writeBlock, hblock]
    _ = s.putIf (d, n.val, 0) v (!s.armed n.val) F.WEB_FLAM_COUNT := s.writeWeb_offset hbase v
    _ = if s.armed n.val then s.flam F.WEB_FLAM_COUNT 1 else s.setF x v := by
      rw [State.putIf, State.put_of_one_rw hfields hx.lo_eq]
      cases s.armed n.val <;> rfl

/-- R76: through the window a write of a half of the offset is taken, or, while the station is armed, counted. -/
theorem exec_registerWrite_offset {who : Reader} {off : BitVec 26} (hoff : off.toNat = x.off) (hreach : s.reaches who x.off = true)
    (v met : BitVec 32) : exec (.registerWrite who .bar0 off 4 v met) s =
      .next (if s.armed n.val then s.flam F.WEB_FLAM_COUNT 1 else s.setF x v.toNat) := by
  obtain ⟨halign, hblock⟩ := hx.off_place
  have hbus := State.busWrite_register hreach halign (by omega) v met
  rw [State.writeReg_offset hx, ← hoff] at hbus
  exact congrArg Host.Outcome.next hbus

end

theorem exec_registerWrite_misaligned {who : Reader} (hawake : ¬(who = .host ∧ s.d3hot = true)) {a : BitVec 26} {len : BitVec 13}
    (hbad : a.toNat % 4 ≠ 0 ∨ len ≠ 4) (bar : Bar) (v met : BitVec 32) :
    exec (.registerWrite who bar a len v met) s = .next (s.flam F.GCTL_FLAM_COUNT 1) := by
  have hlen : a.toNat % 4 ≠ 0 ∨ len.toNat ≠ 4 := hbad.imp_right fun h e => h (BitVec.eq_of_toNat_eq e)
  exact congrArg Host.Outcome.next (State.busWrite_misaligned hawake hlen bar v met)

/-- Settles O56, from the place of the offset registers in the map and what a window takes of a write. -/
theorem offsetWrittenWhileUnarmed : Obligations.OffsetWrittenWhileUnarmed := by
  refine ⟨fun who n x off v met s hx hoff hreach => ⟨fun hunarmed => ?taken, fun harmed => ?counted, fun bar a len hbad => ?misaligned⟩,
    fun bar a len v met s hcold => ?cold⟩
  case taken =>
    exact ⟨s.setF x v.toNat, (exec_registerWrite_offset hx hoff hreach v met).trans (by simp [hunarmed]), Writes.setF s x v.toNat⟩
  case counted =>
    exact ⟨s.addF F.WEB_FLAM_COUNT 1, (exec_registerWrite_offset hx hoff hreach v met).trans (by simp [harmed, State.flam]),
      Writes.addF s _ 1⟩
  case misaligned =>
    exact ⟨s.addF F.GCTL_FLAM_COUNT 1, exec_registerWrite_misaligned s (State.awake_of_reaches hreach) hbad bar v met, Writes.addF s _ 1⟩
  case cold => exact congrArg Host.Outcome.next (State.busWrite_d3hot hcold bar a.toNat len.toNat v met)

end Sys2Proof.Machine
end

/-! # The two words of a counter (R440) -/

section
/-!
What a reader's shadow holds after a latch, the read of CNTi_HI through either window, and the counter that a write of CNTi_LO leaves.
-/
namespace Sys2Proof.Machine

variable (s : State)

/-! ## A reader's shadow (R54) -/

theorem State.shadowOf_latch_same (reader off w : Nat) : (s.latch reader off w).shadowOf reader off = w % 2 ^ 32 :=
  tget_tput_same ..

/-- Each reader has a shadow of its own for every offset of BAR0. -/
theorem State.shadowOf_latch_ne {reader reader' off off' : Nat} (w : Nat) (hoff : off < 2 ^ 26) (hoff' : off' < 2 ^ 26)
    (h : reader' ≠ reader ∨ off' ≠ off) : (s.latch reader off w).shadowOf reader' off' = s.shadowOf reader' off' :=
  tget_tput_ne _ _ _ _ (by omega)

/-! ## The place of CNTi_HI (R31, R32) -/

/-- Of a block's families the first that answers to an offset gives the register there. -/
theorem regAtIn_of_first {off i j : Nat} {d : RegDef} {l r : List RegDef} (hd : d.index? off = some (i, j))
    (hl : ∀ e ∈ l, e.index? off = none) : regAtIn off (l ++ d :: r) = some (d, i, j) := by
  induction l with
  | nil => simp [regAtIn, hd]
  | cons e l ih =>
    obtain ⟨he, hl⟩ := List.forall_mem_cons.mp hl
    simp [regAtIn, he, ih hl]

/-- The families of the CNT block that stand before CNTi_HI in the map. -/
def familiesBeforeCntHi : List RegDef :=
  [D.CNT_CTL, D.CNT_OVF_LO, D.CNT_OVF_HI, D.CNT_SNAP_TIME_LO, D.CNT_SNAP_TIME_HI, D.CNT_FLAM, D.CNT_CFG, D.CNT_LO]

theorem blockOf_cntHi (i : Fin 56) : D.blockOf (F.CNT_HI i.val).off = familiesBeforeCntHi ++ D.CNT_HI ::
    [D.CNT_THRESH, D.CNT_RELOAD_LO, D.CNT_RELOAD_HI, D.CNT_SNAP_LO, D.CNT_SNAP_HI, D.CNT_STIME_LO, D.CNT_STIME_HI] := by
  have hblock : (F.CNT_HI i.val).off / 0x10000 = 0x12 := by simp only [F.CNT_HI]; omega
  simp only [D.blockOf, hblock]
  rfl

/-- The counters' register blocks, each looked up at its CNTi_HI. -/
theorem index_cntHi : ∀ i : Fin 56, D.CNT_HI.index? (F.CNT_HI i.val).off = some (i.val, 0) ∧
    ∀ e ∈ familiesBeforeCntHi, e.index? (F.CNT_HI i.val).off = none := by
  decide

theorem regAt_cntHi (i : Fin 56) : regAt (F.CNT_HI i.val).off = some (D.CNT_HI, i.val, 0) := by
  obtain ⟨hhere, hbefore⟩ := index_cntHi i
  rw [regAt, blockOf_cntHi]
  exact regAtIn_of_first hhere hbefore

theorem bar4Reg_cntHi (i : Fin 56) : bar4Reg (0x1004 + i.val * 8) = some (F.CNT_HI i.val).off := by
  have hplace : 0x120100 + (0x1004 + i.val * 8 - 0x1000) / 8 * 0x40 + 8 = (F.CNT_HI i.val).off := by simp only [F.CNT_HI]; omega
  rw [bar4Reg, if_pos (by omega), if_neg (by omega), hplace]

/-! ## A read of CNTi_HI -/

/-- R440: a read of CNTi_HI shows its reader's shadow and leaves the block as it was. -/
theorem State.readReg_cntHi (reader : Nat) (i : Fin 56) :
    s.readReg reader (F.CNT_HI i.val).off = (s.shadowOf reader (F.CNT_HI i.val).off, s) := by
  rw [State.readReg, regAt_cntHi]
  rfl

theorem State.busRead_bar0_cntHi {who : Reader} {i : Fin 56} (hreach : s.reaches who (F.CNT_HI i.val).off = true) :
    s.busRead who .bar0 (F.CNT_HI i.val).off 4 = s.reply (s.shadowOf who.id (F.CNT_HI i.val).off) := by
  have hawake : ¬(s.d3hot = true ∧ who = .host) := fun h => State.awake_of_reaches hreach h.symm
  have halign : (F.CNT_HI i.val).off % 4 = 0 := by simp only [F.CNT_HI]; omega
  have hlow : ¬0x1000000 ≤ (F.CNT_HI i.val).off := by simp only [F.CNT_HI]; omega
  simp [State.busRead, hawake, halign, hreach, State.readBar0, hlow, State.readReg_cntHi]

theorem State.busRead_bar4_cntHi (hcold : s.d3hot = false) (hopen : s.on F.GCTL_USERPAGE_CNT_EN = true) (who : Reader) (i : Fin 56) :
    s.busRead who .bar4 (0x1004 + i.val * 8) 4 = s.reply (s.shadowOf who.id (F.CNT_HI i.val).off) := by
  have halign : (0x1004 + i.val * 8) % 4 = 0 := by omega
  simp [State.busRead, hcold, halign, State.readBar4, hopen, bar4Reg_cntHi, State.readReg_cntHi]

/-! ## COUNTER_READ -/

theorem exec_counterRead (who : Reader) {bar : Bar} (hopen : bar = .bar0 ∨ s.on F.GCTL_USERPAGE_CNT_EN = true) (i : Fin 56) :
    exec (.counterRead who bar i) s = .next ((s.readCounter who.id i.val).reply (lo32 (s.counter i.val))) := by
  have hshown : ¬(bar = .bar4 ∧ s.on F.GCTL_USERPAGE_CNT_EN = false) := by
    rintro ⟨rfl, hclosed⟩
    simp [hclosed] at hopen
  exact if_neg hshown

/-- Bits 47:32 of a counter fit the word that is latched. -/
theorem State.counter_high_lt (i : Nat) : s.counter i / 2 ^ 32 < 2 ^ 32 := by
  have : s.counter i < 2 ^ 48 := Nat.mod_lt _ (by decide)
  omega

theorem State.readCounter_shadowOf_same (reader i : Nat) :
    (s.readCounter reader i).shadowOf reader (F.CNT_HI i).off = s.counter i / 2 ^ 32 :=
  (s.shadowOf_latch_same ..).trans (Nat.mod_eq_of_lt (s.counter_high_lt i))

theorem State.readCounter_shadowOf_ne {reader reader' off : Nat} (i : Fin 56) (hoff : off < 2 ^ 26)
    (h : reader' ≠ reader ∨ off ≠ (F.CNT_HI i.val).off) :
    (s.readCounter reader i.val).shadowOf reader' off = s.shadowOf reader' off :=
  s.shadowOf_latch_ne _ (by simp only [F.CNT_HI]; omega) hoff h

/-! ## CNT_HI_WRITE and CNT_LO_WRITE -/

theorem Quiet.time {s t : State} (h : Quiet s t) : t.time = s.time := congrArg (·.time) h.1

theorem Quiet.cntStage {s t : State} (h : Quiet s t) : t.cntStage = s.cntStage := congrArg (·.cntStage) h.1

/-- Both words of OVF are registers of the CNT block. -/
theorem loud_cntOvf (i : Nat) : loudField (if i < 32 then F.CNT_OVF_LO else F.CNT_OVF_HI) = true := by
  split <;> decide

theorem State.overflow_quiet (i : Nat) : Quiet s (s.overflow i) := by
  have hset : Quiet s (s.setBitF (if i < 32 then F.CNT_OVF_LO else F.CNT_OVF_HI) (i % 32) true) :=
    (Quiet.refl s).setF _ _ (loud_cntOvf i)
  exact Quiet.ite hset (State.raise_quiet hset _ _ (by decide))

/-- The state in which a write of CNTi_LO sets the counter: a wrap of the same tick has set OVF (R442). -/
def State.wrapNoted (i : Nat) : State := if 2 ^ 48 ≤ (s.ctr i).value then s.overflow i else s

theorem State.wrapNoted_quiet (i : Nat) : Quiet s (s.wrapNoted i) := Quiet.ite (s.overflow_quiet i) (Quiet.refl s)

/-- A write of CNTi_LO sets nothing but counters once a wrap of its tick has been noted. -/
theorem State.writeCounter_wrapNoted (i v : Nat) :
    s.writeCounter i v = { s.wrapNoted i with count := (s.writeCounter i v).count } := rfl

theorem State.writeCounter_time (i v : Nat) : (s.writeCounter i v).time = s.time := by
  rw [State.writeCounter_wrapNoted]
  exact (s.wrapNoted_quiet i).time

/-- R440: all 48 bits come from the staging register and the written word, and the tick of the write is kept. -/
theorem State.writeCounter_ctr (i v : Nat) : (s.writeCounter i v).ctr i = { (s.wrapNoted i).ctr i with
    value := 2 ^ 32 * tget 0 s.cntStage i + v % 2 ^ 32, wroteAt := s.time + 1, was := ((s.writeCounter i v).ctr i).was } := by
  have hput : (s.writeCounter i v).ctr i = { (s.wrapNoted i).ctr i with
      value := 2 ^ 32 * tget 0 (s.wrapNoted i).cntStage i + v % 2 ^ 32, wroteAt := (s.wrapNoted i).time + 1
      was := if ((s.wrapNoted i).ctr i).wroteAt = (s.wrapNoted i).time + 1 then ((s.wrapNoted i).ctr i).was
        else ((s.wrapNoted i).ctr i).value % 2 ^ 48 } := tget_tput_same ..
  rw [hput, (s.wrapNoted_quiet i).cntStage, (s.wrapNoted_quiet i).time]

theorem State.writeCounter_value (i v : Nat) : ((s.writeCounter i v).ctr i).value = 2 ^ 32 * tget 0 s.cntStage i + v % 2 ^ 32 :=
  congrArg Counter.value (s.writeCounter_ctr i v)

theorem State.writeCounter_wroteAt (i v : Nat) : ((s.writeCounter i v).ctr i).wroteAt = s.time + 1 :=
  congrArg Counter.wroteAt (s.writeCounter_ctr i v)

/-- R442: an increment of the tick in which the counter has been written does not change its value. -/
theorem Counter.gain_value_of_written {c : Counter} {now : Nat} (h : c.wroteAt = now + 1) (n : Nat) : (c.gain now n).value = c.value := by
  simp [Counter.gain, h]

theorem exec_cntHiWrite (i : Fin 56) (v : BitVec 32) : exec (.cntHiWrite .bar0 i v) s = .next (s.stageHigh i.val v.toNat) := rfl

theorem exec_cntLoWrite (i : Fin 56) (v : BitVec 32) : exec (.cntLoWrite .bar0 i v) s = .next (s.writeCounter i.val v.toNat) := rfl

theorem State.stageHigh_cntStage_same (i v : Nat) : tget 0 (s.stageHigh i v).cntStage i = v % 2 ^ 16 := tget_tput_same ..

/-- The high word staged before makes, with the written low word, the counter's new value. -/
theorem State.writeCounter_counter {i hi : Nat} (hstage : tget 0 s.cntStage i = hi % 2 ^ 16) (lo : BitVec 32) :
    (s.writeCounter i lo.toNat).counter i = 2 ^ 32 * (hi % 2 ^ 16) + lo.toNat := by
  have hlo : lo.toNat < 2 ^ 32 := lo.isLt
  rw [State.counter, State.writeCounter_value, hstage]
  omega

/-- Settles O51, from the shadow that COUNTER_READ latches, the windows that show it, and the counter that a write of CNTi_LO leaves. -/
theorem counterWindows : Obligations.CounterWindows := by
  refine ⟨fun who bar i s hopen => ?read, fun i hi lo s => ?write⟩
  case read =>
    refine ⟨(s.readCounter who.id i.val).reply (lo32 (s.counter i.val)), exec_counterRead s who hopen i, rfl,
      fun who' off hoff hother => s.readCounter_shadowOf_ne i hoff hother, fun w hw => ?_⟩
    have hshadow : w.shadowOf who.id (F.CNT_HI i.val).off = s.counter i.val / 2 ^ 32 :=
      hw.trans (s.readCounter_shadowOf_same who.id i.val)
    refine ⟨fun hreach => ?bar0, fun hcold hshown => ?bar4⟩
    case bar0 => rw [w.busRead_bar0_cntHi hreach, hshadow]; rfl
    case bar4 => rw [w.busRead_bar4_cntHi hcold hshown, hshadow]; rfl
  case write =>
    refine ⟨s.stageHigh i.val hi.toNat, exec_cntHiWrite s i hi, rfl, fun w hw => ?_⟩
    have hstage : tget 0 w.cntStage i.val = hi.toNat % 2 ^ 16 := hw.trans (s.stageHigh_cntStage_same i.val hi.toNat)
    refine ⟨w.writeCounter i.val lo.toNat, exec_cntLoWrite w i lo, w.writeCounter_time i.val lo.toNat,
      w.writeCounter_counter hstage lo, fun k n hk => ?_⟩
    subst hk
    refine Counter.gain_value_of_written ?_ n
    rw [State.writeCounter_wroteAt, State.writeCounter_time]

end Sys2Proof.Machine
end
